-- ==== Sys2Proof/Word.lean ====
section
/-!
DEFINITION. Word.lean: the word types of the block and their plainest arithmetic (R3, R8: little-endian).
-/
namespace Sys2Proof

/-- A byte of memory. -/
abbrev Byte := BitVec 8

/-- A 32-bit register word (R3). -/
abbrev Word := BitVec 32

/-- A general register of an engine (R55). -/
abbrev DWord := BitVec 64

end Sys2Proof
end

