-- ==== Sys2Proof/Syntax.lean ====
section
/-!
DEFINITION. Syntax.lean: the commands the block takes, one constructor of `Instr` for each row of spec/opcode_table.json, with the
operands that the row's rule gives it. A command stands for one whole step of the part: an access by a requester, an event at
a pin or from a unit outside, the expiry of a time that the part measures, or the issue of one VCS instruction by an engine.
-/
namespace Sys2Proof

/-- The requesters of Table 1-9 (R23). -/
inductive Requester where
  | channelH | channelP | metering | twinService | ferryman
  | ce (n : Fin 8)
  | testAccess
deriving DecidableEq, Repr

/-- The identifier of a requester (Table 1-9). -/
def Requester.id : Requester → Nat
  | .channelH => 0x01
  | .channelP => 0x02
  | .metering => 0x03
  | .twinService => 0x04
  | .ferryman => 0x05
  | .ce n => 0x10 + n.val
  | .testAccess => 0x20

/-- The rank of a requester (Table 1-9): a lower number is a higher rank. -/
def Requester.rank : Requester → Nat
  | .channelH => 0
  | .channelP => 1
  | .metering => 2
  | .twinService => 3
  | .ferryman => 4
  | .ce _ => 5
  | .testAccess => 6

/-- The claimable resources of Table 1-12 (R29), by the block that holds their claim registers. -/
inductive Resource where
  | leg | cellLink | filter | comparator | analogInput | converter | pulseInput | safetyInput
  | ethQueue | capture | counter | gangway
deriving DecidableEq, Repr

/-- How many resources of a kind there are (Table 1-12). -/
def Resource.count : Resource → Nat
  | .leg => 24
  | .cellLink => 32
  | .filter => 48
  | .comparator => 32
  | .analogInput => 64
  | .converter => 4
  | .pulseInput => 16
  | .safetyInput => 16
  | .ethQueue => 32
  | .capture => 16
  | .counter => 64
  | .gangway => 10

/-- The engines that issue VCS instructions (R102): a control engine, the lockstep safety pair, Ferryman. -/
inductive Eng where
  | ce (n : Fin 8)
  | se
  | ferryman
deriving DecidableEq, Repr

/-- What every VCS instruction word carries beside its operands (R64): the engine that issues it, its predicate register
PR, the complement bit PN, and the word itself (a trap records it, Table 4-4). -/
structure Issue where
  eng  : Eng
  pr   : Fin 8
  pn   : Bool
  word : BitVec 32
deriving DecidableEq, Repr

/-- The conditions of cmp and cmpi (R74). -/
inductive Cond where
  | eq | ne | lt | ge | ltu | geu
deriving DecidableEq, Repr

/-- The two inter-die links of Table 1-2 that carry retried transfers. -/
inductive DieLink where
  | cs | sp
deriving DecidableEq, Repr

/-- Why a control-domain reset is requested (Table 21-1). -/
inductive CdCause where
  | csLink | hold | supply | benchEnd | depose | twinResync
deriving DecidableEq, Repr

/-- Why a supervisor-fabric reset is requested (Table 21-1). -/
inductive SfCause where
  | brownOut | resetPin
deriving DecidableEq, Repr

/-- Why a power-domain reset is requested (Table 21-1). -/
inductive PdCause where
  | powerOn | brownOut | resetPin | supply
deriving DecidableEq, Repr

/-- What a JESD251 command written to FM.XSCMD does to the flash (R413; the operation codes are JESD251's own). -/
inductive FlashOp where
  /-- No change of the array (reads, status, mode changes). -/
  | other
  /-- Programs bytes from a flash offset; `data`: what the bytes hold after it. -/
  | program (off : Nat) (data : List (BitVec 8))
  /-- Erases `len` bytes from a flash offset. -/
  | erase (off len : Nat)
deriving DecidableEq, Repr

/-- The boundary-scan instructions (R467). -/
inductive JtagOp where
  | bypass | idcode | sample | extest | clamp | highz | extestPulse | extestTrain
deriving DecidableEq, Repr

/-- The balls with a receiver of each safety channel (R309). -/
inductive SafetyBall where
  | si (n : Fin 16)
  | fbk (n : Fin 8)
  | srst
deriving DecidableEq, Repr

/-- A required feedback that is not fresh beyond the hold limit (Table 7-7, R187). -/
inductive FeedbackLoss where
  | phaseCurrent
  | phaseCurrents
  | dcLink
  | gridVoltage
  | permit
  /-- A temperature input or the hottest cell temperature. -/
  | temperature
  | cells
deriving DecidableEq, Repr

/-- A transition of the synchronisation loop to or from Locked (Table 8-3). -/
inductive SyncEvent where
  /-- The conditions of the first row have held for sy.lockt. -/
  | lock
  /-- V1 below sy.vmin, or a voltage item lost. -/
  | lost
  /-- V1 at or above sy.vmin + 0.05 and every voltage item fresh. -/
  | regained
deriving DecidableEq, Repr

/-- What the payload of a safety configuration image holds (R307, R417): words of configuration registers by address, the comparators reserved
with their ranks (0 or 1), the bytes of the SE parameter block, the further reservations with their ranks. -/
structure ScfgImage where
  words : List (BitVec 40 × BitVec 32)
  comparators : List (Fin 32 × Nat)
  seBlock : List (Nat × BitVec 8)
  claims : List (Resource × Nat × Nat)
deriving DecidableEq, Repr

/-- A store that a STORE message carries (R349): its tide count, the control engine, the data-SRAM address and the 8 bytes. -/
structure TwinStore where
  tide   : Nat
  engine : Fin 8
  addr   : Nat
  data   : BitVec 64
deriving DecidableEq, Repr

/-- The shipped control tasks (Table 7-1). -/
inductive Role where
  | current
  | modulation
  | dcLink
  | competition
  | cells
  | sync
  | supervision
  | detectors
  | thermal
  | support
deriving DecidableEq, Repr

/-- An activation of a shipped task (R165, Table 7-1). -/
inductive Activation where
  /-- A control task, by the TASKID that it has in the active timetable. -/
  | task (role : Role) (id : Fin 512)
  /-- The safety program's grid window (R315), by the TASKID of its task. -/
  | safetyGrid (id : Fin 512)
  /-- Field tracking, on the whole field (R238). -/
  | fieldTracking
deriving DecidableEq, Repr

/-- The commands. -/
inductive Instr where
  /-- REGISTER_WRITE (R5). -/
  | registerWrite (req : Requester) (addr : BitVec 40) (size : Nat) (value : BitVec 32)
  /-- CLAIM (R22). -/
  | claim (reqs : List Requester) (res : Resource) (n : Nat)
  /-- RELEASE (R26). -/
  | release (req : Requester) (res : Resource) (n : Nat)
  /-- CLAIMS_OPEN (R24). -/
  | claimsOpen
  /-- CS_LINK_RETRANSMIT (R13). -/
  | csLinkRetransmit (link : DieLink) (first : Bool)
  /-- CS_LINK_FAILURE (R13). -/
  | csLinkFailure
  /-- SP_LINK_FAILURE (R13). -/
  | spLinkFailure
  /-- CONTROL_DOMAIN_RESET (R16). -/
  | controlDomainReset (cause : CdCause)
  /-- SELF_REFRESH_TIMEOUT (R16). -/
  | selfRefreshTimeout
  /-- SUPERVISOR_FABRIC_RESET (R17). -/
  | supervisorFabricReset (cause : SfCause) (vin : Bool)
  /-- POWER_DOMAIN_RESET (R14). -/
  | powerDomainReset (cause : PdCause)
  /-- FERRYMAN_DOMAIN_RESET (R14). -/
  | ferrymanDomainReset
  /-- TIDE_EDGE (R32). -/
  | tideEdge (lateF : BitVec 48) (lateA : BitVec 64) (held : Bool)
  /-- LANDING_PHASE_CLOSE (R19). -/
  | landingPhaseClose
  /-- OUTPUT_TAKE_EFFECT (R34). -/
  | outputTakeEffect
  /-- TASK_DISPATCH (R37). -/
  | taskDispatch (e : Fin 9)
  /-- TTB_LOAD (R41). -/
  | ttbLoad (req : Requester)
  /-- ADMISSION_END (R41). -/
  | admissionEnd (twinHas : Bool)
  /-- TTB_CANCEL (R43). -/
  | ttbCancel (req : Requester)
  /-- TIMETABLE_ACTIVATION (R42). -/
  | timetableActivation
  /-- TTB_CLEAR_TASK (R54). -/
  | ttbClearTask (req : Requester) (task : Fin 512)
  /-- SEGMENT_OVERRUN (R48). -/
  | segmentOverrun (e : Fin 9)
  /-- TIDE_ALARM (R51). -/
  | tideAlarm
  /-- TIDE_ALARM_SET (R52). -/
  | tideAlarmSet (req : Requester) (high : Bool) (value : BitVec 32)
  /-- TIDE_COUNT_READ (R51). -/
  | tideCountRead (req : Requester)
  /-- PTP_CAPTURE_READ (R51). -/
  | ptpCaptureRead (req : Requester)
  /-- ADD (R73). -/
  | vcsAdd (i : Issue) (rd ra rb : Fin 32)
  /-- SUB (R73). -/
  | vcsSub (i : Issue) (rd ra rb : Fin 32)
  /-- AND (R73). -/
  | vcsAnd (i : Issue) (rd ra rb : Fin 32)
  /-- OR (R73). -/
  | vcsOr (i : Issue) (rd ra rb : Fin 32)
  /-- XOR (R73). -/
  | vcsXor (i : Issue) (rd ra rb : Fin 32)
  /-- SLL (R73). -/
  | vcsSll (i : Issue) (rd ra rb : Fin 32)
  /-- SRL (R73). -/
  | vcsSrl (i : Issue) (rd ra rb : Fin 32)
  /-- SRA (R73). -/
  | vcsSra (i : Issue) (rd ra rb : Fin 32)
  /-- ADDS_W (R73). -/
  | vcsAddsW (i : Issue) (rd ra rb : Fin 32)
  /-- SUBS_W (R73). -/
  | vcsSubsW (i : Issue) (rd ra rb : Fin 32)
  /-- MIN (R73). -/
  | vcsMin (i : Issue) (rd ra rb : Fin 32)
  /-- MAX (R73). -/
  | vcsMax (i : Issue) (rd ra rb : Fin 32)
  /-- CLAMP (R73). -/
  | vcsClamp (i : Issue) (rd ra rb : Fin 32)
  /-- ADDI (R73). -/
  | vcsAddi (i : Issue) (rd ra : Fin 32) (imm : BitVec 12)
  /-- ANDI (R73). -/
  | vcsAndi (i : Issue) (rd ra : Fin 32) (imm : BitVec 12)
  /-- ORI (R73). -/
  | vcsOri (i : Issue) (rd ra : Fin 32) (imm : BitVec 12)
  /-- XORI (R73). -/
  | vcsXori (i : Issue) (rd ra : Fin 32) (imm : BitVec 12)
  /-- SLLI (R73). -/
  | vcsSlli (i : Issue) (rd ra : Fin 32) (n : Fin 64)
  /-- SRLI (R73). -/
  | vcsSrli (i : Issue) (rd ra : Fin 32) (n : Fin 64)
  /-- SRAI (R73). -/
  | vcsSrai (i : Issue) (rd ra : Fin 32) (n : Fin 64)
  /-- MOVZ (R73). -/
  | vcsMovz (i : Issue) (rd : Fin 32) (k : Fin 4) (imm : BitVec 16)
  /-- MOVK (R73). -/
  | vcsMovk (i : Issue) (rd : Fin 32) (k : Fin 4) (imm : BitVec 16)
  /-- MUL (R73). -/
  | vcsMul (i : Issue) (rd ra rb : Fin 32)
  /-- MULH (R73). -/
  | vcsMulh (i : Issue) (rd ra rb : Fin 32)
  /-- MULHU (R73). -/
  | vcsMulhu (i : Issue) (rd ra rb : Fin 32)
  /-- MULQ (R73). -/
  | vcsMulq (i : Issue) (rd ra rb : Fin 32)
  /-- DIV (R73). -/
  | vcsDiv (i : Issue) (rd ra rb : Fin 32)
  /-- DIVU (R73). -/
  | vcsDivu (i : Issue) (rd ra rb : Fin 32)
  /-- REM (R73). -/
  | vcsRem (i : Issue) (rd ra rb : Fin 32)
  /-- REMU (R73). -/
  | vcsRemu (i : Issue) (rd ra rb : Fin 32)
  /-- CMP (R74). -/
  | vcsCmp (i : Issue) (cc : Cond) (pd : Fin 8) (ra rb : Fin 32)
  /-- CMPI (R74). -/
  | vcsCmpi (i : Issue) (cc : Cond) (pd : Fin 8) (ra : Fin 32) (imm : BitVec 9)
  /-- PAND (R74). -/
  | vcsPand (i : Issue) (pd pa pb : Fin 8)
  /-- POR (R74). -/
  | vcsPor (i : Issue) (pd pa pb : Fin 8)
  /-- PXOR (R74). -/
  | vcsPxor (i : Issue) (pd pa pb : Fin 8)
  /-- PANDN (R74). -/
  | vcsPandn (i : Issue) (pd pa pb : Fin 8)
  /-- BR (R74). -/
  | vcsBr (i : Issue) (off : BitVec 22)
  /-- JL (R74). -/
  | vcsJl (i : Issue) (rd : Fin 32) (off : BitVec 17)
  /-- JR (R74). -/
  | vcsJr (i : Issue) (ra : Fin 32)
  /-- MFS (R58). -/
  | vcsMfs (i : Issue) (rd : Fin 32) (sreg : BitVec 12)
  /-- MTS (R58). -/
  | vcsMts (i : Issue) (sreg : BitVec 12) (ra : Fin 32)
  /-- FADD_S (R77). -/
  | vcsFaddS (i : Issue) (rd ra rb : Fin 32)
  /-- FSUB_S (R77). -/
  | vcsFsubS (i : Issue) (rd ra rb : Fin 32)
  /-- FMUL_S (R77). -/
  | vcsFmulS (i : Issue) (rd ra rb : Fin 32)
  /-- FMIN_S (R77). -/
  | vcsFminS (i : Issue) (rd ra rb : Fin 32)
  /-- FMAX_S (R77). -/
  | vcsFmaxS (i : Issue) (rd ra rb : Fin 32)
  /-- FABS_S (R77). -/
  | vcsFabsS (i : Issue) (rd ra : Fin 32)
  /-- FNEG_S (R77). -/
  | vcsFnegS (i : Issue) (rd ra : Fin 32)
  /-- FCLAMP_S (R78). -/
  | vcsFclampS (i : Issue) (rd ra rb : Fin 32)
  /-- MINSEL (R78). -/
  | vcsMinsel (i : Issue) (rd ra rb : Fin 32)
  /-- FCVT_S_L (R77). -/
  | vcsFcvtSL (i : Issue) (rd ra : Fin 32)
  /-- FCVT_L_S (R77). -/
  | vcsFcvtLS (i : Issue) (rd ra : Fin 32)
  /-- FCVT_L_S_RN (R77). -/
  | vcsFcvtLSRn (i : Issue) (rd ra : Fin 32)
  /-- FMA_S (R77). -/
  | vcsFmaS (i : Issue) (rd ra rb rc : Fin 32)
  /-- FMS_S (R77). -/
  | vcsFmsS (i : Issue) (rd ra rb rc : Fin 32)
  /-- FNMA_S (R77). -/
  | vcsFnmaS (i : Issue) (rd ra rb rc : Fin 32)
  /-- FNMS_S (R77). -/
  | vcsFnmsS (i : Issue) (rd ra rb rc : Fin 32)
  /-- FDIV_S (R77). -/
  | vcsFdivS (i : Issue) (rd ra rb : Fin 32)
  /-- FSQRT_S (R77). -/
  | vcsFsqrtS (i : Issue) (rd ra : Fin 32)
  /-- FCMP_EQ_S (R77). -/
  | vcsFcmpEqS (i : Issue) (pd : Fin 8) (ra rb : Fin 32)
  /-- FCMP_LT_S (R77). -/
  | vcsFcmpLtS (i : Issue) (pd : Fin 8) (ra rb : Fin 32)
  /-- FCMP_LE_S (R77). -/
  | vcsFcmpLeS (i : Issue) (pd : Fin 8) (ra rb : Fin 32)
  /-- FCMP_UN_S (R77). -/
  | vcsFcmpUnS (i : Issue) (pd : Fin 8) (ra rb : Fin 32)
  /-- LUT_I (R83). -/
  | vcsLutI (i : Issue) (rd ra rb : Fin 32)
  /-- LUT_B (R83). -/
  | vcsLutB (i : Issue) (rd ra rb : Fin 32)
  /-- VADD (R79). -/
  | vcsVadd (i : Issue) (vd va vb : Fin 16)
  /-- VSUB (R79). -/
  | vcsVsub (i : Issue) (vd va vb : Fin 16)
  /-- VMUL (R79). -/
  | vcsVmul (i : Issue) (vd va vb : Fin 16)
  /-- VFMA (R79). -/
  | vcsVfma (i : Issue) (vd va vb vc : Fin 16)
  /-- VMAC (R79). -/
  | vcsVmac (i : Issue) (vd va vb : Fin 16)
  /-- VMIN (R79). -/
  | vcsVmin (i : Issue) (vd va vb : Fin 16)
  /-- VMAX (R79). -/
  | vcsVmax (i : Issue) (vd va vb : Fin 16)
  /-- VABS (R79). -/
  | vcsVabs (i : Issue) (vd va : Fin 16)
  /-- VNEG (R79). -/
  | vcsVneg (i : Issue) (vd va : Fin 16)
  /-- VCLAMP (R79). -/
  | vcsVclamp (i : Issue) (vd va vb vc : Fin 16)
  /-- VPERM (R79). -/
  | vcsVperm (i : Issue) (vd va : Fin 16) (imm : BitVec 8)
  /-- VSPLAT (R79). -/
  | vcsVsplat (i : Issue) (vd : Fin 16) (ga : Fin 32)
  /-- VINS (R79). -/
  | vcsVins (i : Issue) (vd : Fin 16) (ga : Fin 32) (lane : Fin 4)
  /-- VEXT (R79). -/
  | vcsVext (i : Issue) (rd : Fin 32) (va : Fin 16) (lane : Fin 4)
  /-- VMINH (R79). -/
  | vcsVminh (i : Issue) (rd : Fin 32) (va : Fin 16)
  /-- VSINCOS (R81). -/
  | vcsVsincos (i : Issue) (vd : Fin 16) (ga : Fin 32)
  /-- VCLARKE (R80). -/
  | vcsVclarke (i : Issue) (vd va : Fin 16)
  /-- VICLARKE (R80). -/
  | vcsViclarke (i : Issue) (vd va : Fin 16)
  /-- VPARK (R80). -/
  | vcsVpark (i : Issue) (vd va vb : Fin 16)
  /-- VIPARK (R80). -/
  | vcsVipark (i : Issue) (vd va vb : Fin 16)
  /-- LD (R86). -/
  | vcsLd (i : Issue) (rd ra : Fin 32) (imm : BitVec 12)
  /-- LD_W (R86). -/
  | vcsLdW (i : Issue) (rd ra : Fin 32) (imm : BitVec 12)
  /-- LD_V (R86). -/
  | vcsLdV (i : Issue) (vd : Fin 16) (ra : Fin 32) (imm : BitVec 12)
  /-- ST (R86). -/
  | vcsSt (i : Issue) (ra : Fin 32) (imm : BitVec 12) (rs : Fin 32)
  /-- ST_W (R87). -/
  | vcsStW (i : Issue) (ra : Fin 32) (imm : BitVec 12) (rs : Fin 32)
  /-- ST_V (R86). -/
  | vcsStV (i : Issue) (ra : Fin 32) (imm : BitVec 12) (vs : Fin 16)
  /-- IN (R90). -/
  | vcsIn (i : Issue) (rd : Fin 32) (e : BitVec 8) (ra : Fin 32)
  /-- IN_V (R90). -/
  | vcsInV (i : Issue) (vd : Fin 16) (e : BitVec 8) (ra : Fin 32)
  /-- OUT (R93). -/
  | vcsOut (i : Issue) (e : BitVec 8) (ra rs : Fin 32)
  /-- NLD (R96). -/
  | vcsNld (i : Issue) (rd : Fin 32) (off : BitVec 8) (ra : Fin 32)
  /-- NLD_V (R96). -/
  | vcsNldV (i : Issue) (vd : Fin 16) (off : BitVec 8) (ra : Fin 32)
  /-- NST (R96). -/
  | vcsNst (i : Issue) (off : BitVec 8) (ra rs : Fin 32)
  /-- NST_V (R96). -/
  | vcsNstV (i : Issue) (off : BitVec 8) (ra : Fin 32) (vs : Fin 16)
  /-- ENDF (R94). -/
  | vcsEndf (i : Issue)
  /-- HOLD (R95). -/
  | vcsHold (i : Issue)
  /-- ERET (R109). -/
  | vcsEret (i : Issue)
  /-- WFI (R109). -/
  | vcsWfi (i : Issue)
  /-- FENCE (R109). -/
  | vcsFence (i : Issue)
  /-- INTERRUPT_ENTRY (R108). -/
  | interruptEntry
  /-- CE_TRAP_CLEAR (R114). -/
  | ceTrapClear (req : Requester) (n : Fin 8)
  /-- CE_CLEAR_ECC (R114). -/
  | ceClearEcc (req : Requester) (n : Fin 8)
  /-- CE_CLEAR_HOLD (R114). -/
  | ceClearHold (req : Requester) (n : Fin 8)
  /-- CE_CLEAR_NFCNT (R114). -/
  | ceClearNfcnt (req : Requester) (n : Fin 8)
  /-- CE_HALT (R115). -/
  | ceHalt (req : Requester) (n : Fin 8) (halt : Bool)
  /-- CE_STEP (R115). -/
  | ceStep (req : Requester) (n : Fin 8)
  /-- SE_CLEAR_ECC (R116). -/
  | seClearEcc (req : Requester)
  /-- PWM_ARM (R118). -/
  | pwmArm (req : Requester)
  /-- PWM_DISARM (R130). -/
  | pwmDisarm (req : Option Requester)
  /-- PWM_KILL (R130). -/
  | pwmKill (req : Requester)
  /-- DLL_LOCK (R444). -/
  | dllLock
  /-- DLL_LOCK_LOSS (R121). -/
  | dllLockLoss
  /-- LEG_UPDATE_POINT (R123). -/
  | legUpdatePoint (leg : Fin 24) (mid : Bool) (onFor : Nat)
  /-- LEG_EDGE (R126). -/
  | legEdge (leg : Fin 24) (side : Bool) (onFor : Nat)
  /-- LEG_TURN_ON (R126). -/
  | legTurnOn (leg : Fin 24) (after : Nat) (room : Option Nat)
  /-- LEG_DELAYED_TURN_OFF (R128). -/
  | legDelayedTurnOff (leg : Fin 24) (high : Bool)
  /-- GOK_CHANGE (R127). -/
  | gokChange (n : Fin 48) (level held : Bool)
  /-- LEG_OFF_CONFIRM_TIMEOUT (R127). -/
  | legOffConfirmTimeout (n : Fin 48)
  /-- LEG_ON_CHECK_TIMEOUT (R127). -/
  | legOnCheckTimeout (n : Fin 48)
  /-- FLT_ASSERT (R131). -/
  | fltAssert (leg : Fin 24) (asserted : Bool)
  /-- LEG_TRIP_WIRE_CHANGE (R131). -/
  | legTripWireChange (leg : Fin 24)
  /-- LEG_START (R129). -/
  | legStart (leg : Fin 24)
  /-- LEG_CAUSE_CLEAR (R132). -/
  | legCauseClear (req : Requester) (leg : Fin 24) (mask : BitVec 32)
  /-- LEG_SEAL_SET (R125). -/
  | legSealSet
  /-- CLINK_RUN (R138). -/
  | clinkRun (req : Requester) (link : Fin 32) (run : Bool)
  /-- CELL_DOWNLINK_SEND (R138). -/
  | cellDownlinkSend (link : Fin 32)
  /-- CELL_FRAME_RETURN (R139). -/
  | cellFrameReturn (link : Fin 32) (frame : List (BitVec 8)) (err : BitVec 8) (late : Bool) (rtt : Nat)
  /-- CLINK_BLOCK (R141). -/
  | clinkBlock (req : Requester) (link : Fin 32)
  /-- CLINK_UNBLOCK (R142). -/
  | clinkUnblock (req : Requester) (link : Fin 32)
  /-- COMPARATOR_CROSSING (R147). -/
  | comparatorCrossing (n : Fin 32) (v period : Nat)
  /-- BLANKING_STROBE (R151). -/
  | blankingStrobe (leg : Fin 24) (recent : BitVec 32)
  /-- BLANKING_WINDOW_CLOSE (R152). -/
  | blankingWindowClose (n : Fin 32)
  /-- WCMP_L2LAT_CLEAR (R154). -/
  | wcmpL2latClear (req : Requester) (n : Fin 32)
  /-- CHANNEL_H_COMPARATOR_TRIP (R155). -/
  | channelHComparatorTrip (n : Fin 32)
  /-- COMPARATOR_SAMPLE (R158). -/
  | comparatorSample (n : Fin 32) (v period : Nat)
  /-- COMPARATOR_CHECK (R160). -/
  | comparatorCheck (n : Fin 32)
  /-- COMPARATOR_CHECK_END (R161). -/
  | comparatorCheckEnd (n : Fin 32) (swapOk moved : Bool) (tie : BitVec 2) (v : Nat)
  /-- POWER_UP_HOLD_EVALUATION (R162). -/
  | powerUpHoldEvaluation (n : Fin 32) (v : Nat)
  /-- WCMP_FAULT_CLEAR (R162). -/
  | wcmpFaultClear (req : Requester) (n : Fin 32) (mask : BitVec 32)
  /-- WCMP_READBACK_START (R163). -/
  | wcmpReadbackStart (req : Option Requester)
  /-- DAC_READBACK_END (R163). -/
  | dacReadbackEnd (fails : List (Fin 128))
  /-- WCMP_SEAL_SET (R164). -/
  | wcmpSealSet
  /-- SET_PARAMETER (R168). -/
  | setParameter
  /-- SET_BREAKPOINT (R168). -/
  | setBreakpoint
  /-- SET_TABLE_VALUE (R168). -/
  | setTableValue
  /-- COMMIT_TABLE (R168). -/
  | commitTable
  /-- HOST_SET_POINT (R183). -/
  | hostSetPoint
  /-- STOP (R188). -/
  | stop
  /-- CLEAR_STOP (R188). -/
  | clearStop
  /-- PRM_F_FREQUENCY (R176). -/
  | prmFFrequency
  /-- COOLANT_STATUS (R179). -/
  | coolantStatus
  /-- UNKNOWN_COMMAND (R167). -/
  | unknownCommand (q : Fin 3)
  /-- PARAMETER_TAKE_EFFECT (R168). -/
  | parameterTakeEffect (act : Option Activation)
  /-- PRM_F_WINDOW_END (R176). -/
  | prmFWindowEnd (n span : Nat)
  /-- PERMIT_QUEUE_TIMEOUT (R176). -/
  | permitQueueTimeout
  /-- PERMIT_FAULT_TIMEOUT (R177). -/
  | permitFaultTimeout
  /-- COOLANT_STATUS_TIMEOUT (R179). -/
  | coolantStatusTimeout
  /-- COOLANT_LOSS_STOP (R179). -/
  | coolantLossStop
  /-- HOST_SETPOINT_TIMEOUT (R183). -/
  | hostSetpointTimeout
  /-- DC_LINK_OVERVOLTAGE_STOP (R184). -/
  | dcLinkOvervoltageStop
  /-- FEEDBACK_HOLD_LIMIT (R186). -/
  | feedbackHoldLimit (item : FeedbackLoss)
  /-- STOP_RAMP_END (R188). -/
  | stopRampEnd
  /-- PERSISTENT_MISS_HANDLING (R189). -/
  | persistentMissHandling (task : Fin 512)
  /-- SYNC_LOCK (R194). -/
  | syncLock (event : SyncEvent)
  /-- SYNC_FREE_TIMEOUT (R194). -/
  | syncFreeTimeout
  /-- RIDE_THROUGH_ENTRY (R199). -/
  | rideThroughEntry
  /-- RT_TIMER_RESET (R203). -/
  | rtTimerReset (exceed : Bool)
  /-- FREQUENCY_TRIP (R205). -/
  | frequencyTrip (element : Fin 4)
  /-- PERTURBATION_WINDOW_OPEN (R208). -/
  | perturbationWindowOpen
  /-- PERTURBATION_WINDOW_CLOSE (R210). -/
  | perturbationWindowClose
  /-- ISLANDING_NEXT_POST (R209). -/
  | islandingNextPost
  /-- RECONNECTION_DELAY_EXPIRY (R212). -/
  | reconnectionDelayExpiry
  /-- ENTER_SERVICE_RAMP_END (R212). -/
  | enterServiceRampEnd
  /-- NODE_RUN (R226). -/
  | nodeRun (req : Requester) (run : Bool)
  /-- LANDING_ENABLE (R219). -/
  | landingEnable (req : Requester) (landing : Fin 512) (value : BitVec 32)
  /-- NODE_ROUND_START (R226). -/
  | nodeRoundStart
  /-- HELLO (R220). -/
  | hello (frame : List (BitVec 8))
  /-- HELLOACK_SEND (R220). -/
  | helloackSend (landing : Fin 512)
  /-- LANDING_DOWN (R220). -/
  | landingDown (landing : Fin 512)
  /-- VISIT_SEND (R227). -/
  | visitSend (landing : Fin 512) (block : Fin 32)
  /-- REPORT (R225). -/
  | report (frame : List (BitVec 8))
  /-- REPORT_ENTRY (R228). -/
  | reportEntry
  /-- VISIT_RETRY (R228). -/
  | visitRetry (landing : Fin 512) (block : Fin 32)
  /-- VISIT_ANSWER_TIMEOUT (R228). -/
  | visitAnswerTimeout (landing : Fin 512) (block : Fin 32)
  /-- BROADCAST_SEND (R231). -/
  | broadcastSend
  /-- ETH_FRAME_RECEIVE (R234). -/
  | ethFrameReceive (port : Fin 4) (bytes : List (BitVec 8)) (full : Bool) (ns : BitVec 17)
  /-- ARP_REQUEST (R221). -/
  | arpRequest (port : Fin 4) (ip : BitVec 32) (mac : BitVec 48) (sender : BitVec 32)
  /-- ETH_LINK_CHANGE (R241). -/
  | ethLinkChange (port : Fin 4) (up anDone : Bool)
  /-- PTP_CLOCK_LOAD (R241). -/
  | ptpClockLoad (req : Requester)
  /-- PTP_ADJUST (R241). -/
  | ptpAdjust (req : Requester) (ns : BitVec 32)
  /-- PTP_CLOCK_READ (R241). -/
  | ptpClockRead (req : Requester)
  /-- TIMESTAMP_POP (R241). -/
  | timestampPop (port : Fin 4)
  /-- TIMESTAMP_STATUS_READ (R241). -/
  | timestampStatusRead (port : Fin 4)
  /-- NODE_COUNTER_CLEAR (R240). -/
  | nodeCounterClear (req : Requester)
  /-- LINE_BRING_IN (R248). -/
  | lineBringIn (node : BitVec 18)
  /-- LINE_BRING_IN_COMPLETE (R250). -/
  | lineBringInComplete (node : BitVec 18)
  /-- BRING_IN_LATE (R250). -/
  | bringInLate (node : BitVec 18)
  /-- LINE_WRITE_BACK (R251). -/
  | lineWriteBack (node : BitVec 18)
  /-- HISTORY_APPEND (R252). -/
  | historyAppend (node : BitVec 18)
  /-- BERTH_REINIT (R255). -/
  | berthReinit (req : Requester) (node : BitVec 18)
  /-- BERTH_REINIT_DONE (R255). -/
  | berthReinitDone
  /-- BERTH_COUNTER_CLEAR (R257). -/
  | berthCounterClear (req : Requester)
  /-- MODULATOR_LOSS (R261). -/
  | modulatorLoss (n : Fin 48)
  /-- CONTROL_FILTER_OUTPUT (R262). -/
  | controlFilterOutput (n : Fin 48) (edge : Nat) (bits : List Bool)
  /-- METERING_SAMPLE (R265). -/
  | meteringSample (c : Fin 28) (bits : List Bool)
  /-- ZERO_CROSSING_TIMEOUT (R273). -/
  | zeroCrossingTimeout (m : Fin 4)
  /-- METERING_WINDOW_END (R274). -/
  | meteringWindowEnd (m : Fin 4)
  /-- STEERING_BLOCK_END (R282). -/
  | steeringBlockEnd (m : Fin 4)
  /-- MTR_LOAD (R268). -/
  | mtrLoad (req : Requester)
  /-- METERING_CONFIG_APPLY (R268). -/
  | meteringConfigApply
  /-- TEMPERATURE_UPDATE (R271). -/
  | temperatureUpdate (c : Fin 28)
  /-- TEMPERATURE_STALE (R271). -/
  | temperatureStale (c : Fin 28)
  /-- MPSTAT_READ (R274). -/
  | mpstatRead (req : Requester) (m : Fin 4)
  /-- PULSE_EDGE (R284). -/
  | pulseEdge (j : Fin 16) (level exceed : Bool)
  /-- QUADRATURE_DECISION (R284). -/
  | quadratureDecision (j : Fin 16) (bEdge exceed : Bool)
  /-- COMMIT (R285). -/
  | commit
  /-- COMMIT_COMPLETE (R285). -/
  | commitComplete (pass : Bool)
  /-- TALLY_COMMIT_REQUEST (R285). -/
  | tallyCommitRequest (req : Requester)
  /-- TALLY_READ (R302). -/
  | tallyRead (req : Requester) (committed : Bool) (n : Fin 160)
  /-- EARLY_WARNING (R432). -/
  | earlyWarning
  /-- LAST_CROSSING_FREEZE (R288). -/
  | lastCrossingFreeze
  /-- LAST_CROSSING_SAVE_COMPLETE (R288). -/
  | lastCrossingSaveComplete (pass vin : Bool)
  /-- TALLY_RESTART (R289). -/
  | tallyRestart (cover : Option Nat)
  /-- INTERVAL_CLOSE (R292). -/
  | intervalClose
  /-- ANCHOR_APPEND (R295). -/
  | anchorAppend
  /-- RECORD_ACCEPTED (R296). -/
  | recordAccepted
  /-- PENDING_RECORD_APPEND (R297). -/
  | pendingRecordAppend
  /-- MAN_ACK (R296). -/
  | manAck (req : Requester)
  /-- MAN_SEAL (R298). -/
  | manSeal (req : Requester)
  /-- MAN_BREAK (R299). -/
  | manBreak (req : Requester)
  /-- BREAK_VERIFY_COMPLETE (R299). -/
  | breakVerifyComplete (sigOk : Bool)
  /-- MSEAL_CHANGE (R300). -/
  | msealChange (fitted : Bool)
  /-- MAN_RECORD_READ (R303). -/
  | manRecordRead (req : Requester) (high : Bool) (v : BitVec 32)
  /-- SWITCH_READBACK_FAULT (R304). -/
  | switchReadbackFault (chanH : Bool) (out : Fin 8)
  /-- FXH_TOGGLE (R305). -/
  | fxhToggle
  /-- FXP_TIMEOUT (R305). -/
  | fxpTimeout
  /-- FXH_TIMEOUT (R305). -/
  | fxhTimeout
  /-- OSCILLATOR_FAULT (R306). -/
  | oscillatorFault
  /-- SAFETY_CONFIG_LOAD (R307). -/
  | safetyConfigLoad (sigOk : Bool)
  /-- SWITCH_BANK_READ (R308). -/
  | switchBankRead (chanH : Bool) (bank : BitVec 12)
  /-- SAFETY_INPUT_CHANGE (R309). -/
  | safetyInputChange (chanH : Bool) (input : SafetyBall) (level : Bool)
  /-- DISCREPANCY_TIMEOUT (R310). -/
  | discrepancyTimeout (chanH : Bool) (pair : Fin 8)
  /-- SAFE_STOP_DELAY_EXPIRY (R311). -/
  | safeStopDelayExpiry
  /-- SFA_REARM (R311). -/
  | sfaRearm
  /-- CLOSE_REQUEST (R312). -/
  | closeRequest
  /-- SWITCH_P_CLOSE (R312). -/
  | switchPClose (out : Fin 8)
  /-- PULL_IN_FARE_RELEASE (R437). -/
  | pullInFareRelease (out : Fin 8)
  /-- H_GRID_UNDERVOLTAGE (R314). -/
  | hGridUndervoltage (phase : Fin 3)
  /-- SAFE_OUTPUT_OVERCURRENT (R317). -/
  | safeOutputOvercurrent (out : Fin 8)
  /-- TEST_PULSE_START (R318). -/
  | testPulseStart (chanH : Bool) (out : Fin 8)
  /-- TEST_PULSE_END (R318). -/
  | testPulseEnd (chanH : Bool) (out : Fin 8) (pass : Bool)
  /-- OFF_STATE_DIAGNOSTIC (R320). -/
  | offStateDiagnostic (out : Fin 8) (mv : Nat)
  /-- FEEDBACK_TIMEOUT (R321). -/
  | feedbackTimeout (chanH : Bool) (out : Fin 8)
  /-- SAFE_MESSAGE (R323). -/
  | safeMessage (chanH : Bool) (frame : List (BitVec 8)) (port3 : Bool)
  /-- SAFE_MESSAGE_PAIR_TIMEOUT (R323). -/
  | safeMessagePairTimeout (chanH : Bool) (src : Fin 8)
  /-- SAFE_MESSAGE_TIMEOUT (R323). -/
  | safeMessageTimeout (chanH : Bool) (src : Fin 8)
  /-- SAFE_MESSAGE_SEND (R324). -/
  | safeMessageSend (time : Nat)
  /-- SRST_PULSE (R326). -/
  | srstPulse (ms lowBefore fault : Nat)
  /-- RESET_PROCEDURE_COMPLETE (R326). -/
  | resetProcedureComplete (results : List Nat)
  /-- STARTUP_LOCKOUT_CLEAR (R478). -/
  | startupLockoutClear (selfTests : Bool)
  /-- MCLK_TAKEOVER (R330). -/
  | mclkTakeover (k : Fin 6)
  /-- TIDE_SLIP (R444). -/
  | tideSlip
  /-- TWIN_RESYNC_RESET (R332). -/
  | twinResyncReset
  /-- HEART (R342). -/
  | heart (msg : List (BitVec 8)) (toggled : Bool) (pherr : BitVec 16)
  /-- MIRROR (R339). -/
  | mirror (msg : List (BitVec 8)) (late : Bool)
  /-- CELLST (R334). -/
  | cellst (msg : List (BitVec 8))
  /-- CELLFILL (R334). -/
  | cellfill (msg : List (BitVec 8))
  /-- NODEMIR (R333). -/
  | nodemir (mseq : BitVec 32) (edge : Nat) (records : List (BitVec 16 × List (BitVec 8))) (states : List (Fin 512 × Fin 3))
  /-- MANREC (R350). -/
  | manrec (msg : List (BitVec 8))
  /-- MANCONF (R350). -/
  | manconf (msg : List (BitVec 8))
  /-- BULK (R349). -/
  | bulk (out : Option (BitVec 40)) (msg : List (BitVec 8))
  /-- STORE (R349). -/
  | store (out : Bool) (mseq : BitVec 32) (stores : List TwinStore)
  /-- HAWSER_ACK (R336). -/
  | hawserAck (msg : List (BitVec 8))
  /-- HAWSER_RESEND (R336). -/
  | hawserResend (typ : Fin 12) (mseq : BitVec 32)
  /-- PAIR (R337). -/
  | pair (out : Bool) (msg : List (BitVec 8))
  /-- HANDOVER (R346). -/
  | handover (msg : List (BitVec 8))
  /-- TTACT (R347). -/
  | ttact (out : Bool) (msg : List (BitVec 8))
  /-- YIELD (R342). -/
  | yield (msg : List (BitVec 8))
  /-- CUT (R348). -/
  | cut (out : Bool) (msg : List (BitVec 8)) (values : List (BitVec 128))
  /-- HANDOVER_EDGE (R346). -/
  | handoverEdge
  /-- LANE_FAILURE (R336). -/
  | laneFailure (lanes : BitVec 2)
  /-- LANE_RECOVERY (R336). -/
  | laneRecovery (lane : Fin 2)
  /-- HEARTBEAT_MISS (R345). -/
  | heartbeatMiss (toggled : Bool)
  /-- DEPOSE (R343). -/
  | depose
  /-- TAKEOVER (R345). -/
  | takeover (crossHigh : Bool)
  /-- LEADERSHIP_CLAIM (R343). -/
  | leadershipClaim (crossHigh : Bool)
  /-- TWIN_JOIN (R344). -/
  | twinJoin (req : Requester)
  /-- TWIN_HANDOVER (R346). -/
  | twinHandover (req : Requester)
  /-- TWIN_LEAVE (R344). -/
  | twinLeave (req : Requester)
  /-- TWIN_DFCLR (R353). -/
  | twinDfclr (req : Requester)
  /-- TWIN_COUNTER_CLEAR (R355). -/
  | twinCounterClear (req : Requester)
  /-- RESYNC_RESTART (R349). -/
  | resyncRestart
  /-- RESTART_RECORD_TIMEOUT (R350). -/
  | restartRecordTimeout (phase2 : Option (Fin 10)) (cover : Option Nat)
  /-- DOUBLE_FAULT (R353). -/
  | doubleFault
  /-- ALIGNMENT_LOSS (R447). -/
  | alignmentLoss
  /-- DDR_INIT_DONE (R357). -/
  | ddrInitDone
  /-- DDR_TRAINING_DONE (R357). -/
  | ddrTrainingDone (pass : Bool)
  /-- DDR_RETRAIN (R357). -/
  | ddrRetrain (req : Requester)
  /-- DDR_FILL (R362). -/
  | ddrFill (req : Requester)
  /-- DDR_FILL_COMPLETE (R362). -/
  | ddrFillComplete
  /-- DDR_FILL_ABORT (R371). -/
  | ddrFillAbort (req : Requester) (done : Nat)
  /-- DMA_CHANNEL_RESTART (R365). -/
  | dmaChannelRestart (req : Requester) (ch : Fin 9)
  /-- SCRUB_STEP (R366). -/
  | scrubStep (dram : Bool) (upset : Fin 3) (lane : Option (Fin 18))
  /-- DRAM_DEVICE_FAILURE (R368). -/
  | dramDeviceFailure
  /-- ECC_SELF_TEST (R370). -/
  | eccSelfTest (failed : Option (Fin 64))
  /-- ECC_COUNTER_CLEAR (R373). -/
  | eccCounterClear (req : Requester)
  /-- ECC_INJECT (R373). -/
  | eccInject (req : Requester) (arm : Bool) (mask : BitVec 8)
  /-- ADC_SCAN_START (R375). -/
  | adcScanStart (k : Fin 4)
  /-- ADC_CONVERSION (R376). -/
  | adcConversion (k : Fin 4) (v : Int)
  /-- HALL_CHANGE (R387). -/
  | hallChange (code : BitVec 3) (span : Nat)
  /-- PUMP_CARRIER_PERIOD (R388). -/
  | pumpCarrierPeriod (mid : Bool)
  /-- PUMP_GATE_TURN_ON (R389). -/
  | pumpGateTurnOn (g : Fin 6)
  /-- PUMP_HANDSHAKE_TIMEOUT (R389). -/
  | pumpHandshakeTimeout (g : Fin 6)
  /-- VDS_FAULT (R390). -/
  | vdsFault (g : Fin 6)
  /-- BOOTSTRAP_REFRESH (R391). -/
  | bootstrapRefresh (phase : Fin 3) (since : Option Nat) (exceed : Bool)
  /-- BOOTSTRAP_UNDERVOLTAGE (R391). -/
  | bootstrapUndervoltage (phase : Fin 3)
  /-- PUMP_DIAG (R392). -/
  | pumpDiag (req : Requester) (vbus : BitVec 16)
  /-- PUMP_DIAG_COMPLETE (R392). -/
  | pumpDiagComplete (x1 y1 x2 y2 x3 y3 : Nat)
  /-- PUMP_RUN (R393). -/
  | pumpRun (req : Requester)
  /-- PUMP_STOP (R393). -/
  | pumpStop (req : Requester)
  /-- PUMP_FARE_TIMEOUT (R393). -/
  | pumpFareTimeout
  /-- PUMP_START_END (R393). -/
  | pumpStartEnd
  /-- PUMP_FAULT_CLEAR (R394). -/
  | pumpFaultClear (req : Requester)
  /-- PUMP_STALL (R395). -/
  | pumpStall
  /-- FLOW_TIMEOUT (R396). -/
  | flowTimeout (low : Bool)
  /-- COOLANT_STATUS_POST (R396). -/
  | coolantStatusPost
  /-- BOOT (R399). -/
  | boot (sigA sigB : Bool)
  /-- WATCHDOG_KICK (R401). -/
  | watchdogKick (req : Requester) (value : BitVec 32)
  /-- WATCHDOG_EXPIRY (R401). -/
  | watchdogExpiry
  /-- CONTROL_DIE_HOLD (R402). -/
  | controlDieHold (req : Requester)
  /-- CONTROL_DIE_RELEASE (R402). -/
  | controlDieRelease (req : Option Requester)
  /-- HOST_QUEUE_PUSH (R403). -/
  | hostQueuePush (req : Requester) (value : BitVec 32)
  /-- SENSOR_SAMPLE (R404). -/
  | sensorSample (values : List (BitVec 20))
  /-- LOG_WRITE (R406). -/
  | logWrite (req : Requester)
  /-- LOG_ENTRY (R406). -/
  | logEntry (beyond : Bool)
  /-- LIFETIME_SECOND (R409). -/
  | lifetimeSecond
  /-- CALENDAR_SET (R412). -/
  | calendarSet (req : Requester)
  /-- CALENDAR_END (R411). -/
  | calendarEnd
  /-- CALENDAR_READ (R426). -/
  | calendarRead (req : Requester)
  /-- CALENDAR_DISCIPLINE (R412). -/
  | calendarDiscipline (utc : BitVec 64)
  /-- XSPI_COMMAND (R413). -/
  | xspiCommand (req : Requester) (value : BitVec 32) (op : FlashOp)
  /-- CHECKPOINT (R415). -/
  | checkpoint (whole : Bool)
  /-- IMAGE_VERIFY (R419). -/
  | imageVerify (req : Requester)
  /-- IMAGE_VERIFY_COMPLETE (R419). -/
  | imageVerifyComplete (sigOk : Bool)
  /-- IMAGE_ACTIVATE (R420). -/
  | imageActivate (req : Requester)
  /-- IMAGE_CONFIRM (R421). -/
  | imageConfirm (req : Requester)
  /-- ATTEST (R424). -/
  | attest (req : Requester)
  /-- ATTEST_COMPLETE (R424). -/
  | attestComplete
  /-- VIN_VALID (R427). -/
  | vinValid
  /-- VIN_LOW_RESET (R427). -/
  | vinLowReset
  /-- SUPPLY_OUTPUT_OVERCURRENT (R428). -/
  | supplyOutputOvercurrent (out : Fin 4)
  /-- SUPPLY_WINDOW_FAULT (R429). -/
  | supplyWindowFault (n : Fin 16) (low : Bool)
  /-- HOLD_UP_READY (R430). -/
  | holdUpReady
  /-- HOLD_UP_MEASURE (R435). -/
  | holdUpMeasure (req : Option Requester)
  /-- HOLD_UP_MEASURE_COMPLETE (R435). -/
  | holdUpMeasureComplete (dv : Nat)
  /-- FARE_REQUEST (R436). -/
  | fareRequest (cls : Fin 23)
  /-- CAPSTAN_GRANT (R438). -/
  | capstanGrant
  /-- FARE_BLOCK (R438). -/
  | fareBlock (cls : Fin 23)
  /-- FARE_RELEASE (R436). -/
  | fareRelease (cls : Fin 23)
  /-- CAP_REQUEST (R437). -/
  | capRequest (req : Requester) (ask : Bool) (fares : BitVec 7)
  /-- CAP_COUNTER_CLEAR (R449). -/
  | capCounterClear (req : Requester)
  /-- PLL_LOCK (R442). -/
  | pllLock
  /-- REFERENCE_LOSS (R443). -/
  | referenceLoss
  /-- REFERENCE_RETURN (R443). -/
  | referenceReturn
  /-- THERMAL_SHUTDOWN (R447). -/
  | thermalShutdown
  /-- EVENT_RISE (R453). -/
  | eventRise (n : Fin 512) (data : BitVec 64)
  /-- CAPTURE_READ (R457). -/
  | captureRead (req : Requester) (u : Fin 16)
  /-- SOFTWARE_EVENT (R451). -/
  | softwareEvent (req : Requester) (bits : BitVec 16)
  /-- COUNTER_OVERFLOW (R459). -/
  | counterOverflow (n : Fin 64)
  /-- COUNTER_FREEZE (R460). -/
  | counterFreeze (req : Requester) (frozen : Bool)
  /-- COUNTER_READ (R460). -/
  | counterRead (req : Requester) (n : Fin 64)
  /-- TAG_RECORD (R461). -/
  | tagRecord (ovr : Bool)
  /-- TAG_RECORD_READ (R461). -/
  | tagRecordRead
  /-- BANDWIDTH_WINDOW_END (R462). -/
  | bandwidthWindowEnd (p : Fin 16) (bytes : Nat)
  /-- BENCH_ENTER (R465). -/
  | benchEnter (req : Requester)
  /-- BENCH_EXIT (R465). -/
  | benchExit (req : Option Requester)
  /-- JTAG_INSTRUCTION (R467). -/
  | jtagInstruction (die : Fin 3) (op : JtagOp)
  /-- RESET_PIN (R472). -/
  | resetPin (long : Bool)
  /-- DRY_CROSSING_END (R477). -/
  | dryCrossingEnd
  /-- ARMING (R479). -/
  | arming (host : Bool)
  /-- CONTROL_DOMAIN_AUTO_RELEASE (R480). -/
  | controlDomainAutoRelease
  /-- EARLY_WARNING_RELEASE (R432). -/
  | earlyWarningRelease
  /-- MODULATOR_LOSS_CLEAR (R261). -/
  | modulatorLossClear (n : Fin 48)
  /-- TEST_PULSE_SKIP (R318). -/
  | testPulseSkip (chanH : Bool) (out : Fin 8)
  /-- HOLD_UP_READY_LOSS (R430). -/
  | holdUpReadyLoss
  /-- VBAT_LOW (R446). -/
  | vbatLow
  /-- THERMAL_SHUTDOWN_RESTART (R447). -/
  | thermalShutdownRestart
  /-- TEMPERATURE_DIFFERENCE_CHECK (R447). -/
  | temperatureDifferenceCheck
  /-- XSPI_OPERATION_COMPLETE (R413). -/
  | xspiOperationComplete (bank : Fin 2)
  /-- IMAGE_COPY_COMPLETE (R420). -/
  | imageCopyComplete (scfg : ScfgImage)
  /-- CELL_LINK_COMMA_LOCK (R145). -/
  | cellLinkCommaLock (link : Fin 32) (locked : Bool)
  /-- RESET_PIN_LONG_HOLD (R472). -/
  | resetPinLongHold
deriving DecidableEq, Repr

end Sys2Proof
end

