-- ==== Sys2Proof/Decode.lean ====
section
/-!
DEFINITION. Decode.lean: words. The opcode table gives no row of this block any bits, so no word of the table spells a command. A VCS
instruction's command carries the 32-bit word that the engine fetched; `decodeVcs` reads that word by the encodings of R64, R65, R85 and
Tables 3-4, 3-5, 3-7 to 3-10 and 4-1.
-/
namespace Sys2Proof

/-- The command that a word spells by the opcode table's bits: none. -/
def decodeTableWord (_nbits _w : Nat) : Option Instr := none

/-! ### Fields of an instruction word (R64, Table 3-4) -/

/-- A 5-bit register field whose lowest bit is `lo`. -/
def wordG (w : BitVec 32) (lo : Nat) : Fin 32 := (w.extractLsb' lo 5).toFin
/-- A 4-bit vector-register field. -/
def wordV (w : BitVec 32) (lo : Nat) : Fin 16 := (w.extractLsb' lo 4).toFin
/-- A 3-bit predicate field. -/
def wordP (w : BitVec 32) (lo : Nat) : Fin 8 := (w.extractLsb' lo 3).toFin
/-- Bits hi:lo as a number. -/
def wordBits (w : BitVec 32) (hi lo : Nat) : Nat := w.toNat / 2 ^ lo % 2 ^ (hi + 1 - lo)
/-- Bits hi:lo are zero, as R65 asks of a field that must be zero. -/
def wordZero (w : BitVec 32) (hi lo : Nat) : Bool := wordBits w hi lo == 0

/-- The answer when the fields that must be zero are. -/
def ifZero (ok : Bool) (c : Option Instr) : Option Instr := if ok then c else none

/-- The condition that a COND or FN code of 0 to 5 names (R74); 6 and 7 are reserved. -/
def Cond.ofCode : Nat → Option Cond
  | 0 => some .eq
  | 1 => some .ne
  | 2 => some .lt
  | 3 => some .ge
  | 4 => some .ltu
  | 5 => some .geu
  | _ => none

/-! ### Format A (Tables 3-7, 3-9, 4-1) -/

/-- OP 0x00. -/
def decodeInt (i : Issue) (w : BitVec 32) : Option Instr :=
  let rd := wordG w 17
  let ra := wordG w 12
  let rb := wordG w 7
  match wordBits w 6 0 with
  | 0x01 => some (.vcsAdd i rd ra rb)
  | 0x02 => some (.vcsSub i rd ra rb)
  | 0x03 => some (.vcsAnd i rd ra rb)
  | 0x04 => some (.vcsOr i rd ra rb)
  | 0x05 => some (.vcsXor i rd ra rb)
  | 0x06 => some (.vcsSll i rd ra rb)
  | 0x07 => some (.vcsSrl i rd ra rb)
  | 0x08 => some (.vcsSra i rd ra rb)
  | 0x09 => some (.vcsAddsW i rd ra rb)
  | 0x0A => some (.vcsSubsW i rd ra rb)
  | 0x0B => some (.vcsMin i rd ra rb)
  | 0x0C => some (.vcsMax i rd ra rb)
  | 0x0D => some (.vcsClamp i rd ra rb)
  | _ => none

/-- OP 0x06 and 0x07. -/
def decodeMulDiv (i : Issue) (w : BitVec 32) (div : Bool) : Option Instr :=
  let rd := wordG w 17
  let ra := wordG w 12
  let rb := wordG w 7
  match div, wordBits w 6 0 with
  | false, 0x00 => some (.vcsMul i rd ra rb)
  | false, 0x01 => some (.vcsMulh i rd ra rb)
  | false, 0x02 => some (.vcsMulhu i rd ra rb)
  | false, 0x03 => some (.vcsMulq i rd ra rb)
  | true, 0x00 => some (.vcsDiv i rd ra rb)
  | true, 0x01 => some (.vcsDivu i rd ra rb)
  | true, 0x02 => some (.vcsRem i rd ra rb)
  | true, 0x03 => some (.vcsRemu i rd ra rb)
  | _, _ => none

/-- OP 0x0C; an operation of one operand leaves rb zero. -/
def decodeFloat (i : Issue) (w : BitVec 32) : Option Instr :=
  let rd := wordG w 17
  let ra := wordG w 12
  let rb := wordG w 7
  let one := wordZero w 11 7
  match wordBits w 6 0 with
  | 0x00 => some (.vcsFaddS i rd ra rb)
  | 0x01 => some (.vcsFsubS i rd ra rb)
  | 0x02 => some (.vcsFmulS i rd ra rb)
  | 0x03 => some (.vcsFminS i rd ra rb)
  | 0x04 => some (.vcsFmaxS i rd ra rb)
  | 0x05 => ifZero one (some (.vcsFabsS i rd ra))
  | 0x06 => ifZero one (some (.vcsFnegS i rd ra))
  | 0x07 => some (.vcsFclampS i rd ra rb)
  | 0x08 => some (.vcsMinsel i rd ra rb)
  | 0x09 => ifZero one (some (.vcsFcvtSL i rd ra))
  | 0x0A => ifZero one (some (.vcsFcvtLS i rd ra))
  | 0x0B => ifZero one (some (.vcsFcvtLSRn i rd ra))
  | _ => none

/-- OP 0x0E. -/
def decodeRoot (i : Issue) (w : BitVec 32) : Option Instr :=
  match wordBits w 6 0 with
  | 0x00 => some (.vcsFdivS i (wordG w 17) (wordG w 12) (wordG w 7))
  | 0x01 => ifZero (wordZero w 11 7) (some (.vcsFsqrtS i (wordG w 17) (wordG w 12)))
  | _ => none

/-- OP 0x10. -/
def decodeLookup (i : Issue) (w : BitVec 32) : Option Instr :=
  match wordBits w 6 0 with
  | 0x00 => some (.vcsLutI i (wordG w 17) (wordG w 12) (wordG w 7))
  | 0x01 => some (.vcsLutB i (wordG w 17) (wordG w 12) (wordG w 7))
  | _ => none

/-! ### Formats I, Q, P, C and K -/

/-- OP 0x05: imm12[11:10] selects the shift, imm12[9:6] is zero. -/
def decodeShift (i : Issue) (w : BitVec 32) : Option Instr :=
  let n : Fin 64 := (w.extractLsb' 0 6).toFin
  ifZero (wordZero w 9 6) (match wordBits w 11 10 with
    | 0 => some (.vcsSlli i (wordG w 17) (wordG w 12) n)
    | 1 => some (.vcsSrli i (wordG w 17) (wordG w 12) n)
    | 2 => some (.vcsSrai i (wordG w 17) (wordG w 12) n)
    | _ => none)

/-- OP 0x0D. -/
def decodeFused (i : Issue) (w : BitVec 32) : Option Instr :=
  let rd := wordG w 17
  let ra := wordG w 12
  let rb := wordG w 7
  let rc := wordG w 2
  match wordBits w 1 0 with
  | 0 => some (.vcsFmaS i rd ra rb rc)
  | 1 => some (.vcsFmsS i rd ra rb rc)
  | 2 => some (.vcsFnmaS i rd ra rb rc)
  | _ => some (.vcsFnmsS i rd ra rb rc)

/-- OP 0x08: FN is the condition. -/
def decodeCmp (i : Issue) (w : BitVec 32) : Option Instr :=
  ifZero (wordZero w 18 17) ((Cond.ofCode (wordBits w 6 0)).map fun c => .vcsCmp i c (wordP w 19) (wordG w 12) (wordG w 7))

/-- OP 0x09. -/
def decodeCmpi (i : Issue) (w : BitVec 32) : Option Instr :=
  ifZero (wordZero w 18 17)
    ((Cond.ofCode (wordBits w 11 9)).map fun c => .vcsCmpi i c (wordP w 19) (wordG w 12) (w.extractLsb' 0 9))

/-- OP 0x0A. -/
def decodePred (i : Issue) (w : BitVec 32) : Option Instr :=
  let pd := wordP w 19
  let pa := wordP w 16
  let pb := wordP w 13
  ifZero (wordZero w 12 7) (match wordBits w 6 0 with
    | 0x00 => some (.vcsPand i pd pa pb)
    | 0x01 => some (.vcsPor i pd pa pb)
    | 0x02 => some (.vcsPxor i pd pa pb)
    | 0x03 => some (.vcsPandn i pd pa pb)
    | _ => none)

/-- OP 0x0F. -/
def decodeFcmp (i : Issue) (w : BitVec 32) : Option Instr :=
  let pd := wordP w 19
  let ra := wordG w 12
  let rb := wordG w 7
  ifZero (wordZero w 18 17) (match wordBits w 6 0 with
    | 0x00 => some (.vcsFcmpEqS i pd ra rb)
    | 0x01 => some (.vcsFcmpLtS i pd ra rb)
    | 0x02 => some (.vcsFcmpLeS i pd ra rb)
    | 0x03 => some (.vcsFcmpUnS i pd ra rb)
    | _ => none)

/-! ### Formats V, W, X and S -/

/-- OP 0x11; an operand that the operation does not use is zero. -/
def decodeVector (i : Issue) (w : BitVec 32) : Option Instr :=
  let vd := wordV w 18
  let va := wordV w 14
  let vb := wordV w 10
  let vc := wordV w 6
  let two := wordZero w 9 6
  let one := wordZero w 13 6
  match wordBits w 5 0 with
  | 0x00 => ifZero two (some (.vcsVadd i vd va vb))
  | 0x01 => ifZero two (some (.vcsVsub i vd va vb))
  | 0x02 => ifZero two (some (.vcsVmul i vd va vb))
  | 0x03 => some (.vcsVfma i vd va vb vc)
  | 0x04 => ifZero two (some (.vcsVmac i vd va vb))
  | 0x05 => ifZero two (some (.vcsVmin i vd va vb))
  | 0x06 => ifZero two (some (.vcsVmax i vd va vb))
  | 0x07 => ifZero one (some (.vcsVabs i vd va))
  | 0x08 => ifZero one (some (.vcsVneg i vd va))
  | 0x09 => some (.vcsVclamp i vd va vb vc)
  | _ => none

/-- OP 0x14. -/
def decodeTransform (i : Issue) (w : BitVec 32) : Option Instr :=
  let vd := wordV w 18
  let va := wordV w 14
  let vb := wordV w 10
  match wordBits w 5 0 with
  | 0x00 => ifZero (wordZero w 13 6) (some (.vcsVclarke i vd va))
  | 0x01 => ifZero (wordZero w 13 6) (some (.vcsViclarke i vd va))
  | 0x02 => ifZero (wordZero w 9 6) (some (.vcsVpark i vd va vb))
  | 0x03 => ifZero (wordZero w 9 6) (some (.vcsVipark i vd va vb))
  | _ => none

/-- OP 0x13: bits 10:6 zero; LANE zero where the operation has no lane. -/
def decodeMove (i : Issue) (w : BitVec 32) : Option Instr :=
  let g := wordG w 17
  let v := wordV w 13
  let lane : Fin 4 := (w.extractLsb' 11 2).toFin
  let noLane := wordZero w 12 11
  ifZero (wordZero w 10 6) (match wordBits w 5 0 with
    | 0x00 => ifZero noLane (some (.vcsVsplat i v g))
    | 0x01 => some (.vcsVins i v g lane)
    | 0x02 => some (.vcsVext i g v lane)
    | 0x03 => ifZero noLane (some (.vcsVminh i g v))
    | 0x04 => ifZero noLane (some (.vcsVsincos i v g))
    | _ => none)

/-- OP 0x15: DIR 0 is mfs, DIR 1 mts. -/
def decodeSpecial (i : Issue) (w : BitVec 32) : Option Instr :=
  ifZero (wordZero w 15 12)
    (some (if w.getLsbD 16 then .vcsMts i (w.extractLsb' 0 12) (wordG w 17) else .vcsMfs i (wordG w 17) (w.extractLsb' 0 12)))

/-! ### Opcodes 0x20 to 0x2E (R85, Table 4-1) -/

/-- A vector register in the rd field: bits 20:17, bit 21 zero. -/
def decodeMem (i : Issue) (w : BitVec 32) (op : Nat) : Option Instr :=
  let rd := wordG w 17
  let vd := wordV w 17
  let ra := wordG w 12
  let imm : BitVec 12 := w.extractLsb' 0 12
  let low : BitVec 8 := w.extractLsb' 0 8
  let vz := wordZero w 21 21
  let hz := wordZero w 11 8
  match op with
  | 0x20 => some (.vcsLd i rd ra imm)
  | 0x21 => some (.vcsLdW i rd ra imm)
  | 0x22 => ifZero vz (some (.vcsLdV i vd ra imm))
  | 0x23 => some (.vcsSt i ra imm rd)
  | 0x24 => some (.vcsStW i ra imm rd)
  | 0x25 => ifZero vz (some (.vcsStV i ra imm vd))
  | 0x26 => ifZero hz (some (.vcsIn i rd low ra))
  | 0x27 => ifZero (hz && vz) (some (.vcsInV i vd low ra))
  | 0x28 => ifZero hz (some (.vcsOut i low ra rd))
  | 0x29 => ifZero hz (some (.vcsNld i rd low ra))
  | 0x2A => ifZero (hz && vz) (some (.vcsNldV i vd low ra))
  | 0x2B => ifZero hz (some (.vcsNst i low ra rd))
  | 0x2C => ifZero (hz && vz) (some (.vcsNstV i low ra vd))
  | _ => none

/-- OP 0x2D and 0x2E: rd, ra and rb are zero. -/
def decodeEnd (i : Issue) (w : BitVec 32) (priv : Bool) : Option Instr :=
  ifZero (wordZero w 21 7) (match priv, wordBits w 6 0 with
    | false, 0x00 => some (.vcsEndf i)
    | false, 0x01 => some (.vcsHold i)
    | true, 0x00 => some (.vcsEret i)
    | true, 0x01 => some (.vcsWfi i)
    | true, 0x02 => some (.vcsFence i)
    | _, _ => none)

/-- OP 0x3B to 0x3E: Z selects movz. -/
def decodeMovz (i : Issue) (w : BitVec 32) (k : Fin 4) : Option Instr :=
  some (if w.getLsbD 16 then .vcsMovz i (wordG w 17) k (w.extractLsb' 0 16) else .vcsMovk i (wordG w 17) k (w.extractLsb' 0 16))

/-! ### The decoder -/

/-- The command of the instruction word `w` on an engine; `none` for each encoding of R65. (A profile that lacks the instruction, R103, is judged at
issue.) -/
def decodeVcs (e : Eng) (w : BitVec 32) : Option Instr :=
  let i : Issue := { eng := e, pr := wordP w 29, pn := w.getLsbD 28, word := w }
  let rd := wordG w 17
  let ra := wordG w 12
  let imm : BitVec 12 := w.extractLsb' 0 12
  ifZero (!(wordZero w 31 29 && w.getLsbD 28)) (match wordBits w 27 22 with
    | 0x00 => decodeInt i w
    | 0x01 => some (.vcsAddi i rd ra imm)
    | 0x02 => some (.vcsAndi i rd ra imm)
    | 0x03 => some (.vcsOri i rd ra imm)
    | 0x04 => some (.vcsXori i rd ra imm)
    | 0x05 => decodeShift i w
    | 0x06 => decodeMulDiv i w false
    | 0x07 => decodeMulDiv i w true
    | 0x08 => decodeCmp i w
    | 0x09 => decodeCmpi i w
    | 0x0A => decodePred i w
    | 0x0C => decodeFloat i w
    | 0x0D => decodeFused i w
    | 0x0E => decodeRoot i w
    | 0x0F => decodeFcmp i w
    | 0x10 => decodeLookup i w
    | 0x11 => decodeVector i w
    | 0x12 => ifZero (wordZero w 5 0) (some (.vcsVperm i (wordV w 18) (wordV w 14) (w.extractLsb' 6 8)))
    | 0x13 => decodeMove i w
    | 0x14 => decodeTransform i w
    | 0x15 => decodeSpecial i w
    | 0x18 => some (.vcsBr i (w.extractLsb' 0 22))
    | 0x19 => some (.vcsJl i rd (w.extractLsb' 0 17))
    | 0x1A => ifZero (wordZero w 21 17 && wordZero w 11 0) (some (.vcsJr i ra))
    | 0x2D => decodeEnd i w false
    | 0x2E => decodeEnd i w true
    | 0x3B => decodeMovz i w 0
    | 0x3C => decodeMovz i w 1
    | 0x3D => decodeMovz i w 2
    | 0x3E => decodeMovz i w 3
    | op => decodeMem i w op)

/-- The word of an instruction's command is one that the decoder refuses (R65), or spells exactly that command. -/
def Issue.spells (i : Issue) (c : Instr) : Bool :=
  decide (i.pr = wordP i.word 29) && decide (i.pn = i.word.getLsbD 28) && (decodeVcs i.eng i.word).all fun x => decide (x = c)

end Sys2Proof
end

