-- ==== Sys2Proof/Machine/Fields.lean ====
section
/-!
DEFINITION. Machine/Fields.lean: the names of every register field that the spec's register maps give (one constructor
`BLOCK_REGISTER_FIELD` each; a register with one unnamed field is `BLOCK_REGISTER`), and the value each takes at a reset of
its block (R473). A field of a register that the map repeats (leg n, comparator n, ...) is indexed by that number; a register
repeated twice (queue q of port p) is indexed by p * (number of q) + q.
-/
namespace Sys2Proof.Machine

/-- The register blocks of Table 1-8 (R21). -/
inductive Blk where
  | TIDE
  | TTB
  | CE
  | SE
  | PWM
  | LEG
  | CLINK
  | WCMP
  | NODE
  | ETH
  | BERTH
  | SDF
  | MTR
  | TALLY
  | MAN
  | SAF
  | TWIN
  | DDR
  | ECC
  | ADC
  | COOL
  | FM
  | CAP
  | CLK
  | EVT
  | PCNT
  | GWY
deriving DecidableEq, Repr

/-- Base address of a block's 16 MiB window (Table 1-8). -/
def Blk.base : Blk → Nat
  | .TIDE => 0x2100000000
  | .TTB => 0x2000000000
  | .CE => 0x2001000000
  | .SE => 0x2002000000
  | .PWM => 0x2005000000
  | .LEG => 0x2006000000
  | .CLINK => 0x2007000000
  | .WCMP => 0x2109000000
  | .NODE => 0x200A000000
  | .ETH => 0x2009000000
  | .BERTH => 0x2003000000
  | .SDF => 0x2008000000
  | .MTR => 0x2105000000
  | .TALLY => 0x2106000000
  | .MAN => 0x2107000000
  | .SAF => 0x2108000000
  | .TWIN => 0x200B000000
  | .DDR => 0x2004000000
  | .ECC => 0x2103000000
  | .ADC => 0x210A000000
  | .COOL => 0x2201000000
  | .FM => 0x2104000000
  | .CAP => 0x2200000000
  | .CLK => 0x2101000000
  | .EVT => 0x2102000000
  | .PCNT => 0x200C000000
  | .GWY => 0x200D000000

/-- Every block. -/
def allBlks : List Blk :=
  [.TIDE, .TTB, .CE, .SE, .PWM, .LEG, .CLINK, .WCMP, .NODE, .ETH, .BERTH, .SDF, .MTR, .TALLY, .MAN, .SAF, .TWIN, .DDR, .ECC, .ADC, .COOL, .FM, .CAP, .CLK, .EVT, .PCNT, .GWY]

/-- The fields of the register maps. -/
inductive Fld where
  | TIDE_PERIOD_PEND
  | TIDE_PERIOD_ACT
  | TIDE_OFFSET_PEND
  | TIDE_OFFSET_ACT
  | TIDE_CNTLO
  | TIDE_CNTHI
  | TIDE_HPIDX_IDX
  | TIDE_ALMLO
  | TIDE_ALMHI
  | TIDE_STAT_ALMEN
  | TIDE_STAT_ALM
  | TIDE_STAT_BND
  | TIDE_PTPS0
  | TIDE_PTPS1
  | TIDE_PTPNS
  | TTB_CTRL_CANCEL
  | TTB_CTRL_LOAD
  | TTB_ADDRLO
  | TTB_ADDRHI
  | TTB_ADMSTAT_BUSY
  | TTB_ADMSTAT_PEND
  | TTB_ADMSTAT_FRAME
  | TTB_ADMSTAT_ENGINE
  | TTB_ADMSTAT_CODE
  | TTB_ADMINFO_TASK
  | TTB_ADMINFO_EXCESS
  | TTB_ACTID
  | TTB_PENDID
  | TTB_ACTATLO
  | TTB_ACTATHI
  | TTB_MISS
  | TTB_MISSLIM_LIMIT
  | TTB_CLRTSK
  | TTB_PEAK_FRAME
  | TTB_PEAK_CYCLES
  | TTB_TSK_CONSEC
  | TTB_TSK_TOTAL
  | TTB_USE_OVR
  | TTB_USE_MAXUSE
  | TTB_USE_LAST
  | CE_STAT_STATE
  | CE_STAT_TASK
  | CE_STAT_PC
  | CE_TRAP_VALID
  | CE_TRAP_TASK
  | CE_TRAP_COUNT
  | CE_TRAP_CAUSE
  | CE_TRAPPC
  | CE_TRAPVAL
  | CE_NFLT_VALID
  | CE_NFLT_DAMAGED
  | CE_NFLT_TASK
  | CE_NFLT_NODE
  | CE_NFCNT
  | CE_HOLDCNT
  | CE_ECC_DCOR
  | CE_ECC_ICOR
  | CE_CLR_ECC
  | CE_CLR_HOLD
  | CE_CLR_NFCNT
  | CE_DBG_HALTED
  | CE_DBG_STEP
  | CE_DBG_HALT
  | SE_STAT_STATE
  | SE_STAT_LSERR
  | SE_STAT_TASK
  | SE_STAT_PC
  | SE_TRAP_VALID
  | SE_TRAP_TASK
  | SE_TRAP_COUNT
  | SE_TRAP_CAUSE
  | SE_TRAPPC
  | SE_TRAPVAL
  | SE_ECC_DCOR
  | SE_ECC_ICOR
  | SE_LSCMP_UNIT
  | SE_LSCMP_CYCLE
  | SE_CLR_ECC
  | PWM_CTRL_KILL
  | PWM_CTRL_ARM
  | PWM_STAT_DLLF
  | PWM_STAT_DLLLK
  | PWM_STAT_LEAD
  | PWM_STAT_DRIVE
  | PWM_GOKLO
  | PWM_GOKHI
  | PWM_FLT
  | PWM_OUTLO
  | PWM_OUTHI
  | LEG_CFG_ONCHK
  | LEG_CFG_CMODE
  | LEG_CFG_UPD
  | LEG_CFG_CSRC
  | LEG_CFG_MINPW
  | LEG_CFG_GFLT
  | LEG_CFG_TMO
  | LEG_PH
  | LEG_FLOOR_TRIPM
  | LEG_FLOOR_FLOOR
  | LEG_STAT_STATE
  | LEG_STAT_PEND
  | LEG_STAT_TRIPA
  | LEG_STAT_BADW
  | LEG_STAT_OVWR
  | LEG_STAT_FLT
  | LEG_STAT_UNEXP
  | LEG_STAT_ON
  | LEG_STAT_TMO
  | LEG_STAT_TRIPL
  | LEG_STAT_SIDE
  | LEG_ACTA
  | LEG_ACTB
  | LEG_ACTD_DTF
  | LEG_ACTD_DTR
  | LEG_ACTP
  | LEG_ACTC_MODE
  | LEG_ACTC_RUN
  | LEG_CNT_FAULTS
  | LEG_CNT_OVERWR
  | LEG_SEAL_SET
  | CLINK_CTRL_UNBLK
  | CLINK_CTRL_BLOCK
  | CLINK_CTRL_RUN
  | CLINK_CFG_HOLD
  | CLINK_CFG_NCELL
  | CLINK_APP_APPLY
  | CLINK_TRMSK
  | CLINK_STAT_CFGE
  | CLINK_STAT_BLKD
  | CLINK_STAT_FAIL
  | CLINK_STAT_RXLK
  | CLINK_STAT_RUNNING
  | CLINK_ERR_POS
  | CLINK_ERR_BAD
  | CLINK_ERR_LATE
  | CLINK_RTT
  | WCMP_CFG_PROT
  | WCMP_CFG_MODE
  | WCMP_CFG_SAMPK
  | WCMP_CFG_HFILT
  | WCMP_CFG_HYST
  | WCMP_CFG_PUST
  | WCMP_CFG_CHKK
  | WCMP_CFG_CHKEN
  | WCMP_CFG_WAKE
  | WCMP_THR_HI
  | WCMP_THR_LO
  | WCMP_THR2_HI2
  | WCMP_THR2_LO2
  | WCMP_BLK_BLANK
  | WCMP_BLK_LEGS
  | WCMP_RT1_H1
  | WCMP_RT1_H2
  | WCMP_RT1_RTA
  | WCMP_RT1_RTB
  | WCMP_RT1_LEGS
  | WCMP_RT2_LEGS
  | WCMP_STAT_PUH
  | WCMP_STAT_L2LAT
  | WCMP_STAT_CHKF
  | WCMP_STAT_THRE
  | WCMP_STAT_RBF
  | WCMP_STAT_L2
  | WCMP_STAT_ABOVE
  | WCMP_STAT_BELOW
  | WCMP_CHKCNT_SKIP
  | WCMP_CHKCNT_PASS
  | WCMP_TRIPW
  | WCMP_SEAL_SET
  | WCMP_RBCTL_BUSY
  | WCMP_RBCTL_REF
  | WCMP_RBCTL_START
  | WCMP_RBRES_DONE
  | WCMP_RBRES_FIRST
  | WCMP_RBRES_NFAIL
  | NODE_CTRL_BCEN
  | NODE_CTRL_RUN
  | NODE_CFG_TRANS
  | NODE_CFG_RETRY
  | NODE_CFG_LOSTR
  | NODE_CFG_BCK
  | NODE_CFG_RWIN
  | NODE_ROUND_MS
  | NODE_PROTO_UDPPORT
  | NODE_PROTO_ETYPE
  | NODE_PORTS_QUEUE
  | NODE_PORTS_ETH
  | NODE_STAT_RUNNING
  | NODE_STAT_CFGE
  | NODE_STAT_LDOWN
  | NODE_STAT_NUP
  | NODE_RNDLO
  | NODE_RNDHI
  | NODE_RNDFR
  | NODE_BCNODE
  | NODE_MCMACLO
  | NODE_MCMACHI
  | NODE_MCIP
  | NODE_BCVLAN_TAG
  | NODE_BCVLAN_PCP
  | NODE_BCVLAN_VID
  | NODE_ERRHDR
  | NODE_ERRCRC
  | NODE_ERRREC
  | NODE_DUP
  | NODE_LATE
  | NODE_RETRYCNT
  | NODE_CLR
  | NODE_LCFG_EN
  | NODE_LCFG_STATE
  | NODE_LCFG_TAG
  | NODE_LCFG_PORT
  | NODE_LCFG_PCP
  | NODE_LCFG_COUNT
  | NODE_LCFG_VID
  | NODE_LBASE_BASE
  | NODE_LMACLO
  | NODE_LMACHI
  | NODE_LIP
  | NODE_LRX
  | ETH_CTRL_MODE
  | ETH_CTRL_EN
  | ETH_STAT_RXERR
  | ETH_STAT_LCHG
  | ETH_STAT_ANDONE
  | ETH_STAT_LINK
  | ETH_MACLO
  | ETH_MACHI
  | ETH_IP
  | ETH_VLAN_TAGIN
  | ETH_VLAN_FILT
  | ETH_VLAN_PVID
  | ETH_VID_EN
  | ETH_VID_VID
  | ETH_QCFG_EN
  | ETH_QCFG_TAG
  | ETH_QCFG_PCP
  | ETH_QCFG_KIND
  | ETH_QCFG_VID
  | ETH_QMAT_VALUE
  | ETH_TXFR
  | ETH_RXFR
  | ETH_RXERR
  | ETH_DROP
  | ETH_TSSTAT_OVF
  | ETH_TSSTAT_COUNT
  | ETH_TSDAT0
  | ETH_TSDAT1
  | ETH_TSDAT2_DIR
  | ETH_TSDAT2_TYPE
  | ETH_TSDAT2_SEQ
  | ETH_PTPCTL_LOCKED
  | ETH_PTPCTL_LOAD
  | ETH_PTPCTL_EN
  | ETH_PTPSEC0
  | ETH_PTPSEC1
  | ETH_PTPNS
  | ETH_PTPINC
  | ETH_PTPADJ
  | BERTH_CFG_FHEN
  | BERTH_CFG_CHEN
  | BERTH_CFG_HOR
  | BERTH_CFG_NTSIZE
  | BERTH_NTBASE_BASE
  | BERTH_HOFF_HOFFF
  | BERTH_HOFF_HOFFC
  | BERTH_STAT_CFGE
  | BERTH_STAT_LATE
  | BERTH_STAT_DMG
  | BERTH_STAT_REBUSY
  | BERTH_STAT_RESTAT
  | BERTH_STAT_USED
  | BERTH_ADM_KIND
  | BERTH_ADM_TASK
  | BERTH_ADM_EXCESS
  | BERTH_HOLDCLO
  | BERTH_HOLDCHI
  | BERTH_HOLDNLO
  | BERTH_HOLDNHI
  | BERTH_REINIT_GO
  | BERTH_REINIT_NODE
  | BERTH_PEAK_DEMAND
  | BERTH_PEAK_USEDMAX
  | BERTH_FETCHCNT
  | BERTH_WBCNT
  | BERTH_LATECNT
  | BERTH_DMGCNT
  | BERTH_HAPPCNT
  | BERTH_CLR
  | BERTH_TWIN_W
  | BERTH_TWACT_W
  | SDF_CFG_EN
  | SDF_CFG_OSR
  | SDF_CFG_FRZTOL
  | SDF_CFG_FRZN
  | SDF_GAIN
  | SDF_OFF
  | SDF_STAT_RUN
  | SDF_STAT_FROZEN
  | SDF_STAT_LOSS
  | SDF_STAT_FRZS
  | SDF_STAT_LOSSS
  | SDF_STAT_SEQ
  | SDF_RAW
  | MTR_CTRL_LOAD
  | MTR_STAT_CFGE
  | MTR_STAT_SEALED
  | MTR_STAT_ITEM
  | MTR_STAT_CODE
  | MTR_DGST
  | MTR_MCLK_EN
  | MTR_MCLK_DIV
  | MTR_SDCFG_DLY
  | MTR_SDCFG_CLK
  | MTR_SDLOSS0
  | MTR_SDLOSS1
  | MTR_MPCFG_EN
  | MTR_MPCFG_FNOM
  | MTR_MPCFG_ZCSRC
  | MTR_MPCFG_ZCHYS
  | MTR_MPVNOM
  | MTR_MPINOM
  | MTR_MPSTAT_VALID
  | MTR_MPSTAT_ZCTO
  | MTR_MPSTAT_TSTALE
  | MTR_MPSTAT_LOSS
  | MTR_MPSTAT_CLIP
  | MTR_MPSTAT_FIRST
  | MTR_MPSTAT_ANGV
  | MTR_MPSTAT_ZCTOS
  | MTR_MPSTAT_LOSSS
  | MTR_FREQ
  | MTR_WCNT
  | MTR_VRMS
  | MTR_IRMS
  | MTR_P
  | MTR_Q
  | MTR_S
  | MTR_PF
  | MTR_ANGVV_CA
  | MTR_ANGVV_BA
  | MTR_ANGVI
  | MTR_CHSEL_EN
  | MTR_CHSEL_SD
  | MTR_CHK
  | MTR_CHG
  | MTR_CHD
  | MTR_CHTS_NPTS
  | MTR_CHTS_TSRC
  | MTR_CHTA
  | MTR_CHTB
  | MTR_CHTMP
  | MTR_CHST_TRANGE
  | MTR_CHST_TSTALE
  | MTR_CTT
  | MTR_CTG
  | MTR_CTD
  | TALLY_CFG_IMIN
  | TALLY_CFG_CP
  | TALLY_STAT_CBUSY
  | TALLY_STAT_LCOK
  | TALLY_STAT_GAP
  | TALLY_STAT_CFAIL
  | TALLY_STAT_SLOT
  | TALLY_CSEQLO
  | TALLY_CSEQHI
  | TALLY_CCTRL_COMMIT
  | TALLY_SEL
  | TALLY_PUCFG_MODE
  | TALLY_PUCFG_DEB
  | TALLY_PUCFG_PMAX
  | TALLY_PUWT
  | TALLY_PUUN
  | TALLY_PUST_OVR
  | TALLY_PUST_BADQ
  | TALLY_PUST_LEVEL
  | TALLY_TLW0
  | TALLY_TLW1
  | TALLY_TLW2
  | TALLY_TLFRAC
  | TALLY_CTLW0
  | TALLY_CTLW1
  | TALLY_CTLW2
  | TALLY_CTLFRAC
  | MAN_CTRL_ACK
  | MAN_CTRL_BREAK
  | MAN_CTRL_SEAL
  | MAN_STAT_SEALED
  | MAN_STAT_JMP
  | MAN_STAT_ACKE
  | MAN_STAT_SEALE
  | MAN_STAT_SCODE
  | MAN_STAT_RSVLOW
  | MAN_STAT_OVF
  | MAN_STAT_BUSY
  | MAN_SEALCHK
  | MAN_SBCNT
  | MAN_NONCELO
  | MAN_NONCEHI
  | MAN_HEADLO
  | MAN_HEADHI
  | MAN_LANDLO
  | MAN_LANDHI
  | MAN_ACKLO
  | MAN_ACKHI
  | MAN_ACKDG0
  | MAN_ACKDG1
  | MAN_FREE
  | MAN_PENDN_COAL
  | MAN_PENDN_PEND
  | MAN_RDSEQLO
  | MAN_RDSEQHI
  | MAN_RDSTAT_VALID
  | MAN_RDSTAT_LEN
  | MAN_LOSTCNT
  | MAN_GAPCNT
  | MAN_CMD
  | MAN_RDWIN
  | SAF_STAT_LOCKH
  | SAF_STAT_LOCKP
  | SAF_STAT_INH
  | SAF_STAT_CFGOK
  | SAF_STAT_SRST
  | SAF_STAT_ON
  | SAF_FLTH_VALID
  | SAF_FLTH_CODE
  | SAF_FLTH_ITEM
  | SAF_FLTP_VALID
  | SAF_FLTP_CODE
  | SAF_FLTP_ITEM
  | SAF_LATCH
  | SAF_RSTAT_DONE
  | SAF_RSTAT_CODE
  | SAF_CFG_AREARM
  | SAF_CFG_SFAREC
  | SAF_CFG_SFDDLY
  | SAF_SFMSK_MSKD
  | SAF_SFMSK_MSKC
  | SAF_SFMSK_MSKB
  | SAF_SFMSK_MSKA
  | SAF_SWS
  | SAF_SWSEXP
  | SAF_SEAL_SET
  | SAF_SILVL_P
  | SAF_SILVL_H
  | SAF_CFGDG
  | SAF_SICFG_EN
  | SAF_SICFG_PAIR
  | SAF_SICFG_FUNC
  | SAF_SICFG_DISC
  | SAF_SICFG_FILT
  | SAF_SOCFG_EN
  | SAF_SOCFG_TEN
  | SAF_SOCFG_FBEN
  | SAF_SOCFG_TPER
  | SAF_SOCFG_TPW
  | SAF_SOCFG_FBKT
  | SAF_SOCFG_FARE
  | SAF_SOSTAT_SWP
  | SAF_SOSTAT_SWH
  | SAF_SOSTAT_FBK
  | SAF_SOSTAT_REQ
  | SAF_SOSTAT_TRUN
  | SAF_SOSTAT_OSR
  | SAF_SOCNT_TDISC
  | SAF_SOCNT_TSKIP
  | SAF_HGCFG_EN
  | SAF_HGCFG_CMPA
  | SAF_HGCFG_CMPB
  | SAF_HGCFG_CMPC
  | SAF_HGTIM_HOVN
  | SAF_HGTIM_HFN
  | SAF_HGTIM_HUVT
  | SAF_HGFRQ_HFMAX
  | SAF_HGFRQ_HFMIN
  | SAF_PGCFG_EN
  | SAF_PGCFG_ANA
  | SAF_PGCFG_ANB
  | SAF_PGCFG_ANC
  | SAF_PGV_VHI
  | SAF_PGV_VLO
  | SAF_PGF_FHI
  | SAF_PGF_FLO
  | SAF_PGT_TV
  | SAF_PGT_TF
  | SAF_PGSC
  | SAF_MSGCFG_ETYPE
  | SAF_MSGCFG_MSGTX
  | SAF_MSGCFG_MSGTO
  | SAF_MYID
  | SAF_MSRC
  | SAF_MSFN_EN
  | SAF_MSFN_FN
  | SAF_MSCNT_ONE
  | SAF_MSCNT_TMO
  | TWIN_CTRL_DFCLR
  | TWIN_CTRL_LEAVE
  | TWIN_CTRL_HANDOVER
  | TWIN_CTRL_JOIN
  | TWIN_CFG_AUTORS
  | TWIN_CFG_FILLMAX
  | TWIN_CFG_JOINT
  | TWIN_CFG_CVTO
  | TWIN_STAT_STATE
  | TWIN_STAT_PEER
  | TWIN_STAT_SIDE
  | TWIN_STAT_INST
  | TWIN_STAT_LN1
  | TWIN_STAT_LN0
  | TWIN_STAT_TWROK
  | TWIN_STAT_ALGN
  | TWIN_STAT_CROSS
  | TWIN_STAT_DFLT
  | TWIN_STAT_EXP
  | TWIN_STAT_TKOV
  | TWIN_STAT_DIVS
  | TWIN_STAT_HBM
  | TWIN_STAT_LANEF
  | TWIN_STAT_TWRF
  | TWIN_STAT_RSF
  | TWIN_ALIGN_PHERR
  | TWIN_ALIGN_CDLY
  | TWIN_CONFLO
  | TWIN_CONFHI
  | TWIN_DIVLO
  | TWIN_DIVHI
  | TWIN_DGSTLO
  | TWIN_DGSTHI
  | TWIN_PDGSTLO
  | TWIN_PDGSTHI
  | TWIN_RSSTAT_PHASE
  | TWIN_RSSTAT_CODE
  | TWIN_RSSTAT_PCT
  | TWIN_MIRB_LIMIT
  | TWIN_MIRB_USED
  | TWIN_EXPO_OPEN
  | TWIN_EXPO_MS
  | TWIN_CNT0_TAKEOVERS
  | TWIN_CNT0_HANDOVERS
  | TWIN_CNT1_DIVERGENCES
  | TWIN_CNT1_LANEFAILS
  | TWIN_CNT2_MISSES
  | TWIN_CNT2_RESTARTS
  | TWIN_CLR
  | DDR_CTRL_RETRAIN
  | DDR_CTRL_FILLABT
  | DDR_CTRL_FILLGO
  | DDR_CFG_RANKS
  | DDR_CFG_DENS
  | DDR_STAT_STATE
  | DDR_STAT_UNREL
  | DDR_STAT_DEVF
  | DDR_STAT_FBUSY
  | DDR_STAT_FSTAT
  | DDR_TIM_CL
  | DDR_TIM_CWL
  | DDR_TIM_TRCD
  | DDR_TIM_TRP
  | DDR_SCRUB_EN
  | DDR_SCRUB_HOURS
  | DDR_SCRPOSLO
  | DDR_SCRPOSHI
  | DDR_FILLADLO
  | DDR_FILLADHI
  | DDR_FILLLEN
  | DDR_FILLPATLO
  | DDR_FILLPATHI
  | DDR_HALT
  | ECC_STAT_STF
  | ECC_STAT_STFID
  | ECC_STAT_POVF
  | ECC_STAT_SCRUE
  | ECC_STAT_UE
  | ECC_STAT_CE
  | ECC_CTRL_CLR
  | ECC_CECNT
  | ECC_UECNT
  | ECC_FADLO
  | ECC_FADHI_POISON
  | ECC_FADHI_MEM
  | ECC_FADHI_ADDR
  | ECC_PCNT
  | ECC_PRDIDX
  | ECC_PRDLO
  | ECC_PRDHI
  | ECC_SRCFG_PERIOD
  | ECC_LANE_UE
  | ECC_LANE_CE
  | ECC_SPARE_ROWS
  | ECC_SPARE_COLS
  | ECC_INJ_ARM
  | ECC_INJ_MASK
  | ADC_CFG_EN
  | ADC_CFG_DIFF
  | ADC_CFG_ALIGN
  | ADC_CFG_PULL
  | ADC_RES
  | ADC_STAT_OPEN
  | ADC_STAT_OPENS
  | ADC_STAT_SEQ
  | ADC_ADCFG_SYNC
  | ADC_ADCFG_SCANK
  | ADC_ADCFG_INT
  | ADC_ADSTAT_BUSY
  | ADC_ADSTAT_OVR
  | ADC_ADSTAT_RBK
  | ADC_ADSTAT_NCONV
  | ADC_ADSTAT_SCANS
  | ADC_INTR_INPUT
  | ADC_INTR_CODE
  | ADC_DMACFG_EN
  | ADC_DMACFG_MODE
  | ADC_DMACFG_ROWK
  | ADC_DMASELLO
  | ADC_DMASELHI
  | ADC_DMABASE_BASE
  | ADC_DMALEN_LEN
  | ADC_DMAHEAD_HEAD
  | ADC_DMATAIL_TAIL
  | ADC_DMASTAT_CFGE
  | ADC_DMASTAT_FULL
  | ADC_DMASTAT_DROPS
  | ADC_DMASTAT_DROPCNT
  | COOL_CTRL_DIAG
  | COOL_CTRL_FCLR
  | COOL_CTRL_DIR
  | COOL_CTRL_RUN
  | COOL_CFG_HFILT
  | COOL_CFG_VDSTH
  | COOL_CFG_MINT
  | COOL_CFG_PER
  | COOL_DUTY
  | COOL_FLOW_FLOWT
  | COOL_FLOW_TMAX
  | COOL_START_STARTT
  | COOL_START_FARE
  | COOL_STAT_STATE
  | COOL_STAT_FLOW
  | COOL_STAT_DBUSY
  | COOL_STAT_DIAGOK
  | COOL_STAT_BSREF
  | COOL_STAT_FSW
  | COOL_STAT_GTO
  | COOL_STAT_VDS
  | COOL_STAT_STALL
  | COOL_STAT_HALLE
  | COOL_STAT_BSUV
  | COOL_STAT_DRVUV
  | COOL_STAT_FARE
  | COOL_STAT_DIAGF
  | COOL_SPD_HALL
  | COOL_SPD_T6
  | COOL_DIAGR_M3
  | COOL_DIAGR_M2
  | COOL_DIAGR_M1
  | COOL_VBUS
  | COOL_CNT_REF
  | COOL_CNT_FLT
  | FM_STAT_BOOTF
  | FM_STAT_BOOTB
  | FM_STAT_TRIES
  | FM_STAT_CDREF
  | FM_RSTCAUSE_KIND
  | FM_WDTCFG_EN
  | FM_WDTCFG_PER
  | FM_WDTKICK
  | FM_CDCTL_HOLD
  | FM_CDCTL_AUTOWAKE
  | FM_CDCTL_WAKEP
  | FM_CALLO
  | FM_CALHI
  | FM_CALSETLO
  | FM_CALSETHI
  | FM_CALCTL_SET
  | FM_CALTRIM
  | FM_CALSTAT_CALV
  | FM_CALSTAT_DISC
  | FM_CALSTAT_END
  | FM_CALSTAT_STEP
  | FM_SEN_VALID
  | FM_SEN_LOAL
  | FM_SEN_HIAL
  | FM_SEN_VALUE
  | FM_SLIM_HI
  | FM_SLIM_LO
  | FM_LOGHEAD
  | FM_LOGIDX
  | FM_LOGLOST
  | FM_LOGWSRC_LVL
  | FM_LOGWSRC_SRC
  | FM_LOGWD0
  | FM_LOGWD1
  | FM_LOGWCTL_GO
  | FM_HQLO
  | FM_HQHI
  | FM_HQCTL_PUSH
  | FM_HQCTL_Q
  | FM_HQSTAT_STATUS
  | FM_HQSTAT_SEQ
  | FM_HQLVL
  | FM_UPDCTL_CONFIRM
  | FM_UPDCTL_ACT
  | FM_UPDCTL_VERIFY
  | FM_UPDCFG_BANK
  | FM_UPDCFG_CLS
  | FM_UPDSTAT_BUSY
  | FM_UPDSTAT_PEND
  | FM_UPDSTAT_CODE
  | FM_ACTSEL
  | FM_ARIDX_CLS
  | FM_ARIDX_CTR
  | FM_ARVAL
  | FM_XSCMD
  | FM_ATTCTL_GO
  | FM_ATTSTAT_DONE
  | FM_ATTSTAT_BUSY
  | FM_ATTNONCE
  | FM_CKPCFG_EN
  | FM_CKPCFG_HOUR
  | FM_CKPCFG_MIN
  | FM_CKPSTAT_BUSY
  | FM_CKPSTAT_SLOT
  | FM_CKPSTAT_COUNT
  | FM_KEYDG
  | FM_SERLO
  | FM_SERHI
  | FM_LTPAGE
  | FM_ATTWIN
  | FM_CERTWIN
  | FM_LTWIN
  | FM_LOGWIN
  | CAP_CTRL_HTEST
  | CAP_STAT_VINV
  | CAP_STAT_ARMED
  | CAP_STAT_PFW
  | CAP_STAT_HUPRDY
  | CAP_STAT_HUPLOW
  | CAP_STAT_HBUSY
  | CAP_STAT_OVB
  | CAP_STAT_VBATL
  | CAP_STAT_TSD
  | CAP_PFW_HYS
  | CAP_PFW_LEVEL
  | CAP_HUP_EN
  | CAP_HUP_FARE
  | CAP_HUP_VSET
  | CAP_HUPC_C
  | CAP_HUPC_E
  | CAP_HUPV
  | CAP_BUDGET_BASE
  | CAP_BUDGET_FARES
  | CAP_COMMIT_PEAK
  | CAP_COMMIT_NOW
  | CAP_REQ_REQ
  | CAP_REQ_FARES
  | CAP_OUTEN
  | CAP_OUTSTAT_OC
  | CAP_OUTSTAT_PG
  | CAP_PINT
  | CAP_CNT_WAITED
  | CAP_CNT_OVB
  | CAP_CLR
  | CAP_CLS_PEND
  | CAP_CLS_HELD
  | CAP_CLS_BLOCK
  | CAP_CLS_FARES
  | CAP_CLFARE
  | CLK_CFG_PRE
  | CLK_STAT_LOCK
  | CLK_STAT_PHFIX
  | CLK_STAT_HOLD
  | CLK_STAT_REFL
  | CLK_STAT_LOLS
  | CLK_STAT_CKSEL
  | CLK_NDIV
  | CLK_SLIP
  | CLK_LOCKCNT
  | CLK_COUT_EN
  | CLK_COUT_SRC
  | CLK_COUT_DIV
  | EVT_RT_PEND
  | EVT_RT_OVR
  | EVT_RT_MAN
  | EVT_RT_SAFP
  | EVT_RT_LVL
  | EVT_RT_FM
  | EVT_RT_LOG
  | EVT_RT_LEVEL
  | EVT_NEXT_VALID
  | EVT_NEXT_LVL
  | EVT_NEXT_SRC
  | EVT_SWSET
  | EVT_PEND
  | EVT_CAPCFG_EN
  | EVT_CAPCFG_MODE
  | EVT_CAPCFG_SRC
  | EVT_CAPTLO
  | EVT_CAPTHI
  | EVT_CAPTICK_VALID
  | EVT_CAPTICK_TICK
  | EVT_CAPCNT
  | PCNT_CTRL_FRZ
  | PCNT_CTRL_EN
  | PCNT_OVFLO
  | PCNT_OVFHI
  | PCNT_CFG_EN
  | PCNT_CFG_CHAIN
  | PCNT_CFG_LVLM
  | PCNT_CFG_TFILT
  | PCNT_CFG_ENG
  | PCNT_CFG_TASK
  | PCNT_CFG_SRC
  | PCNT_CTLO
  | PCNT_CTHI
  | PCNT_TAGCFG_EN
  | PCNT_TAGCFG_ENG
  | PCNT_TAGCFG_K
  | PCNT_TAGSTAT_QUEUED
  | PCNT_TAGSTAT_DROP
  | PCNT_TAGRECA
  | PCNT_TAGRECB
  | PCNT_BWCFG_EN
  | PCNT_BWCFG_WIN
  | PCNT_BWLAST
  | PCNT_BWPEAK
  | GWY_BENCH_ON
  | GWY_BENCH_STRAP
  | GWY_BENCH_REF
  | GWY_BENCH_EXIT
  | GWY_BENCH_ENTER
  | GWY_STAT_JREF
  | GWY_STAT_ASEAL
  | GWY_DSEL_EN
  | GWY_DSEL_SEL
  | GWY_ASEL_EN
  | GWY_ASEL_SEL
  | GWY_ADAC
deriving DecidableEq, Repr

/-- The block whose map gives the field. -/
def Fld.blk (f : Fld) : Blk :=
  let n := f.ctorIdx
  if n < 15 then .TIDE
  else if n < 40 then .TTB
  else if n < 63 then .CE
  else if n < 78 then .SE
  else if n < 89 then .PWM
  else if n < 120 then .LEG
  else if n < 136 then .CLINK
  else if n < 175 then .WCMP
  else if n < 220 then .NODE
  else if n < 259 then .ETH
  else if n < 291 then .BERTH
  else if n < 304 then .SDF
  else if n < 357 then .MTR
  else if n < 384 then .TALLY
  else if n < 418 then .MAN
  else if n < 495 then .SAF
  else if n < 544 then .TWIN
  else if n < 568 then .DDR
  else if n < 592 then .ECC
  else if n < 623 then .ADC
  else if n < 658 then .COOL
  else if n < 731 then .FM
  else if n < 767 then .CAP
  else if n < 780 then .CLK
  else if n < 801 then .EVT
  else if n < 825 then .PCNT
  else .GWY

/-- The reset value of field `f` of register number `i` (the Reset columns of the maps; a field whose map gives none resets
to zero, DESIGN CHOICE, log entry 3). -/
def Fld.resetValue (f : Fld) (i : Nat) : Nat :=
  match f with
  | .TIDE_PERIOD_ACT => 4000
  | .TIDE_OFFSET_ACT => 200
  | .TTB_MISSLIM_LIMIT => 3
  | .LEG_CFG_CSRC => i
  | .LEG_CFG_GFLT => 3
  | .LEG_CFG_TMO => 400
  | .LEG_FLOOR_FLOOR => 400
  | .CLINK_CFG_HOLD => 3
  | .CLINK_CFG_NCELL => 48
  | .WCMP_CFG_HFILT => 8
  | .WCMP_CFG_CHKK => 10
  | .WCMP_THR_HI => 0x3FF
  | .WCMP_THR2_HI2 => 0x3FF
  | .WCMP_STAT_PUH => 1
  | .NODE_CFG_RETRY => 1
  | .NODE_CFG_LOSTR => 3
  | .NODE_CFG_BCK => 8
  | .NODE_CFG_RWIN => 20
  | .NODE_ROUND_MS => 1000
  | .NODE_PROTO_UDPPORT => 47210
  | .NODE_PROTO_ETYPE => 0x88B5
  | .NODE_PORTS_QUEUE => 6
  | .NODE_PORTS_ETH => 3
  | .NODE_BCNODE => 262080
  | .NODE_LCFG_COUNT => 1024
  | .ETH_CTRL_MODE => 1
  | .ETH_VLAN_PVID => 1
  | .ETH_PTPINC => 0x28000000
  | .BERTH_CFG_FHEN => 1
  | .BERTH_CFG_CHEN => 1
  | .BERTH_CFG_HOR => 64
  | .BERTH_CFG_NTSIZE => 64
  | .BERTH_HOFF_HOFFF => 0x40
  | .BERTH_HOLDCLO => 0x7FC00000
  | .BERTH_HOLDCHI => 0x7FC00000
  | .BERTH_HOLDNLO => 0x7FC00000
  | .BERTH_HOLDNHI => 0x7FC00000
  | .SDF_CFG_OSR => 16
  | .SDF_CFG_FRZN => 1024
  | .SDF_GAIN => 0x3F800000
  | .MTR_MCLK_DIV => 10
  | .MTR_SDCFG_CLK => 7
  | .MTR_MPCFG_ZCHYS => 50
  | .MTR_CHG => 0x3F800000
  | .MTR_CHTS_NPTS => 2
  | .MTR_CHTS_TSRC => 0x7F
  | .TALLY_CFG_IMIN => 3
  | .TALLY_CFG_CP => 10
  | .TALLY_SEL => if i < 4 then 0xFF000000 else 0xFFFFFFFF
  | .TALLY_PUCFG_PMAX => 20000
  | .TALLY_PUWT => 0x3F800000
  | .SAF_STAT_LOCKH => 1
  | .SAF_STAT_LOCKP => 1
  | .SAF_STAT_INH => 1
  | .SAF_LATCH => 4
  | .SAF_CFG_SFAREC => 300
  | .SAF_SICFG_DISC => 100
  | .SAF_SICFG_FILT => 250
  | .SAF_SOCFG_TEN => 1
  | .SAF_SOCFG_FBEN => 1
  | .SAF_SOCFG_TPER => 10
  | .SAF_SOCFG_TPW => 1
  | .SAF_SOCFG_FBKT => 100
  | .SAF_SOCFG_FARE => 20
  | .SAF_HGTIM_HOVN => 3
  | .SAF_HGTIM_HFN => 10
  | .SAF_HGTIM_HUVT => 2200
  | .SAF_HGFRQ_HFMAX => 22222
  | .SAF_HGFRQ_HFMIN => 18182
  | .SAF_PGV_VHI => 1200
  | .SAF_PGF_FHI => 5500
  | .SAF_PGF_FLO => 4500
  | .SAF_PGT_TV => 2200
  | .SAF_PGT_TF => 500
  | .SAF_MSGCFG_ETYPE => 0x88B6
  | .SAF_MSGCFG_MSGTX => 10
  | .SAF_MSGCFG_MSGTO => 50
  | .TWIN_CFG_AUTORS => 1
  | .TWIN_CFG_FILLMAX => 48
  | .TWIN_CFG_JOINT => 2
  | .TWIN_CFG_CVTO => 10
  | .DDR_CFG_DENS => 1
  | .DDR_TIM_CL => 22
  | .DDR_TIM_CWL => 16
  | .DDR_TIM_TRCD => 22
  | .DDR_TIM_TRP => 22
  | .DDR_SCRUB_EN => 1
  | .DDR_SCRUB_HOURS => 24
  | .ECC_SRCFG_PERIOD => 1000
  | .ADC_DMALEN_LEN => 1
  | .COOL_CFG_HFILT => 2
  | .COOL_CFG_VDSTH => 8
  | .COOL_CFG_MINT => 4
  | .COOL_CFG_PER => 2500
  | .COOL_FLOW_FLOWT => 500
  | .COOL_FLOW_TMAX => 5000
  | .COOL_START_STARTT => 2000
  | .COOL_START_FARE => 40
  | .FM_RSTCAUSE_KIND => 1
  | .FM_WDTCFG_EN => 1
  | .FM_WDTCFG_PER => 100
  | .FM_CDCTL_AUTOWAKE => 1
  | .FM_SLIM_HI => if i < 12 ∨ i = 29 ∨ i = 30 then 0x7FFF else 0xFFFF
  | .FM_SLIM_LO => if i < 12 ∨ i = 29 ∨ i = 30 then 0x8000 else 0x0000
  | .FM_LOGWSRC_SRC => 0x0200
  | .FM_CKPCFG_EN => 1
  | .FM_CKPCFG_HOUR => 2
  | .CAP_PFW_HYS => 5
  | .CAP_PFW_LEVEL => 64
  | .CAP_HUP_EN => 1
  | .CAP_HUP_FARE => 8
  | .CAP_HUP_VSET => 80
  | .CAP_BUDGET_BASE => 80
  | .CAP_BUDGET_FARES => 320
  | .CAP_OUTEN => 14
  | .CAP_PINT => 200
  | .CAP_CLFARE => match i with | 10 => 60 | 11 => 20 | 12 => 16 | 13 => 14 | 14 | 15 => 10 | 16 | 17 | 18 | 19 => 2 | 20 => 4 | 21 => 8 | _ => 0
  | .CLK_COUT_DIV => 1
  | .EVT_RT_MAN => if i = 1 ∨ (312 ≤ i ∧ i ≤ 316) ∨ (394 ≤ i ∧ i ≤ 397) then 1 else 0
  | .EVT_RT_LVL => 15
  | .EVT_RT_LOG => 1
  | _ => 0

end Sys2Proof.Machine
end

