-- ==== Sys2Proof/Machine/RegMap.lean ====
section
/-!
DEFINITION. Machine/RegMap.lean: the register maps of the spec as one list of rows per block: where each field lies (offset of
its register, the strides of repeated registers, its lowest bit and width), its access code (Table 0-4), and what a write of
a value outside the field's range stores.
-/
namespace Sys2Proof.Machine

/-- The access codes of Table 0-4 (R5). -/
inductive Access where
  | rw | ro | wo | w1c | w1s | lk | fz
deriving DecidableEq, Repr

/-- What a write outside a field's range stores: the value itself, the nearest value in range, the old value, the old value for zero
and else the nearest (WCMP.CFGn.HFILT), or (FM.CALTRIM,
a signed half-word) the nearest signed value. -/
inductive Range where
  | any
  | near (lo hi : Nat)
  | keep (lo hi : Nat)
  | keepZero (lo hi : Nat)
  | signed16 (bound : Nat)
deriving DecidableEq, Repr

/-- One field's row. -/
structure FieldRow where
  fld : Fld
  off : Nat
  stride : Nat
  count : Nat
  stride2 : Nat
  count2 : Nat
  lsb : Nat
  width : Nat
  acc : Access
  range : Range
deriving DecidableEq, Repr

/-- Rows of the TIDE map. -/
def rowsTIDE0 : List FieldRow := [
  ⟨.TIDE_PERIOD_PEND, 0x0, 0, 1, 0, 1, 16, 16, .ro, .any⟩,
  ⟨.TIDE_PERIOD_ACT, 0x0, 0, 1, 0, 1, 0, 16, .ro, .any⟩,
  ⟨.TIDE_OFFSET_PEND, 0x4, 0, 1, 0, 1, 16, 16, .ro, .any⟩,
  ⟨.TIDE_OFFSET_ACT, 0x4, 0, 1, 0, 1, 0, 16, .ro, .any⟩,
  ⟨.TIDE_CNTLO, 0x8, 0, 1, 0, 1, 0, 32, .ro, .any⟩,
  ⟨.TIDE_CNTHI, 0xC, 0, 1, 0, 1, 0, 32, .ro, .any⟩,
  ⟨.TIDE_HPIDX_IDX, 0x10, 0, 1, 0, 1, 0, 12, .ro, .any⟩,
  ⟨.TIDE_ALMLO, 0x14, 0, 1, 0, 1, 0, 32, .rw, .any⟩,
  ⟨.TIDE_ALMHI, 0x18, 0, 1, 0, 1, 0, 32, .rw, .any⟩,
  ⟨.TIDE_STAT_ALMEN, 0x1C, 0, 1, 0, 1, 2, 1, .rw, .any⟩,
  ⟨.TIDE_STAT_ALM, 0x1C, 0, 1, 0, 1, 1, 1, .w1c, .any⟩,
  ⟨.TIDE_STAT_BND, 0x1C, 0, 1, 0, 1, 0, 1, .w1c, .any⟩,
  ⟨.TIDE_PTPS0, 0x20, 0, 1, 0, 1, 0, 32, .ro, .any⟩,
  ⟨.TIDE_PTPS1, 0x24, 0, 1, 0, 1, 0, 16, .ro, .any⟩,
  ⟨.TIDE_PTPNS, 0x28, 0, 1, 0, 1, 0, 30, .ro, .any⟩]

/-- The TIDE map. -/
def rowsTIDE : List FieldRow := rowsTIDE0

/-- Rows of the TTB map. -/
def rowsTTB0 : List FieldRow := [
  ⟨.TTB_CTRL_CANCEL, 0x0, 0, 1, 0, 1, 1, 1, .wo, .any⟩,
  ⟨.TTB_CTRL_LOAD, 0x0, 0, 1, 0, 1, 0, 1, .wo, .any⟩,
  ⟨.TTB_ADDRLO, 0x4, 0, 1, 0, 1, 6, 26, .rw, .any⟩,
  ⟨.TTB_ADDRHI, 0x8, 0, 1, 0, 1, 0, 8, .rw, .any⟩,
  ⟨.TTB_ADMSTAT_BUSY, 0xC, 0, 1, 0, 1, 31, 1, .ro, .any⟩,
  ⟨.TTB_ADMSTAT_PEND, 0xC, 0, 1, 0, 1, 30, 1, .ro, .any⟩,
  ⟨.TTB_ADMSTAT_FRAME, 0xC, 0, 1, 0, 1, 16, 12, .ro, .any⟩,
  ⟨.TTB_ADMSTAT_ENGINE, 0xC, 0, 1, 0, 1, 12, 4, .ro, .any⟩,
  ⟨.TTB_ADMSTAT_CODE, 0xC, 0, 1, 0, 1, 0, 8, .ro, .any⟩,
  ⟨.TTB_ADMINFO_TASK, 0x10, 0, 1, 0, 1, 23, 9, .ro, .any⟩,
  ⟨.TTB_ADMINFO_EXCESS, 0x10, 0, 1, 0, 1, 0, 17, .ro, .any⟩,
  ⟨.TTB_ACTID, 0x14, 0, 1, 0, 1, 0, 32, .ro, .any⟩,
  ⟨.TTB_PENDID, 0x18, 0, 1, 0, 1, 0, 32, .ro, .any⟩,
  ⟨.TTB_ACTATLO, 0x1C, 0, 1, 0, 1, 0, 32, .ro, .any⟩,
  ⟨.TTB_ACTATHI, 0x20, 0, 1, 0, 1, 0, 32, .ro, .any⟩,
  ⟨.TTB_MISS, 0x24, 0, 1, 0, 1, 0, 9, .w1c, .any⟩,
  ⟨.TTB_MISSLIM_LIMIT, 0x28, 0, 1, 0, 1, 0, 8, .rw, .near 1 255⟩,
  ⟨.TTB_CLRTSK, 0x2C, 0, 1, 0, 1, 0, 9, .wo, .any⟩,
  ⟨.TTB_PEAK_FRAME, 0x40, 4, 9, 0, 1, 17, 12, .ro, .any⟩,
  ⟨.TTB_PEAK_CYCLES, 0x40, 4, 9, 0, 1, 0, 17, .ro, .any⟩,
  ⟨.TTB_TSK_CONSEC, 0x1000, 4, 512, 0, 1, 24, 8, .ro, .any⟩,
  ⟨.TTB_TSK_TOTAL, 0x1000, 4, 512, 0, 1, 0, 16, .ro, .any⟩,
  ⟨.TTB_USE_OVR, 0x2000, 4, 512, 0, 1, 31, 1, .ro, .any⟩,
  ⟨.TTB_USE_MAXUSE, 0x2000, 4, 512, 0, 1, 17, 14, .ro, .any⟩,
  ⟨.TTB_USE_LAST, 0x2000, 4, 512, 0, 1, 0, 17, .ro, .any⟩]

/-- The TTB map. -/
def rowsTTB : List FieldRow := rowsTTB0

/-- Rows of the CE map. -/
def rowsCE0 : List FieldRow := [
  ⟨.CE_STAT_STATE, 0x0, 256, 8, 0, 1, 30, 2, .ro, .any⟩,
  ⟨.CE_STAT_TASK, 0x0, 256, 8, 0, 1, 16, 9, .ro, .any⟩,
  ⟨.CE_STAT_PC, 0x0, 256, 8, 0, 1, 0, 16, .ro, .any⟩,
  ⟨.CE_TRAP_VALID, 0x4, 256, 8, 0, 1, 31, 1, .w1c, .any⟩,
  ⟨.CE_TRAP_TASK, 0x4, 256, 8, 0, 1, 16, 9, .ro, .any⟩,
  ⟨.CE_TRAP_COUNT, 0x4, 256, 8, 0, 1, 8, 8, .ro, .any⟩,
  ⟨.CE_TRAP_CAUSE, 0x4, 256, 8, 0, 1, 0, 4, .ro, .any⟩,
  ⟨.CE_TRAPPC, 0x8, 256, 8, 0, 1, 0, 16, .ro, .any⟩,
  ⟨.CE_TRAPVAL, 0xC, 256, 8, 0, 1, 0, 32, .ro, .any⟩,
  ⟨.CE_NFLT_VALID, 0x10, 256, 8, 0, 1, 31, 1, .w1c, .any⟩,
  ⟨.CE_NFLT_DAMAGED, 0x10, 256, 8, 0, 1, 30, 1, .ro, .any⟩,
  ⟨.CE_NFLT_TASK, 0x10, 256, 8, 0, 1, 18, 9, .ro, .any⟩,
  ⟨.CE_NFLT_NODE, 0x10, 256, 8, 0, 1, 0, 18, .ro, .any⟩,
  ⟨.CE_NFCNT, 0x14, 256, 8, 0, 1, 0, 32, .ro, .any⟩,
  ⟨.CE_HOLDCNT, 0x18, 256, 8, 0, 1, 0, 32, .ro, .any⟩,
  ⟨.CE_ECC_DCOR, 0x1C, 256, 8, 0, 1, 16, 16, .ro, .any⟩,
  ⟨.CE_ECC_ICOR, 0x1C, 256, 8, 0, 1, 0, 16, .ro, .any⟩,
  ⟨.CE_CLR_ECC, 0x20, 256, 8, 0, 1, 2, 1, .wo, .any⟩,
  ⟨.CE_CLR_HOLD, 0x20, 256, 8, 0, 1, 1, 1, .wo, .any⟩,
  ⟨.CE_CLR_NFCNT, 0x20, 256, 8, 0, 1, 0, 1, .wo, .any⟩,
  ⟨.CE_DBG_HALTED, 0x24, 256, 8, 0, 1, 2, 1, .ro, .any⟩,
  ⟨.CE_DBG_STEP, 0x24, 256, 8, 0, 1, 1, 1, .wo, .any⟩,
  ⟨.CE_DBG_HALT, 0x24, 256, 8, 0, 1, 0, 1, .rw, .any⟩]

/-- The CE map. -/
def rowsCE : List FieldRow := rowsCE0

/-- Rows of the SE map. -/
def rowsSE0 : List FieldRow := [
  ⟨.SE_STAT_STATE, 0x0, 0, 1, 0, 1, 30, 2, .ro, .any⟩,
  ⟨.SE_STAT_LSERR, 0x0, 0, 1, 0, 1, 29, 1, .ro, .any⟩,
  ⟨.SE_STAT_TASK, 0x0, 0, 1, 0, 1, 16, 9, .ro, .any⟩,
  ⟨.SE_STAT_PC, 0x0, 0, 1, 0, 1, 0, 16, .ro, .any⟩,
  ⟨.SE_TRAP_VALID, 0x4, 0, 1, 0, 1, 31, 1, .w1c, .any⟩,
  ⟨.SE_TRAP_TASK, 0x4, 0, 1, 0, 1, 16, 9, .ro, .any⟩,
  ⟨.SE_TRAP_COUNT, 0x4, 0, 1, 0, 1, 8, 8, .ro, .any⟩,
  ⟨.SE_TRAP_CAUSE, 0x4, 0, 1, 0, 1, 0, 4, .ro, .any⟩,
  ⟨.SE_TRAPPC, 0x8, 0, 1, 0, 1, 0, 16, .ro, .any⟩,
  ⟨.SE_TRAPVAL, 0xC, 0, 1, 0, 1, 0, 32, .ro, .any⟩,
  ⟨.SE_ECC_DCOR, 0x10, 0, 1, 0, 1, 16, 16, .ro, .any⟩,
  ⟨.SE_ECC_ICOR, 0x10, 0, 1, 0, 1, 0, 16, .ro, .any⟩,
  ⟨.SE_LSCMP_UNIT, 0x14, 0, 1, 0, 1, 17, 4, .ro, .any⟩,
  ⟨.SE_LSCMP_CYCLE, 0x14, 0, 1, 0, 1, 0, 17, .ro, .any⟩,
  ⟨.SE_CLR_ECC, 0x18, 0, 1, 0, 1, 0, 1, .wo, .any⟩]

/-- The SE map. -/
def rowsSE : List FieldRow := rowsSE0

/-- Rows of the PWM map. -/
def rowsPWM0 : List FieldRow := [
  ⟨.PWM_CTRL_KILL, 0x0, 0, 1, 0, 1, 1, 1, .wo, .any⟩,
  ⟨.PWM_CTRL_ARM, 0x0, 0, 1, 0, 1, 0, 1, .rw, .any⟩,
  ⟨.PWM_STAT_DLLF, 0x4, 0, 1, 0, 1, 3, 1, .w1c, .any⟩,
  ⟨.PWM_STAT_DLLLK, 0x4, 0, 1, 0, 1, 2, 1, .ro, .any⟩,
  ⟨.PWM_STAT_LEAD, 0x4, 0, 1, 0, 1, 1, 1, .ro, .any⟩,
  ⟨.PWM_STAT_DRIVE, 0x4, 0, 1, 0, 1, 0, 1, .ro, .any⟩,
  ⟨.PWM_GOKLO, 0x8, 0, 1, 0, 1, 0, 32, .ro, .any⟩,
  ⟨.PWM_GOKHI, 0xC, 0, 1, 0, 1, 0, 16, .ro, .any⟩,
  ⟨.PWM_FLT, 0x10, 0, 1, 0, 1, 0, 24, .ro, .any⟩,
  ⟨.PWM_OUTLO, 0x14, 0, 1, 0, 1, 0, 32, .ro, .any⟩,
  ⟨.PWM_OUTHI, 0x18, 0, 1, 0, 1, 0, 16, .ro, .any⟩]

/-- The PWM map. -/
def rowsPWM : List FieldRow := rowsPWM0

/-- Rows of the LEG map. -/
def rowsLEG0 : List FieldRow := [
  ⟨.LEG_CFG_ONCHK, 0x0, 64, 24, 0, 1, 31, 1, .rw, .any⟩,
  ⟨.LEG_CFG_CMODE, 0x0, 64, 24, 0, 1, 30, 1, .rw, .any⟩,
  ⟨.LEG_CFG_UPD, 0x0, 64, 24, 0, 1, 29, 1, .rw, .any⟩,
  ⟨.LEG_CFG_CSRC, 0x0, 64, 24, 0, 1, 24, 5, .rw, .near 0 23⟩,
  ⟨.LEG_CFG_MINPW, 0x0, 64, 24, 0, 1, 16, 8, .rw, .any⟩,
  ⟨.LEG_CFG_GFLT, 0x0, 64, 24, 0, 1, 12, 4, .rw, .near 1 15⟩,
  ⟨.LEG_CFG_TMO, 0x0, 64, 24, 0, 1, 0, 11, .rw, .near 40 2000⟩,
  ⟨.LEG_PH, 0x4, 64, 24, 0, 1, 0, 24, .rw, .any⟩,
  ⟨.LEG_FLOOR_TRIPM, 0x8, 64, 24, 0, 1, 16, 1, .lk, .any⟩,
  ⟨.LEG_FLOOR_FLOOR, 0x8, 64, 24, 0, 1, 0, 12, .lk, .near 0 4000⟩,
  ⟨.LEG_STAT_STATE, 0xC, 64, 24, 0, 1, 30, 2, .ro, .any⟩,
  ⟨.LEG_STAT_PEND, 0xC, 64, 24, 0, 1, 29, 1, .ro, .any⟩,
  ⟨.LEG_STAT_TRIPA, 0xC, 64, 24, 0, 1, 28, 1, .ro, .any⟩,
  ⟨.LEG_STAT_BADW, 0xC, 64, 24, 0, 1, 15, 1, .w1c, .any⟩,
  ⟨.LEG_STAT_OVWR, 0xC, 64, 24, 0, 1, 14, 1, .w1c, .any⟩,
  ⟨.LEG_STAT_FLT, 0xC, 64, 24, 0, 1, 6, 1, .w1c, .any⟩,
  ⟨.LEG_STAT_UNEXP, 0xC, 64, 24, 0, 1, 5, 1, .w1c, .any⟩,
  ⟨.LEG_STAT_ON, 0xC, 64, 24, 0, 1, 4, 1, .w1c, .any⟩,
  ⟨.LEG_STAT_TMO, 0xC, 64, 24, 0, 1, 3, 1, .w1c, .any⟩,
  ⟨.LEG_STAT_TRIPL, 0xC, 64, 24, 0, 1, 2, 1, .w1c, .any⟩,
  ⟨.LEG_STAT_SIDE, 0xC, 64, 24, 0, 1, 1, 1, .ro, .any⟩,
  ⟨.LEG_ACTA, 0x10, 64, 24, 0, 1, 0, 29, .ro, .any⟩,
  ⟨.LEG_ACTB, 0x14, 64, 24, 0, 1, 0, 29, .ro, .any⟩,
  ⟨.LEG_ACTD_DTF, 0x18, 64, 24, 0, 1, 16, 12, .ro, .any⟩,
  ⟨.LEG_ACTD_DTR, 0x18, 64, 24, 0, 1, 0, 12, .ro, .any⟩]

/-- Rows of the LEG map. -/
def rowsLEG1 : List FieldRow := [
  ⟨.LEG_ACTP, 0x1C, 64, 24, 0, 1, 0, 24, .ro, .any⟩,
  ⟨.LEG_ACTC_MODE, 0x20, 64, 24, 0, 1, 1, 2, .ro, .any⟩,
  ⟨.LEG_ACTC_RUN, 0x20, 64, 24, 0, 1, 0, 1, .ro, .any⟩,
  ⟨.LEG_CNT_FAULTS, 0x24, 64, 24, 0, 1, 16, 16, .ro, .any⟩,
  ⟨.LEG_CNT_OVERWR, 0x24, 64, 24, 0, 1, 0, 16, .ro, .any⟩,
  ⟨.LEG_SEAL_SET, 0x600, 0, 1, 0, 1, 0, 1, .w1s, .any⟩]

/-- The LEG map. -/
def rowsLEG : List FieldRow := rowsLEG0 ++ rowsLEG1

/-- Rows of the CLINK map. -/
def rowsCLINK0 : List FieldRow := [
  ⟨.CLINK_CTRL_UNBLK, 0x0, 64, 32, 0, 1, 2, 1, .wo, .any⟩,
  ⟨.CLINK_CTRL_BLOCK, 0x0, 64, 32, 0, 1, 1, 1, .wo, .any⟩,
  ⟨.CLINK_CTRL_RUN, 0x0, 64, 32, 0, 1, 0, 1, .rw, .any⟩,
  ⟨.CLINK_CFG_HOLD, 0x4, 64, 32, 0, 1, 8, 8, .rw, .any⟩,
  ⟨.CLINK_CFG_NCELL, 0x4, 64, 32, 0, 1, 0, 6, .rw, .any⟩,
  ⟨.CLINK_APP_APPLY, 0x8, 64, 32, 0, 1, 0, 16, .rw, .any⟩,
  ⟨.CLINK_TRMSK, 0xC, 64, 32, 0, 1, 0, 24, .rw, .any⟩,
  ⟨.CLINK_STAT_CFGE, 0x10, 64, 32, 0, 1, 5, 1, .w1c, .any⟩,
  ⟨.CLINK_STAT_BLKD, 0x10, 64, 32, 0, 1, 4, 1, .ro, .any⟩,
  ⟨.CLINK_STAT_FAIL, 0x10, 64, 32, 0, 1, 3, 1, .w1c, .any⟩,
  ⟨.CLINK_STAT_RXLK, 0x10, 64, 32, 0, 1, 2, 1, .ro, .any⟩,
  ⟨.CLINK_STAT_RUNNING, 0x10, 64, 32, 0, 1, 0, 1, .ro, .any⟩,
  ⟨.CLINK_ERR_POS, 0x14, 64, 32, 0, 1, 24, 8, .ro, .any⟩,
  ⟨.CLINK_ERR_BAD, 0x14, 64, 32, 0, 1, 12, 12, .ro, .any⟩,
  ⟨.CLINK_ERR_LATE, 0x14, 64, 32, 0, 1, 0, 12, .ro, .any⟩,
  ⟨.CLINK_RTT, 0x18, 64, 32, 0, 1, 0, 16, .ro, .any⟩]

/-- The CLINK map. -/
def rowsCLINK : List FieldRow := rowsCLINK0

/-- Rows of the WCMP map. -/
def rowsWCMP0 : List FieldRow := [
  ⟨.WCMP_CFG_PROT, 0x0, 64, 32, 0, 1, 31, 1, .lk, .any⟩,
  ⟨.WCMP_CFG_MODE, 0x0, 64, 32, 0, 1, 29, 2, .lk, .keep 0 2⟩,
  ⟨.WCMP_CFG_SAMPK, 0x0, 64, 32, 0, 1, 25, 4, .lk, .near 0 12⟩,
  ⟨.WCMP_CFG_HFILT, 0x0, 64, 32, 0, 1, 20, 5, .lk, .keepZero 1 24⟩,
  ⟨.WCMP_CFG_HYST, 0x0, 64, 32, 0, 1, 15, 5, .lk, .any⟩,
  ⟨.WCMP_CFG_PUST, 0x0, 64, 32, 0, 1, 12, 3, .lk, .any⟩,
  ⟨.WCMP_CFG_CHKK, 0x0, 64, 32, 0, 1, 8, 4, .lk, .near 0 12⟩,
  ⟨.WCMP_CFG_CHKEN, 0x0, 64, 32, 0, 1, 7, 1, .lk, .any⟩,
  ⟨.WCMP_CFG_WAKE, 0x0, 64, 32, 0, 1, 4, 3, .rw, .any⟩,
  ⟨.WCMP_THR_HI, 0x4, 64, 32, 0, 1, 16, 10, .lk, .any⟩,
  ⟨.WCMP_THR_LO, 0x4, 64, 32, 0, 1, 0, 10, .lk, .any⟩,
  ⟨.WCMP_THR2_HI2, 0x8, 64, 32, 0, 1, 16, 10, .lk, .any⟩,
  ⟨.WCMP_THR2_LO2, 0x8, 64, 32, 0, 1, 0, 10, .lk, .any⟩,
  ⟨.WCMP_BLK_BLANK, 0xC, 64, 32, 0, 1, 24, 8, .lk, .near 0 250⟩,
  ⟨.WCMP_BLK_LEGS, 0xC, 64, 32, 0, 1, 0, 24, .lk, .any⟩,
  ⟨.WCMP_RT1_H1, 0x10, 64, 32, 0, 1, 31, 1, .lk, .any⟩,
  ⟨.WCMP_RT1_H2, 0x10, 64, 32, 0, 1, 30, 1, .lk, .any⟩,
  ⟨.WCMP_RT1_RTA, 0x10, 64, 32, 0, 1, 29, 1, .lk, .any⟩,
  ⟨.WCMP_RT1_RTB, 0x10, 64, 32, 0, 1, 28, 1, .lk, .any⟩,
  ⟨.WCMP_RT1_LEGS, 0x10, 64, 32, 0, 1, 0, 24, .lk, .any⟩,
  ⟨.WCMP_RT2_LEGS, 0x14, 64, 32, 0, 1, 0, 24, .lk, .any⟩,
  ⟨.WCMP_STAT_PUH, 0x18, 64, 32, 0, 1, 31, 1, .ro, .any⟩,
  ⟨.WCMP_STAT_L2LAT, 0x18, 64, 32, 0, 1, 30, 1, .w1c, .any⟩,
  ⟨.WCMP_STAT_CHKF, 0x18, 64, 32, 0, 1, 29, 1, .w1c, .any⟩,
  ⟨.WCMP_STAT_THRE, 0x18, 64, 32, 0, 1, 28, 1, .w1c, .any⟩]

/-- Rows of the WCMP map. -/
def rowsWCMP1 : List FieldRow := [
  ⟨.WCMP_STAT_RBF, 0x18, 64, 32, 0, 1, 27, 1, .w1c, .any⟩,
  ⟨.WCMP_STAT_L2, 0x18, 64, 32, 0, 1, 2, 1, .ro, .any⟩,
  ⟨.WCMP_STAT_ABOVE, 0x18, 64, 32, 0, 1, 1, 1, .ro, .any⟩,
  ⟨.WCMP_STAT_BELOW, 0x18, 64, 32, 0, 1, 0, 1, .ro, .any⟩,
  ⟨.WCMP_CHKCNT_SKIP, 0x1C, 64, 32, 0, 1, 16, 16, .ro, .any⟩,
  ⟨.WCMP_CHKCNT_PASS, 0x1C, 64, 32, 0, 1, 0, 16, .ro, .any⟩,
  ⟨.WCMP_TRIPW, 0xC00, 0, 1, 0, 1, 0, 24, .ro, .any⟩,
  ⟨.WCMP_SEAL_SET, 0xC04, 0, 1, 0, 1, 0, 1, .w1s, .any⟩,
  ⟨.WCMP_RBCTL_BUSY, 0xC08, 0, 1, 0, 1, 31, 1, .ro, .any⟩,
  ⟨.WCMP_RBCTL_REF, 0xC08, 0, 1, 0, 1, 30, 1, .ro, .any⟩,
  ⟨.WCMP_RBCTL_START, 0xC08, 0, 1, 0, 1, 0, 1, .wo, .any⟩,
  ⟨.WCMP_RBRES_DONE, 0xC0C, 0, 1, 0, 1, 31, 1, .ro, .any⟩,
  ⟨.WCMP_RBRES_FIRST, 0xC0C, 0, 1, 0, 1, 24, 7, .ro, .any⟩,
  ⟨.WCMP_RBRES_NFAIL, 0xC0C, 0, 1, 0, 1, 0, 8, .ro, .any⟩]

/-- The WCMP map. -/
def rowsWCMP : List FieldRow := rowsWCMP0 ++ rowsWCMP1

/-- Rows of the NODE map. -/
def rowsNODE0 : List FieldRow := [
  ⟨.NODE_CTRL_BCEN, 0x0, 0, 1, 0, 1, 1, 1, .rw, .any⟩,
  ⟨.NODE_CTRL_RUN, 0x0, 0, 1, 0, 1, 0, 1, .rw, .any⟩,
  ⟨.NODE_CFG_TRANS, 0x4, 0, 1, 0, 1, 30, 1, .rw, .any⟩,
  ⟨.NODE_CFG_RETRY, 0x4, 0, 1, 0, 1, 28, 2, .rw, .any⟩,
  ⟨.NODE_CFG_LOSTR, 0x4, 0, 1, 0, 1, 20, 8, .rw, .near 1 255⟩,
  ⟨.NODE_CFG_BCK, 0x4, 0, 1, 0, 1, 16, 4, .rw, .near 0 12⟩,
  ⟨.NODE_CFG_RWIN, 0x4, 0, 1, 0, 1, 0, 8, .rw, .near 1 200⟩,
  ⟨.NODE_ROUND_MS, 0x8, 0, 1, 0, 1, 0, 16, .rw, .near 250 60000⟩,
  ⟨.NODE_PROTO_UDPPORT, 0xC, 0, 1, 0, 1, 16, 16, .rw, .any⟩,
  ⟨.NODE_PROTO_ETYPE, 0xC, 0, 1, 0, 1, 0, 16, .rw, .any⟩,
  ⟨.NODE_PORTS_QUEUE, 0x10, 0, 1, 0, 1, 8, 3, .rw, .any⟩,
  ⟨.NODE_PORTS_ETH, 0x10, 0, 1, 0, 1, 0, 4, .rw, .any⟩,
  ⟨.NODE_STAT_RUNNING, 0x14, 0, 1, 0, 1, 31, 1, .ro, .any⟩,
  ⟨.NODE_STAT_CFGE, 0x14, 0, 1, 0, 1, 30, 1, .w1c, .any⟩,
  ⟨.NODE_STAT_LDOWN, 0x14, 0, 1, 0, 1, 29, 1, .w1c, .any⟩,
  ⟨.NODE_STAT_NUP, 0x14, 0, 1, 0, 1, 0, 10, .ro, .any⟩,
  ⟨.NODE_RNDLO, 0x18, 0, 1, 0, 1, 0, 32, .ro, .any⟩,
  ⟨.NODE_RNDHI, 0x1C, 0, 1, 0, 1, 0, 32, .ro, .any⟩,
  ⟨.NODE_RNDFR, 0x20, 0, 1, 0, 1, 0, 24, .ro, .any⟩,
  ⟨.NODE_BCNODE, 0x24, 0, 1, 0, 1, 0, 18, .rw, .any⟩,
  ⟨.NODE_MCMACLO, 0x28, 0, 1, 0, 1, 0, 32, .rw, .any⟩,
  ⟨.NODE_MCMACHI, 0x2C, 0, 1, 0, 1, 0, 16, .rw, .any⟩,
  ⟨.NODE_MCIP, 0x30, 0, 1, 0, 1, 0, 32, .rw, .any⟩,
  ⟨.NODE_BCVLAN_TAG, 0x34, 0, 1, 0, 1, 31, 1, .rw, .any⟩,
  ⟨.NODE_BCVLAN_PCP, 0x34, 0, 1, 0, 1, 12, 3, .rw, .any⟩]

/-- Rows of the NODE map. -/
def rowsNODE1 : List FieldRow := [
  ⟨.NODE_BCVLAN_VID, 0x34, 0, 1, 0, 1, 0, 12, .rw, .any⟩,
  ⟨.NODE_ERRHDR, 0x40, 0, 1, 0, 1, 0, 32, .ro, .any⟩,
  ⟨.NODE_ERRCRC, 0x44, 0, 1, 0, 1, 0, 32, .ro, .any⟩,
  ⟨.NODE_ERRREC, 0x48, 0, 1, 0, 1, 0, 32, .ro, .any⟩,
  ⟨.NODE_DUP, 0x4C, 0, 1, 0, 1, 0, 32, .ro, .any⟩,
  ⟨.NODE_LATE, 0x50, 0, 1, 0, 1, 0, 32, .ro, .any⟩,
  ⟨.NODE_RETRYCNT, 0x54, 0, 1, 0, 1, 0, 32, .ro, .any⟩,
  ⟨.NODE_CLR, 0x58, 0, 1, 0, 1, 0, 1, .wo, .any⟩,
  ⟨.NODE_LCFG_EN, 0x10000, 32, 512, 0, 1, 31, 1, .rw, .any⟩,
  ⟨.NODE_LCFG_STATE, 0x10000, 32, 512, 0, 1, 29, 2, .ro, .any⟩,
  ⟨.NODE_LCFG_TAG, 0x10000, 32, 512, 0, 1, 28, 1, .rw, .any⟩,
  ⟨.NODE_LCFG_PORT, 0x10000, 32, 512, 0, 1, 26, 2, .rw, .any⟩,
  ⟨.NODE_LCFG_PCP, 0x10000, 32, 512, 0, 1, 23, 3, .rw, .any⟩,
  ⟨.NODE_LCFG_COUNT, 0x10000, 32, 512, 0, 1, 12, 11, .rw, .near 1 1024⟩,
  ⟨.NODE_LCFG_VID, 0x10000, 32, 512, 0, 1, 0, 12, .rw, .any⟩,
  ⟨.NODE_LBASE_BASE, 0x10004, 32, 512, 0, 1, 0, 18, .rw, .any⟩,
  ⟨.NODE_LMACLO, 0x10008, 32, 512, 0, 1, 0, 32, .rw, .any⟩,
  ⟨.NODE_LMACHI, 0x1000C, 32, 512, 0, 1, 0, 16, .rw, .any⟩,
  ⟨.NODE_LIP, 0x10010, 32, 512, 0, 1, 0, 32, .rw, .any⟩,
  ⟨.NODE_LRX, 0x10014, 32, 512, 0, 1, 0, 32, .ro, .any⟩]

/-- The NODE map. -/
def rowsNODE : List FieldRow := rowsNODE0 ++ rowsNODE1

/-- Rows of the ETH map. -/
def rowsETH0 : List FieldRow := [
  ⟨.ETH_CTRL_MODE, 0x0, 4096, 4, 0, 1, 1, 2, .rw, .near 1 3⟩,
  ⟨.ETH_CTRL_EN, 0x0, 4096, 4, 0, 1, 0, 1, .rw, .any⟩,
  ⟨.ETH_STAT_RXERR, 0x4, 4096, 4, 0, 1, 3, 1, .w1c, .any⟩,
  ⟨.ETH_STAT_LCHG, 0x4, 4096, 4, 0, 1, 2, 1, .w1c, .any⟩,
  ⟨.ETH_STAT_ANDONE, 0x4, 4096, 4, 0, 1, 1, 1, .ro, .any⟩,
  ⟨.ETH_STAT_LINK, 0x4, 4096, 4, 0, 1, 0, 1, .ro, .any⟩,
  ⟨.ETH_MACLO, 0x8, 4096, 4, 0, 1, 0, 32, .rw, .any⟩,
  ⟨.ETH_MACHI, 0xC, 4096, 4, 0, 1, 0, 16, .rw, .any⟩,
  ⟨.ETH_IP, 0x10, 4096, 4, 0, 1, 0, 32, .rw, .any⟩,
  ⟨.ETH_VLAN_TAGIN, 0x14, 4096, 4, 0, 1, 31, 1, .rw, .any⟩,
  ⟨.ETH_VLAN_FILT, 0x14, 4096, 4, 0, 1, 30, 1, .rw, .any⟩,
  ⟨.ETH_VLAN_PVID, 0x14, 4096, 4, 0, 1, 0, 12, .rw, .any⟩,
  ⟨.ETH_VID_EN, 0x40, 4096, 4, 4, 16, 31, 1, .rw, .any⟩,
  ⟨.ETH_VID_VID, 0x40, 4096, 4, 4, 16, 0, 12, .rw, .any⟩,
  ⟨.ETH_QCFG_EN, 0x80, 4096, 4, 4, 8, 31, 1, .rw, .any⟩,
  ⟨.ETH_QCFG_TAG, 0x80, 4096, 4, 4, 8, 30, 1, .rw, .any⟩,
  ⟨.ETH_QCFG_PCP, 0x80, 4096, 4, 4, 8, 27, 3, .rw, .any⟩,
  ⟨.ETH_QCFG_KIND, 0x80, 4096, 4, 4, 8, 24, 3, .rw, .any⟩,
  ⟨.ETH_QCFG_VID, 0x80, 4096, 4, 4, 8, 0, 12, .rw, .any⟩,
  ⟨.ETH_QMAT_VALUE, 0xA0, 4096, 4, 4, 8, 0, 16, .rw, .any⟩,
  ⟨.ETH_TXFR, 0xC0, 4096, 4, 0, 1, 0, 32, .ro, .any⟩,
  ⟨.ETH_RXFR, 0xC4, 4096, 4, 0, 1, 0, 32, .ro, .any⟩,
  ⟨.ETH_RXERR, 0xC8, 4096, 4, 0, 1, 0, 32, .ro, .any⟩,
  ⟨.ETH_DROP, 0xCC, 4096, 4, 0, 1, 0, 32, .ro, .any⟩,
  ⟨.ETH_TSSTAT_OVF, 0x100, 4096, 4, 0, 1, 31, 1, .ro, .any⟩]

/-- Rows of the ETH map. -/
def rowsETH1 : List FieldRow := [
  ⟨.ETH_TSSTAT_COUNT, 0x100, 4096, 4, 0, 1, 0, 7, .ro, .any⟩,
  ⟨.ETH_TSDAT0, 0x104, 4096, 4, 0, 1, 0, 32, .ro, .any⟩,
  ⟨.ETH_TSDAT1, 0x108, 4096, 4, 0, 1, 0, 30, .ro, .any⟩,
  ⟨.ETH_TSDAT2_DIR, 0x10C, 4096, 4, 0, 1, 31, 1, .ro, .any⟩,
  ⟨.ETH_TSDAT2_TYPE, 0x10C, 4096, 4, 0, 1, 16, 4, .ro, .any⟩,
  ⟨.ETH_TSDAT2_SEQ, 0x10C, 4096, 4, 0, 1, 0, 16, .ro, .any⟩,
  ⟨.ETH_PTPCTL_LOCKED, 0x8000, 0, 1, 0, 1, 2, 1, .rw, .any⟩,
  ⟨.ETH_PTPCTL_LOAD, 0x8000, 0, 1, 0, 1, 1, 1, .wo, .any⟩,
  ⟨.ETH_PTPCTL_EN, 0x8000, 0, 1, 0, 1, 0, 1, .rw, .any⟩,
  ⟨.ETH_PTPSEC0, 0x8004, 0, 1, 0, 1, 0, 32, .rw, .any⟩,
  ⟨.ETH_PTPSEC1, 0x8008, 0, 1, 0, 1, 0, 16, .rw, .any⟩,
  ⟨.ETH_PTPNS, 0x800C, 0, 1, 0, 1, 0, 30, .rw, .any⟩,
  ⟨.ETH_PTPINC, 0x8010, 0, 1, 0, 1, 0, 32, .rw, .any⟩,
  ⟨.ETH_PTPADJ, 0x8014, 0, 1, 0, 1, 0, 32, .wo, .any⟩]

/-- The ETH map. -/
def rowsETH : List FieldRow := rowsETH0 ++ rowsETH1

/-- Rows of the BERTH map. -/
def rowsBERTH0 : List FieldRow := [
  ⟨.BERTH_CFG_FHEN, 0x0, 0, 1, 0, 1, 31, 1, .rw, .any⟩,
  ⟨.BERTH_CFG_CHEN, 0x0, 0, 1, 0, 1, 30, 1, .rw, .any⟩,
  ⟨.BERTH_CFG_HOR, 0x0, 0, 1, 0, 1, 16, 9, .rw, .near 16 256⟩,
  ⟨.BERTH_CFG_NTSIZE, 0x0, 0, 1, 0, 1, 0, 7, .rw, .near 1 64⟩,
  ⟨.BERTH_NTBASE_BASE, 0x4, 0, 1, 0, 1, 0, 4, .rw, .near 0 12⟩,
  ⟨.BERTH_HOFF_HOFFF, 0x8, 0, 1, 0, 1, 16, 8, .rw, .near 64 116⟩,
  ⟨.BERTH_HOFF_HOFFC, 0x8, 0, 1, 0, 1, 0, 8, .rw, .near 0 244⟩,
  ⟨.BERTH_STAT_CFGE, 0xC, 0, 1, 0, 1, 31, 1, .w1c, .any⟩,
  ⟨.BERTH_STAT_LATE, 0xC, 0, 1, 0, 1, 30, 1, .w1c, .any⟩,
  ⟨.BERTH_STAT_DMG, 0xC, 0, 1, 0, 1, 29, 1, .w1c, .any⟩,
  ⟨.BERTH_STAT_REBUSY, 0xC, 0, 1, 0, 1, 28, 1, .ro, .any⟩,
  ⟨.BERTH_STAT_RESTAT, 0xC, 0, 1, 0, 1, 24, 4, .ro, .any⟩,
  ⟨.BERTH_STAT_USED, 0xC, 0, 1, 0, 1, 0, 16, .ro, .any⟩,
  ⟨.BERTH_ADM_KIND, 0x10, 0, 1, 0, 1, 30, 2, .ro, .any⟩,
  ⟨.BERTH_ADM_TASK, 0x10, 0, 1, 0, 1, 16, 9, .ro, .any⟩,
  ⟨.BERTH_ADM_EXCESS, 0x10, 0, 1, 0, 1, 0, 16, .ro, .any⟩,
  ⟨.BERTH_HOLDCLO, 0x14, 0, 1, 0, 1, 0, 32, .rw, .any⟩,
  ⟨.BERTH_HOLDCHI, 0x18, 0, 1, 0, 1, 0, 32, .rw, .any⟩,
  ⟨.BERTH_HOLDNLO, 0x1C, 0, 1, 0, 1, 0, 32, .rw, .any⟩,
  ⟨.BERTH_HOLDNHI, 0x20, 0, 1, 0, 1, 0, 32, .rw, .any⟩,
  ⟨.BERTH_REINIT_GO, 0x24, 0, 1, 0, 1, 31, 1, .wo, .any⟩,
  ⟨.BERTH_REINIT_NODE, 0x24, 0, 1, 0, 1, 0, 18, .wo, .any⟩,
  ⟨.BERTH_PEAK_DEMAND, 0x28, 0, 1, 0, 1, 16, 16, .ro, .any⟩,
  ⟨.BERTH_PEAK_USEDMAX, 0x28, 0, 1, 0, 1, 0, 16, .ro, .any⟩,
  ⟨.BERTH_FETCHCNT, 0x30, 0, 1, 0, 1, 0, 32, .ro, .any⟩]

/-- Rows of the BERTH map. -/
def rowsBERTH1 : List FieldRow := [
  ⟨.BERTH_WBCNT, 0x34, 0, 1, 0, 1, 0, 32, .ro, .any⟩,
  ⟨.BERTH_LATECNT, 0x38, 0, 1, 0, 1, 0, 32, .ro, .any⟩,
  ⟨.BERTH_DMGCNT, 0x3C, 0, 1, 0, 1, 0, 32, .ro, .any⟩,
  ⟨.BERTH_HAPPCNT, 0x40, 0, 1, 0, 1, 0, 32, .ro, .any⟩,
  ⟨.BERTH_CLR, 0x44, 0, 1, 0, 1, 0, 1, .wo, .any⟩,
  ⟨.BERTH_TWIN_W, 0x1000, 4, 512, 0, 1, 0, 13, .rw, .near 0 4096⟩,
  ⟨.BERTH_TWACT_W, 0x2000, 4, 512, 0, 1, 0, 13, .ro, .any⟩]

/-- The BERTH map. -/
def rowsBERTH : List FieldRow := rowsBERTH0 ++ rowsBERTH1

/-- Rows of the SDF map. -/
def rowsSDF0 : List FieldRow := [
  ⟨.SDF_CFG_EN, 0x0, 64, 48, 0, 1, 31, 1, .rw, .any⟩,
  ⟨.SDF_CFG_OSR, 0x0, 64, 48, 0, 1, 16, 7, .rw, .near 8 64⟩,
  ⟨.SDF_CFG_FRZTOL, 0x0, 64, 48, 0, 1, 12, 4, .rw, .any⟩,
  ⟨.SDF_CFG_FRZN, 0x0, 64, 48, 0, 1, 0, 12, .rw, .any⟩,
  ⟨.SDF_GAIN, 0x4, 64, 48, 0, 1, 0, 32, .rw, .any⟩,
  ⟨.SDF_OFF, 0x8, 64, 48, 0, 1, 0, 32, .rw, .any⟩,
  ⟨.SDF_STAT_RUN, 0xC, 64, 48, 0, 1, 31, 1, .ro, .any⟩,
  ⟨.SDF_STAT_FROZEN, 0xC, 64, 48, 0, 1, 30, 1, .ro, .any⟩,
  ⟨.SDF_STAT_LOSS, 0xC, 64, 48, 0, 1, 29, 1, .ro, .any⟩,
  ⟨.SDF_STAT_FRZS, 0xC, 64, 48, 0, 1, 28, 1, .w1c, .any⟩,
  ⟨.SDF_STAT_LOSSS, 0xC, 64, 48, 0, 1, 27, 1, .w1c, .any⟩,
  ⟨.SDF_STAT_SEQ, 0xC, 64, 48, 0, 1, 0, 16, .ro, .any⟩,
  ⟨.SDF_RAW, 0x10, 64, 48, 0, 1, 0, 32, .ro, .any⟩]

/-- The SDF map. -/
def rowsSDF : List FieldRow := rowsSDF0

/-- Rows of the MTR map. -/
def rowsMTR0 : List FieldRow := [
  ⟨.MTR_CTRL_LOAD, 0x0, 0, 1, 0, 1, 0, 1, .wo, .any⟩,
  ⟨.MTR_STAT_CFGE, 0x4, 0, 1, 0, 1, 31, 1, .w1c, .any⟩,
  ⟨.MTR_STAT_SEALED, 0x4, 0, 1, 0, 1, 30, 1, .ro, .any⟩,
  ⟨.MTR_STAT_ITEM, 0x4, 0, 1, 0, 1, 16, 8, .ro, .any⟩,
  ⟨.MTR_STAT_CODE, 0x4, 0, 1, 0, 1, 0, 8, .ro, .any⟩,
  ⟨.MTR_DGST, 0x20, 4, 8, 0, 1, 0, 32, .ro, .any⟩,
  ⟨.MTR_MCLK_EN, 0x40, 4, 6, 0, 1, 31, 1, .lk, .any⟩,
  ⟨.MTR_MCLK_DIV, 0x40, 4, 6, 0, 1, 0, 6, .lk, .near 8 40⟩,
  ⟨.MTR_SDCFG_DLY, 0x100, 4, 48, 0, 1, 8, 4, .lk, .any⟩,
  ⟨.MTR_SDCFG_CLK, 0x100, 4, 48, 0, 1, 0, 3, .lk, .any⟩,
  ⟨.MTR_SDLOSS0, 0x200, 0, 1, 0, 1, 0, 32, .ro, .any⟩,
  ⟨.MTR_SDLOSS1, 0x204, 0, 1, 0, 1, 0, 16, .ro, .any⟩,
  ⟨.MTR_MPCFG_EN, 0x1000, 256, 4, 0, 1, 31, 1, .lk, .any⟩,
  ⟨.MTR_MPCFG_FNOM, 0x1000, 256, 4, 0, 1, 30, 1, .lk, .any⟩,
  ⟨.MTR_MPCFG_ZCSRC, 0x1000, 256, 4, 0, 1, 28, 2, .lk, .near 0 2⟩,
  ⟨.MTR_MPCFG_ZCHYS, 0x1000, 256, 4, 0, 1, 20, 8, .lk, .any⟩,
  ⟨.MTR_MPVNOM, 0x1004, 256, 4, 0, 1, 0, 32, .lk, .any⟩,
  ⟨.MTR_MPINOM, 0x1008, 256, 4, 0, 1, 0, 32, .lk, .any⟩,
  ⟨.MTR_MPSTAT_VALID, 0x100C, 256, 4, 0, 1, 31, 1, .ro, .any⟩,
  ⟨.MTR_MPSTAT_ZCTO, 0x100C, 256, 4, 0, 1, 30, 1, .ro, .any⟩,
  ⟨.MTR_MPSTAT_TSTALE, 0x100C, 256, 4, 0, 1, 29, 1, .ro, .any⟩,
  ⟨.MTR_MPSTAT_LOSS, 0x100C, 256, 4, 0, 1, 28, 1, .ro, .any⟩,
  ⟨.MTR_MPSTAT_CLIP, 0x100C, 256, 4, 0, 1, 27, 1, .ro, .any⟩,
  ⟨.MTR_MPSTAT_FIRST, 0x100C, 256, 4, 0, 1, 26, 1, .ro, .any⟩,
  ⟨.MTR_MPSTAT_ANGV, 0x100C, 256, 4, 0, 1, 25, 1, .ro, .any⟩]

/-- Rows of the MTR map. -/
def rowsMTR1 : List FieldRow := [
  ⟨.MTR_MPSTAT_ZCTOS, 0x100C, 256, 4, 0, 1, 24, 1, .w1c, .any⟩,
  ⟨.MTR_MPSTAT_LOSSS, 0x100C, 256, 4, 0, 1, 23, 1, .w1c, .any⟩,
  ⟨.MTR_FREQ, 0x1010, 256, 4, 0, 1, 0, 32, .ro, .any⟩,
  ⟨.MTR_WCNT, 0x1014, 256, 4, 0, 1, 0, 32, .ro, .any⟩,
  ⟨.MTR_VRMS, 0x1018, 256, 4, 4, 3, 0, 32, .ro, .any⟩,
  ⟨.MTR_IRMS, 0x1024, 256, 4, 4, 4, 0, 32, .ro, .any⟩,
  ⟨.MTR_P, 0x1034, 256, 4, 4, 4, 0, 32, .ro, .any⟩,
  ⟨.MTR_Q, 0x1044, 256, 4, 4, 4, 0, 32, .ro, .any⟩,
  ⟨.MTR_S, 0x1054, 256, 4, 4, 4, 0, 32, .ro, .any⟩,
  ⟨.MTR_PF, 0x1064, 256, 4, 4, 4, 0, 32, .ro, .any⟩,
  ⟨.MTR_ANGVV_CA, 0x1074, 256, 4, 0, 1, 16, 16, .ro, .any⟩,
  ⟨.MTR_ANGVV_BA, 0x1074, 256, 4, 0, 1, 0, 16, .ro, .any⟩,
  ⟨.MTR_ANGVI, 0x1078, 256, 4, 4, 3, 0, 16, .ro, .any⟩,
  ⟨.MTR_CHSEL_EN, 0x2000, 64, 28, 0, 1, 31, 1, .lk, .any⟩,
  ⟨.MTR_CHSEL_SD, 0x2000, 64, 28, 0, 1, 0, 6, .lk, .any⟩,
  ⟨.MTR_CHK, 0x2004, 64, 28, 0, 1, 0, 32, .lk, .any⟩,
  ⟨.MTR_CHG, 0x2008, 64, 28, 0, 1, 0, 32, .lk, .any⟩,
  ⟨.MTR_CHD, 0x200C, 64, 28, 0, 1, 0, 32, .lk, .any⟩,
  ⟨.MTR_CHTS_NPTS, 0x2010, 64, 28, 0, 1, 8, 5, .lk, .near 2 16⟩,
  ⟨.MTR_CHTS_TSRC, 0x2010, 64, 28, 0, 1, 0, 7, .lk, .any⟩,
  ⟨.MTR_CHTA, 0x2014, 64, 28, 0, 1, 0, 32, .lk, .any⟩,
  ⟨.MTR_CHTB, 0x2018, 64, 28, 0, 1, 0, 32, .lk, .any⟩,
  ⟨.MTR_CHTMP, 0x201C, 64, 28, 0, 1, 0, 32, .ro, .any⟩,
  ⟨.MTR_CHST_TRANGE, 0x2020, 64, 28, 0, 1, 1, 1, .ro, .any⟩,
  ⟨.MTR_CHST_TSTALE, 0x2020, 64, 28, 0, 1, 0, 1, .ro, .any⟩]

/-- Rows of the MTR map. -/
def rowsMTR2 : List FieldRow := [
  ⟨.MTR_CTT, 0x4000, 256, 28, 16, 16, 0, 32, .lk, .any⟩,
  ⟨.MTR_CTG, 0x4004, 256, 28, 16, 16, 0, 32, .lk, .any⟩,
  ⟨.MTR_CTD, 0x4008, 256, 28, 16, 16, 0, 32, .lk, .any⟩]

/-- The MTR map. -/
def rowsMTR : List FieldRow := rowsMTR0 ++ rowsMTR1 ++ rowsMTR2

/-- Rows of the TALLY map. -/
def rowsTALLY0 : List FieldRow := [
  ⟨.TALLY_CFG_IMIN, 0x0, 0, 1, 0, 1, 29, 3, .lk, .near 0 5⟩,
  ⟨.TALLY_CFG_CP, 0x0, 0, 1, 0, 1, 0, 7, .lk, .near 1 100⟩,
  ⟨.TALLY_STAT_CBUSY, 0x4, 0, 1, 0, 1, 31, 1, .ro, .any⟩,
  ⟨.TALLY_STAT_LCOK, 0x4, 0, 1, 0, 1, 30, 1, .ro, .any⟩,
  ⟨.TALLY_STAT_GAP, 0x4, 0, 1, 0, 1, 29, 1, .w1c, .any⟩,
  ⟨.TALLY_STAT_CFAIL, 0x4, 0, 1, 0, 1, 28, 1, .w1c, .any⟩,
  ⟨.TALLY_STAT_SLOT, 0x4, 0, 1, 0, 1, 27, 1, .ro, .any⟩,
  ⟨.TALLY_CSEQLO, 0x8, 0, 1, 0, 1, 0, 32, .ro, .any⟩,
  ⟨.TALLY_CSEQHI, 0xC, 0, 1, 0, 1, 0, 32, .ro, .any⟩,
  ⟨.TALLY_CCTRL_COMMIT, 0x10, 0, 1, 0, 1, 0, 1, .wo, .any⟩,
  ⟨.TALLY_SEL, 0x20, 4, 5, 0, 1, 0, 32, .lk, .any⟩,
  ⟨.TALLY_PUCFG_MODE, 0x100, 16, 16, 0, 1, 30, 2, .lk, .any⟩,
  ⟨.TALLY_PUCFG_DEB, 0x100, 16, 16, 0, 1, 16, 14, .lk, .near 0 10000⟩,
  ⟨.TALLY_PUCFG_PMAX, 0x100, 16, 16, 0, 1, 0, 15, .lk, .near 1 20000⟩,
  ⟨.TALLY_PUWT, 0x104, 16, 16, 0, 1, 0, 32, .lk, .any⟩,
  ⟨.TALLY_PUUN, 0x108, 16, 16, 0, 1, 0, 8, .lk, .near 0 4⟩,
  ⟨.TALLY_PUST_OVR, 0x10C, 16, 16, 0, 1, 31, 1, .w1c, .any⟩,
  ⟨.TALLY_PUST_BADQ, 0x10C, 16, 16, 0, 1, 30, 1, .w1c, .any⟩,
  ⟨.TALLY_PUST_LEVEL, 0x10C, 16, 16, 0, 1, 0, 1, .ro, .any⟩,
  ⟨.TALLY_TLW0, 0x1000, 16, 160, 0, 1, 0, 32, .ro, .any⟩,
  ⟨.TALLY_TLW1, 0x1004, 16, 160, 0, 1, 0, 32, .ro, .any⟩,
  ⟨.TALLY_TLW2, 0x1008, 16, 160, 0, 1, 0, 32, .ro, .any⟩,
  ⟨.TALLY_TLFRAC, 0x100C, 16, 160, 0, 1, 0, 32, .ro, .any⟩,
  ⟨.TALLY_CTLW0, 0x3000, 16, 160, 0, 1, 0, 32, .ro, .any⟩,
  ⟨.TALLY_CTLW1, 0x3004, 16, 160, 0, 1, 0, 32, .ro, .any⟩]

/-- Rows of the TALLY map. -/
def rowsTALLY1 : List FieldRow := [
  ⟨.TALLY_CTLW2, 0x3008, 16, 160, 0, 1, 0, 32, .ro, .any⟩,
  ⟨.TALLY_CTLFRAC, 0x300C, 16, 160, 0, 1, 0, 32, .ro, .any⟩]

/-- The TALLY map. -/
def rowsTALLY : List FieldRow := rowsTALLY0 ++ rowsTALLY1

/-- Rows of the MAN map. -/
def rowsMAN0 : List FieldRow := [
  ⟨.MAN_CTRL_ACK, 0x0, 0, 1, 0, 1, 2, 1, .wo, .any⟩,
  ⟨.MAN_CTRL_BREAK, 0x0, 0, 1, 0, 1, 1, 1, .wo, .any⟩,
  ⟨.MAN_CTRL_SEAL, 0x0, 0, 1, 0, 1, 0, 1, .wo, .any⟩,
  ⟨.MAN_STAT_SEALED, 0x4, 0, 1, 0, 1, 31, 1, .ro, .any⟩,
  ⟨.MAN_STAT_JMP, 0x4, 0, 1, 0, 1, 30, 1, .ro, .any⟩,
  ⟨.MAN_STAT_ACKE, 0x4, 0, 1, 0, 1, 29, 1, .w1c, .any⟩,
  ⟨.MAN_STAT_SEALE, 0x4, 0, 1, 0, 1, 28, 1, .w1c, .any⟩,
  ⟨.MAN_STAT_SCODE, 0x4, 0, 1, 0, 1, 24, 4, .ro, .any⟩,
  ⟨.MAN_STAT_RSVLOW, 0x4, 0, 1, 0, 1, 23, 1, .ro, .any⟩,
  ⟨.MAN_STAT_OVF, 0x4, 0, 1, 0, 1, 22, 1, .w1c, .any⟩,
  ⟨.MAN_STAT_BUSY, 0x4, 0, 1, 0, 1, 21, 1, .ro, .any⟩,
  ⟨.MAN_SEALCHK, 0x8, 0, 1, 0, 1, 0, 32, .rw, .any⟩,
  ⟨.MAN_SBCNT, 0xC, 0, 1, 0, 1, 0, 32, .ro, .any⟩,
  ⟨.MAN_NONCELO, 0x10, 0, 1, 0, 1, 0, 32, .ro, .any⟩,
  ⟨.MAN_NONCEHI, 0x14, 0, 1, 0, 1, 0, 32, .ro, .any⟩,
  ⟨.MAN_HEADLO, 0x18, 0, 1, 0, 1, 0, 32, .ro, .any⟩,
  ⟨.MAN_HEADHI, 0x1C, 0, 1, 0, 1, 0, 32, .ro, .any⟩,
  ⟨.MAN_LANDLO, 0x20, 0, 1, 0, 1, 0, 32, .ro, .any⟩,
  ⟨.MAN_LANDHI, 0x24, 0, 1, 0, 1, 0, 32, .ro, .any⟩,
  ⟨.MAN_ACKLO, 0x28, 0, 1, 0, 1, 0, 32, .rw, .any⟩,
  ⟨.MAN_ACKHI, 0x2C, 0, 1, 0, 1, 0, 32, .rw, .any⟩,
  ⟨.MAN_ACKDG0, 0x30, 0, 1, 0, 1, 0, 32, .rw, .any⟩,
  ⟨.MAN_ACKDG1, 0x34, 0, 1, 0, 1, 0, 32, .rw, .any⟩,
  ⟨.MAN_FREE, 0x38, 0, 1, 0, 1, 0, 32, .ro, .any⟩,
  ⟨.MAN_PENDN_COAL, 0x3C, 0, 1, 0, 1, 8, 8, .ro, .any⟩]

/-- Rows of the MAN map. -/
def rowsMAN1 : List FieldRow := [
  ⟨.MAN_PENDN_PEND, 0x3C, 0, 1, 0, 1, 0, 6, .ro, .any⟩,
  ⟨.MAN_RDSEQLO, 0x40, 0, 1, 0, 1, 0, 32, .rw, .any⟩,
  ⟨.MAN_RDSEQHI, 0x44, 0, 1, 0, 1, 0, 32, .rw, .any⟩,
  ⟨.MAN_RDSTAT_VALID, 0x48, 0, 1, 0, 1, 31, 1, .ro, .any⟩,
  ⟨.MAN_RDSTAT_LEN, 0x48, 0, 1, 0, 1, 0, 12, .ro, .any⟩,
  ⟨.MAN_LOSTCNT, 0x4C, 0, 1, 0, 1, 0, 32, .ro, .any⟩,
  ⟨.MAN_GAPCNT, 0x50, 0, 1, 0, 1, 0, 32, .ro, .any⟩,
  ⟨.MAN_CMD, 0x800, 4, 44, 0, 1, 0, 32, .rw, .any⟩,
  ⟨.MAN_RDWIN, 0x8000, 4, 576, 0, 1, 0, 32, .ro, .any⟩]

/-- The MAN map. -/
def rowsMAN : List FieldRow := rowsMAN0 ++ rowsMAN1

/-- Rows of the SAF map. -/
def rowsSAF0 : List FieldRow := [
  ⟨.SAF_STAT_LOCKH, 0x0, 0, 1, 0, 1, 31, 1, .ro, .any⟩,
  ⟨.SAF_STAT_LOCKP, 0x0, 0, 1, 0, 1, 30, 1, .ro, .any⟩,
  ⟨.SAF_STAT_INH, 0x0, 0, 1, 0, 1, 29, 1, .ro, .any⟩,
  ⟨.SAF_STAT_CFGOK, 0x0, 0, 1, 0, 1, 28, 1, .ro, .any⟩,
  ⟨.SAF_STAT_SRST, 0x0, 0, 1, 0, 1, 27, 1, .ro, .any⟩,
  ⟨.SAF_STAT_ON, 0x0, 0, 1, 0, 1, 0, 8, .ro, .any⟩,
  ⟨.SAF_FLTH_VALID, 0x4, 0, 1, 0, 1, 31, 1, .ro, .any⟩,
  ⟨.SAF_FLTH_CODE, 0x4, 0, 1, 0, 1, 16, 6, .ro, .any⟩,
  ⟨.SAF_FLTH_ITEM, 0x4, 0, 1, 0, 1, 0, 16, .ro, .any⟩,
  ⟨.SAF_FLTP_VALID, 0x8, 0, 1, 0, 1, 31, 1, .ro, .any⟩,
  ⟨.SAF_FLTP_CODE, 0x8, 0, 1, 0, 1, 16, 6, .ro, .any⟩,
  ⟨.SAF_FLTP_ITEM, 0x8, 0, 1, 0, 1, 0, 16, .ro, .any⟩,
  ⟨.SAF_LATCH, 0xC, 0, 1, 0, 1, 0, 4, .ro, .any⟩,
  ⟨.SAF_RSTAT_DONE, 0x10, 0, 1, 0, 1, 31, 1, .ro, .any⟩,
  ⟨.SAF_RSTAT_CODE, 0x10, 0, 1, 0, 1, 16, 6, .ro, .any⟩,
  ⟨.SAF_CFG_AREARM, 0x14, 0, 1, 0, 1, 31, 1, .lk, .any⟩,
  ⟨.SAF_CFG_SFAREC, 0x14, 0, 1, 0, 1, 16, 15, .lk, .near 1 600⟩,
  ⟨.SAF_CFG_SFDDLY, 0x14, 0, 1, 0, 1, 0, 16, .lk, .near 0 10000⟩,
  ⟨.SAF_SFMSK_MSKD, 0x18, 0, 1, 0, 1, 24, 8, .lk, .any⟩,
  ⟨.SAF_SFMSK_MSKC, 0x18, 0, 1, 0, 1, 16, 8, .lk, .any⟩,
  ⟨.SAF_SFMSK_MSKB, 0x18, 0, 1, 0, 1, 8, 8, .lk, .any⟩,
  ⟨.SAF_SFMSK_MSKA, 0x18, 0, 1, 0, 1, 0, 8, .lk, .any⟩,
  ⟨.SAF_SWS, 0x1C, 0, 1, 0, 1, 0, 12, .ro, .any⟩,
  ⟨.SAF_SWSEXP, 0x20, 0, 1, 0, 1, 0, 12, .lk, .any⟩,
  ⟨.SAF_SEAL_SET, 0x24, 0, 1, 0, 1, 0, 1, .w1s, .any⟩]

/-- Rows of the SAF map. -/
def rowsSAF1 : List FieldRow := [
  ⟨.SAF_SILVL_P, 0x28, 0, 1, 0, 1, 16, 16, .ro, .any⟩,
  ⟨.SAF_SILVL_H, 0x28, 0, 1, 0, 1, 0, 16, .ro, .any⟩,
  ⟨.SAF_CFGDG, 0x40, 4, 8, 0, 1, 0, 32, .ro, .any⟩,
  ⟨.SAF_SICFG_EN, 0x100, 4, 16, 0, 1, 31, 1, .lk, .any⟩,
  ⟨.SAF_SICFG_PAIR, 0x100, 4, 16, 0, 1, 29, 2, .lk, .near 0 2⟩,
  ⟨.SAF_SICFG_FUNC, 0x100, 4, 16, 0, 1, 25, 4, .lk, .any⟩,
  ⟨.SAF_SICFG_DISC, 0x100, 4, 16, 0, 1, 16, 9, .lk, .near 10 500⟩,
  ⟨.SAF_SICFG_FILT, 0x100, 4, 16, 0, 1, 0, 12, .lk, .near 250 3000⟩,
  ⟨.SAF_SOCFG_EN, 0x200, 16, 8, 0, 1, 31, 1, .lk, .any⟩,
  ⟨.SAF_SOCFG_TEN, 0x200, 16, 8, 0, 1, 30, 1, .lk, .any⟩,
  ⟨.SAF_SOCFG_FBEN, 0x200, 16, 8, 0, 1, 29, 1, .lk, .any⟩,
  ⟨.SAF_SOCFG_TPER, 0x200, 16, 8, 0, 1, 23, 6, .lk, .near 1 60⟩,
  ⟨.SAF_SOCFG_TPW, 0x200, 16, 8, 0, 1, 20, 3, .lk, .near 0 6⟩,
  ⟨.SAF_SOCFG_FBKT, 0x200, 16, 8, 0, 1, 11, 9, .lk, .near 10 500⟩,
  ⟨.SAF_SOCFG_FARE, 0x200, 16, 8, 0, 1, 0, 11, .lk, .near 0 80⟩,
  ⟨.SAF_SOSTAT_SWP, 0x204, 16, 8, 0, 1, 31, 1, .ro, .any⟩,
  ⟨.SAF_SOSTAT_SWH, 0x204, 16, 8, 0, 1, 30, 1, .ro, .any⟩,
  ⟨.SAF_SOSTAT_FBK, 0x204, 16, 8, 0, 1, 29, 1, .ro, .any⟩,
  ⟨.SAF_SOSTAT_REQ, 0x204, 16, 8, 0, 1, 28, 1, .ro, .any⟩,
  ⟨.SAF_SOSTAT_TRUN, 0x204, 16, 8, 0, 1, 27, 1, .ro, .any⟩,
  ⟨.SAF_SOSTAT_OSR, 0x204, 16, 8, 0, 1, 24, 3, .ro, .any⟩,
  ⟨.SAF_SOCNT_TDISC, 0x208, 16, 8, 0, 1, 16, 16, .ro, .any⟩,
  ⟨.SAF_SOCNT_TSKIP, 0x208, 16, 8, 0, 1, 0, 16, .ro, .any⟩,
  ⟨.SAF_HGCFG_EN, 0x300, 0, 1, 0, 1, 31, 1, .lk, .any⟩,
  ⟨.SAF_HGCFG_CMPA, 0x300, 0, 1, 0, 1, 26, 5, .lk, .any⟩]

/-- Rows of the SAF map. -/
def rowsSAF2 : List FieldRow := [
  ⟨.SAF_HGCFG_CMPB, 0x300, 0, 1, 0, 1, 21, 5, .lk, .any⟩,
  ⟨.SAF_HGCFG_CMPC, 0x300, 0, 1, 0, 1, 16, 5, .lk, .any⟩,
  ⟨.SAF_HGTIM_HOVN, 0x304, 0, 1, 0, 1, 24, 8, .lk, .near 1 255⟩,
  ⟨.SAF_HGTIM_HFN, 0x304, 0, 1, 0, 1, 16, 8, .lk, .near 1 255⟩,
  ⟨.SAF_HGTIM_HUVT, 0x304, 0, 1, 0, 1, 0, 16, .lk, .near 10 10000⟩,
  ⟨.SAF_HGFRQ_HFMAX, 0x308, 0, 1, 0, 1, 16, 16, .lk, .near 14285 25000⟩,
  ⟨.SAF_HGFRQ_HFMIN, 0x308, 0, 1, 0, 1, 0, 16, .lk, .near 14285 25000⟩,
  ⟨.SAF_PGCFG_EN, 0x310, 0, 1, 0, 1, 31, 1, .lk, .any⟩,
  ⟨.SAF_PGCFG_ANA, 0x310, 0, 1, 0, 1, 24, 6, .lk, .any⟩,
  ⟨.SAF_PGCFG_ANB, 0x310, 0, 1, 0, 1, 16, 6, .lk, .any⟩,
  ⟨.SAF_PGCFG_ANC, 0x310, 0, 1, 0, 1, 8, 6, .lk, .any⟩,
  ⟨.SAF_PGV_VHI, 0x314, 0, 1, 0, 1, 16, 16, .lk, .near 1000 1500⟩,
  ⟨.SAF_PGV_VLO, 0x314, 0, 1, 0, 1, 0, 16, .lk, .near 0 900⟩,
  ⟨.SAF_PGF_FHI, 0x318, 0, 1, 0, 1, 16, 16, .lk, .near 4000 7000⟩,
  ⟨.SAF_PGF_FLO, 0x318, 0, 1, 0, 1, 0, 16, .lk, .near 4000 7000⟩,
  ⟨.SAF_PGT_TV, 0x31C, 0, 1, 0, 1, 16, 16, .lk, .near 10 10000⟩,
  ⟨.SAF_PGT_TF, 0x31C, 0, 1, 0, 1, 0, 16, .lk, .near 10 10000⟩,
  ⟨.SAF_PGSC, 0x320, 0, 1, 0, 1, 0, 32, .lk, .any⟩,
  ⟨.SAF_MSGCFG_ETYPE, 0x400, 0, 1, 0, 1, 16, 16, .lk, .any⟩,
  ⟨.SAF_MSGCFG_MSGTX, 0x400, 0, 1, 0, 1, 9, 7, .lk, .near 1 100⟩,
  ⟨.SAF_MSGCFG_MSGTO, 0x400, 0, 1, 0, 1, 0, 9, .lk, .near 5 500⟩,
  ⟨.SAF_MYID, 0x404, 0, 1, 0, 1, 0, 32, .lk, .any⟩,
  ⟨.SAF_MSRC, 0x410, 8, 8, 0, 1, 0, 32, .lk, .any⟩,
  ⟨.SAF_MSFN_EN, 0x414, 8, 8, 0, 1, 31, 1, .lk, .any⟩,
  ⟨.SAF_MSFN_FN, 0x414, 8, 8, 0, 1, 0, 4, .lk, .any⟩]

/-- Rows of the SAF map. -/
def rowsSAF3 : List FieldRow := [
  ⟨.SAF_MSCNT_ONE, 0x480, 0, 1, 0, 1, 16, 16, .ro, .any⟩,
  ⟨.SAF_MSCNT_TMO, 0x480, 0, 1, 0, 1, 0, 16, .ro, .any⟩]

/-- The SAF map. -/
def rowsSAF : List FieldRow := rowsSAF0 ++ rowsSAF1 ++ rowsSAF2 ++ rowsSAF3

/-- Rows of the TWIN map. -/
def rowsTWIN0 : List FieldRow := [
  ⟨.TWIN_CTRL_DFCLR, 0x0, 0, 1, 0, 1, 3, 1, .wo, .any⟩,
  ⟨.TWIN_CTRL_LEAVE, 0x0, 0, 1, 0, 1, 2, 1, .wo, .any⟩,
  ⟨.TWIN_CTRL_HANDOVER, 0x0, 0, 1, 0, 1, 1, 1, .wo, .any⟩,
  ⟨.TWIN_CTRL_JOIN, 0x0, 0, 1, 0, 1, 0, 1, .wo, .any⟩,
  ⟨.TWIN_CFG_AUTORS, 0x4, 0, 1, 0, 1, 31, 1, .rw, .any⟩,
  ⟨.TWIN_CFG_FILLMAX, 0x4, 0, 1, 0, 1, 24, 6, .rw, .near 0 48⟩,
  ⟨.TWIN_CFG_JOINT, 0x4, 0, 1, 0, 1, 16, 8, .rw, .near 1 60⟩,
  ⟨.TWIN_CFG_CVTO, 0x4, 0, 1, 0, 1, 8, 8, .rw, .near 1 60⟩,
  ⟨.TWIN_STAT_STATE, 0x8, 0, 1, 0, 1, 28, 4, .ro, .any⟩,
  ⟨.TWIN_STAT_PEER, 0x8, 0, 1, 0, 1, 24, 4, .ro, .any⟩,
  ⟨.TWIN_STAT_SIDE, 0x8, 0, 1, 0, 1, 23, 1, .ro, .any⟩,
  ⟨.TWIN_STAT_INST, 0x8, 0, 1, 0, 1, 22, 1, .ro, .any⟩,
  ⟨.TWIN_STAT_LN1, 0x8, 0, 1, 0, 1, 21, 1, .ro, .any⟩,
  ⟨.TWIN_STAT_LN0, 0x8, 0, 1, 0, 1, 20, 1, .ro, .any⟩,
  ⟨.TWIN_STAT_TWROK, 0x8, 0, 1, 0, 1, 19, 1, .ro, .any⟩,
  ⟨.TWIN_STAT_ALGN, 0x8, 0, 1, 0, 1, 18, 1, .ro, .any⟩,
  ⟨.TWIN_STAT_CROSS, 0x8, 0, 1, 0, 1, 17, 1, .ro, .any⟩,
  ⟨.TWIN_STAT_DFLT, 0x8, 0, 1, 0, 1, 7, 1, .ro, .any⟩,
  ⟨.TWIN_STAT_EXP, 0x8, 0, 1, 0, 1, 6, 1, .ro, .any⟩,
  ⟨.TWIN_STAT_TKOV, 0x8, 0, 1, 0, 1, 5, 1, .w1c, .any⟩,
  ⟨.TWIN_STAT_DIVS, 0x8, 0, 1, 0, 1, 4, 1, .w1c, .any⟩,
  ⟨.TWIN_STAT_HBM, 0x8, 0, 1, 0, 1, 3, 1, .w1c, .any⟩,
  ⟨.TWIN_STAT_LANEF, 0x8, 0, 1, 0, 1, 2, 1, .w1c, .any⟩,
  ⟨.TWIN_STAT_TWRF, 0x8, 0, 1, 0, 1, 1, 1, .w1c, .any⟩,
  ⟨.TWIN_STAT_RSF, 0x8, 0, 1, 0, 1, 0, 1, .w1c, .any⟩]

/-- Rows of the TWIN map. -/
def rowsTWIN1 : List FieldRow := [
  ⟨.TWIN_ALIGN_PHERR, 0xC, 0, 1, 0, 1, 16, 16, .ro, .any⟩,
  ⟨.TWIN_ALIGN_CDLY, 0xC, 0, 1, 0, 1, 0, 14, .rw, .near 0 10000⟩,
  ⟨.TWIN_CONFLO, 0x10, 0, 1, 0, 1, 0, 32, .ro, .any⟩,
  ⟨.TWIN_CONFHI, 0x14, 0, 1, 0, 1, 0, 32, .ro, .any⟩,
  ⟨.TWIN_DIVLO, 0x18, 0, 1, 0, 1, 0, 32, .ro, .any⟩,
  ⟨.TWIN_DIVHI, 0x1C, 0, 1, 0, 1, 0, 32, .ro, .any⟩,
  ⟨.TWIN_DGSTLO, 0x20, 0, 1, 0, 1, 0, 32, .ro, .any⟩,
  ⟨.TWIN_DGSTHI, 0x24, 0, 1, 0, 1, 0, 32, .ro, .any⟩,
  ⟨.TWIN_PDGSTLO, 0x28, 0, 1, 0, 1, 0, 32, .ro, .any⟩,
  ⟨.TWIN_PDGSTHI, 0x2C, 0, 1, 0, 1, 0, 32, .ro, .any⟩,
  ⟨.TWIN_RSSTAT_PHASE, 0x30, 0, 1, 0, 1, 28, 4, .ro, .any⟩,
  ⟨.TWIN_RSSTAT_CODE, 0x30, 0, 1, 0, 1, 16, 8, .ro, .any⟩,
  ⟨.TWIN_RSSTAT_PCT, 0x30, 0, 1, 0, 1, 0, 7, .ro, .any⟩,
  ⟨.TWIN_MIRB_LIMIT, 0x34, 0, 1, 0, 1, 16, 16, .ro, .any⟩,
  ⟨.TWIN_MIRB_USED, 0x34, 0, 1, 0, 1, 0, 16, .ro, .any⟩,
  ⟨.TWIN_EXPO_OPEN, 0x38, 0, 1, 0, 1, 31, 1, .ro, .any⟩,
  ⟨.TWIN_EXPO_MS, 0x38, 0, 1, 0, 1, 0, 31, .ro, .any⟩,
  ⟨.TWIN_CNT0_TAKEOVERS, 0x40, 0, 1, 0, 1, 16, 16, .ro, .any⟩,
  ⟨.TWIN_CNT0_HANDOVERS, 0x40, 0, 1, 0, 1, 0, 16, .ro, .any⟩,
  ⟨.TWIN_CNT1_DIVERGENCES, 0x44, 0, 1, 0, 1, 16, 16, .ro, .any⟩,
  ⟨.TWIN_CNT1_LANEFAILS, 0x44, 0, 1, 0, 1, 0, 16, .ro, .any⟩,
  ⟨.TWIN_CNT2_MISSES, 0x48, 0, 1, 0, 1, 16, 16, .ro, .any⟩,
  ⟨.TWIN_CNT2_RESTARTS, 0x48, 0, 1, 0, 1, 0, 16, .ro, .any⟩,
  ⟨.TWIN_CLR, 0x4C, 0, 1, 0, 1, 0, 1, .wo, .any⟩]

/-- The TWIN map. -/
def rowsTWIN : List FieldRow := rowsTWIN0 ++ rowsTWIN1

/-- Rows of the DDR map. -/
def rowsDDR0 : List FieldRow := [
  ⟨.DDR_CTRL_RETRAIN, 0x0, 0, 1, 0, 1, 2, 1, .wo, .any⟩,
  ⟨.DDR_CTRL_FILLABT, 0x0, 0, 1, 0, 1, 1, 1, .wo, .any⟩,
  ⟨.DDR_CTRL_FILLGO, 0x0, 0, 1, 0, 1, 0, 1, .wo, .any⟩,
  ⟨.DDR_CFG_RANKS, 0x4, 0, 1, 0, 1, 2, 1, .rw, .any⟩,
  ⟨.DDR_CFG_DENS, 0x4, 0, 1, 0, 1, 0, 2, .rw, .near 0 2⟩,
  ⟨.DDR_STAT_STATE, 0x8, 0, 1, 0, 1, 28, 4, .ro, .any⟩,
  ⟨.DDR_STAT_UNREL, 0x8, 0, 1, 0, 1, 27, 1, .ro, .any⟩,
  ⟨.DDR_STAT_DEVF, 0x8, 0, 1, 0, 1, 26, 1, .ro, .any⟩,
  ⟨.DDR_STAT_FBUSY, 0x8, 0, 1, 0, 1, 25, 1, .ro, .any⟩,
  ⟨.DDR_STAT_FSTAT, 0x8, 0, 1, 0, 1, 22, 3, .ro, .any⟩,
  ⟨.DDR_TIM_CL, 0xC, 0, 1, 0, 1, 24, 8, .rw, .any⟩,
  ⟨.DDR_TIM_CWL, 0xC, 0, 1, 0, 1, 16, 8, .rw, .any⟩,
  ⟨.DDR_TIM_TRCD, 0xC, 0, 1, 0, 1, 8, 8, .rw, .any⟩,
  ⟨.DDR_TIM_TRP, 0xC, 0, 1, 0, 1, 0, 8, .rw, .any⟩,
  ⟨.DDR_SCRUB_EN, 0x10, 0, 1, 0, 1, 31, 1, .rw, .any⟩,
  ⟨.DDR_SCRUB_HOURS, 0x10, 0, 1, 0, 1, 0, 8, .rw, .near 1 168⟩,
  ⟨.DDR_SCRPOSLO, 0x14, 0, 1, 0, 1, 0, 32, .ro, .any⟩,
  ⟨.DDR_SCRPOSHI, 0x18, 0, 1, 0, 1, 0, 8, .ro, .any⟩,
  ⟨.DDR_FILLADLO, 0x20, 0, 1, 0, 1, 6, 26, .rw, .any⟩,
  ⟨.DDR_FILLADHI, 0x24, 0, 1, 0, 1, 0, 8, .rw, .any⟩,
  ⟨.DDR_FILLLEN, 0x28, 0, 1, 0, 1, 0, 32, .rw, .any⟩,
  ⟨.DDR_FILLPATLO, 0x2C, 0, 1, 0, 1, 0, 32, .rw, .any⟩,
  ⟨.DDR_FILLPATHI, 0x30, 0, 1, 0, 1, 0, 32, .rw, .any⟩,
  ⟨.DDR_HALT, 0x34, 0, 1, 0, 1, 0, 9, .w1c, .any⟩]

/-- The DDR map. -/
def rowsDDR : List FieldRow := rowsDDR0

/-- Rows of the ECC map. -/
def rowsECC0 : List FieldRow := [
  ⟨.ECC_STAT_STF, 0x0, 0, 1, 0, 1, 31, 1, .ro, .any⟩,
  ⟨.ECC_STAT_STFID, 0x0, 0, 1, 0, 1, 25, 6, .ro, .any⟩,
  ⟨.ECC_STAT_POVF, 0x0, 0, 1, 0, 1, 24, 1, .w1c, .any⟩,
  ⟨.ECC_STAT_SCRUE, 0x0, 0, 1, 0, 1, 23, 1, .w1c, .any⟩,
  ⟨.ECC_STAT_UE, 0x0, 0, 1, 0, 1, 22, 1, .w1c, .any⟩,
  ⟨.ECC_STAT_CE, 0x0, 0, 1, 0, 1, 21, 1, .w1c, .any⟩,
  ⟨.ECC_CTRL_CLR, 0x4, 0, 1, 0, 1, 0, 1, .wo, .any⟩,
  ⟨.ECC_CECNT, 0x8, 0, 1, 0, 1, 0, 32, .ro, .any⟩,
  ⟨.ECC_UECNT, 0xC, 0, 1, 0, 1, 0, 32, .ro, .any⟩,
  ⟨.ECC_FADLO, 0x10, 0, 1, 0, 1, 0, 32, .ro, .any⟩,
  ⟨.ECC_FADHI_POISON, 0x14, 0, 1, 0, 1, 16, 1, .ro, .any⟩,
  ⟨.ECC_FADHI_MEM, 0x14, 0, 1, 0, 1, 8, 8, .ro, .any⟩,
  ⟨.ECC_FADHI_ADDR, 0x14, 0, 1, 0, 1, 0, 8, .ro, .any⟩,
  ⟨.ECC_PCNT, 0x18, 0, 1, 0, 1, 0, 13, .ro, .any⟩,
  ⟨.ECC_PRDIDX, 0x1C, 0, 1, 0, 1, 0, 12, .rw, .any⟩,
  ⟨.ECC_PRDLO, 0x20, 0, 1, 0, 1, 0, 32, .ro, .any⟩,
  ⟨.ECC_PRDHI, 0x24, 0, 1, 0, 1, 0, 8, .ro, .any⟩,
  ⟨.ECC_SRCFG_PERIOD, 0x28, 0, 1, 0, 1, 0, 14, .rw, .near 100 10000⟩,
  ⟨.ECC_LANE_UE, 0x30, 4, 18, 0, 1, 16, 16, .ro, .any⟩,
  ⟨.ECC_LANE_CE, 0x30, 4, 18, 0, 1, 0, 16, .ro, .any⟩,
  ⟨.ECC_SPARE_ROWS, 0x100, 4, 364, 0, 1, 2, 3, .fz, .any⟩,
  ⟨.ECC_SPARE_COLS, 0x100, 4, 364, 0, 1, 0, 2, .fz, .any⟩,
  ⟨.ECC_INJ_ARM, 0x800, 0, 1, 0, 1, 31, 1, .rw, .any⟩,
  ⟨.ECC_INJ_MASK, 0x800, 0, 1, 0, 1, 0, 8, .rw, .any⟩]

/-- The ECC map. -/
def rowsECC : List FieldRow := rowsECC0

/-- Rows of the ADC map. -/
def rowsADC0 : List FieldRow := [
  ⟨.ADC_CFG_EN, 0x0, 4, 64, 0, 1, 31, 1, .rw, .any⟩,
  ⟨.ADC_CFG_DIFF, 0x0, 4, 64, 0, 1, 30, 1, .rw, .any⟩,
  ⟨.ADC_CFG_ALIGN, 0x0, 4, 64, 0, 1, 29, 1, .rw, .any⟩,
  ⟨.ADC_CFG_PULL, 0x0, 4, 64, 0, 1, 26, 3, .rw, .any⟩,
  ⟨.ADC_RES, 0x100, 4, 64, 0, 1, 0, 32, .ro, .any⟩,
  ⟨.ADC_STAT_OPEN, 0x200, 4, 64, 0, 1, 31, 1, .ro, .any⟩,
  ⟨.ADC_STAT_OPENS, 0x200, 4, 64, 0, 1, 30, 1, .w1c, .any⟩,
  ⟨.ADC_STAT_SEQ, 0x200, 4, 64, 0, 1, 0, 16, .ro, .any⟩,
  ⟨.ADC_ADCFG_SYNC, 0x400, 4, 4, 0, 1, 31, 1, .rw, .any⟩,
  ⟨.ADC_ADCFG_SCANK, 0x400, 4, 4, 0, 1, 27, 4, .rw, .near 0 12⟩,
  ⟨.ADC_ADCFG_INT, 0x400, 4, 4, 0, 1, 24, 3, .rw, .any⟩,
  ⟨.ADC_ADSTAT_BUSY, 0x410, 4, 4, 0, 1, 31, 1, .ro, .any⟩,
  ⟨.ADC_ADSTAT_OVR, 0x410, 4, 4, 0, 1, 30, 1, .w1c, .any⟩,
  ⟨.ADC_ADSTAT_RBK, 0x410, 4, 4, 0, 1, 29, 1, .ro, .any⟩,
  ⟨.ADC_ADSTAT_NCONV, 0x410, 4, 4, 0, 1, 16, 5, .ro, .any⟩,
  ⟨.ADC_ADSTAT_SCANS, 0x410, 4, 4, 0, 1, 0, 16, .ro, .any⟩,
  ⟨.ADC_INTR_INPUT, 0x420, 4, 4, 0, 1, 16, 2, .ro, .any⟩,
  ⟨.ADC_INTR_CODE, 0x420, 4, 4, 0, 1, 0, 16, .ro, .any⟩,
  ⟨.ADC_DMACFG_EN, 0x500, 0, 1, 0, 1, 31, 1, .rw, .any⟩,
  ⟨.ADC_DMACFG_MODE, 0x500, 0, 1, 0, 1, 30, 1, .rw, .any⟩,
  ⟨.ADC_DMACFG_ROWK, 0x500, 0, 1, 0, 1, 0, 4, .rw, .near 0 12⟩,
  ⟨.ADC_DMASELLO, 0x504, 0, 1, 0, 1, 0, 32, .rw, .any⟩,
  ⟨.ADC_DMASELHI, 0x508, 0, 1, 0, 1, 0, 32, .rw, .any⟩,
  ⟨.ADC_DMABASE_BASE, 0x50C, 0, 1, 0, 1, 0, 13, .rw, .any⟩,
  ⟨.ADC_DMALEN_LEN, 0x510, 0, 1, 0, 1, 0, 11, .rw, .near 1 1024⟩]

/-- Rows of the ADC map. -/
def rowsADC1 : List FieldRow := [
  ⟨.ADC_DMAHEAD_HEAD, 0x514, 0, 1, 0, 1, 0, 13, .ro, .any⟩,
  ⟨.ADC_DMATAIL_TAIL, 0x518, 0, 1, 0, 1, 0, 13, .rw, .any⟩,
  ⟨.ADC_DMASTAT_CFGE, 0x51C, 0, 1, 0, 1, 31, 1, .w1c, .any⟩,
  ⟨.ADC_DMASTAT_FULL, 0x51C, 0, 1, 0, 1, 30, 1, .ro, .any⟩,
  ⟨.ADC_DMASTAT_DROPS, 0x51C, 0, 1, 0, 1, 29, 1, .w1c, .any⟩,
  ⟨.ADC_DMASTAT_DROPCNT, 0x51C, 0, 1, 0, 1, 0, 16, .ro, .any⟩]

/-- The ADC map. -/
def rowsADC : List FieldRow := rowsADC0 ++ rowsADC1

/-- Rows of the COOL map. -/
def rowsCOOL0 : List FieldRow := [
  ⟨.COOL_CTRL_DIAG, 0x0, 0, 1, 0, 1, 3, 1, .wo, .any⟩,
  ⟨.COOL_CTRL_FCLR, 0x0, 0, 1, 0, 1, 2, 1, .wo, .any⟩,
  ⟨.COOL_CTRL_DIR, 0x0, 0, 1, 0, 1, 1, 1, .rw, .any⟩,
  ⟨.COOL_CTRL_RUN, 0x0, 0, 1, 0, 1, 0, 1, .rw, .any⟩,
  ⟨.COOL_CFG_HFILT, 0x4, 0, 1, 0, 1, 28, 4, .rw, .any⟩,
  ⟨.COOL_CFG_VDSTH, 0x4, 0, 1, 0, 1, 24, 4, .rw, .near 1 15⟩,
  ⟨.COOL_CFG_MINT, 0x4, 0, 1, 0, 1, 19, 4, .rw, .any⟩,
  ⟨.COOL_CFG_PER, 0x4, 0, 1, 0, 1, 0, 14, .rw, .near 1000 10000⟩,
  ⟨.COOL_DUTY, 0x8, 0, 1, 0, 1, 0, 11, .rw, .near 0 1024⟩,
  ⟨.COOL_FLOW_FLOWT, 0xC, 0, 1, 0, 1, 16, 14, .rw, .near 10 10000⟩,
  ⟨.COOL_FLOW_TMAX, 0xC, 0, 1, 0, 1, 0, 16, .rw, .near 100 65535⟩,
  ⟨.COOL_START_STARTT, 0x10, 0, 1, 0, 1, 16, 14, .rw, .near 100 10000⟩,
  ⟨.COOL_START_FARE, 0x10, 0, 1, 0, 1, 0, 7, .rw, .near 0 80⟩,
  ⟨.COOL_STAT_STATE, 0x14, 0, 1, 0, 1, 30, 2, .ro, .any⟩,
  ⟨.COOL_STAT_FLOW, 0x14, 0, 1, 0, 1, 29, 1, .ro, .any⟩,
  ⟨.COOL_STAT_DBUSY, 0x14, 0, 1, 0, 1, 28, 1, .ro, .any⟩,
  ⟨.COOL_STAT_DIAGOK, 0x14, 0, 1, 0, 1, 27, 1, .ro, .any⟩,
  ⟨.COOL_STAT_BSREF, 0x14, 0, 1, 0, 1, 26, 1, .w1c, .any⟩,
  ⟨.COOL_STAT_FSW, 0x14, 0, 1, 0, 1, 16, 3, .ro, .any⟩,
  ⟨.COOL_STAT_GTO, 0x14, 0, 1, 0, 1, 8, 1, .w1c, .any⟩,
  ⟨.COOL_STAT_VDS, 0x14, 0, 1, 0, 1, 7, 1, .w1c, .any⟩,
  ⟨.COOL_STAT_STALL, 0x14, 0, 1, 0, 1, 6, 1, .w1c, .any⟩,
  ⟨.COOL_STAT_HALLE, 0x14, 0, 1, 0, 1, 5, 1, .w1c, .any⟩,
  ⟨.COOL_STAT_BSUV, 0x14, 0, 1, 0, 1, 4, 1, .w1c, .any⟩,
  ⟨.COOL_STAT_DRVUV, 0x14, 0, 1, 0, 1, 3, 1, .w1c, .any⟩]

/-- Rows of the COOL map. -/
def rowsCOOL1 : List FieldRow := [
  ⟨.COOL_STAT_FARE, 0x14, 0, 1, 0, 1, 2, 1, .w1c, .any⟩,
  ⟨.COOL_STAT_DIAGF, 0x14, 0, 1, 0, 1, 1, 1, .w1c, .any⟩,
  ⟨.COOL_SPD_HALL, 0x18, 0, 1, 0, 1, 16, 3, .ro, .any⟩,
  ⟨.COOL_SPD_T6, 0x18, 0, 1, 0, 1, 0, 16, .ro, .any⟩,
  ⟨.COOL_DIAGR_M3, 0x1C, 0, 1, 0, 1, 6, 3, .ro, .any⟩,
  ⟨.COOL_DIAGR_M2, 0x1C, 0, 1, 0, 1, 3, 3, .ro, .any⟩,
  ⟨.COOL_DIAGR_M1, 0x1C, 0, 1, 0, 1, 0, 3, .ro, .any⟩,
  ⟨.COOL_VBUS, 0x20, 0, 1, 0, 1, 0, 16, .ro, .any⟩,
  ⟨.COOL_CNT_REF, 0x24, 0, 1, 0, 1, 16, 16, .ro, .any⟩,
  ⟨.COOL_CNT_FLT, 0x24, 0, 1, 0, 1, 0, 16, .ro, .any⟩]

/-- The COOL map. -/
def rowsCOOL : List FieldRow := rowsCOOL0 ++ rowsCOOL1

/-- Rows of the FM map. -/
def rowsFM0 : List FieldRow := [
  ⟨.FM_STAT_BOOTF, 0x0, 0, 1, 0, 1, 31, 1, .ro, .any⟩,
  ⟨.FM_STAT_BOOTB, 0x0, 0, 1, 0, 1, 30, 1, .ro, .any⟩,
  ⟨.FM_STAT_TRIES, 0x0, 0, 1, 0, 1, 28, 2, .ro, .any⟩,
  ⟨.FM_STAT_CDREF, 0x0, 0, 1, 0, 1, 27, 1, .w1c, .any⟩,
  ⟨.FM_RSTCAUSE_KIND, 0x4, 0, 1, 0, 1, 0, 4, .ro, .any⟩,
  ⟨.FM_WDTCFG_EN, 0x8, 0, 1, 0, 1, 31, 1, .rw, .any⟩,
  ⟨.FM_WDTCFG_PER, 0x8, 0, 1, 0, 1, 0, 14, .rw, .near 1 10000⟩,
  ⟨.FM_WDTKICK, 0xC, 0, 1, 0, 1, 0, 32, .wo, .any⟩,
  ⟨.FM_CDCTL_HOLD, 0x10, 0, 1, 0, 1, 31, 1, .rw, .any⟩,
  ⟨.FM_CDCTL_AUTOWAKE, 0x10, 0, 1, 0, 1, 30, 1, .rw, .any⟩,
  ⟨.FM_CDCTL_WAKEP, 0x10, 0, 1, 0, 1, 0, 1, .w1c, .any⟩,
  ⟨.FM_CALLO, 0x20, 0, 1, 0, 1, 0, 32, .ro, .any⟩,
  ⟨.FM_CALHI, 0x24, 0, 1, 0, 1, 0, 32, .ro, .any⟩,
  ⟨.FM_CALSETLO, 0x28, 0, 1, 0, 1, 0, 32, .rw, .any⟩,
  ⟨.FM_CALSETHI, 0x2C, 0, 1, 0, 1, 0, 32, .rw, .any⟩,
  ⟨.FM_CALCTL_SET, 0x30, 0, 1, 0, 1, 0, 1, .wo, .any⟩,
  ⟨.FM_CALTRIM, 0x34, 0, 1, 0, 1, 0, 16, .rw, .signed16 5000⟩,
  ⟨.FM_CALSTAT_CALV, 0x38, 0, 1, 0, 1, 31, 1, .ro, .any⟩,
  ⟨.FM_CALSTAT_DISC, 0x38, 0, 1, 0, 1, 30, 1, .rw, .any⟩,
  ⟨.FM_CALSTAT_END, 0x38, 0, 1, 0, 1, 1, 1, .ro, .any⟩,
  ⟨.FM_CALSTAT_STEP, 0x38, 0, 1, 0, 1, 0, 1, .w1c, .any⟩,
  ⟨.FM_SEN_VALID, 0x100, 4, 32, 0, 1, 31, 1, .ro, .any⟩,
  ⟨.FM_SEN_LOAL, 0x100, 4, 32, 0, 1, 30, 1, .ro, .any⟩,
  ⟨.FM_SEN_HIAL, 0x100, 4, 32, 0, 1, 29, 1, .ro, .any⟩,
  ⟨.FM_SEN_VALUE, 0x100, 4, 32, 0, 1, 0, 20, .ro, .any⟩]

/-- Rows of the FM map. -/
def rowsFM1 : List FieldRow := [
  ⟨.FM_SLIM_HI, 0x180, 4, 32, 0, 1, 16, 16, .rw, .any⟩,
  ⟨.FM_SLIM_LO, 0x180, 4, 32, 0, 1, 0, 16, .rw, .any⟩,
  ⟨.FM_LOGHEAD, 0x200, 0, 1, 0, 1, 0, 32, .ro, .any⟩,
  ⟨.FM_LOGIDX, 0x204, 0, 1, 0, 1, 0, 14, .rw, .any⟩,
  ⟨.FM_LOGLOST, 0x208, 0, 1, 0, 1, 0, 32, .ro, .any⟩,
  ⟨.FM_LOGWSRC_LVL, 0x20C, 0, 1, 0, 1, 16, 4, .rw, .any⟩,
  ⟨.FM_LOGWSRC_SRC, 0x20C, 0, 1, 0, 1, 0, 16, .rw, .near 512 767⟩,
  ⟨.FM_LOGWD0, 0x210, 0, 1, 0, 1, 0, 32, .rw, .any⟩,
  ⟨.FM_LOGWD1, 0x214, 0, 1, 0, 1, 0, 32, .rw, .any⟩,
  ⟨.FM_LOGWCTL_GO, 0x218, 0, 1, 0, 1, 0, 1, .wo, .any⟩,
  ⟨.FM_HQLO, 0x300, 0, 1, 0, 1, 0, 32, .rw, .any⟩,
  ⟨.FM_HQHI, 0x304, 0, 1, 0, 1, 0, 16, .rw, .any⟩,
  ⟨.FM_HQCTL_PUSH, 0x308, 0, 1, 0, 1, 31, 1, .wo, .any⟩,
  ⟨.FM_HQCTL_Q, 0x308, 0, 1, 0, 1, 0, 4, .wo, .any⟩,
  ⟨.FM_HQSTAT_STATUS, 0x30C, 0, 1, 0, 1, 28, 4, .ro, .any⟩,
  ⟨.FM_HQSTAT_SEQ, 0x30C, 0, 1, 0, 1, 0, 15, .ro, .any⟩,
  ⟨.FM_HQLVL, 0x310, 4, 16, 0, 1, 0, 5, .ro, .any⟩,
  ⟨.FM_UPDCTL_CONFIRM, 0x400, 0, 1, 0, 1, 2, 1, .wo, .any⟩,
  ⟨.FM_UPDCTL_ACT, 0x400, 0, 1, 0, 1, 1, 1, .wo, .any⟩,
  ⟨.FM_UPDCTL_VERIFY, 0x400, 0, 1, 0, 1, 0, 1, .wo, .any⟩,
  ⟨.FM_UPDCFG_BANK, 0x404, 0, 1, 0, 1, 8, 1, .rw, .any⟩,
  ⟨.FM_UPDCFG_CLS, 0x404, 0, 1, 0, 1, 0, 3, .rw, .near 0 4⟩,
  ⟨.FM_UPDSTAT_BUSY, 0x408, 0, 1, 0, 1, 31, 1, .ro, .any⟩,
  ⟨.FM_UPDSTAT_PEND, 0x408, 0, 1, 0, 1, 30, 1, .ro, .any⟩,
  ⟨.FM_UPDSTAT_CODE, 0x408, 0, 1, 0, 1, 0, 8, .ro, .any⟩]

/-- Rows of the FM map. -/
def rowsFM2 : List FieldRow := [
  ⟨.FM_ACTSEL, 0x40C, 0, 1, 0, 1, 0, 5, .ro, .any⟩,
  ⟨.FM_ARIDX_CLS, 0x410, 0, 1, 0, 1, 8, 3, .rw, .near 0 4⟩,
  ⟨.FM_ARIDX_CTR, 0x410, 0, 1, 0, 1, 0, 6, .rw, .any⟩,
  ⟨.FM_ARVAL, 0x414, 0, 1, 0, 1, 0, 32, .ro, .any⟩,
  ⟨.FM_XSCMD, 0x500, 0, 1, 0, 1, 0, 32, .rw, .any⟩,
  ⟨.FM_ATTCTL_GO, 0x600, 0, 1, 0, 1, 0, 1, .wo, .any⟩,
  ⟨.FM_ATTSTAT_DONE, 0x604, 0, 1, 0, 1, 31, 1, .ro, .any⟩,
  ⟨.FM_ATTSTAT_BUSY, 0x604, 0, 1, 0, 1, 30, 1, .ro, .any⟩,
  ⟨.FM_ATTNONCE, 0x610, 4, 4, 0, 1, 0, 32, .rw, .any⟩,
  ⟨.FM_CKPCFG_EN, 0x700, 0, 1, 0, 1, 31, 1, .rw, .any⟩,
  ⟨.FM_CKPCFG_HOUR, 0x700, 0, 1, 0, 1, 8, 5, .rw, .near 0 23⟩,
  ⟨.FM_CKPCFG_MIN, 0x700, 0, 1, 0, 1, 0, 6, .rw, .near 0 59⟩,
  ⟨.FM_CKPSTAT_BUSY, 0x704, 0, 1, 0, 1, 31, 1, .ro, .any⟩,
  ⟨.FM_CKPSTAT_SLOT, 0x704, 0, 1, 0, 1, 30, 1, .ro, .any⟩,
  ⟨.FM_CKPSTAT_COUNT, 0x704, 0, 1, 0, 1, 0, 16, .ro, .any⟩,
  ⟨.FM_KEYDG, 0x800, 4, 32, 0, 1, 0, 32, .fz, .any⟩,
  ⟨.FM_SERLO, 0x880, 0, 1, 0, 1, 0, 32, .fz, .any⟩,
  ⟨.FM_SERHI, 0x884, 0, 1, 0, 1, 0, 32, .fz, .any⟩,
  ⟨.FM_LTPAGE, 0x900, 0, 1, 0, 1, 0, 4, .rw, .any⟩,
  ⟨.FM_ATTWIN, 0x1000, 4, 216, 0, 1, 0, 32, .ro, .any⟩,
  ⟨.FM_CERTWIN, 0x1800, 4, 64, 0, 1, 0, 32, .ro, .any⟩,
  ⟨.FM_LTWIN, 0x2000, 4, 1024, 0, 1, 0, 32, .ro, .any⟩,
  ⟨.FM_LOGWIN, 0x3000, 4, 8, 0, 1, 0, 32, .ro, .any⟩]

/-- The FM map. -/
def rowsFM : List FieldRow := rowsFM0 ++ rowsFM1 ++ rowsFM2

/-- Rows of the CAP map. -/
def rowsCAP0 : List FieldRow := [
  ⟨.CAP_CTRL_HTEST, 0x0, 0, 1, 0, 1, 0, 1, .wo, .any⟩,
  ⟨.CAP_STAT_VINV, 0x4, 0, 1, 0, 1, 31, 1, .ro, .any⟩,
  ⟨.CAP_STAT_ARMED, 0x4, 0, 1, 0, 1, 30, 1, .ro, .any⟩,
  ⟨.CAP_STAT_PFW, 0x4, 0, 1, 0, 1, 29, 1, .w1c, .any⟩,
  ⟨.CAP_STAT_HUPRDY, 0x4, 0, 1, 0, 1, 28, 1, .ro, .any⟩,
  ⟨.CAP_STAT_HUPLOW, 0x4, 0, 1, 0, 1, 27, 1, .ro, .any⟩,
  ⟨.CAP_STAT_HBUSY, 0x4, 0, 1, 0, 1, 26, 1, .ro, .any⟩,
  ⟨.CAP_STAT_OVB, 0x4, 0, 1, 0, 1, 25, 1, .w1c, .any⟩,
  ⟨.CAP_STAT_VBATL, 0x4, 0, 1, 0, 1, 24, 1, .ro, .any⟩,
  ⟨.CAP_STAT_TSD, 0x4, 0, 1, 0, 1, 23, 1, .w1c, .any⟩,
  ⟨.CAP_PFW_HYS, 0x8, 0, 1, 0, 1, 8, 4, .rw, .near 1 15⟩,
  ⟨.CAP_PFW_LEVEL, 0x8, 0, 1, 0, 1, 0, 8, .rw, .near 32 240⟩,
  ⟨.CAP_HUP_EN, 0xC, 0, 1, 0, 1, 31, 1, .rw, .any⟩,
  ⟨.CAP_HUP_FARE, 0xC, 0, 1, 0, 1, 8, 6, .rw, .near 1 40⟩,
  ⟨.CAP_HUP_VSET, 0xC, 0, 1, 0, 1, 0, 7, .rw, .near 40 120⟩,
  ⟨.CAP_HUPC_C, 0x10, 0, 1, 0, 1, 16, 16, .ro, .any⟩,
  ⟨.CAP_HUPC_E, 0x10, 0, 1, 0, 1, 0, 16, .ro, .any⟩,
  ⟨.CAP_HUPV, 0x14, 0, 1, 0, 1, 0, 16, .ro, .any⟩,
  ⟨.CAP_BUDGET_BASE, 0x18, 0, 1, 0, 1, 16, 9, .rw, .near 0 480⟩,
  ⟨.CAP_BUDGET_FARES, 0x18, 0, 1, 0, 1, 0, 9, .rw, .near 1 480⟩,
  ⟨.CAP_COMMIT_PEAK, 0x1C, 0, 1, 0, 1, 16, 9, .ro, .any⟩,
  ⟨.CAP_COMMIT_NOW, 0x1C, 0, 1, 0, 1, 0, 9, .ro, .any⟩,
  ⟨.CAP_REQ_REQ, 0x20, 0, 1, 0, 1, 31, 1, .rw, .any⟩,
  ⟨.CAP_REQ_FARES, 0x20, 0, 1, 0, 1, 0, 7, .rw, .near 0 80⟩,
  ⟨.CAP_OUTEN, 0x24, 0, 1, 0, 1, 0, 4, .rw, .any⟩]

/-- Rows of the CAP map. -/
def rowsCAP1 : List FieldRow := [
  ⟨.CAP_OUTSTAT_OC, 0x28, 0, 1, 0, 1, 8, 4, .w1c, .any⟩,
  ⟨.CAP_OUTSTAT_PG, 0x28, 0, 1, 0, 1, 0, 4, .ro, .any⟩,
  ⟨.CAP_PINT, 0x2C, 0, 1, 0, 1, 0, 10, .rw, .near 10 1000⟩,
  ⟨.CAP_CNT_WAITED, 0x30, 0, 1, 0, 1, 16, 16, .ro, .any⟩,
  ⟨.CAP_CNT_OVB, 0x30, 0, 1, 0, 1, 0, 16, .ro, .any⟩,
  ⟨.CAP_CLR, 0x34, 0, 1, 0, 1, 0, 1, .wo, .any⟩,
  ⟨.CAP_CLS_PEND, 0x40, 4, 24, 0, 1, 31, 1, .ro, .any⟩,
  ⟨.CAP_CLS_HELD, 0x40, 4, 24, 0, 1, 30, 1, .ro, .any⟩,
  ⟨.CAP_CLS_BLOCK, 0x40, 4, 24, 0, 1, 29, 1, .ro, .any⟩,
  ⟨.CAP_CLS_FARES, 0x40, 4, 24, 0, 1, 0, 7, .ro, .any⟩,
  ⟨.CAP_CLFARE, 0xA0, 4, 24, 0, 1, 0, 7, .rw, .near 0 80⟩]

/-- The CAP map. -/
def rowsCAP : List FieldRow := rowsCAP0 ++ rowsCAP1

/-- Rows of the CLK map. -/
def rowsCLK0 : List FieldRow := [
  ⟨.CLK_CFG_PRE, 0x0, 0, 1, 0, 1, 0, 2, .rw, .any⟩,
  ⟨.CLK_STAT_LOCK, 0x4, 0, 1, 0, 1, 31, 1, .ro, .any⟩,
  ⟨.CLK_STAT_PHFIX, 0x4, 0, 1, 0, 1, 30, 1, .ro, .any⟩,
  ⟨.CLK_STAT_HOLD, 0x4, 0, 1, 0, 1, 29, 1, .ro, .any⟩,
  ⟨.CLK_STAT_REFL, 0x4, 0, 1, 0, 1, 28, 1, .w1c, .any⟩,
  ⟨.CLK_STAT_LOLS, 0x4, 0, 1, 0, 1, 27, 1, .w1c, .any⟩,
  ⟨.CLK_STAT_CKSEL, 0x4, 0, 1, 0, 1, 24, 3, .ro, .any⟩,
  ⟨.CLK_NDIV, 0x8, 0, 1, 0, 1, 0, 10, .ro, .any⟩,
  ⟨.CLK_SLIP, 0xC, 0, 1, 0, 1, 0, 32, .ro, .any⟩,
  ⟨.CLK_LOCKCNT, 0x10, 0, 1, 0, 1, 0, 16, .ro, .any⟩,
  ⟨.CLK_COUT_EN, 0x20, 4, 4, 0, 1, 31, 1, .rw, .any⟩,
  ⟨.CLK_COUT_SRC, 0x20, 4, 4, 0, 1, 26, 2, .rw, .any⟩,
  ⟨.CLK_COUT_DIV, 0x20, 4, 4, 0, 1, 0, 12, .rw, .any⟩]

/-- The CLK map. -/
def rowsCLK : List FieldRow := rowsCLK0

/-- Rows of the EVT map. -/
def rowsEVT0 : List FieldRow := [
  ⟨.EVT_RT_PEND, 0x0, 4, 512, 0, 1, 31, 1, .w1c, .any⟩,
  ⟨.EVT_RT_OVR, 0x0, 4, 512, 0, 1, 30, 1, .w1c, .any⟩,
  ⟨.EVT_RT_MAN, 0x0, 4, 512, 0, 1, 29, 1, .ro, .any⟩,
  ⟨.EVT_RT_SAFP, 0x0, 4, 512, 0, 1, 28, 1, .lk, .any⟩,
  ⟨.EVT_RT_LVL, 0x0, 4, 512, 0, 1, 20, 4, .rw, .any⟩,
  ⟨.EVT_RT_FM, 0x0, 4, 512, 0, 1, 19, 1, .rw, .any⟩,
  ⟨.EVT_RT_LOG, 0x0, 4, 512, 0, 1, 18, 1, .rw, .any⟩,
  ⟨.EVT_RT_LEVEL, 0x0, 4, 512, 0, 1, 17, 1, .ro, .any⟩,
  ⟨.EVT_NEXT_VALID, 0x800, 0, 1, 0, 1, 31, 1, .ro, .any⟩,
  ⟨.EVT_NEXT_LVL, 0x800, 0, 1, 0, 1, 16, 4, .ro, .any⟩,
  ⟨.EVT_NEXT_SRC, 0x800, 0, 1, 0, 1, 0, 9, .ro, .any⟩,
  ⟨.EVT_SWSET, 0x804, 0, 1, 0, 1, 0, 16, .wo, .any⟩,
  ⟨.EVT_PEND, 0x840, 4, 16, 0, 1, 0, 32, .ro, .any⟩,
  ⟨.EVT_CAPCFG_EN, 0x1000, 32, 16, 0, 1, 31, 1, .rw, .any⟩,
  ⟨.EVT_CAPCFG_MODE, 0x1000, 32, 16, 0, 1, 30, 1, .rw, .any⟩,
  ⟨.EVT_CAPCFG_SRC, 0x1000, 32, 16, 0, 1, 0, 9, .rw, .any⟩,
  ⟨.EVT_CAPTLO, 0x1004, 32, 16, 0, 1, 0, 32, .ro, .any⟩,
  ⟨.EVT_CAPTHI, 0x1008, 32, 16, 0, 1, 0, 32, .ro, .any⟩,
  ⟨.EVT_CAPTICK_VALID, 0x100C, 32, 16, 0, 1, 31, 1, .w1c, .any⟩,
  ⟨.EVT_CAPTICK_TICK, 0x100C, 32, 16, 0, 1, 0, 16, .ro, .any⟩,
  ⟨.EVT_CAPCNT, 0x1010, 32, 16, 0, 1, 0, 32, .ro, .any⟩]

/-- The EVT map. -/
def rowsEVT : List FieldRow := rowsEVT0

/-- Rows of the PCNT map. -/
def rowsPCNT0 : List FieldRow := [
  ⟨.PCNT_CTRL_FRZ, 0x0, 0, 1, 0, 1, 1, 1, .rw, .any⟩,
  ⟨.PCNT_CTRL_EN, 0x0, 0, 1, 0, 1, 0, 1, .rw, .any⟩,
  ⟨.PCNT_OVFLO, 0x4, 0, 1, 0, 1, 0, 32, .w1c, .any⟩,
  ⟨.PCNT_OVFHI, 0x8, 0, 1, 0, 1, 0, 32, .w1c, .any⟩,
  ⟨.PCNT_CFG_EN, 0x100, 16, 64, 0, 1, 31, 1, .rw, .any⟩,
  ⟨.PCNT_CFG_CHAIN, 0x100, 16, 64, 0, 1, 30, 1, .rw, .any⟩,
  ⟨.PCNT_CFG_LVLM, 0x100, 16, 64, 0, 1, 29, 1, .rw, .any⟩,
  ⟨.PCNT_CFG_TFILT, 0x100, 16, 64, 0, 1, 28, 1, .rw, .any⟩,
  ⟨.PCNT_CFG_ENG, 0x100, 16, 64, 0, 1, 24, 4, .rw, .any⟩,
  ⟨.PCNT_CFG_TASK, 0x100, 16, 64, 0, 1, 15, 9, .rw, .any⟩,
  ⟨.PCNT_CFG_SRC, 0x100, 16, 64, 0, 1, 0, 10, .rw, .any⟩,
  ⟨.PCNT_CTLO, 0x104, 16, 64, 0, 1, 0, 32, .rw, .any⟩,
  ⟨.PCNT_CTHI, 0x108, 16, 64, 0, 1, 0, 16, .rw, .any⟩,
  ⟨.PCNT_TAGCFG_EN, 0x800, 0, 1, 0, 1, 31, 1, .rw, .any⟩,
  ⟨.PCNT_TAGCFG_ENG, 0x800, 0, 1, 0, 1, 5, 4, .rw, .any⟩,
  ⟨.PCNT_TAGCFG_K, 0x800, 0, 1, 0, 1, 0, 5, .rw, .any⟩,
  ⟨.PCNT_TAGSTAT_QUEUED, 0x804, 0, 1, 0, 1, 16, 5, .ro, .any⟩,
  ⟨.PCNT_TAGSTAT_DROP, 0x804, 0, 1, 0, 1, 0, 16, .ro, .any⟩,
  ⟨.PCNT_TAGRECA, 0x808, 0, 1, 0, 1, 0, 32, .ro, .any⟩,
  ⟨.PCNT_TAGRECB, 0x80C, 0, 1, 0, 1, 0, 32, .ro, .any⟩,
  ⟨.PCNT_BWCFG_EN, 0xA00, 16, 16, 0, 1, 31, 1, .rw, .any⟩,
  ⟨.PCNT_BWCFG_WIN, 0xA00, 16, 16, 0, 1, 0, 20, .rw, .any⟩,
  ⟨.PCNT_BWLAST, 0xA04, 16, 16, 0, 1, 0, 32, .ro, .any⟩,
  ⟨.PCNT_BWPEAK, 0xA08, 16, 16, 0, 1, 0, 32, .w1c, .any⟩]

/-- The PCNT map. -/
def rowsPCNT : List FieldRow := rowsPCNT0

/-- Rows of the GWY map. -/
def rowsGWY0 : List FieldRow := [
  ⟨.GWY_BENCH_ON, 0x0, 0, 1, 0, 1, 31, 1, .ro, .any⟩,
  ⟨.GWY_BENCH_STRAP, 0x0, 0, 1, 0, 1, 30, 1, .ro, .any⟩,
  ⟨.GWY_BENCH_REF, 0x0, 0, 1, 0, 1, 8, 4, .ro, .any⟩,
  ⟨.GWY_BENCH_EXIT, 0x0, 0, 1, 0, 1, 1, 1, .wo, .any⟩,
  ⟨.GWY_BENCH_ENTER, 0x0, 0, 1, 0, 1, 0, 1, .wo, .any⟩,
  ⟨.GWY_STAT_JREF, 0x4, 0, 1, 0, 1, 1, 1, .w1c, .any⟩,
  ⟨.GWY_STAT_ASEAL, 0x4, 0, 1, 0, 1, 0, 1, .w1c, .any⟩,
  ⟨.GWY_DSEL_EN, 0x100, 4, 8, 0, 1, 31, 1, .rw, .any⟩,
  ⟨.GWY_DSEL_SEL, 0x100, 4, 8, 0, 1, 0, 10, .rw, .any⟩,
  ⟨.GWY_ASEL_EN, 0x120, 4, 2, 0, 1, 31, 1, .rw, .any⟩,
  ⟨.GWY_ASEL_SEL, 0x120, 4, 2, 0, 1, 0, 6, .rw, .any⟩,
  ⟨.GWY_ADAC, 0x128, 0, 1, 0, 1, 0, 5, .rw, .any⟩]

/-- The GWY map. -/
def rowsGWY : List FieldRow := rowsGWY0

/-- The map of a block. -/
def Blk.rows : Blk → List FieldRow
  | .TIDE => rowsTIDE
  | .TTB => rowsTTB
  | .CE => rowsCE
  | .SE => rowsSE
  | .PWM => rowsPWM
  | .LEG => rowsLEG
  | .CLINK => rowsCLINK
  | .WCMP => rowsWCMP
  | .NODE => rowsNODE
  | .ETH => rowsETH
  | .BERTH => rowsBERTH
  | .SDF => rowsSDF
  | .MTR => rowsMTR
  | .TALLY => rowsTALLY
  | .MAN => rowsMAN
  | .SAF => rowsSAF
  | .TWIN => rowsTWIN
  | .DDR => rowsDDR
  | .ECC => rowsECC
  | .ADC => rowsADC
  | .COOL => rowsCOOL
  | .FM => rowsFM
  | .CAP => rowsCAP
  | .CLK => rowsCLK
  | .EVT => rowsEVT
  | .PCNT => rowsPCNT
  | .GWY => rowsGWY

/-- The index a row's register has at window offset `o`, if the row's register lies there. -/
def FieldRow.indexAt (r : FieldRow) (o : Nat) : Option Nat :=
  if o < r.off then none
  else
    let d := o - r.off
    if r.stride = 0 then (if d = 0 then some 0 else none)
    else
      let p := d / r.stride
      let e := d % r.stride
      if p < r.count then
        if r.stride2 = 0 then (if e = 0 then some p else none)
        else
          let q := e / r.stride2
          if e % r.stride2 = 0 ∧ q < r.count2 then some (p * r.count2 + q) else none
      else none

/-- The block whose window (16 MiB from its base, R21) holds address `a`. -/
def blkAt (a : Nat) : Option Blk :=
  allBlks.find? fun b => b.base ≤ a && a < b.base + 0x1000000

/-- The fields, with their register numbers, of the register at offset `o` of a block (none: the map lists no register
there). -/
def fieldsAt (b : Blk) (o : Nat) : List (FieldRow × Nat) :=
  b.rows.filterMap fun r => (r.indexAt o).map fun i => (r, i)

end Sys2Proof.Machine
end

