-- ==== Sys2Proof/Config.lean ====
section
/-!
DEFINITION. Config.lean: what the manual leaves open and what an individual part fixes. Every constant here is opaque: nothing in
Lean can evaluate it, so a statement that holds, holds whatever its value is.
-/
namespace Sys2Proof.Config

/-- The n-th free value the machine draws (log entry 1). -/
opaque freeNat : Nat → Nat

/-- The n-th free bits of a width (log entry 1). -/
opaque freeBits (w n : Nat) : BitVec w

/-- Byte `i` of the Ed448 signature under private key `key` (0 attestation, 1 custody) of a message (R295, R424, log entry 5). -/
opaque signByte (key : Nat) (msg : List Byte) (i : Nat) : Byte

/-- The four bytes by which a STORE names an engine and an address in its data SRAM: the manual gives them no layout (R337, log entry 50). -/
opaque storePlace : Nat → Nat → BitVec 32

/-- The four bytes by which a NODEMIR names a landing and its STATE: the manual gives them no layout (R337, log entry 50). -/
opaque landingEntry : Nat → Nat → Nat

/-- A choice of the first 64 taps of the metering filter's FIR stage, which is symmetric; the machine takes it where it has the response that the manual
gives (R265, R266, log entry 157). -/
opaque firTap : Nat → Int

/-- A choice of tap `i` of the fractional-delay filter for a delay of 50,000 ns + n / (k × 2^149) ns; the machine takes it where it keeps the error that the
manual gives (R267, log entry 157). -/
opaque delayTap : Nat → Int → Nat → Int

/-- vh, the voltage shifted by -90°, from the values up to now, newest first: the manual does not give the filter (R275, log entry 157). -/
opaque quadrature : List Int → Int

/-- The fuse words FM.KEYDG0 to KEYDG31 (R416). -/
opaque keyDigest : Nat → BitVec 32

/-- The serial number (R416). -/
opaque serial : BitVec 64

/-- The revision of die `k` in its IDCODE, and the manufacturer code (R467). -/
opaque dieRevision : Nat → BitVec 4
opaque maker : BitVec 11

/-- Byte `i` of the device certificate (R416, Table 18-7). -/
opaque certByte : Nat → Byte

/-- The fused spare rows and columns of memory `k` (R369). -/
opaque spare : Nat → BitVec 5

/-- Byte `i` of the boot ROM: the manual gives its content no value (log entry 55). -/
opaque romByte : Nat → Byte

/-- The cosine (0) or sine (1) that vsincos delivers for an angle that is no multiple of a quarter turn, as binary32, where it lies within the
manual's error bound: the manual gives no algorithm (R81, log entry 6). -/
opaque sincosLane : BitVec 32 → Nat → BitVec 32

/-- The cosine (0) or sine (1) of vsincos at a multiple of a quarter turn, where it is zero, is minus zero: the manual says the result is exact
and gives no sign of zero (R81, log entry 6). -/
opaque sincosMinusZero : BitVec 32 → Nat → Bool

end Sys2Proof.Config
end

