-- ==== Sys2Proof/Machine/Store.lean ====
section
/-!
DEFINITION. Machine/Store.lean: sparse tables, the one way the state holds anything that is indexed. A table is a list of
(key, value) pairs in one canonical form: keys strictly rising, and no entry equal to what an unlisted key reads as.
-/
namespace Sys2Proof.Machine

/-- A sparse table. -/
abbrev Store (κ α : Type) := List (κ × α)

/-- The value at key `k`; `d` is what an unlisted key reads as. -/
def Store.get {κ α : Type} [DecidableEq κ] (d : α) (k : κ) : Store κ α → α
  | [] => d
  | (j, v) :: t => if j = k then v else Store.get d k t

/-- The table without key `k`. -/
def Store.erase {κ α : Type} [DecidableEq κ] (k : κ) : Store κ α → Store κ α
  | [] => []
  | (j, v) :: t => if j = k then Store.erase k t else (j, v) :: Store.erase k t

/-- Enters `v` at key `k`, keeping the keys in the order `lt`. -/
def Store.insert {κ α : Type} [DecidableEq κ] (lt : κ → κ → Bool) (k : κ) (v : α) : Store κ α → Store κ α
  | [] => [(k, v)]
  | (j, w) :: t =>
    if j = k then (k, v) :: t
    else if lt k j then (k, v) :: (j, w) :: t
    else (j, w) :: Store.insert lt k v t

/-- Writes `v` at key `k`: writing what an unlisted key reads as removes the entry. -/
def Store.put {κ α : Type} [DecidableEq κ] [DecidableEq α] (lt : κ → κ → Bool) (d : α) (k : κ) (v : α)
    (t : Store κ α) : Store κ α :=
  if v = d then Store.erase k t else Store.insert lt k v t

/-- The order of number keys. -/
def natLt (a b : Nat) : Bool := decide (a < b)

/-- Reads a table keyed by numbers. -/
def Store.at {α : Type} (t : Store Nat α) (d : α) (k : Nat) : α := Store.get d k t

/-- Writes a table keyed by numbers. -/
def Store.set {α : Type} [DecidableEq α] (t : Store Nat α) (d : α) (k : Nat) (v : α) : Store Nat α :=
  Store.put natLt d k v t

/-- The canonical form of a table: keys strictly rising in the order `lt`, and no entry equal to its default. -/
def Store.canon {κ α : Type} [DecidableEq α] (lt : κ → κ → Bool) (d : κ → α) : Store κ α → Bool
  | [] => true
  | [(k, v)] => decide (v ≠ d k)
  | (k, v) :: (j, w) :: t => decide (v ≠ d k) && lt k j && Store.canon lt d ((j, w) :: t)

/-- The little-endian number that a list of bytes spells (R8). -/
def leNat : List Byte → Nat
  | [] => 0
  | b :: t => b.toNat + 256 * leNat t

/-- The `n` little-endian bytes of a number (R8). -/
def leBytes : Nat → Nat → List Byte
  | 0, _ => []
  | n + 1, v => BitVec.ofNat 8 v :: leBytes n (v / 256)

/-- Bits `hi` down to `lo` of a number. -/
def bitsOf (v hi lo : Nat) : Nat := v / 2 ^ lo % 2 ^ (hi + 1 - lo)

/-- Bit `i` of a number. -/
def bitOf (v i : Nat) : Bool := decide (v / 2 ^ i % 2 = 1)

/-- The number `v` with bit `i` set to `b`. -/
def setBit (v i : Nat) (b : Bool) : Nat :=
  if bitOf v i = b then v else if b then v + 2 ^ i else v - 2 ^ i

/-- The number 1 or 0. -/
def bit01 (b : Bool) : Nat := if b then 1 else 0

/-- Addition that stops at `m`. -/
def satAdd (m a b : Nat) : Nat := if m ≤ a + b then m else a + b

/-- The nearest number from `lo` to `hi`. -/
def clampNat (lo hi v : Nat) : Nat := if v < lo then lo else if hi < v then hi else v

/-- The signed reading of the low `w` bits. -/
def toSigned (w v : Nat) : Int :=
  let u := v % 2 ^ w
  if u < 2 ^ (w - 1) then (u : Int) else (u : Int) - (2 ^ w : Int)

/-- The low `w` bits of a signed number. -/
def ofSigned (w : Nat) (x : Int) : Nat := (x % (2 ^ w : Int)).toNat

end Sys2Proof.Machine
end

