-- ==== Sys2Proof/Machine/PartsControl.lean ====
section
/-!
DEFINITION. Machine/PartsControl.lean: what the shipped control and grid programs hold (R165 to R216) as far as their commands and events go:
parameters, tables, the stop and trip states, the permit, coolant and host candidates. They keep it in data SRAM; the manual gives it by
name, not by address.
-/
namespace Sys2Proof.Machine

/-- A shipped table in force (R168, R170, Table 3-12): its points and slopes, binary32. -/
structure CtlTable where
  pts    : List (Nat × Nat) := []
  slopes : List Nat := []
deriving DecidableEq, Repr

/-- An accepted change and the frame from which it is in force (R168). -/
inductive CtlChange where
  | param (id value : Nat)
  | table (n : Nat) (t : CtlTable)
deriving DecidableEq, Repr

/-- The stop state (R188): its causes in the order recorded, at most two; a controlled stop's ramp runs; its outputs are staged. -/
structure StopState where
  causes : List Nat := []
  ramp   : Bool := false
  staged : Bool := false
deriving DecidableEq, Repr

/-- The states of the synchronisation loop (Table 8-3). -/
inductive SyncState where
  | searching | locked | free
deriving DecidableEq, Repr

/-- What the competition, the DC-link loop and the export permit and grid support task hold (R171 to R184, R198). -/
structure Compete where
  /-- P* of the latest activation, and the winning tag. -/
  pstar : Nat := 0
  tag   : Nat := 0
  /-- P*prev is the measured power at the next activation (R180): the first one, or a stop or a trip stood at the last one. -/
  fromMeasured : Bool := true
  /-- Every candidate was NaN at the latest activation (R173). -/
  nan   : Bool := false
  /-- The tracking candidate and the integrator of the DC-link loop (R171); none is +infinity. -/
  trk   : Option Nat := none
  xTrk  : Nat := 0
  /-- P_pre (R181). -/
  ppre  : Option Nat := none
  /-- The lags of the frequency-watt and volt-watt candidates (R181, R182). -/
  fwY   : Option Nat := none
  vwY   : Option Nat := none
  /-- The under-frequency response is active, and its power (R198). -/
  ufr   : Bool := false
  duf   : Nat := 0
  /-- The DC-link overvoltage curtails the field to zero, and for how many activations it has (R184). -/
  curtail : Bool := false
  ovpN    : Nat := 0
deriving DecidableEq, Repr

/-- The grid record, Table 8-1. -/
structure GridRec where
  theta : Nat := 0
  f     : Nat := 0
  rocof : Nat := 0
  ud    : Nat := 0
  uq    : Nat := 0
  v1    : Nat := 0
  v2    : Nat := 0
  vmin  : Nat := 0
  vmax  : Nat := 0
  qstar : Nat := 0
  thd   : Nat := 0
deriving DecidableEq, Repr

/-- The grid synchronisation task's filters and loop (R193). -/
structure Pll where
  /-- In-phase and quadrature value of each phase. -/
  sogi  : List (Nat × Nat) := []
  /-- The integrator, as a frequency beside sy.fnom, and the frequency estimate fe (Hz). -/
  x     : Nat := 0
  fe    : Option Nat := none
  /-- The angle, and f behind its lag; none before the first activation. -/
  theta : Nat := 0
  f     : Option Nat := none
  /-- f of past activations, latest first (R193, R210). -/
  past  : List Nat := []
  /-- A voltage item is lost (R194). -/
  lost  : Bool := false
  /-- The tide counts from which the conditions of the lock have held, and from which the loop has been in Free. -/
  lockFrom : Option Nat := none
  freeFrom : Option Nat := none
  /-- Q* of volt-var behind its lag (R196). -/
  qLag  : Nat := 0
  /-- Momentary cessation as the task reports it (R201). -/
  mc    : Bool := false
  /-- The tide count at which the open window, or the latest one, opened (R208). -/
  winAt : Option Nat := none
  /-- The tide count from which the conditions of the reconnection have held (R212). -/
  rcFrom : Option Nat := none
  /-- The tide count at which the enter-service ramp began (R212). -/
  enterAt : Nat := 0
deriving DecidableEq, Repr

/-- What ride-through supervision and the passive detectors hold (R203 to R206, R211). -/
structure Watch where
  /-- Frames for which the condition of the running undervoltage or overvoltage timer has been absent (R203). -/
  tuOff  : Nat := 0
  tovOff : Nat := 0
  /-- 1 + the frames for which frequency element 0 to 3 (OF2, UF2, OF1, UF1) has run (R205). -/
  freqT  : Store Nat Nat := []
  /-- Causes recorded since the grid synchronisation task last looked (R206). -/
  causes : List Nat := []
  /-- The trip conditions (Table 8-4) that stood at the latest activations of supervision and of the detectors (R212). -/
  tripping : List Nat := []
  /-- The tide count at which RT cleared (R211). -/
  rtEnd  : Option Nat := none
  /-- Consecutive activations of the detector with RoCoF above is.rocof (R211). -/
  rocN   : Nat := 0
  /-- The angle of the voltage vector in past activations, latest first, as a fraction of a turn (R211). -/
  delta  : List Nat := []
deriving DecidableEq, Repr

/-- What the current-control task holds (R169, R195 to R202). -/
structure CurCtl where
  /-- The integrators of the two positive-sequence and the two negative-sequence axes. -/
  xd  : Nat := 0
  xq  : Nat := 0
  xnd : Nat := 0
  xnq : Nat := 0
  /-- The resonant terms (R195): 6 f on d and q, 12 f on d and q. -/
  res : List (Nat × Nat) := []
  /-- The quadrature filters of its own voltages (R200). -/
  sogi : List (Nat × Nat) := []
  /-- The references of the latest activation, and the normalised phase references it leaves. -/
  idRef : Nat := 0
  iqRef : Nat := 0
  refs  : List Nat := []
  /-- The measured active power (W). -/
  power : Nat := 0
  /-- Consecutive activations with Vfast outside the continuous band (R199). -/
  entN : Nat := 0
  /-- It was in ride-through, and it read RT = 1, at its last activation. -/
  rode   : Bool := false
  rtRead : Bool := false
  /-- iq* on entry (R200, rt.iqmode 0). -/
  iqHold : Nat := 0
  /-- P_exit and the tide count of the exit (R202). -/
  exit : Option (Nat × Nat) := none
  /-- The tide count at which momentary cessation ended (R201). -/
  mcEnd : Option Nat := none
  /-- The tide count at which it first read a controlled stop, and the references that the ramp starts from (R188). -/
  rampFrom : Option Nat := none
  rampRef  : Nat × Nat := (0, 0)
  /-- The virtual machine of grid forming: w and the angle as a fraction of a turn (R197). -/
  w   : Nat := 0x3F800000
  thf : Nat := 0
deriving DecidableEq, Repr

/-- What the modulation task holds (R187, R188, R212). -/
structure Modul where
  /-- Its TASKID, once it has activated: its output set names the legs and cells that it owns. -/
  task : Option Nat := none
  /-- The converter is in service: the legs and cells may run (R212). -/
  service : Bool := false
  /-- It staged RUN = 1 at its latest activation. -/
  running : Bool := false
  /-- By cell: activations with no fresh report, and fresh reports in a row since it was left out (R187). -/
  stale : Store Nat Nat := []
  back  : Store Nat Nat := []
  /-- The cells that balancing leaves out (R187). -/
  out   : List Nat := []
deriving DecidableEq, Repr

/-- What the shipped tasks pass to each other through the exchange nodes (Table 7-2). A candidate that is none is +infinity. -/
structure Exchange where
  /-- Node 262,080: P*, the winning tag, the stop state, the DC-link overvoltage's command to the field. -/
  pstar : Nat := 0
  tag   : Nat := 0
  stop  : StopState := {}
  curtail : Bool := false
  /-- Node 262,081: the grid record and its state word. -/
  grid  : GridRec := {}
  word  : Nat := 0
  /-- Node 262,082: the thermal candidate, T_hot, coolant lost. -/
  therm : Option Nat := none
  tHot  : Nat := 0
  coolLost : Bool := false
  /-- Node 262,083: the permit, frequency-watt and volt-watt candidates, the permit-fault flag. -/
  permit : Option Nat := none
  fw     : Option Nat := none
  vw     : Option Nat := none
  permitFault : Bool := false
  /-- Node 262,086: the hottest cell temperature (none: no cell's report is fresh), the number of stale cells. -/
  cellHot   : Option Nat := none
  cellStale : Nat := 0
deriving DecidableEq, Repr

/-- Where an optimiser stands in the field-tracking program (R238): 0 tracking, 1 scan ordered, 2 held at a peak; the round of its last scan order. -/
structure Scan where
  phase : Nat := 0
  round : Option Nat := none
deriving DecidableEq, Repr

/-- The shipped programs. -/
structure Ctl where
  /-- Parameters in force, by ID; an unlisted one holds its default. -/
  params : Store Nat Nat := []
  /-- Tables in force by number; an unlisted one holds its default. -/
  tables : Store Nat (Option CtlTable) := []
  /-- Breakpoints and values set by OP 0x02 and 0x03, by 32 * table + index. -/
  xs : Store Nat (Option Nat) := []
  ys : Store Nat (Option Nat) := []
  /-- Accepted changes not yet in force, with their frames, oldest first. -/
  changes : List (Nat × CtlChange) := []
  /-- The last outcome written to exchange node 262,085: SEQ and code. -/
  outcome : Option (Nat × Nat) := none
  /-- The stop state (R188). -/
  stop : StopState := {}
  /-- The host candidate (R183): none is +infinity. -/
  host : Option Nat := none
  /-- When the latest set-point came (R183). -/
  hostAt : Nat := 0
  /-- The permit candidate (R175 to R177), whether the permit is out of range and since when, the permit-fault flag, the latest frequency's time. -/
  permit      : Option Nat := none
  permitOut   : Bool := false
  permitFrom  : Nat := 0
  permitFault : Bool := false
  permitAt    : Nat := 0
  /-- Coolant is lost by its status, or a temperature feedback is (R179, Table 7-7), since when; the latest status's time; the coolant term's first
  value and the tide count at which it took it. -/
  coolLost : Bool := false
  tempLost : Bool := false
  coolFrom : Nat := 0
  coolAt   : Nat := 0
  coolTerm : Option (Nat × Nat) := none
  /-- Flags of Table 7-7: a derived phase current, the second DC-link channel in use. -/
  derived : Bool := false
  second  : Bool := false
  /-- By task (`Role.index`): the hold count and the RATE of the latest activation; the tasks whose latest activation found a required feedback not
  fresh (R186). -/
  holds : Store Nat Nat := []
  rates : Store Nat Nat := []
  staleIn : List Nat := []
  /-- The losses of Table 7-7 that the tasks found in their latest activations. -/
  losses : List FeedbackLoss := []
  /-- By task and item: 1 + the SEQ that the task boarded at its latest activation (R185). -/
  seqs  : Store Nat Nat := []
  /-- The last fresh Udc (Table 7-7). -/
  udc   : Nat := 0
  /-- The firmware disarmed on a persistent miss: no arming before an OP 0x07 clears the latched stop (R189). -/
  rearm : Bool := false
  /-- The state of the synchronisation loop (R194). -/
  sync  : SyncState := .searching
  /-- The current-control task is in ride-through (R199). -/
  ride  : Bool := false
  /-- The undervoltage timer runs (R203). -/
  tu    : Bool := false
  /-- The overvoltage timer runs (R203). -/
  tov   : Bool := false
  /-- How long the undervoltage and overvoltage timers have run, in frames (R203). -/
  tuT  : Nat := 0
  tovT : Nat := 0
  /-- Momentary cessation in the current-control task (R201). -/
  mc    : Bool := false
  /-- The trip latched and its cause (R206); 0 none. -/
  trip  : Nat := 0
  /-- ENTER: the converter enters service on its ramp (R212). -/
  enter : Bool := false
  /-- Armed, or a stop cleared, and not yet in service: the start waits for R212's conditions (R479). -/
  starting : Bool := false
  /-- A perturbation window is open (R208). -/
  pwin  : Bool := false
  /-- The islanding detector's count of windows (R208). -/
  isln  : Nat := 0
  /-- The competition and its candidates (R172 to R184). -/
  comp : Compete := {}
  /-- The grid record as the grid synchronisation task formed it last (Table 8-1, R193). -/
  grid : GridRec := {}
  /-- The grid synchronisation task (R193 to R212). -/
  pll  : Pll := {}
  /-- Ride-through supervision and the passive detectors (R203 to R211). -/
  watch : Watch := {}
  /-- The current-control task (R195 to R202). -/
  cur  : CurCtl := {}
  /-- The modulation task (R187, R188). -/
  mod  : Modul := {}
  /-- The exchange nodes as their writers have stored them, and as the edge that opened the frame found them (R166). -/
  pub  : Exchange := {}
  seen : Exchange := {}
  /-- Optimisers by node, the scans ordered in the round named first, and where the rotation stands (R238). -/
  scans     : Store Nat Scan := []
  scanCount : Nat × Nat := (0, 0)
  scanNext  : Nat := 0
deriving DecidableEq, Repr

end Sys2Proof.Machine
end

