-- ==== Sys2Proof/Machine/PartsConv.lean ====
section
/-!
DEFINITION. Machine/PartsConv.lean: the state of legs, cell links and window comparators that their registers do not hold (R117 to
R164).
-/
namespace Sys2Proof.Machine

/-- One output of a leg (R118, R126, R127). -/
structure LegOut where
  /-- The leg logic commands the output on. -/
  on : Bool := false
  /-- The output gate is open. -/
  gate : Bool := false
  /-- The off state has been confirmed since the last turn-off. -/
  conf : Bool := false
  /-- The off-confirm timeout runs. -/
  waitOff : Bool := false
  /-- The on check runs. -/
  waitOn : Bool := false
  /-- The turn-off is delayed by MINPW. -/
  delayed : Bool := false
deriving DecidableEq, Repr

/-- One leg (R119 to R133): its shadow words 0 to 3, its outputs, the leg command S and the output whose turn-on is pending
(`some true` the high side). -/
structure Leg where
  shadow : Store Nat Nat := []
  hi : LegOut := {}
  lo : LegOut := {}
  s  : Bool := false
  turnOn : Option Bool := none
  /-- A trip with TRIPM = 1 holds both outputs off until an update point (R132). -/
  tripHold : Bool := false
  /-- S has fallen since the last update point (R120, R130). -/
  fell : Bool := false
  /-- The last update point was the midpoint of a triangle (R123). -/
  half : Bool := false
  /-- The level of its trip wire that the leg has acted on (R131). -/
  seen : Bool := false
deriving DecidableEq, Repr

/-- One cell link (R134 to R142): DSEQ of the last downlink, and the 8b/10b characters sent last (true: a K character, R134). -/
structure Link where
  dseq : Nat := 0
  sent : List (Bool × BitVec 8) := []
  /-- A downlink of the present frame is out and its return is awaited. -/
  await : Bool := false
deriving DecidableEq, Repr

/-- One window comparator (R147 to R163). -/
structure Cmp where
  /-- The shadow threshold codes (R148). -/
  shLo  : Nat := 0
  shHi  : Nat := 0x3FF
  shLo2 : Nat := 0
  shHi2 : Nat := 0x3FF
  /-- State bits still in the power-up hold: bits 0 BELOW, 1 ABOVE, 2 L2 (R162), all of them after a reset of the supervisor fabric. -/
  held : Nat := 7
  /-- A blanking window is open; BELOW and ABOVE as the blanked destinations see them (R152). -/
  window : Bool := false
  bBelow : Bool := false
  bAbove : Bool := false
  /-- The pair under an in-service check: 0 none, 1 first level, 2 second level (R160). -/
  frozen : Nat := 0
  /-- Runs of the in-service check, and the tie level of the next one (0 AGND, 1 VREF/2, 2 VREF). -/
  runs : Nat := 0
  rot  : Nat := 0
  /-- The previous run of the first-level and of the second-level pair had a swap mismatch (R161). -/
  swap1 : Bool := false
  swap2 : Bool := false
  /-- ABOVE has set in the cycle in progress (R314). -/
  cycleAbove : Bool := false
  /-- No rising edge of BELOW for HUVT (R314). -/
  under : Bool := false
deriving DecidableEq, Repr

/-- Legs, cell links, comparators. -/
structure Conv where
  /-- The legs by number (R119). -/
  legs  : Store Nat Leg := []
  /-- The cell links by number (R134). -/
  links : Store Nat Link := []
  /-- The 16-bit command of each cell, by 48 * link + position (R138). -/
  cmds  : Store Nat Nat := []
  /-- The fresh reports received in the frame in progress, by cell, as 1 + the report word (R139). -/
  reps  : Store Nat Nat := []
  /-- The comparators by number (R147). -/
  cmps  : Store Nat Cmp := []
  /-- The GOK levels after the filters of GFLT ticks, one bit each (R126). -/
  gok   : Nat := 0
  /-- The levels of the PW balls that the blanking strobes have told the comparators of, one bit each (R150). -/
  seenPw : Nat := 0
  /-- The readback that runs is the start-up self-test, which reads every DAC (R163). -/
  rbStart : Bool := false
deriving DecidableEq, Repr

end Sys2Proof.Machine
end

