-- ==== Sys2Proof/Machine/PartsCore.lean ====
section
/-!
DEFINITION. Machine/PartsCore.lean: the state of architecture, Tide and timetable, processors, Ferryman's surroundings, events and
start-up that the register fields do not hold.
-/
namespace Sys2Proof.Machine

/-- The straps (R489). -/
structure Straps where
  twinst : Bool := false
  twside : Bool := false
  cksel  : Nat  := 0
  bench  : Bool := false
deriving DecidableEq, Repr

/-- The answer to the last register access or read: the data returned and whether it ended in a bus error (R2, R3). -/
structure BusResp where
  error : Bool := false
  data  : Nat  := 0
deriving DecidableEq, Repr

/-- One claim register's state (R22, R24, R27): the holder and the rank it is reserved for. -/
structure ClaimCell where
  owner : Option Requester := none
  rsv   : Option Nat := none
  /-- The reservation's configuration is sealed: it cannot be released (R24). -/
  rsvSealed : Bool := false
  /-- The requesters' status codes, by identifier (R28). -/
  status : Store Nat Nat := []
deriving DecidableEq, Repr

/-- Entering self-refresh during a control-domain reset (R16). -/
inductive SelfRefresh where
  | idle | entering | failed
deriving DecidableEq, Repr

/-- Architecture: reset domains, inter-die links, claims (R11 to R30, R472 to R480). -/
structure Sys where
  /-- The control domain is in reset (held until Ferryman releases it, R16). -/
  cdReset : Bool := true
  /-- Its release has been asked for and waits for the fare of class 10 (R437). -/
  cdWant  : Bool := false
  /-- Self-refresh of the DRAM across a control-domain reset (R16). -/
  selfRefresh : SelfRefresh := .idle
  /-- The supervisor fabric's DRAM-lost flag (R16, R434). -/
  dramLost : Bool := false
  /-- How often the contents of DRAM, of the control die's SRAM and of Ferryman's SRAM have been lost (the model's own counts). -/
  dramLosses : Nat := 0
  cdLosses   : Nat := 0
  fmResets   : Nat := 0
  /-- The supervisor fabric's copy of TWIN.ALIGN.CDLY (R473). -/
  cdlyCopy : Nat := 0
  /-- Failed attempts of the transfer in progress on the CS and the SP link (R13). -/
  csAttempts : Nat := 0
  spAttempts : Nat := 0
  /-- The CS link is declared failed, until the control domain starts (R13, R480). -/
  csFailed : Bool := false
  /-- The SP link is declared failed, until a power-domain reset (R13). -/
  spFailed : Bool := false
  /-- Channel H's loader has read the safety configuration partition since the supervisor fabric's reset (R307, R24). -/
  loaded : Bool := false
  /-- Claims of ranks 3 to 6 are open (R24). -/
  claimsOpen : Bool := false
  /-- The claim registers of each kind of resource (Table 1-12, R22 to R28). -/
  legClaims : Store Nat ClaimCell := []
  clinkClaims : Store Nat ClaimCell := []
  filterClaims : Store Nat ClaimCell := []
  comparatorClaims : Store Nat ClaimCell := []
  analogClaims : Store Nat ClaimCell := []
  converterClaims : Store Nat ClaimCell := []
  pulseClaims : Store Nat ClaimCell := []
  safetyClaims : Store Nat ClaimCell := []
  ethClaims : Store Nat ClaimCell := []
  captureClaims : Store Nat ClaimCell := []
  counterClaims : Store Nat ClaimCell := []
  gangwayClaims : Store Nat ClaimCell := []
  /-- The reset that the last crossing under way ends in (R17, Table 19-7). -/
  sfPending : Option SfCause := none
  pdPending : Option PdCause := none
  /-- The early-warning wire is asserted (R432). -/
  warning : Bool := false
  /-- A DRAM device was declared failed since the last power-domain reset (R368). -/
  devFailed : Bool := false
  /-- A thermal shutdown holds the part off until every sensor reads below 130 °C (Table 19-7). -/
  thermalHold : Bool := false
  /-- Supply outputs that their current limit turned off: they stay off until EN is written 0 and then 1 (R428). -/
  ocOff : List Nat := []
  /-- RESET_N was held longer than 100 ms: the power domain is held in reset until its rising edge (R472). -/
  pinLong : Bool := false
  /-- Seconds since each control-domain reset of the last 600 s, newest first (R480). -/
  cdResets : List Nat := []
  /-- Start-up self-test stage passed (R476, R478). -/
  selfTestPassed : Bool := false
  /-- First timetable since the control domain's start: the dry crossing (R477): its state and failed attempts. -/
  dryPassed : Bool := false
  /-- Failed attempts of the dry crossing (R477). -/
  dryAttempts : Nat := 0
  /-- A condition of R477 failed in the hyperperiod in progress: 1 to 5, the first of them; 0 none. -/
  dryFault : Nat := 0
  /-- What `dryFault` was at the end of a hyperperiod of the dry crossing that DRY_CROSSING_END has not judged yet. -/
  dryEnd : Option Nat := none
  /-- What GWA0 and GWA1 showed when the control domain's reset began: it leaves them unaffected (R490, Table 22-3). -/
  gwa : List (Option (Nat × Option Nat)) := []
  /-- The installed DRAM capacity in GiB: 4, 8 or 16 (R1, Table 15-1). -/
  dramGiB : Nat := 8
deriving DecidableEq, Repr

/-- One entry of the tag queue (Table 20-3): its two words. -/
structure TagRec where
  a : Nat := 0
  b : Nat := 0
deriving DecidableEq, Repr

/-- Per requester latches of registers that a read of their low word latches (R51, R302, R426, R457, R460, R274): keyed by
the requester's identifier. -/
structure Latches where
  /-- TIDE.CNTHI as latched by a read of CNTLO (R51). -/
  tideHi : Store Nat Nat := []
  /-- FM.CALHI as latched by a read of CALLO (R426). -/
  calHi  : Store Nat Nat := []
  /-- By 256 * requester + capture unit: the high count and the tick word. -/
  capHi   : Store Nat Nat := []
  capTick : Store Nat Nat := []
  /-- By 256 * requester + counter. -/
  ctHi   : Store Nat Nat := []
  /-- By 65536 * requester + register word number. -/
  tally  : Store Nat Nat := []
  /-- By 256 * requester + metering point: the point's latched result words. -/
  mtr    : Store Nat (List Nat) := []
  /-- ETH.PTPSEC1 as latched by a read of PTPSEC0 (R235). -/
  ptpSec1 : Store Nat Nat := []
  /-- ETH.PTPNS as latched by a read of PTPSEC0 (R235). -/
  ptpNs   : Store Nat Nat := []
deriving DecidableEq, Repr

/-- Events, counters and Gangway (R451 to R467): what their registers do not hold. -/
structure Evt where
  /-- The tag queue, oldest first (R461, Table 20-3). -/
  tags : List TagRec := []
  /-- Records of tagged instructions whose results have not landed (R461). -/
  tagPend : List TagRec := []
  /-- Instructions left until the next one is tagged (R461). -/
  tagWait : Nat := 0
  /-- The TAP instruction of each die, 0 control, 1 supervisor, 2 power (R467). -/
  tap : Store Nat JtagOp := []
deriving DecidableEq, Repr

/-- A set or claim entry of a timetable (Table 2-4). -/
structure SetEntry where
  cls   : Nat
  count : Nat
  first : Nat
deriving DecidableEq, Repr

/-- A task descriptor (Table 2-3) with its set and claim entries read. -/
structure Task where
  id     : Nat := 0
  engine : Nat := 0
  rate   : Nat := 0
  phase  : Nat := 0
  order  : Nat := 0
  segs   : Nat := 1
  budget : Nat := 16
  entry  : Nat := 0
  ins    : List SetEntry := []
  outs   : List SetEntry := []
  nodes  : List SetEntry := []
  claims : List SetEntry := []
  /-- The window length that admission latched (R247). -/
  win    : Nat := 0
deriving DecidableEq, Repr

/-- A timetable as admission read it (Table 2-2). -/
structure Timetable where
  /-- TTID, the period in ticks, the output offset and the tasks (Table 2-2). -/
  ttid   : Nat := 0
  period : Nat := 4000
  offset : Nat := 200
  tasks  : List Task := []
  /-- Resources that its claims hold, those that its own admission was granted, and those that pass to it at its activation (R26, R30). -/
  held    : List (Resource × Nat × Requester) := []
  granted : List (Resource × Nat × Requester) := []
  moves   : List (Resource × Nat × Requester) := []
deriving DecidableEq, Repr

/-- One staged output of an activation (R93): class, item index, leg word, value. -/
structure OutItem where
  cls   : Nat
  item  : Nat
  word  : Nat := 0
  value : BitVec 64
deriving DecidableEq, Repr

/-- One byte stored into a node's live line by an activation (R96). -/
structure LineByte where
  node : Nat
  off  : Nat
  val  : BitVec 8
deriving DecidableEq, Repr

/-- An activation in progress or between its segments (R49): the next segment, where it resumes, what it has staged and
stored, the host commands it boarded (queue, SEQ), and whether it was abandoned or ended. -/
structure Act where
  next     : Nat := 0
  resume   : Nat := 0
  staged   : List OutItem := []
  stores   : List LineByte := []
  commands : List (Nat × Nat) := []
  /-- Its remaining segments do not run: it overran, trapped or ended by hold (R49, R95). -/
  idle     : Bool := false
  /-- It overran or trapped. -/
  abandoned : Bool := false
  /-- 1 + tide count of the frame in which a task's activation was abandoned last (R248). -/
  abandonedAt : Nat := 0
deriving DecidableEq, Repr

/-- The Tide and the timetable (R31 to R54). -/
structure Tt where
  /-- Frame 0 has been opened (R32). -/
  opened : Bool := false
  /-- The active timetable (R42). -/
  active  : Option Timetable := none
  /-- The admitted timetable that waits for its boundary (R42). -/
  pending : Option Timetable := none
  /-- The address that admission reads, while admission runs (R41). -/
  admitting : Option Nat := none
  /-- The boundary at which the pending timetable activates (R42). -/
  actAt : Nat := 0
  /-- Tasks in progress, by TASKID. -/
  acts : Store Nat Act := []
  /-- The least ORDER not yet served in this frame, by engine. -/
  nextOrder : Store Nat Nat := []
  /-- Outputs of activations that ended normally in this frame (R19). -/
  ended : List OutItem := []
  /-- Berth stores of activations that ended normally in this frame (R96). -/
  endedStores : List LineByte := []
  /-- The output set fixed when the landing phase closed (R19), until it takes effect. -/
  outSet : List OutItem := []
  /-- The landing phase of the frame has closed (R19). -/
  landed : Bool := false
  /-- PTP boundary capture is held for a reader (R51). -/
  captureHeld : Bool := false
  /-- The capture (seconds, nanoseconds) of a boundary that fell within a reader's hold: the registers take it when the hold is over (R51). -/
  ptpNext : Option (Nat × Nat) := none
  /-- The tide count of the last activation (Table 2-14). -/
  lastAct : Nat := 0
  /-- The tide count when TIDE.ALMLO or ALMHI was last written (R52). -/
  almAt : Option Nat := none
  /-- TASKIDs whose persistent miss has been raised since CONSEC was zero (R50). -/
  missRaised : List Nat := []
deriving DecidableEq, Repr

/-- What the issue rules remember of the instruction issued last (R69). -/
structure Prev where
  cls    : Nat := 0
  writes : List Nat := []
  paired : Bool := false
  branch : Bool := false
  lookup : Bool := false
  memory : Bool := false
deriving DecidableEq, Repr

/-- One engine (R55 to R72): registers, flags, segment in progress and the issue scoreboard. Registers are numbered g0 to
g31 as 0 to 31, v0 to v15 as 32 to 47 and p0 to p7 as 48 to 55 in `land`. -/
structure Engine where
  /-- General registers g0 to g31 (R55). -/
  g     : Store Nat (BitVec 64) := []
  /-- Vector registers v0 to v15 (R56). -/
  v     : Store Nat (BitVec 128) := []
  /-- Predicate registers p0 to p7, a bit each (R57). -/
  p     : Nat := 0
  /-- The sticky flags s.flags (R60 to R62). -/
  flags : Nat := 0
  /-- Byte address of the next instruction. -/
  pc    : Nat := 0
  /-- A segment runs (R46). -/
  running : Bool := false
  /-- The activation has trapped (R100). -/
  trapped : Bool := false
  /-- TASKID of the running task (R39). -/
  task    : Nat := 0
  /-- The segment's number (R49). -/
  seg     : Nat := 0
  /-- Its budget in cycles (R46). -/
  budget  : Nat := 0
  /-- An instruction of the segment has issued; the cycle of the last one. -/
  issued  : Bool := false
  /-- The cycle in which the latest instruction issued (R69). -/
  last    : Nat := 0
  /-- What pairing and spacing need of that instruction (R69). -/
  prev    : Prev := {}
  /-- No instruction issues before this cycle (R71, R72). -/
  earliest : Nat := 0
  /-- The cycle in which each register's latest result lands (R66). -/
  land     : Store Nat Nat := []
  /-- The latest of all landings (R66). -/
  maxLand  : Nat := 0
  /-- The divide unit is free from this cycle on (R68). -/
  divFree  : Nat := 0
  /-- The data-SRAM port is free from this cycle on (R87). -/
  portFree : Nat := 0
  /-- No further instruction of the segment issues: the next one's cycle lies at or beyond the budget (R46, R48). -/
  exceed : Bool := false
  /-- Halted in bench mode (R115). -/
  halted : Bool := false
  /-- One cycle may issue while halted (CE.DBGn.STEP), and the cycle it issued in. -/
  step : Bool := false
  /-- The cycle in which the single step issued (R115). -/
  stepCycle : Option Nat := none
deriving DecidableEq, Repr

/-- Ferryman's special registers (Table 4-7). -/
structure Ferry where
  mie    : Bool := false
  priv   : Bool := true
  pmie   : Bool := false
  ppriv  : Bool := false
  plevel : Nat := 0
  mepc   : Nat := 0
  mcause : Nat := 0
  mtval  : Nat := 0
  mvec   : Nat := 0
  mlevel : Nat := 16
  base   : Store Nat Nat := []
  lim    : Store Nat Nat := []
  /-- The entries not yet returned from, latest first: whether each was an interrupt's (R109, log entry 144). -/
  entries : List Bool := []
  /-- Issue is stopped by wfi (R109). -/
  waiting : Bool := false
  /-- Issue is halted by the boot ROM after both banks failed (R400). -/
  halted  : Bool := false
  /-- A store of its own met an uncorrectable word at this address: the next instruction to issue takes the data-ECC trap (R364). -/
  dataEcc : Option Nat := none
deriving DecidableEq, Repr

/-- An entry of a host command queue (R403). -/
structure HostCmd where
  payload : Nat
  seq     : Nat
deriving DecidableEq, Repr

/-- A host command queue: its entries, oldest first, and the last SEQ assigned. -/
structure HostQueue where
  items : List HostCmd := []
  last  : Nat := 0
deriving DecidableEq, Repr

/-- The processors (R55 to R116): CE0 to CE7 are engines 0 to 7, SE0 and SE1 engines 8 and 9, Ferryman engine 10.
Engine 9 holds SE1's registers and flags; the rest of its record is SE0's (R110). -/
structure Vcs where
  /-- Ferryman (10) starts at the boot ROM (R105). -/
  engines : Store Nat Engine := [(10, { pc := 0x1010080000 })]
  /-- Ferryman's special registers (Table 4-7, R106). -/
  ferry   : Ferry := {}
  /-- The host command queues 0 to 15 (R403). -/
  queues  : Store Nat HostQueue := []
  /-- The boarding buffer (R90): 64-bit items by 2^20 * class + index. -/
  boarded : Store Nat (BitVec 64) := []
  /-- The words of the boarding buffer that are not good: 1 one bit wrong, 2 uncorrectable (R88, log entry 32), keyed as `boarded`. -/
  boardBad : Store Nat Nat := []
deriving DecidableEq, Repr

/-- A log entry waiting for the log writer (R406). -/
structure LogReq where
  src  : Nat
  lvl  : Nat
  fw   : Bool := false
  data : Nat := 0
deriving DecidableEq, Repr

/-- An entry of the event log (Table 18-4). -/
structure LogEntry where
  time  : Nat := 0
  tide  : Nat := 0
  seq   : Nat := 0
  src   : Nat := 0
  lvl   : Nat := 0
  flags : Nat := 0
  data  : Nat := 0
deriving DecidableEq, Repr

/-- An entry record of a loaded image (Table 4-8). -/
structure EntryRec where
  engine  : Nat
  entry   : Nat
  nseg    : Nat
  profile : Nat
  counts  : List Nat
deriving DecidableEq, Repr

/-- An image whose code stands in instruction SRAM (R420): its digest IMGD and entry table. -/
structure LoadedImage where
  imgd    : List (BitVec 8) := []
  entries : List EntryRec := []
deriving DecidableEq, Repr

/-- What the sensor logic remembers of a sensor (R405). -/
structure SensorRun where
  hi  : Nat := 0
  lo  : Nat := 0
  hiOk : Nat := 0
  loOk : Nat := 0
deriving DecidableEq, Repr

/-- The temperature of a die since its last reversal, in 1/16 °C (R410): the extremes reached and, once there was a reversal, whether it rises. -/
structure Rain where
  hi : Int := 0
  lo : Int := 0
  up : Option Bool := none
  seen : Bool := false
deriving DecidableEq, Repr

/-- A node checkpoint slot of the eMMC (Table 18-6). -/
structure Checkpoint where
  valid  : Bool := false
  ntsize : Nat := 0
  ckseq  : Nat := 0
  time   : Nat := 0
  /-- Record bytes that are not zero, by 1024 * node + offset - 0x100. -/
  data   : Store Nat (BitVec 8) := []
deriving DecidableEq, Repr

/-- Ferryman's surroundings (R399 to R426): log writer, calendar, sensors, images, attestation, lifetime, storage. -/
structure Fm where
  /-- Entries that wait for the log writer, oldest first (R406). -/
  logPend : List LogReq := []
  /-- An entry was lost since the last one was written (Table 18-4). -/
  logLost : Bool := false
  /-- The event-log partition by slot (R406). -/
  log     : Store Nat LogEntry := []
  /-- Calendar, in microseconds since 2000-01-01 and the units of 10^-17 s beyond (R411). -/
  cal     : Nat := 0
  calFrac : Nat := 0
  /-- The calendar stands at its end (R411). -/
  calStopped : Bool := false
  /-- The alarm filters of the sensors (R405). -/
  sensors : Store Nat SensorRun := []
  /-- Consecutive samples of sensor 28 above the budget (R439). -/
  overRun : Nat := 0
  /-- Seconds in which the inter-die difference was beyond or inside its limit (R447). -/
  diffOver : Nat := 0
  diffIn   : Nat := 0
  /-- The firmware acts on the difference (R447). -/
  diffAct  : Bool := false
  /-- Anti-rollback counters, by 64 * class + index (R421). -/
  rollback : Store Nat Nat := []
  /-- Verified images waiting for ACT: bank by class (R419). -/
  pendBank : Store Nat (Option Nat) := []
  /-- Verification in progress: class and bank. -/
  verifying : Option (Nat × Nat) := none
  /-- Copy in progress: class and bank (R420). -/
  copying : Option (Nat × Nat) := none
  /-- CTRL images in instruction SRAM, by half, and the SAFE image. -/
  ctrl : Store Nat LoadedImage := []
  /-- The SAFE image in the SE pair's instruction SRAM (R420). -/
  safe : LoadedImage := {}
  /-- The bank of each loaded CTRL half (R420). -/
  ctrlBank : Store Nat Nat := []
  /-- Images confirmed (R421), by 2 * class + bank. -/
  confirmed : Store Nat Bool := []
  /-- An attestation runs (R424). -/
  attesting : Bool := false
  /-- The report that FM.ATTWIN shows (R424). -/
  report  : List (BitVec 8) := []
  /-- The lifetime partition's counters by offset, and the rainflow residues in 1/16 degree by die (R408 to R410). -/
  life    : Store Nat Nat := []
  residue : Store Nat (List Int) := []
  rain    : Store Nat Rain := []
  /-- Slots A (0) and B (1) of the eMMC. -/
  slots   : Store Nat Checkpoint := []
  /-- The day of the last checkpoint, as 1 + days since 2000-01-01 (R415). -/
  ckptDay : Nat := 0
  /-- A checkpoint is being written (R415). -/
  ckptBusy : Bool := false
  /-- Banks with a program or erase running (R413). -/
  flashBusy : Store Nat Bool := []
  /-- The boot ROM has handed over (R399). -/
  booted  : Bool := false
deriving DecidableEq, Repr

end Sys2Proof.Machine
end

