-- ==== Sys2Proof/Machine/PartsMeter.lean ====
section
/-!
DEFINITION. Machine/PartsMeter.lean: the state of the auxiliary converters, the control and metering filters, the Tally and the Manifest
that their registers do not hold (R258 to R303, R374 to R385).
-/
namespace Sys2Proof.Machine

/-- One auxiliary converter (R375, R379): the conversion in progress with the settings it started with, and where the scan goes on.
Positions 0 to 15 are its inputs in ascending order, 16 to 18 the internal inputs. -/
structure AdcConv where
  cur   : Option Nat := none
  align : Bool := false
  diff  : Bool := false
  pull  : Nat := 0
  pos   : Nat := 0
  int   : Nat := 0
  count : Nat := 0
deriving DecidableEq, Repr

/-- The auxiliary converters (R374 to R383). -/
structure Adc where
  /-- The converters AD0 to AD3 (R375). -/
  conv : Store Nat AdcConv := []
  /-- The latest code of each input, its sign read (R376). -/
  code : Store Nat Int := []
  /-- Consecutive conversions at the pulled rail, and the PULL they were made with (R378). -/
  rail : Store Nat Nat := []
  pull : Store Nat Nat := []
  /-- Word and SEQ of the conversion before the latest, and the SEQ boarded last (R377). -/
  prevWord : Store Nat Nat := []
  prevSeq  : Store Nat Nat := []
  boarded  : Store Nat Nat := []
  /-- Converters whose internal inputs failed the start-up test, a set of bits (Table 21-4). -/
  failed   : Nat := 0
deriving DecidableEq, Repr

/-- One control filter (R262 to R264): acc of the outputs since the restart, newest first (at most 4,095), the latest sample and the one
before it with its SEQ, and the SEQ boarded last. -/
structure Filter where
  hist    : List Int := []
  sample  : Nat := 0
  prev    : Nat := 0
  prevSeq : Nat := 0
  boarded : Nat := 0
  /-- The count of domain clock edges at the latest output (R262). -/
  edge    : Nat := 0
deriving DecidableEq, Repr

/-- The compensation in use on a metering channel (R267, R270): G(T) = gn / (gd * 2^149) and CHD + D(T) = dn / (dd * 2^149) ns. -/
structure Comp where
  gn : Int := 2 ^ 149
  gd : Nat := 1
  dn : Int := 0
  dd : Nat := 1
deriving DecidableEq, Repr

/-- The metering filter of a channel's input, and the values of the channel (R265, R267). Lists are newest first. -/
structure MeterChan where
  /-- The integrators and the differences of the sinc5 stage. -/
  integ : List Int := [0, 0, 0, 0, 0]
  diff  : List Int := [0, 0, 0, 0, 0]
  /-- The last 128 outputs of stage 1, the last 32 words. -/
  stage : List Int := []
  words : List Int := []
  /-- The numerators of the values of the windows and blocks not evaluated yet, and vh of a voltage. -/
  vals  : List Int := []
  quad  : List Int := []
  /-- Samples since the point was restarted. -/
  count : Nat := 0
deriving DecidableEq, Repr

/-- A window that has ended: its samples, its first and last crossing in 1/256 of a sample, its line cycles (0 for a fixed block), its compensations, and
what it met (R274, Table 11-11). -/
structure WindowEnd where
  start  : Nat := 0
  upto   : Nat := 0
  first  : Nat := 0
  last   : Nat := 0
  cycles : Nat := 0
  comps  : List Comp := []
  loss   : Bool := false
  clip   : Bool := false
  tstale : Bool := false
  isFirst : Bool := false
  /-- A sample lay outside ±0.8 of full scale (R276). -/
  wide   : Bool := false
deriving DecidableEq, Repr

/-- A metering point's line cycles (R272 to R274). Samples are counted from the point's restart. -/
structure MeterPoint where
  /-- The signal has been below -ZCHYS since the last crossing. -/
  armed  : Bool := false
  /-- The instant of the last crossing, in 1/256 of a sample. -/
  last   : Option Nat := none
  /-- A window is in progress, its first sample, the instant of its first crossing, its line cycles so far. -/
  begun  : Bool := false
  start  : Nat := 0
  first  : Nat := 0
  cycles : Nat := 0
  /-- A sample of it lay outside ±0.8 of full scale (R276). -/
  wide   : Bool := false
  /-- The sample of the timeout, and the valid line cycles since (R273). -/
  timeout : Nat := 0
  good   : Nat := 0
  /-- The first sample of the open steering block; blocks that have ended before a sample, with their compensations and ZCTO (R282). -/
  blockAt : Nat := 0
  blocks : List (Nat × List Comp × Bool) := []
  /-- Windows that have ended and are not evaluated yet. -/
  wins   : List WindowEnd := []
deriving DecidableEq, Repr

/-- The metering engine (R258 to R277). -/
structure Met where
  /-- The lk fields of MTR and TALLY in force (R268): the values that the last applied LOAD held. -/
  act : Store (Fld × Nat) Nat := []
  /-- A validated configuration that applies at the next Tide edge. -/
  load : Option (Store (Fld × Nat) Nat) := none
  /-- A configuration has been applied by a LOAD since the reset, and the latest LOAD was applied (R298). -/
  loadOk : Bool := false
  /-- The control filters by input (R262). -/
  filters : Store Nat Filter := []
  /-- The latest 24-bit word of each channel's input (R265). -/
  q : Store Nat Int := []
  /-- The channels and the points (R265 to R275). -/
  chans  : Store Nat MeterChan := []
  points : Store Nat MeterPoint := []
  /-- A bit per modulator clock: it runs (R259). -/
  mclkRun : Nat := 0
  /-- The compensation in use by channel (R270). -/
  comp : Store Nat Comp := []
  /-- The SEQ of the temperature input as last read (R271), as 1 + SEQ. -/
  tseq : Store Nat Nat := []
  /-- In the window in progress of each point: input loss, saturation; the window is the first (Table 11-11). -/
  lossW : Store Nat Bool := []
  clipW : Store Nat Bool := []
  tstaleW : Store Nat Bool := []
  firstW : Store Nat Bool := []
  /-- Pulses counted and the direction of the last, by pulse input, for class 0x0C (Table 4-2). -/
  pulses : Store Nat Nat := []
  pulseRev : Store Nat Bool := []
  /-- A quadrature pulse of PUj waits for its decision: 1 with track B low, 2 with track B high (R284). -/
  quad : Store Nat Nat := []
  /-- Ticks since each modulator clock started (R332). -/
  mclkAge : Store Nat Nat := []
  /-- MCLK balls that this part of a paired installation drives (R330). -/
  mclkOwn : Nat := 0
deriving DecidableEq, Repr

/-- The open interval (R292, R294). -/
structure Interval where
  /-- Its start, in calendar time (R292). -/
  start  : Nat := 0
  /-- Its nominal end, in calendar time. -/
  nominal : Nat := 0
  /-- The length's code, as in TALLY.CFG.IMIN (R292). -/
  imin   : Nat := 3
  /-- Quality flags by point, a byte each (R294). -/
  qflags : Nat := 0
  /-- UFLAGS: a bit per pulse input (R294). -/
  uflags : Nat := 0
  /-- Reversals by point (R283). -/
  rev    : List Nat := [0, 0, 0, 0]
deriving DecidableEq, Repr

/-- A closed interval whose record is not appended yet: what the record will carry (R294, R297). -/
structure Closed where
  start  : Nat := 0
  close  : Nat := 0
  imin   : Nat := 3
  coal   : Nat := 0
  qflags : Nat := 0
  uflags : Nat := 0
  rev    : List Nat := [0, 0, 0, 0]
  mask   : Nat := 0
  values : List Nat := []
  time   : Nat := 0
  isSealed : Bool := false
deriving DecidableEq, Repr

/-- The energies of one phase in a steering block, in units of 2^-32 LSB (R282). -/
structure BlockEnergy where
  ep : Int := 0
  eq : Int := 0
  es : Nat := 0
deriving DecidableEq, Repr

/-- A commit snapshot (R285, Table 12-2): registers with their fractions, the open blocks, the interval state, the closed intervals and
queued records not yet appended, and the configuration in force. -/
structure Snapshot where
  lc   : Bool := false
  rst  : Bool := false
  cseq : Nat := 0
  tide : Nat := 0
  time : Nat := 0
  reg  : Store Nat Nat := []
  blocks : List (Nat × List BlockEnergy) := []
  iv   : Option Interval := none
  signs : List Int := [0, 0, 0, 0]
  closing : List Closed := []
  coal : Option Closed := none
  pend : List (List (BitVec 8)) := []
  missed : Nat := 0
  lost : Nat := 0
  act  : Store (Fld × Nat) Nat := []
  anchorDay : Nat := 0
deriving DecidableEq, Repr

/-- A record of the Manifest ring (R293, R296). -/
structure Rec where
  seq   : Nat
  bytes : List (BitVec 8)
deriving DecidableEq, Repr

/-- Restart records that a part of a pair holds back (R350): Table 12-4's row, the commit they refer to, the instants they name. -/
structure HeldRestart where
  row   : Nat := 0
  snap  : Option Snapshot := none
  tfrom : Nat := 0
  tto   : Nat := 0
  toff  : Nat := 0
  ton   : Nat := 0
  cseq  : Nat := 0
deriving DecidableEq, Repr

/-- Custody (R280 to R303). -/
structure Custody where
  /-- TLn and CTLn as 128-bit numbers: the value times 2^32 plus the fraction (R280, R281). -/
  tl  : Store Nat Nat := []
  ctl : Store Nat Nat := []
  /-- The Tally counts: the restart is over (R289). -/
  started : Bool := false
  /-- The last crossing has frozen the Tally (R288). -/
  frozen  : Bool := false
  /-- The open interval (R292). -/
  iv : Option Interval := none
  /-- The sign of the last block with nonzero ep[3], by point (R283). -/
  signs : List Int := [0, 0, 0, 0]
  /-- Closed intervals whose records wait for the commit (R287). -/
  closing : List Closed := []
  /-- Closed intervals merged while the ring is full (R297). -/
  coal : Option Closed := none
  /-- Queued records other than intervals (R297). -/
  pend : List (List (BitVec 8)) := []
  /-- Intervals merged (R297). -/
  missed : Nat := 0
  /-- Records lost (R297). -/
  lost : Nat := 0
  /-- Days (whole, since 2000-01-01) up to which the anchor is made, as 1 + day; an anchor that waits, and whether its commit is
  done (R287, R295). -/
  anchorDay : Nat := 0
  anchorDue : Option Nat := none
  anchorReady : Bool := false
  /-- An extra commit is due; ticks since the latest commit's snapshot (R285). -/
  due : Bool := false
  since : Nat := 0
  /-- The commit being written: slot and snapshot. -/
  writing : Option (Nat × Snapshot) := none
  /-- The commit partition: the slots (none: not valid) and the freeze marker's CSEQ, TIDE and TIME (R286). -/
  slotA : Option Snapshot := none
  slotB : Option Snapshot := none
  marker : Option (Nat × Nat × Nat) := none
  /-- The slot of the committed state. -/
  slot : Nat := 1
  /-- The Manifest ring, oldest first; accepted and landed SEQ. -/
  ring : List Rec := []
  head : Nat := 0
  land : Nat := 0
  /-- The seal partition: seal, its digest and configuration, seal-break count, last filtered jumper state (R298 to R300). -/
  isSealed : Bool := false
  /-- The resources that the seal has reserved for rank 2 (R298, R299). -/
  sealRsv : List (Resource × Nat) := []
  sealDigest : List (BitVec 8) := []
  sealConfig : Store (Fld × Nat) Nat := []
  sbcnt : Nat := 0
  jumperKept : Bool := false
  /-- The filtered jumper state, once there is one. -/
  jumper : Option Bool := none
  /-- The nonce that a break must name (R299). -/
  nonce : Nat := 0
  /-- A break command under verification (R299), and a landing that waits for its result (R303). -/
  breaking : Option (List (BitVec 8)) := none
  ackWait : Bool := false
  /-- The record that MAN.RDWIN shows. -/
  rdwin : List (BitVec 8) := []
  /-- The copy that the twin has confirmed (R296). -/
  confirmed : Nat := 0
  /-- Restart records held back (R350). -/
  heldRestart : Option HeldRestart := none
  /-- COVER as the restart records decided it (R350). -/
  cover : Bool := false
deriving DecidableEq, Repr

end Sys2Proof.Machine
end

