-- ==== Sys2Proof/Machine/PartsNode.lean ====
section
/-!
DEFINITION. Machine/PartsNode.lean: the state of error correction, the pager, the node network, Ethernet, the twin and the coolant drive that
their registers do not hold (R217 to R257, R329 to R398).
-/
namespace Sys2Proof.Machine

/-- Error correction (R359 to R373). -/
structure EccMem where
  /-- Words of memory (by address / 8) that are not good: 1 one bit wrong, 2 uncorrectable, 3 poisoned. -/
  bad  : Store Nat Nat := []
  /-- The words of SE1's own memories that are not good, by address / 8 in the window of the pair (R20, R110). -/
  bad1 : Store Nat Nat := []
  /-- Bytes of SE1's own memories that differ from SE0's: address in the window, 1 + the byte (R20, R110). -/
  diff1 : Store Nat Nat := []
  /-- The poison list: DRAM word addresses / 8, in order of entry (R360). -/
  list : List Nat := []
  /-- Memory code (0 DRAM) and word where each scrubber stands; the DRAM one's is DDR.SCRPOS (R366). -/
  sramPos : Nat := 0
  /-- The tide counts of the last 16 uncorrectable errors confined to each byte lane, newest first, and the lanes whose device has been declared failed (R368). -/
  laneErrs  : Store Nat (List Nat) := []
  deadLanes : List Nat := []
  /-- The burst at which each halted DMA channel stands, as 1 + address (R365). -/
  halts : Store Nat Nat := []
  /-- The fill under way: address, length in bytes, pattern (R362). -/
  fill : Option (Nat × Nat × Nat) := none
deriving DecidableEq, Repr

/-- A live line that is resident, or coming in (R243, R248). -/
structure Line where
  /-- The berth that holds the line (R243). -/
  berth  : Nat := 0
  /-- RES: resident; else its bring-in is in progress. -/
  res    : Bool := false
  /-- It was resident at the edge that opened the frame. -/
  usable : Bool := false
  /-- Its bring-in missed its deadline (R250). -/
  late   : Bool := false
  /-- The line is damaged for the rest of its residency (R253). -/
  dmg    : Bool := false
  /-- 32-byte sectors changed since the last write-back. -/
  dirty  : Nat := 0
  /-- Writes of the NODE block that wait for the bring-in (R246): offset and bytes. -/
  queued : List (Nat × List (BitVec 8)) := []
deriving DecidableEq, Repr

/-- The pager (R242 to R257). -/
structure Pager where
  /-- The live lines by node (R243). -/
  lines  : Store Nat Line := []
  /-- The node under reinitialisation (R255). -/
  reinit : Option Nat := none
deriving DecidableEq, Repr

/-- A visit of one block of a landing whose answers are awaited, or have been (R227, R228). -/
structure Visit where
  landing : Nat
  block   : Nat
  /-- Tide count of the sending frame of the latest transmission. -/
  frame   : Nat := 0
  /-- The round, and how often the visit was sent again (R227). -/
  round   : Nat := 0
  retries : Nat := 0
  /-- The records (Table 9-5) not answered yet, and those answered, by local index. -/
  waiting  : List (Nat × List (BitVec 8)) := []
  answered : List (Nat × List (BitVec 8)) := []
  /-- RWIN has passed after the last transmission. -/
  expired : Bool := false
deriving DecidableEq, Repr

/-- An accepted REPORT record on its way to its node's live line (R228). -/
structure Entry where
  edge  : Nat
  node  : Nat
  round : Nat
  /-- Bits 31:0 of the round count when it was accepted (R238). -/
  during : Nat := 0
  body  : List (BitVec 8)
deriving DecidableEq, Repr

/-- The NODE block (R217 to R233). -/
structure NodeNet where
  /-- F0 of the round in progress. -/
  start  : Nat := 0
  /-- The visits in progress (R227). -/
  visits : List Visit := []
  /-- Accepted records that have not entered yet (R228). -/
  entries : List Entry := []
  /-- The down area last sent with WRITE = 1, by node (R229). -/
  sentDown : Store Nat (List (BitVec 8)) := []
  /-- ROUND of the report entered last, by node (R252). -/
  entered : Store Nat Nat := []
  /-- Round count when the report entered last was accepted, by node (R238). -/
  accepted : Store Nat Nat := []
  /-- Nodes whose entry at the present edge has its history sample still to append. -/
  sample : List Nat := []
  /-- SEQ of the next message to each landing, and to all (0xFFFF). -/
  txSeq  : Store Nat Nat := []
  /-- Tide count at which an accepted HELLO awaits its HELLOACK, as 1 + count (R220, R224). -/
  ackDue : Store Nat Nat := []
  /-- Landings that have come up and whose nodes are still to become absent (Table 9-1). -/
  raised : List Nat := []
  /-- The part joined a pair: for nodes it has not visited since, the content last sent with WRITE = 1 is the other part's (R229, R232). -/
  joined : Bool := false
  /-- Rounds begun since the landing came up or its last accepted REPORT. -/
  silent : Store Nat Nat := []
  /-- Bytes 0x00 to 0x0F of the last BROADCAST, the tide count of its send (R231). -/
  bcLast : Option (List (BitVec 8) × Nat) := none
  /-- Bytes 0x00 to 0x1F of the broadcast source as they were read last, the tide count of that edge (R231). -/
  bcRead : Option (List (BitVec 8) × Nat) := none
  /-- Landing states that wait for their edge: the edge, the landing, its STATE (R220, R232, R333). -/
  states : List (Nat × Nat × Nat) := []
  /-- The last message sent to each landing, and the last BROADCAST (0xFFFF), from the header to the CRC. -/
  sent   : Store Nat (List (BitVec 8)) := []
deriving DecidableEq, Repr

/-- A stamp of a port's timestamp FIFO (Table 9-18). -/
structure Stamp where
  sec : Nat
  ns  : Nat
  tx  : Bool
  typ : Nat
  seq : Nat
deriving DecidableEq, Repr

/-- A received Ethernet frame, from its destination address to its FCS (R234). -/
structure EthRx where
  bytes : List (BitVec 8) := []
deriving DecidableEq, Repr

/-- The Ethernet ports and the IEEE 1588 clock (R234, R235, R241). -/
structure EthNet where
  /-- The timestamp FIFOs by port (R235). -/
  stamps : Store Nat (List Stamp) := []
  /-- Received frames by 8 * port + queue. -/
  rx : Store Nat (List EthRx) := []
  /-- Frames that wait to be sent, by 8 * port + queue, oldest first (R234). -/
  tx : Store Nat (List (List (BitVec 8))) := []
  /-- The frames that left a port in the last frame, in order (R234). -/
  out : Store Nat (List (List (BitVec 8))) := []
  /-- Nanoseconds for which a port is still sending a frame that it began before the last Tide edge. -/
  busy : Store Nat Nat := []
  /-- The clock: seconds, nanoseconds and 2^-28 ns. -/
  sec  : Nat := 0
  ns   : Nat := 0
  frac : Nat := 0
  /-- A signed adjustment for the next tick. -/
  adj  : Option Int := none
  /-- The last ARP answer: port, address asked. -/
  arp  : Option (Nat × Nat) := none
deriving DecidableEq, Repr

/-- What the Hawser and the role lines hold (R329 to R354). -/
structure Twin where
  /-- MSEQ of the next message, by TYPE. -/
  tx : Store Nat Nat := []
  /-- 1 + MSEQ of the newest message received, by TYPE. -/
  rx : Store Nat Nat := []
  /-- Bulk and CTRL messages sent and not yet named by an ACK: TYPE, MSEQ, the message (R336). -/
  unacked : List (Nat × Nat × List (BitVec 8)) := []
  /-- Messages sent again (R336). -/
  resends : Nat := 0
  /-- Tide count of the last HEART that passed, as 1 + count. -/
  heart : Nat := 0
  /-- The last frame with a heartbeat miss, as 1 + N. -/
  missAt : Nat := 0
  /-- TWR_IN edges without a toggle while HEARTs arrive (R345). -/
  twrLost : Nat := 0
  /-- The depose is asserted towards the other part (R343); the leader failure is declared. -/
  depose : Bool := false
  declared : Bool := false
  /-- LERR of the frame in progress and of the two before (R338). -/
  lerr  : Nat := 0
  lerr1 : Nat := 0
  lerr2 : Nat := 0
  /-- LERR that the other part's HEARTs gave, of its latest frame and the one before (R338). -/
  peerLerr  : Nat := 0
  peerLerr1 : Nat := 0
  /-- Own digests of the last frame and its frame number. -/
  dgst  : Nat := 0
  dgstFrame : Nat := 0
  /-- Own boarded copy of the edge before (leading twin) and the values a MIRROR brought for the next edge (trailing twin), keyed as the boarding
  buffer (R333). -/
  delay  : Store Nat (BitVec 64) := []
  mirror : Store Nat (BitVec 64) := []
  mirrorFor : Option Nat := none
  /-- Changed metering temperatures by channel: those that the next MIRROR carries, and those that the next edge takes (R333, R339). -/
  tempWait : Store Nat Nat := []
  tempNext : Store Nat Nat := []
  /-- Pulses of the frame in progress, by Tally pulse register 0 to 31 (R333). -/
  pulses : Store Nat Nat := []
  /-- Own cell reports of the frame before (cell to 1 + word), the other part's fresh map and the reports its CELLFILL brought (R334). -/
  ownReps  : Store Nat Nat := []
  peerMap  : Option (List (BitVec 8)) := none
  fills    : Store Nat Nat := []
  /-- The other part's last HEART: CSEQ, MHEAD, TTACT, TTPEND. -/
  peerCseq : Nat := 0
  peerHead : Nat := 0
  peerTtAct  : Nat := 0
  peerTtPend : Nat := 0
  /-- Records of the other part in the twin mirror area (R350). -/
  mirrorArea : List (Nat × List (BitVec 8)) := []
  /-- TL registers when the frame began (R341). -/
  tl0 : Store Nat Nat := []
  /-- A change of leadership at an edge: the edge, and whether the old leader goes OUT (R346). -/
  handover : Option (Nat × Bool) := none
  /-- The boundary that TTACT named, with the TTID (R347). -/
  ttact : Option (Nat × Nat) := none
  /-- PAIR: tide count and the arguments of the parts received (R337). -/
  pairAt : Nat := 0
  parts  : Store Nat (List (BitVec 8)) := []
  /-- The next commit edge that PAIR gave (R332, R350). -/
  commitEdge : Option Nat := none
  /-- Boundary B of the copy and C of the cut (R348). -/
  copyFrom : Option Nat := none
  cutAt : Option Nat := none
  /-- Tide counts of the writes made during the copy, by word (R349). -/
  wrote : Store Nat Nat := []
  /-- Copies made in this resynchronisation (R349). -/
  attempts : Nat := 0
  /-- Stores of the HOST's control engines that wait for a STORE message (R349). -/
  stores : List TwinStore := []
  /-- Bytes of BULK data sent or received in this attempt (RSSTAT.PCT). -/
  bulk : Nat := 0
  /-- The other part's registers at C, which a joining twin with COVER = 1 adopts there (R350), as 128-bit numbers by n. -/
  adopt : Option (List Nat) := none
  /-- A resynchronisation reset is under way: the control domain restarts into JOIN (R332). -/
  resync : Bool := false
  /-- Bytes of the MIRROR body boarded at the present edge, and of the one for the next edge (R338). -/
  mirn : Nat := 0
  mirnNext : Nat := 0
  /-- The last message sent of each TYPE (R337), and the level of TWR_OUT (R343). -/
  sent : Store Nat (List (BitVec 8)) := []
  /-- The level of TWR_OUT (R343). -/
  twrOut : Bool := false
  /-- Ticks for which the exposure window has been open (R353). -/
  expoTicks : Nat := 0
  /-- The double-fault latch, kept by the power die (R353). -/
  dflt : Bool := false
  /-- Hawser contact since the start. -/
  contact : Bool := false
deriving DecidableEq, Repr

/-- The steps of a pump start (R393): none, the fare awaited, the bootstrap precharge, commutation. -/
inductive PumpStep where
  | off | fare | precharge | running
deriving DecidableEq, Repr

/-- The coolant drive (R386 to R398). Gates are numbered as FSW numbers them: 2 × phase the high side, 2 × phase + 1 the low side. -/
structure Pump where
  /-- The filtered Hall code, once one has been read. -/
  hall  : Option Nat := none
  /-- Gates that are on, and gates whose turn-on waits for the handshake (R389). -/
  on    : Nat := 0
  wait  : Nat := 0
  /-- The step of the start (R393). -/
  step  : PumpStep := .off
  /-- RUN was written 0: the stop takes effect at the end of the carrier period. -/
  stopping : Bool := false
  /-- The DUTY of the carrier period in progress, and whether its high part runs (R388). -/
  duty  : Nat := 0
  high  : Bool := false
  /-- The last six intervals between Hall transitions, newest first, in µs (R395). -/
  spans : List Nat := []
  /-- The phase under a bootstrap refresh (R391). -/
  refresh : Option Nat := none
  /-- VDRV is below 10.0 V (R394). -/
  drvLow : Bool := false
deriving DecidableEq, Repr

end Sys2Proof.Machine
end

