-- ==== Sys2Proof/Machine/PartsSafety.lean ====
section
/-!
DEFINITION. Machine/PartsSafety.lean: the state of the two safety channels that the SAF registers do not hold (R304 to R328).
-/
namespace Sys2Proof.Machine

/-- A comparator's settings as the safety configuration gives them (R164, R307). -/
structure CmpSetting where
  n      : Nat
  rank   : Nat
  fields : List (Fld × Nat)
deriving DecidableEq, Repr

/-- What the safety configuration partition holds as a signed configuration (R307): the SAF fields, the comparators reserved for
ranks 0 and 1, the SE parameter block, the reservations, the LEG floor and trip mode (R125), and the digest. The manual does
not give the payload's byte layout; the model holds what it says. -/
structure Scfg where
  fields : List (Fld × Nat × Nat) := []
  comparators : List CmpSetting := []
  seBlock : List (Nat × BitVec 8) := []
  claims  : List (Resource × Nat × Nat) := []
  digest  : List (BitVec 8) := []
deriving DecidableEq, Repr

/-- A message source at one checker (R323): the last passing SEQ and TIME, a first copy whose twin copy is awaited, and whether
the last matched pair formed within MSGTO, without DEMAND bits. -/
structure MsgSource where
  seq   : Option Nat := none
  time  : Option Nat := none
  first : Option (List (BitVec 8)) := none
  clear : Bool := false
deriving DecidableEq, Repr

/-- One channel's receivers and checker (R308 to R310, R323). Bit sets are numbers. -/
structure Receiver where
  /-- Filtered FBK0 to FBK7 and SRST levels. -/
  fbk  : Nat := 0
  srst : Bool := false
  /-- Inputs (by number; a pair by its even number) that demand now. -/
  demand : Nat := 0
  /-- Inputs (a pair by its even number) that have demanded and are not yet healthy again (R310). -/
  open_ : Nat := 0
  /-- Inputs of a pair that have shown their demand level since the pair's demand began (R310). -/
  shown : Nat := 0
  /-- Inputs with a discrepancy fault (R309). -/
  disc : Nat := 0
  /-- Consecutive switch-bank readings that differ from SAF.SWSEXP (R308). -/
  bankBad : Nat := 0
  /-- Message sources by number (R323). -/
  sources : Store Nat MsgSource := []
deriving DecidableEq, Repr

/-- A phase of channel P's grid window (R315): the squares of the half cycle in progress and their number, those of the last complete half cycle, the latest
sample, the instant of the last positive-going zero crossing and the last period, in ticks. -/
structure PhaseWindow where
  sum    : Nat := 0
  count  : Nat := 0
  rms    : Option (Nat × Nat) := none
  prev   : Option Int := none
  cross  : Option Nat := none
  period : Option Nat := none
deriving DecidableEq, Repr

/-- The safety channels (R304 to R328, R478). -/
structure Saf where
  /-- Channel H's receivers and checker (R308, R323). -/
  rxH : Receiver := {}
  /-- Channel P's receivers and checker (R308, R323). -/
  rxP : Receiver := {}
  /-- Functions each channel holds latched (bits 0 to 3: SF-A to SF-D). -/
  latchH : Nat := 4
  latchP : Nat := 4
  /-- SF-A was latched by a demand other than a grid window's (R311). -/
  sfaOther : Bool := false
  /-- A grid-window trip condition of channel H or channel P is present (R314, R315). -/
  gridH : Bool := false
  gridP : Bool := false
  /-- Channel P's grid window (R315): the tide count since which a phase voltage, or the frequency, has been outside its limits. -/
  pgV : Option Nat := none
  pgF : Option Nat := none
  pg  : List PhaseWindow := [{}, {}, {}]
  /-- Consecutive cycles with ABOVE and consecutive periods out of range, by phase 0 to 2 (R314). -/
  hov : Store Nat Nat := []
  hfr : Store Nat Nat := []
  /-- The SF-D delay runs (R311). -/
  sfdRun : Bool := false
  /-- Switch commands: bit n set, the channel commands its switch of SOn closed. -/
  cmdH : Nat := 0
  cmdP : Nat := 0
  /-- Permits that channel P's program stages (class 0x09, R313). -/
  permit : Nat := 0
  /-- The output's running test pulse: 0 none, 1 channel H's, 2 channel P's. -/
  test : Store Nat Nat := []
  /-- Outputs whose off-state diagnostic passed since they last turned off (R312). -/
  offPassed : Nat := 0
  /-- Outputs whose contactor the checks expect pulled in (R313, R321). -/
  expect : Nat := 0
  /-- Outputs whose FBK has been found in its expected state since they last turned on or off (R321). -/
  fbSettled : Nat := 0
  /-- A reset attempt runs between 0 and 20 ms: the refusal code of a cause that has arrived since, 0 none (R326). -/
  resetRun : Option Nat := none
  /-- Channel P clears its lockout at the next normal end of its safety logic task (R478). -/
  pClear : Bool := false
  /-- The fault-exchange wires (R305) and whether channel H watches FXP. -/
  fxp : Bool := false
  fxh : Bool := false
  fxpWatch : Bool := false
  /-- SEQ of the messages channel H sends (R324). -/
  txSeq : Nat := 0
  /-- The message channel H sent last (R324, Table 13-7). -/
  txMsg : List (BitVec 8) := []
  /-- The safety configuration partition (R307, R311, R325): the signed configuration, each channel's lockout with its code and
  ITEM, and the SF-B latch. A part leaves the factory locked out with code 0x13. -/
  cfgPart : Option Scfg := none
  partLockH : Option (Nat × Nat) := some (0x13, 0)
  partLockP : Option (Nat × Nat) := some (0x13, 0)
  partSfB : Bool := false
deriving DecidableEq, Repr

end Sys2Proof.Machine
end

