-- ==== Sys2Proof/Machine/State.lean ====
section
/-!
DEFINITION. Machine/State.lean: the machine's state as plain data, how a step can stop, and the state after reset.
-/
namespace Sys2Proof.Machine

/-- Why the machine stops with a fault. No meaning of this model answers a fault: the manual gives the part an effect for every
command. -/
inductive Fault where
  /-- Raised by nobody; safe. -/
  | none
deriving DecidableEq, Repr

/-- Why the machine refuses a command. -/
inductive Refusal where
  /-- Raised by `exec` for a command whose meaning is not written yet; safe. -/
  | notModelled (mnemonic : String)
deriving DecidableEq, Repr

/-- The part itself: everything but the queue of waiting commands and the contents of the addressed memories. -/
structure Dev where
  /-- How many free values have been drawn (the model's own field, not the manual's; log entry 1). -/
  fresh  : Nat := 0
  /-- The strap balls as sampled (R489). -/
  straps : Straps := {}
  /-- The answer to the last access (R2, R3). -/
  resp   : BusResp := {}
  /-- The register fields, by field and register number; an unlisted one holds its reset value. -/
  regs   : Store (Fld × Nat) Nat := []
  /-- Latches by requester (R51, R302, R426, R457, R460). -/
  lat    : Latches := {}
  /-- Reset domains, links, claims, start-up (R11 to R30, R472 to R480). -/
  sys    : Sys := {}
  /-- Tags and the TAP (R461, R467). -/
  evt    : Evt := {}
  /-- The Tide and the timetable (R31 to R54). -/
  tt     : Tt := {}
  /-- The processors (R55 to R116). -/
  vcs    : Vcs := {}
  /-- What surrounds Ferryman (R399 to R426). -/
  fm     : Fm := {}
  /-- The safety channels (R304 to R328). -/
  saf    : Saf := {}
  /-- Legs, cell links and comparators (R117 to R164). -/
  conv   : Conv := {}
  /-- The coolant drive (R386 to R398). -/
  pump   : Pump := {}
  /-- Twin operation (R329 to R355). -/
  twin   : Twin := {}
  /-- The Ethernet ports and the IEEE 1588 clock (R234 to R241). -/
  ethn   : EthNet := {}
  /-- The NODE block (R217 to R240). -/
  node   : NodeNet := {}
  /-- The berth pager (R242 to R257). -/
  pager  : Pager := {}
  /-- Error correction and the DRAM fill (R359 to R373). -/
  eccm   : EccMem := {}
  /-- Custody: Tally, commits, Manifest (R280 to R303). -/
  cus    : Custody := {}
  /-- The filters and the metering engine (R258 to R279). -/
  met    : Met := {}
  /-- The auxiliary converters (R374 to R385). -/
  adc    : Adc := {}
  /-- The shipped programs (R165 to R216, R238). -/
  prog   : Ctl := {}
deriving DecidableEq, Repr

/-- The machine. -/
structure State where
  /-- The commands that wait, first in, first out. -/
  pending : List Instr := []
  /-- The addressed memories (Tables 0-3 and 1-7): DRAM, SRAM windows, flash, by 40-bit system address; an unlisted byte reads 0
  (log entry 2). -/
  mem     : List Host.Cell := []
  /-- The part itself (R14). -/
  dev     : Dev := {}
deriving DecidableEq, Repr

/-- The part right after a power-domain reset (R473): every register at its reset value, the control domain held (R16), the
factory's lockout in the safety partition, which SAF.FLTH and SAF.FLTP show (R325). -/
def State.reset : State :=
  { dev := { regs := [((.SAF_FLTH_VALID, 0), 1), ((.SAF_FLTH_CODE, 0), 0x13), ((.SAF_FLTP_VALID, 0), 1), ((.SAF_FLTP_CODE, 0), 0x13)] } }

end Sys2Proof.Machine
end

