-- ==== Sys2Proof/Machine/Ops.lean ====
section
/-!
DEFINITION. Machine/Ops.lean: the named operations over registers, memory, free values, events, the log, counters and claims that every
meaning is built from.
-/
namespace Sys2Proof.Machine

/-! ### Register fields -/

/-- The order of the register file's keys: by field, then by register number. -/
def regLt (a b : Fld × Nat) : Bool :=
  a.1.ctorIdx < b.1.ctorIdx || (a.1.ctorIdx == b.1.ctorIdx && a.2 < b.2)

/-- The value of field `f` of register number `i`. -/
def Dev.rdAt (d : Dev) (f : Fld) (i : Nat) : Nat := Store.get (f.resetValue i) (f, i) d.regs

/-- Sets field `f` of register number `i`. -/
def Dev.wrAt (d : Dev) (f : Fld) (i v : Nat) : Dev :=
  { d with regs := Store.put regLt (f.resetValue i) (f, i) v d.regs }

/-- The value of a field of a register that the map does not repeat. -/
def Dev.rd (d : Dev) (f : Fld) : Nat := d.rdAt f 0

/-- Sets a field of a register that the map does not repeat. -/
def Dev.wr (d : Dev) (f : Fld) (v : Nat) : Dev := d.wrAt f 0 v

/-- A one-bit field is 1. -/
def Dev.onAt (d : Dev) (f : Fld) (i : Nat) : Bool := decide (d.rdAt f i = 1)

/-- A one-bit field is 1. -/
def Dev.on (d : Dev) (f : Fld) : Bool := d.onAt f 0

/-- Sets a one-bit field. -/
def Dev.flagAt (d : Dev) (f : Fld) (i : Nat) (b : Bool) : Dev := d.wrAt f i (bit01 b)

/-- Sets a one-bit field. -/
def Dev.flag (d : Dev) (f : Fld) (b : Bool) : Dev := d.flagAt f 0 b

/-- Bit `k` of a field that holds a set of bits. -/
def Dev.bit (d : Dev) (f : Fld) (k : Nat) : Bool := bitOf (d.rd f) k

/-- Sets bit `k` of a field that holds a set of bits. -/
def Dev.wrBit (d : Dev) (f : Fld) (k : Nat) (b : Bool) : Dev := d.wr f (setBit (d.rd f) k b)

/-- Adds to a counter field that saturates at `m`. -/
def Dev.bumpAt (d : Dev) (f : Fld) (i m : Nat) (a : Nat := 1) : Dev := d.wrAt f i (satAdd m (d.rdAt f i) a)

/-- Adds to a counter field that saturates at `m`. -/
def Dev.bump (d : Dev) (f : Fld) (m : Nat) (a : Nat := 1) : Dev := d.bumpAt f 0 m a

/-- A 64-bit value held in two 32-bit registers. -/
def Dev.rd64 (d : Dev) (lo hi : Fld) : Nat := d.rd lo + 2 ^ 32 * d.rd hi

/-- Sets a 64-bit value held in two 32-bit registers. -/
def Dev.wr64 (d : Dev) (lo hi : Fld) (v : Nat) : Dev := (d.wr lo (v % 2 ^ 32)).wr hi (v / 2 ^ 32 % 2 ^ 32)

/-- What a field holding `old` stores when `v` is written (the range rule of its block). -/
def Range.apply (r : Range) (old v : Nat) : Nat :=
  match r with
  | .any => v
  | .near lo hi => clampNat lo hi v
  | .keep lo hi => if lo ≤ v ∧ v ≤ hi then v else old
  | .keepZero lo hi => if v = 0 then old else clampNat lo hi v
  | .signed16 b =>
    let x := toSigned 16 v
    ofSigned 16 (if (b : Int) < x then b else if x < -(b : Int) then -(b : Int) else x)

/-- The row of a field in its block's map. -/
def Fld.row (f : Fld) : Option FieldRow := f.blk.rows.find? fun r => r.fld = f

/-- What a configuration loader stores into field `f` of register number `i`: the value cut to the field's width and range. -/
def Dev.loadField (d : Dev) (f : Fld) (i v : Nat) : Dev :=
  match f.row with
  | some r => d.wrAt f i (r.range.apply (d.rdAt f i) (v % 2 ^ r.width))
  | none => d

/-- The registers of the blocks take their reset values (R473). -/
def Dev.resetBlks (d : Dev) (bs : List Blk) : Dev :=
  { d with regs := d.regs.filter fun e => !(bs.contains e.1.1.blk) }

/-- The blocks of the control domain (R473). -/
def controlBlks : List Blk :=
  [.TTB, .CE, .SE, .BERTH, .DDR, .PWM, .LEG, .CLINK, .SDF, .ETH, .NODE, .TWIN, .PCNT, .GWY]

/-- The blocks of the supervisor fabric (R473). -/
def supervisorBlks : List Blk := [.TIDE, .CLK, .EVT, .ECC, .FM, .MTR, .TALLY, .MAN, .SAF, .WCMP, .ADC]

/-- The blocks of the power domain (R473). -/
def powerBlks : List Blk := [.CAP, .COOL]

/-- Applies `f` for each of the numbers `0 … n - 1`, in order. -/
def Dev.each (d : Dev) (n : Nat) (f : Dev → Nat → Dev) : Dev := (List.range n).foldl f d

/-- Applies `f` only when the condition holds. -/
def Dev.when (d : Dev) (c : Bool) (f : Dev → Dev) : Dev := if c then f d else d

/-! ### Free values -/

/-- Draws a free value below `m` (log entry 1). -/
def Dev.draw (d : Dev) (m : Nat) : Nat × Dev :=
  (Config.freeNat d.fresh % m, { d with fresh := d.fresh + 1 })

/-! ### Memory -/

/-- The memory's canonical form: addresses strictly rising, no byte equal to what an unlisted address reads as. -/
abbrev Memory.wf (m : List Host.Cell) : Prop := Store.canon natLt (fun _ => (0 : BitVec 8)) m = true

/-- The byte at an address; an unlisted one reads 0 (log entry 2). -/
def memByte (m : List Host.Cell) (a : Nat) : BitVec 8 := Store.at m 0 a

/-- Stores a byte. -/
def memSet (m : List Host.Cell) (a : Nat) (v : BitVec 8) : List Host.Cell := Store.set m 0 a v

/-- The `n` bytes from an address. -/
def memBytes (m : List Host.Cell) (a n : Nat) : List (BitVec 8) := (List.range n).map fun k => memByte m (a + k)

/-- Stores bytes from an address. -/
def memPut (m : List Host.Cell) (a : Nat) : List (BitVec 8) → List Host.Cell
  | [] => m
  | v :: t => memPut (memSet m a v) (a + 1) t

/-- The little-endian number in the `n` bytes from an address (R8). -/
def memNat (m : List Host.Cell) (a n : Nat) : Nat := leNat (memBytes m a n)

/-- Stores the `n` little-endian bytes of a number (R8). -/
def memPutNat (m : List Host.Cell) (a n v : Nat) : List Host.Cell := memPut m a (leBytes n v)

/-- The memory with the bytes from `a` to `b - 1` back at 0. -/
def memClear (m : List Host.Cell) (a b : Nat) : List Host.Cell := m.filter fun c => !(a ≤ c.1 && c.1 < b)

/-! ### Meanings -/

/-- A command that acts on the part alone: the memories and the queue keep. -/
def State.upd (s : State) (f : Dev → Dev) : Host.Outcome State Fault Refusal :=
  .next { s with dev := f s.dev }

/-- A command that reads the memories and acts on the part alone. -/
def State.updR (s : State) (f : List Host.Cell → Dev → Dev) : Host.Outcome State Fault Refusal :=
  .next { s with dev := f s.mem s.dev }

/-- A command that acts on the memories too: `w` gives the bytes it stores, as (address, bytes), and the part after it. -/
def State.updM (s : State) (w : List Host.Cell → Dev → List (Nat × List (BitVec 8)) × Dev) :
    Host.Outcome State Fault Refusal :=
  let r := w s.mem s.dev
  .next { s with mem := r.1.foldl (fun m x => memPut m x.1 x.2) s.mem, dev := r.2 }

/-- Writes that a joining twin's own pager and NODE block make while the copy runs, by word (R349). -/
def Dev.joinNote (ws : List (Nat × List (BitVec 8))) (d : Dev) : Dev :=
  if decide (d.rd .TWIN_STAT_STATE = 2) && d.twin.copyFrom.isSome then
    { d with twin := { d.twin with wrote := ws.foldl (fun t w =>
        (List.range ((w.1 + w.2.length + 7) / 8 - w.1 / 8)).foldl (fun t k => Store.set t 0 (w.1 / 8 + k) (d.rd64 .TIDE_CNTLO .TIDE_CNTHI + 1)) t) d.twin.wrote } }
  else d

/-- A command of the pager or the NODE block that acts on the memories. -/
def State.updP (s : State) (w : List Host.Cell → Dev → List (Nat × List (BitVec 8)) × Dev) : Host.Outcome State Fault Refusal :=
  s.updM fun m d =>
    let r := w m d
    (r.1, r.2.joinNote r.1)

/-- A command that returns ranges of the memories to 0 and acts on the part. -/
def State.updC (s : State) (w : List Host.Cell → Dev → List (Nat × Nat) × Dev) : Host.Outcome State Fault Refusal :=
  let r := w s.mem s.dev
  .next { s with mem := r.1.foldl (fun m x => memClear m x.1 x.2) s.mem, dev := r.2 }

/-! ### Bus responses -/

/-- An access ends without error and returns `v` (a write returns 0). -/
def Dev.answer (d : Dev) (v : Nat := 0) : Dev := { d with resp := { error := false, data := v } }

/-- An access ends with a bus error; a read returns zero (R2, R3). -/
def Dev.busError (d : Dev) : Dev := { d with resp := { error := true, data := 0 } }

/-- A write that only Ferryman may make: another requester's ends with a bus error and changes nothing. -/
def Dev.byFerryman (d : Dev) (q : Requester) (f : Dev → Dev) : Dev :=
  if q = .ferryman then f d.answer else d.busError

/-- Something that happens on the control die: nothing while the control domain is held in reset (log entry 8). -/
def Dev.ctl (d : Dev) (f : Dev → Dev) : Dev := if d.sys.cdReset then d else f d

/-- A write by Ferryman to a control-die register. -/
def Dev.ctlWrite (d : Dev) (q : Requester) (f : Dev → Dev) : Dev := d.byFerryman q fun x => x.ctl f

/-! ### The Tide count, lifetime counters, the log -/

/-- The tide count (R32). -/
def Dev.tide (d : Dev) : Nat := d.rd64 .TIDE_CNTLO .TIDE_CNTHI

/-- Adds to the lifetime counter at an offset of the lifetime partition (R408): 64 bits, saturating. -/
def Dev.life (d : Dev) (off : Nat) (a : Nat := 1) : Dev :=
  { d with fm := { d.fm with life := d.fm.life.set 0 off (satAdd (2 ^ 64 - 1) (d.fm.life.at 0 off) a) } }

/-- The non-volatile array is written: the lifetime count of its words rises (Table 18-5). How many words a write takes is not said: a free value
(log entry 104). -/
def Dev.nvWrote (d : Dev) : Dev :=
  let r := d.draw (2 ^ 16)
  r.2.life 0x0A8 r.1

/-- A cause for a log entry waits for the log writer (R406). -/
def Dev.logAsk (d : Dev) (r : LogReq) : Dev := { d with fm := { d.fm with logPend := d.fm.logPend ++ [r] } }

/-- Applies `f` to the architecture's state. -/
def Dev.onSys (d : Dev) (f : Sys → Sys) : Dev := { d with sys := f d.sys }

/-- Applies `f` to Ferryman's surroundings. -/
def Dev.onFm (d : Dev) (f : Fm → Fm) : Dev := { d with fm := f d.fm }

/-- What the shipped management firmware does: nothing while Ferryman does not run it (R400, Tables 17-4 and 21-7). -/
def Dev.firmware (d : Dev) (f : Dev → Dev) : Dev := if d.fm.booted then f d else d

/-- A firmware log entry of a start-up stage (R475); the manual gives its LVL no value (log entry 42). -/
def Dev.stageLog (d : Dev) (stage data : Nat) : Dev :=
  let r := d.draw 16
  r.2.logAsk { src := 0x220 + stage, lvl := r.1, fw := true, data := data }

/-- Applies `f` to the twin's state. -/
def Dev.onTwin (d : Dev) (f : Twin → Twin) : Dev := { d with twin := f d.twin }

/-- Sets LERR bit `k` of the frame in progress (Table 14-5). -/
def Dev.lerr (d : Dev) (k : Nat) : Dev := d.onTwin fun t => { t with lerr := setBit t.lerr k true }

/-- Condition `k` of the dry crossing fails (R477): the first one is kept. -/
def Dev.dryNote (d : Dev) (k : Nat) : Dev :=
  if d.sys.dryPassed || d.tt.active.isNone || decide (d.sys.dryFault ≠ 0) then d else { d with sys := { d.sys with dryFault := k } }

/-- The event route's LVL of a source. -/
def Dev.lvl (d : Dev) (n : Nat) : Nat := d.rdAt .EVT_RT_LVL n

/-! ### Host command queues -/

/-- Host command queue `q` (R403). -/
def Dev.queue (d : Dev) (q : Nat) : HostQueue := d.vcs.queues.at {} q

/-- Sets host command queue `q`. -/
def Dev.setQueue (d : Dev) (q : Nat) (h : HostQueue) : Dev :=
  { d with vcs := { d.vcs with queues := d.vcs.queues.set {} q h } }

/-- Pushes a payload into queue `q`: `none` when it holds 16 entries; SEQ is one more than the last assigned, modulo 2^15. -/
def Dev.queuePush (d : Dev) (q payload : Nat) : Option (Dev × Nat) :=
  let h := d.queue q
  if 16 ≤ h.items.length then none
  else
    let n := (h.last + 1) % 2 ^ 15
    some (d.setQueue q { items := h.items ++ [⟨payload % 2 ^ 48, n⟩], last := n }, n)

/-! ### Counters (R458, R459) -/

/-- Engine `e`'s record: 0 to 7 CE0 to CE7, 8 SE0, 9 SE1, 10 Ferryman. -/
def Dev.engine (d : Dev) (e : Nat) : Engine := d.vcs.engines.at {} e

/-- Sets engine `e`'s record. -/
def Dev.setEngine (d : Dev) (e : Nat) (x : Engine) : Dev :=
  { d with vcs := { d.vcs with engines := d.vcs.engines.set {} e x } }

/-- The 48-bit count of CTn. -/
def Dev.ct (d : Dev) (n : Nat) : Nat := d.rdAt .PCNT_CTLO n + 2 ^ 32 * d.rdAt .PCNT_CTHI n

/-- Sets the count of CTn. -/
def Dev.setCt (d : Dev) (n v : Nat) : Dev :=
  (d.wrAt .PCNT_CTLO n (v % 2 ^ 32)).wrAt .PCNT_CTHI n (v / 2 ^ 32 % 2 ^ 16)

/-- A carry out of CTn that is not chained: its overflow bit, and the group's event (R459). -/
def Dev.ctOverflow (d : Dev) (n : Nat) : Dev × List Nat :=
  (if n < 32 then d.wrBit .PCNT_OVFLO n true else d.wrBit .PCNT_OVFHI (n - 32) true, [488 + n / 8])

/-- CTn counts `a` more (R459): the events that this raises. A chained carry goes to CT(n + 1). -/
def Dev.ctAdd (d : Dev) (n a : Nat) : Dev × List Nat :=
  let v := d.ct n + a
  let d1 := d.setCt n (v % 2 ^ 48)
  if v < 2 ^ 48 then (d1, [])
  else if d.onAt .PCNT_CFG_CHAIN n && decide (n % 2 = 0) then
    let w := d1.ct (n + 1) + 1
    let d2 := d1.setCt (n + 1) (w % 2 ^ 48)
    if w < 2 ^ 48 then (d2, []) else d2.ctOverflow (n + 1)
  else d1.ctOverflow n

/-- CTn is the odd half of a chained pair: its own SRC, LVLM and TFILT are ignored (R459). -/
def Dev.ctChained (d : Dev) (n : Nat) : Bool :=
  decide (n % 2 = 1) && d.onAt .PCNT_CFG_CHAIN (n - 1) && d.onAt .PCNT_CFG_EN (n - 1)

/-- CTn counts a rise or a signal of source `src` now (R458). -/
def Dev.ctCounts (d : Dev) (n src : Nat) : Bool :=
  d.on .PCNT_CTRL_EN && !d.on .PCNT_CTRL_FRZ && d.onAt .PCNT_CFG_EN n && !d.ctChained n
    && decide (d.rdAt .PCNT_CFG_SRC n = src)
    && (!d.onAt .PCNT_CFG_TFILT n
        || ((d.engine (d.rdAt .PCNT_CFG_ENG n)).running
            && decide ((d.engine (d.rdAt .PCNT_CFG_ENG n)).task = d.rdAt .PCNT_CFG_TASK n)))

/-- Every counter of source `src` counts `a` (R458): the events that this raises. A source of the event matrix (below 0x200) counts
rises only with LVLM = 0. -/
def Dev.countAll (d : Dev) (src a : Nat) : Dev × List Nat :=
  if d.sys.cdReset then (d, [])
  else (List.range 64).foldl (fun (x : Dev × List Nat) n =>
    if x.1.ctCounts n src && !(decide (src < 0x200) && x.1.onAt .PCNT_CFG_LVLM n) then
      let y := x.1.ctAdd n a
      (y.1, x.2 ++ y.2)
    else x) (d, [])

/-! ### Events (R451 to R457) -/

/-- The sources of the control die: they read 0 while the control domain is in reset (R452). -/
def controlSource (n : Nat) : Bool :=
  (7 ≤ n && n ≤ 8) || (16 ≤ n && n ≤ 53) || (56 ≤ n && n ≤ 58) || (64 ≤ n && n ≤ 159) || (408 ≤ n && n ≤ 429)
    || (488 ≤ n && n ≤ 495)

/-- The reserved sources of Table 20-1: they never rise (R451). -/
def reservedSource (n : Nat) : Bool :=
  (9 ≤ n && n ≤ 15) || (59 ≤ n && n ≤ 63) || (113 ≤ n && n ≤ 127) || n == 318 || n == 319 || (389 ≤ n && n ≤ 391)
    || (401 ≤ n && n ≤ 407) || (415 ≤ n && n ≤ 423) || (430 ≤ n && n ≤ 447) || (459 ≤ n && n ≤ 471) || 512 ≤ n

/-- Capture unit `u` stamps a rise of its source (R457): the tide count, and the tick since the edge, a free value below the
period (log entry 1). With MODE = 0 it keeps the first stamp until VALID is cleared. -/
def Dev.capture (d : Dev) (u n : Nat) : Dev × List Nat :=
  if d.onAt .EVT_CAPCFG_EN u && decide (d.rdAt .EVT_CAPCFG_SRC u = n) then
    let d1 := d.bumpAt .EVT_CAPCNT u (2 ^ 32 - 1)
    if d.onAt .EVT_CAPTICK_VALID u && !d.onAt .EVT_CAPCFG_MODE u then (d1, [])
    else
      let (t, d2) := d1.draw (d1.rd .TIDE_PERIOD_ACT)
      let d3 := ((d2.wrAt .EVT_CAPTLO u (d2.tide % 2 ^ 32)).wrAt .EVT_CAPTHI u (d2.tide / 2 ^ 32)).wrAt .EVT_CAPTICK_TICK u t
      (d3.flagAt .EVT_CAPTICK_VALID u true, [472 + u])
  else (d, [])

/-- One rise of source `n` (R453): the log, Ferryman, queue 11, the capture units and the counters; the events that this raises
in turn. -/
def Dev.rise (d : Dev) (n data : Nat) : Dev × List Nat :=
  if reservedSource n || (controlSource n && d.sys.cdReset) then (d, [])
  else
    let d1 := d.when (d.onAt .EVT_RT_LOG n) fun x => x.logAsk { src := n, lvl := x.lvl n, data := data }
    let d2 := d1.when (d1.onAt .EVT_RT_FM n) fun x =>
      if x.onAt .EVT_RT_PEND n then x.flagAt .EVT_RT_OVR n true else x.flagAt .EVT_RT_PEND n true
    let d3 := d2.when (d2.onAt .EVT_RT_SAFP n) fun x =>
      match x.queuePush 11 (n + 2 ^ 16 * (x.tide % 2 ^ 32)) with
      | some y => y.1
      | none => x.flagAt .EVT_RT_OVR n true
    let d4 := (List.range 16).foldl (fun (x : Dev × List Nat) u =>
      let y := x.1.capture u n
      (y.1, x.2 ++ y.2)) (d3, [])
    let d5 := d4.1.countAll n 1
    (d5.1, d4.2 ++ d5.2)

/-- The rises of a list of sources and of what they raise in turn; at most `fuel` rises (log entry 7). -/
def Dev.rises : Nat → List Nat → Dev → Dev
  | 0, _, d => d
  | _ + 1, [], d => d
  | k + 1, n :: t, d =>
    let r := d.rise n 0
    Dev.rises k (t ++ r.2) r.1

/-- Source `n` rises, with the DATA of its log entry (R451, R453). -/
def Dev.raiseWith (d : Dev) (n data : Nat) : Dev :=
  let r := d.rise n data
  Dev.rises 64 r.2 r.1

/-- Source `n` rises. -/
def Dev.raise (d : Dev) (n : Nat) : Dev := d.raiseWith n 0

/-- A source whose cause is a condition takes a level: it rises when the condition begins (R451). -/
def Dev.level (d : Dev) (n : Nat) (b : Bool) : Dev :=
  if d.onAt .EVT_RT_LEVEL n = b then d
  else (d.flagAt .EVT_RT_LEVEL n b).when b fun x => x.raise n

/-- Counts `a` of a control-die count signal (Table 20-2), with the overflow events. -/
def Dev.signal (d : Dev) (src a : Nat) : Dev :=
  let r := d.countAll src a
  Dev.rises 64 r.2 r.1

/-- An address error (R2): a bus error and the event. -/
def Dev.addressError (d : Dev) : Dev := d.busError.raise 0

/-- A write to a field whose governing seal is set (R7): the sealed-write event, logged with the address. -/
def Dev.sealedWrite (d : Dev) (addr : Nat) : Dev := d.raiseWith 1 addr

/-- A write to the configuration of a resource the writer does not hold (R25). -/
def Dev.claimViolation (d : Dev) : Dev := d.raise 2

/-! ### Claims (R22 to R30) -/

/-- The claim cells of a kind of resource. -/
def Sys.claims (s : Sys) : Resource → Store Nat ClaimCell
  | .leg => s.legClaims
  | .cellLink => s.clinkClaims
  | .filter => s.filterClaims
  | .comparator => s.comparatorClaims
  | .analogInput => s.analogClaims
  | .converter => s.converterClaims
  | .pulseInput => s.pulseClaims
  | .safetyInput => s.safetyClaims
  | .ethQueue => s.ethClaims
  | .capture => s.captureClaims
  | .counter => s.counterClaims
  | .gangway => s.gangwayClaims

/-- Sets the claim cells of a kind of resource. -/
def Sys.setClaims (s : Sys) (c : Store Nat ClaimCell) : Resource → Sys
  | .leg => { s with legClaims := c }
  | .cellLink => { s with clinkClaims := c }
  | .filter => { s with filterClaims := c }
  | .comparator => { s with comparatorClaims := c }
  | .analogInput => { s with analogClaims := c }
  | .converter => { s with converterClaims := c }
  | .pulseInput => { s with pulseClaims := c }
  | .safetyInput => { s with safetyClaims := c }
  | .ethQueue => { s with ethClaims := c }
  | .capture => { s with captureClaims := c }
  | .counter => { s with counterClaims := c }
  | .gangway => { s with gangwayClaims := c }

/-- The claim cell of resource `n` of a kind. -/
def Dev.cell (d : Dev) (r : Resource) (n : Nat) : ClaimCell := (d.sys.claims r).at {} n

/-- Sets the claim cell of resource `n` of a kind. -/
def Dev.setCell (d : Dev) (r : Resource) (n : Nat) (c : ClaimCell) : Dev :=
  { d with sys := d.sys.setClaims ((d.sys.claims r).set {} n c) r }

/-- The resource that excludes this one: PU(8 + i) and GWi share a ball (R488). -/
def rival (r : Resource) (n : Nat) : Option (Resource × Nat) :=
  match r with
  | .pulseInput => if 8 ≤ n ∧ n ≤ 15 then some (.gangway, n - 8) else none
  | .gangway => if n ≤ 7 then some (.pulseInput, n + 8) else none
  | _ => none

/-- The rival of the resource is held. -/
def Dev.rivalHeld (d : Dev) (r : Resource) (n : Nat) : Bool :=
  match rival r n with
  | some (r', n') => (d.cell r' n').owner.isSome
  | none => false

/-- Claims by a requester on resources of a kind are closed: ranks 3 to 6 at start-up, and a block whose sealed settings are not
restored since its domain was released (R24, R28, R125). -/
def Dev.claimsClosed (d : Dev) (q : Requester) (r : Resource) : Bool :=
  (decide (3 ≤ q.rank) && !d.sys.claimsOpen) || (decide (r = .leg) && !d.on .LEG_SEAL_SET)

/-- The requester as whom a claim is made: a claim written to GWY.CLMnn is made with identifier 0x20 at rank 6 (R471). -/
def claimant (q : Requester) (r : Resource) : Requester :=
  match r with
  | .gangway => .testAccess
  | _ => q

/-- The status code of a claim attempt (Table 11-1 and the order of R28). -/
def Dev.claimStatus (d : Dev) (q : Requester) (r : Resource) (n : Nat) : Nat :=
  let c := d.cell r n
  if c.owner = some q then 0x2
  else if c.rsv.isSome && c.rsv != some q.rank then 0x5
  else if d.claimsClosed q r then 0xA
  else match c.owner with
    | some o => if o.rank < q.rank then 0x4 else 0x3
    | none => if d.rivalHeld r n then 0x6 else 0x1

/-- A claim attempt (R22, R28): the requester's STATUS takes the code, and a granted claim makes it the holder. -/
def Dev.claim (d : Dev) (q : Requester) (r : Resource) (n : Nat) : Dev :=
  let code := d.claimStatus q r n
  let c := d.cell r n
  d.setCell r n { c with
    owner := if code = 0x1 then some q else c.owner
    status := c.status.set 0 q.id code }

/-- Requester `a` comes before `b` when both claim one free resource in the same clock cycle (R23): the lower rank number, then the lower
identifier. -/
def Requester.before (a b : Requester) : Bool := decide (a.rank < b.rank) || (decide (a.rank = b.rank) && decide (a.id ≤ b.id))

/-- Puts a requester into its place among claimants of one cycle. -/
def claimOrderPut (q : Requester) : List Requester → List Requester
  | [] => [q]
  | p :: t => if Requester.before q p then q :: p :: t else p :: claimOrderPut q t

/-- The requesters that claim in the same clock cycle, in the order in which they are served (R23). -/
def claimOrder (l : List Requester) : List Requester := l.foldr claimOrderPut []

/-- The requesters of `l` claim the resource in the same clock cycle (R22, R23, R28). -/
def Dev.claims (d : Dev) (l : List Requester) (r : Resource) (n : Nat) : Dev := (claimOrder l).foldl (fun x q => x.claim q r n) d

/-- The requester may release the resource: it holds it, and no sealed reservation keeps it (R24, R28). -/
def Dev.mayRelease (d : Dev) (q : Requester) (r : Resource) (n : Nat) : Bool :=
  decide ((d.cell r n).owner = some q) && !((d.cell r n).rsv.isSome && (d.cell r n).rsvSealed)

/-- A release attempt (R26, R28). -/
def Dev.releaseClaim (d : Dev) (q : Requester) (r : Resource) (n : Nat) : Dev :=
  let c := d.cell r n
  let ok := d.mayRelease q r n
  d.setCell r n { c with
    owner := if ok then none else c.owner
    status := c.status.set 0 q.id (if ok then 0x7 else 0x8) }

/-- CLAIM and RELEASE written together (R28). -/
def Dev.badClaim (d : Dev) (q : Requester) (r : Resource) (n : Nat) : Dev :=
  let c := d.cell r n
  d.setCell r n { c with status := c.status.set 0 q.id 0x9 }

/-- A requester of the control die: its claims are released by a control-domain reset (Table 1-3). Test access is the Gangway's (Table 1-1). -/
def Requester.onControlDie : Requester → Bool
  | .channelP | .twinService | .ce _ | .testAccess => true
  | _ => false

/-- Releases the claims whose holder satisfies `p`; reservations stay (R24, Table 1-3). -/
def releaseWhere (p : Requester → Bool) (c : Store Nat ClaimCell) : Store Nat ClaimCell :=
  (c.map fun e => (e.1, if (e.2.owner.map p).getD false then { e.2 with owner := none } else e.2)).filter fun e => e.2 ≠ {}

/-- Every kind of resource. -/
def allResources : List Resource :=
  [.leg, .cellLink, .filter, .comparator, .analogInput, .converter, .pulseInput, .safetyInput, .ethQueue, .capture,
   .counter, .gangway]

/-- Releases, everywhere, the claims whose holder satisfies `p`. -/
def Dev.releaseAll (d : Dev) (p : Requester → Bool) : Dev :=
  { d with sys := allResources.foldl (fun s r => s.setClaims (releaseWhere p (s.claims r)) r) d.sys }

/-- The claim register's word as a requester reads it (Table 1-10). -/
def Dev.claimWord (d : Dev) (q : Requester) (r : Resource) (n : Nat) : Nat :=
  let c := d.cell r n
  2 ^ 31 * bit01 c.owner.isSome + 2 ^ 30 * bit01 c.rsv.isSome + 2 ^ 27 * c.rsv.getD 0
    + 2 ^ 24 * ((c.owner.map Requester.rank).getD 0) + 2 ^ 16 * ((c.owner.map Requester.id).getD 0)
    + 2 ^ 8 * c.status.at 0 q.id

/-- The requester may write a field that configures resource `n` of a kind (R25): it holds the resource, or it is Ferryman and
Ferryman, a control engine or the SE pair holds it. -/
def Dev.mayConfigure (d : Dev) (q : Requester) (r : Resource) (n : Nat) : Bool :=
  match (d.cell r n).owner with
  | none => false
  | some o =>
    decide (o = q) || (decide (q = .ferryman) && (match o with
      | .ferryman | .ce _ | .channelP => true
      | _ => false))

/-- Applies `f` to the timetable's running state. -/
def Dev.onTt (d : Dev) (f : Tt → Tt) : Dev := { d with tt := f d.tt }

/-- The three capture registers take a time (R51). -/
def Dev.captureTo (d : Dev) (t : Nat × Nat) : Dev :=
  ((d.wr .TIDE_PTPS0 (t.1 % 2 ^ 32)).wr .TIDE_PTPS1 (t.1 / 2 ^ 32)).wr .TIDE_PTPNS t.2

/-- A capture that a hold kept back enters: the hold of 1 µs is over by the next Tide edge or the next read of TIDE.PTPS0 (R51, log entry 141). -/
def Dev.captureLate (d : Dev) : Dev :=
  match d.tt.ptpNext with
  | some t => (d.captureTo t).onTt fun x => { x with ptpNext := none }
  | none => d

/-- A read of TIDE.PTPS0 holds the capture registers (R51). -/
def Dev.captureHold (d : Dev) : Dev :=
  let d1 := d.captureLate
  (d1.onTt fun t => { t with captureHeld := true }).answer (d1.rd .TIDE_PTPS0)

end Sys2Proof.Machine
end

