-- ==== Sys2Proof/Machine/Capstan.lean ====
section
/-!
DEFINITION. Machine/Capstan.lean: the supply-current arbiter (R436 to R438).
-/
namespace Sys2Proof.Machine

/-- The fare a class asks for, from the register that sets it (Table 19-4). -/
def Dev.fareOf (d : Dev) (c : Nat) : Nat :=
  if c = 0 then d.rd .CAP_HUP_FARE
  else if c ≤ 8 then d.rdAt .SAF_SOCFG_FARE (c - 1)
  else if c = 9 then d.rd .COOL_START_FARE
  else if c ≤ 21 then d.rdAt .CAP_CLFARE c
  else if c = 22 then d.rd .CAP_REQ_FARES
  else 0

/-- The committed current: BASE plus every fare granted, in fares (R436). -/
def Dev.faresCommitted (d : Dev) : Nat :=
  (List.range 24).foldl (fun a c => if d.onAt .CAP_CLS_HELD c then a + d.rdAt .CAP_CLS_FARES c else a) (d.rd .CAP_BUDGET_BASE)

/-- Class `c` gets its fare; the peak follows (Table 19-9). -/
def Dev.fareGrant (d : Dev) (c : Nat) : Dev :=
  let d1 := ((d.flagAt .CAP_CLS_PEND c false).flagAt .CAP_CLS_BLOCK c false).flagAt .CAP_CLS_HELD c true
  d1.wr .CAP_COMMIT_PEAK (max (d1.rd .CAP_COMMIT_PEAK) d1.faresCommitted)

/-- Class `c` asks for `n` fares; 0 fares are granted at once (R436), but not while the SP link is failed (R13). -/
def Dev.fareAsk (d : Dev) (c n : Nat) : Dev :=
  if d.onAt .CAP_CLS_HELD c then d
  else
    let d1 := (d.wrAt .CAP_CLS_FARES c n).flagAt .CAP_CLS_PEND c true
    if n = 0 ∧ !d1.sys.spFailed then d1.fareGrant c else d1

/-- Class `c` releases its fare, or withdraws its request (R436, Table 19-8). -/
def Dev.fareDrop (d : Dev) (c : Nat) : Dev :=
  (((d.flagAt .CAP_CLS_PEND c false).flagAt .CAP_CLS_BLOCK c false).flagAt .CAP_CLS_HELD c false).wrAt .CAP_CLS_FARES c 0

/-- A class below `c` has its BLOCK bit set (R438). -/
def Dev.fareBlocked (d : Dev) (c : Nat) : Bool := (List.range c).any fun b => d.onAt .CAP_CLS_BLOCK b

/-- The Capstan examines the pending requests in ascending class number and grants every one that fits (R438); none while the SP link
is failed (R13). -/
def Dev.fareArbitrate (d : Dev) : Dev :=
  if d.sys.spFailed then d
  else d.each 23 fun x c =>
    if x.onAt .CAP_CLS_PEND c && !x.fareBlocked c
        && decide (x.faresCommitted + x.rdAt .CAP_CLS_FARES c ≤ x.rd .CAP_BUDGET_FARES)
    then x.fareGrant c else x

/-- The load of class `c` is switched on, or waits for its fare (Table 19-4). -/
def Dev.fareWanted (d : Dev) (c : Nat) : Bool :=
  if c = 0 then d.on .CAP_HUP_EN && !d.on .CAP_STAT_HBUSY
  else if c ≤ 8 then d.onAt .SAF_SOSTAT_REQ (c - 1)
  else if c = 9 then d.on .COOL_CTRL_RUN
  else if c = 10 then d.sys.cdWant || !d.sys.cdReset
  else if c = 11 then d.on .DDR_STAT_FBUSY
  else if c ≤ 15 then d.bit .CAP_OUTEN (15 - c) && !d.sys.ocOff.contains (15 - c)
  else if c ≤ 19 then d.onAt .ETH_CTRL_EN (c - 16)
  else if c = 20 then d.straps.twinst && !d.sys.cdReset
  else if c = 21 then (List.range 32).any fun l => d.onAt .CLINK_CTRL_RUN l
  else d.on .CAP_REQ_REQ

/-- FARE_REQUEST (R436, R437): the load of the class is switched on and holds no fare. -/
def execFareRequest (cls : Fin 23) (s : State) : Host.Outcome State Fault Refusal :=
  s.upd fun d => if d.fareWanted cls.val then d.fareAsk cls.val (d.fareOf cls.val) else d

/-- FARE_BLOCK (R438): a request that has waited 1 ms sets its BLOCK bit and is counted. -/
def execFareBlock (cls : Fin 23) (s : State) : Host.Outcome State Fault Refusal :=
  s.upd fun d =>
    if d.onAt .CAP_CLS_PEND cls.val && !d.onAt .CAP_CLS_BLOCK cls.val then
      (d.flagAt .CAP_CLS_BLOCK cls.val true).bump .CAP_CNT_WAITED 0xFFFF
    else d

/-- FARE_RELEASE (R436, R437): the load is off; the hold-up charger's when it has charged. -/
def execFareRelease (cls : Fin 23) (s : State) : Host.Outcome State Fault Refusal :=
  s.upd fun d => if d.fareWanted cls.val && cls ≠ 0 then d else d.fareDrop cls.val

/-- A write by Ferryman to the power die: a bus error while the SP link is failed (R449). -/
def Dev.powerWrite (d : Dev) (q : Requester) (f : Dev → Dev) : Dev :=
  d.byFerryman q fun x => if x.sys.spFailed then x.busError else f x

/-- A write of CAP.REQ (class 22). -/
def Dev.capRequest (d : Dev) (ask : Bool) (fares : Nat) : Dev :=
  let n := clampNat 0 80 fares
  let d1 := (d.flag .CAP_REQ_REQ ask).wr .CAP_REQ_FARES n
  if ask then d1.fareAsk 22 n else d1.fareDrop 22

/-- CAP_REQUEST (R437). -/
def execCapRequest (req : Requester) (ask : Bool) (fares : BitVec 7) (s : State) : Host.Outcome State Fault Refusal :=
  s.upd fun d => d.powerWrite req fun x => x.capRequest ask fares.toNat

/-- A write of 1 to CAP.CLR: CAP.CNT and the peak are cleared. -/
def Dev.capClear (d : Dev) : Dev := ((d.wr .CAP_CNT_WAITED 0).wr .CAP_CNT_OVB 0).wr .CAP_COMMIT_PEAK 0

/-- CAP_COUNTER_CLEAR (R449). -/
def execCapCounterClear (req : Requester) (s : State) : Host.Outcome State Fault Refusal := s.upd fun d => d.powerWrite req Dev.capClear

end Sys2Proof.Machine
end

