-- ==== Sys2Proof/Machine/Digest.lean ====
section
/-!
DEFINITION. Machine/Digest.lean: the checks the spec's formats carry: CRC-32 (R39, R135, R222, R337), CRC-32C (R322), CRC-64
(R341) and SHAKE256 (R286, R293, R298, R307, R417; the function itself is FIPS 202's).
-/
namespace Sys2Proof.Machine

/-- One bit of a reflected CRC with reflected polynomial `p`. -/
def crcBit (p c : Nat) : Nat := if c % 2 = 1 then Nat.xor (c / 2) p else c / 2

/-- One byte of a reflected CRC. -/
def crcByte (p c : Nat) (b : Byte) : Nat :=
  (List.range 8).foldl (fun c _ => crcBit p c) (Nat.xor c b.toNat)

/-- A reflected CRC of width `w`, initial value and final complement of all ones. -/
def crcOf (w p : Nat) (bs : List Byte) : Nat :=
  Nat.xor (bs.foldl (crcByte p) (2 ^ w - 1)) (2 ^ w - 1)

/-- CRC-32 of R39: polynomial 0x04C1_1DB7, reflected. -/
def crc32 (bs : List Byte) : Nat := crcOf 32 0xEDB88320 bs

/-- CRC-32C of R322: polynomial 0x1EDC_6F41, reflected. -/
def crc32c (bs : List Byte) : Nat := crcOf 32 0x82F63B78 bs

/-- CRC-64 of R341: polynomial 0x42F0_E1EB_A9EA_3693, reflected. -/
def crc64 (bs : List Byte) : Nat := crcOf 64 0xC96C5795D7870F42 bs

/-- The round constants of Keccak-f[1600]. -/
def keccakRc : List DWord :=
  [0x0000000000000001#64, 0x0000000000008082#64, 0x800000000000808A#64, 0x8000000080008000#64,
   0x000000000000808B#64, 0x0000000080000001#64, 0x8000000080008081#64, 0x8000000000008009#64,
   0x000000000000008A#64, 0x0000000000000088#64, 0x0000000080008009#64, 0x000000008000000A#64] ++
  [0x000000008000808B#64, 0x800000000000008B#64, 0x8000000000008089#64, 0x8000000000008003#64,
   0x8000000000008002#64, 0x8000000000000080#64, 0x000000000000800A#64, 0x800000008000000A#64,
   0x8000000080008081#64, 0x8000000000008080#64, 0x0000000080000001#64, 0x8000000080008008#64]

/-- The rotation of lane x + 5y. -/
def keccakRot : List Nat :=
  [0, 1, 62, 28, 27, 36, 44, 6, 55, 20, 3, 10, 43, 25, 39, 41, 45, 15, 21, 8, 18, 2, 61, 56, 14]

/-- Lane x, y of a state of 25 lanes. -/
def keccakLane (a : List DWord) (x y : Nat) : DWord := a.getD (x % 5 + 5 * (y % 5)) 0

/-- One round of Keccak-f[1600]. -/
def keccakRound (a : List DWord) (rc : DWord) : List DWord :=
  let c := (List.range 5).map fun x =>
    keccakLane a x 0 ^^^ keccakLane a x 1 ^^^ keccakLane a x 2 ^^^ keccakLane a x 3 ^^^ keccakLane a x 4
  let d := (List.range 5).map fun x => c.getD ((x + 4) % 5) 0 ^^^ (c.getD ((x + 1) % 5) 0).rotateLeft 1
  let t := (List.range 25).map fun i => a.getD i 0 ^^^ d.getD (i % 5) 0
  -- lane (y, 2x + 3y) of the next state is lane (x, y) rotated: lane (u, v) comes from x = u + 3v, y = u
  let b := (List.range 25).map fun i =>
    let u := i % 5
    let v := i / 5
    let j := (u + 3 * v) % 5 + 5 * u
    (t.getD j 0).rotateLeft (keccakRot.getD j 0)
  let e := (List.range 25).map fun i =>
    let x := i % 5
    let y := i / 5
    keccakLane b x y ^^^ (~~~(keccakLane b (x + 1) y) &&& keccakLane b (x + 2) y)
  match e with
  | [] => []
  | h :: r => (h ^^^ rc) :: r

/-- Keccak-f[1600]. -/
def keccakF (a : List DWord) : List DWord := keccakRc.foldl keccakRound a

/-- The 17 lanes of a 136-byte block, and eight zero lanes. -/
def keccakBlock (bs : List Byte) : List DWord :=
  (List.range 25).map fun i => if i < 17 then BitVec.ofNat 64 (leNat ((bs.drop (8 * i)).take 8)) else 0

/-- Absorbs `n` blocks of 136 bytes. -/
def keccakAbsorb : Nat → List DWord → List Byte → List DWord
  | 0, a, _ => a
  | n + 1, a, bs =>
    keccakAbsorb n (keccakF (List.zipWith (· ^^^ ·) a (keccakBlock (bs.take 136)))) (bs.drop 136)

/-- The padding of SHAKE256: 0x1F, zeros, and the top bit of the block's last byte. -/
def shakePad (bs : List Byte) : List Byte :=
  let r := 136 - bs.length % 136
  if r = 1 then bs ++ [0x9F#8] else bs ++ 0x1F#8 :: (List.replicate (r - 2) 0#8 ++ [0x80#8])

/-- SHAKE256 with an output of `n` bytes (at most 136). -/
def shake256 (n : Nat) (bs : List Byte) : List Byte :=
  let p := shakePad bs
  let a := keccakAbsorb (p.length / 136) (List.replicate 25 0) p
  ((a.map fun w => leBytes 8 w.toNat).flatten).take n

end Sys2Proof.Machine
end

