-- ==== Sys2Proof/Machine/Converter.lean ====
section
/-!
DEFINITION. Machine/Converter.lean: gate outputs, legs and cell links (R117 to R145).
-/
namespace Sys2Proof.Machine

/-! ### Legs -/

/-- Leg `m`. -/
def Dev.leg (d : Dev) (m : Nat) : Leg := d.conv.legs.at {} m

/-- Sets leg `m`. -/
def Dev.setLeg (d : Dev) (m : Nat) (l : Leg) : Dev := { d with conv := { d.conv with legs := d.conv.legs.set {} m l } }

/-- LEG.STATn.STATE: 0 stopped, 1 running, 2 faulted, 3 stopping. -/
def Dev.legState (d : Dev) (m : Nat) : Nat := d.rdAt .LEG_STAT_STATE m

/-- The leg evaluates faults: running or stopping (R127). -/
def Dev.legLive (d : Dev) (m : Nat) : Bool := d.legState m == 1 || d.legState m == 3

/-- Output `high` of a leg. -/
def Leg.out (l : Leg) (high : Bool) : LegOut := if high then l.hi else l.lo

/-- Sets output `high` of a leg. -/
def Leg.setOut (l : Leg) (high : Bool) (o : LegOut) : Leg := if high then { l with hi := o } else { l with lo := o }

/-- The PW output number of a leg's side (R117). -/
def pwOf (m : Nat) (high : Bool) : Nat := if high then 2 * m else 2 * m + 1

/-- The level of ball GOKn. -/
def Dev.gok (d : Dev) (n : Nat) : Bool := if n < 32 then d.bit .PWM_GOKLO n else d.bit .PWM_GOKHI (n - 32)

/-- GOKn has been high for GFLT consecutive ticks (R126). -/
def Dev.gokHigh (d : Dev) (n : Nat) : Bool := d.gok n && bitOf d.conv.gok n

/-- GOKn has been low for GFLT consecutive ticks (R127). -/
def Dev.gokLow (d : Dev) (n : Nat) : Bool := !d.gok n && !bitOf d.conv.gok n

/-- The level of leg trip wire `m` that comparator `n` asserts by its first or second level (R153). A bit of a comparator that is off,
or that a fault forces, is held in the state bits themselves (R147, R161). -/
def Dev.cmpTrips (d : Dev) (n m : Nat) : Bool :=
  let c := d.conv.cmps.at {} n
  (bitOf (d.rdAt .WCMP_RT1_LEGS n) m
      && ((d.onAt .WCMP_RT1_RTA n && c.bAbove) || (d.onAt .WCMP_RT1_RTB n && c.bBelow)))
    || (decide (n < 16) && bitOf (d.rdAt .WCMP_RT2_LEGS n) m && d.onAt .WCMP_STAT_L2LAT n)

/-- Leg trip wire `m` is asserted (R153). -/
def Dev.tripWire (d : Dev) (m : Nat) : Bool :=
  d.sys.cdReset || d.on .SAF_STAT_INH || (List.range 32).any fun n => d.cmpTrips n m

/-- PW output `n` drives high (R118). -/
def Dev.pw (d : Dev) (n : Nat) : Bool :=
  let m := n / 2
  let o := (d.leg m).out (decide (n % 2 = 0))
  d.on .PWM_STAT_LEAD && o.gate && d.legLive m && !d.tripWire m && o.on

/-- An output turns off: its gate closes when ARM = 0 (R118, R130), and its off-confirm is awaited unless GOK is high. -/
def Dev.outOff (d : Dev) (m : Nat) (high : Bool) : Dev :=
  let l := d.leg m
  let o := l.out high
  if o.on then
    let g := d.gokHigh (pwOf m high)
    d.setLeg m (l.setOut high { o with
      on := false, gate := (o.gate && d.on .PWM_CTRL_ARM), conf := g, waitOff := !g, waitOn := false, delayed := false })
  else d

/-- An output that is on turns off by modulation or by a load, `onFor` ticks after its turn-on: not earlier than MINPW ticks after it
(R128). -/
def Dev.outOffMin (d : Dev) (m : Nat) (high : Bool) (onFor : Nat) : Dev :=
  let o := (d.leg m).out high
  if o.on && (o.delayed || decide (onFor < d.rdAt .LEG_CFG_MINPW m)) then d.setLeg m ((d.leg m).setOut high { o with delayed := true })
  else d.outOff m high

/-- Both outputs go off at once with their timeouts abandoned, and no turn-on is pending (R131). -/
def Dev.legOff (d : Dev) (m : Nat) : Dev :=
  let l := d.leg m
  d.setLeg m { l with
    hi := { l.hi with
            on := false, waitOff := false, waitOn := false, delayed := false,
            gate := l.hi.gate && d.on .PWM_CTRL_ARM, conf := d.gokHigh (pwOf m true) }
    lo := { l.lo with
            on := false, waitOff := false, waitOn := false, delayed := false,
            gate := l.lo.gate && d.on .PWM_CTRL_ARM, conf := d.gokHigh (pwOf m false) }
    turnOn := none }

/-- A cause bit of LEG.STATn. -/
inductive LegCause where
  | flt | unexp | on | tmo | tripl
deriving DecidableEq, Repr

/-- The field of a cause (Table 5-12). -/
def LegCause.fld : LegCause → Fld
  | .flt => .LEG_STAT_FLT
  | .unexp => .LEG_STAT_UNEXP
  | .on => .LEG_STAT_ON
  | .tmo => .LEG_STAT_TMO
  | .tripl => .LEG_STAT_TRIPL

/-- The causes, in the order of Table 5-12. -/
def legCauses : List LegCause := [.flt, .unexp, .on, .tmo, .tripl]

/-- Some cause bit of leg `m` is set. -/
def Dev.legCaused (d : Dev) (m : Nat) : Bool := legCauses.any fun c => d.onAt c.fld m

/-- The leg enters the faulted state with a cause (R132): both outputs off, the event, the count, SIDE of the first cause (0 high side,
1 low side). The causes FLT and TRIPL are no output's (`low` none): their SIDE is a free value (log entry 61). -/
def Dev.legEnterFault (d : Dev) (m : Nat) (c : LegCause) (low : Option Bool) : Dev :=
  let first := !d.legCaused m
  let d1 := ((d.legOff m).wrAt .LEG_STAT_STATE m 2).flagAt c.fld m true
  let d2 := d1.when first fun x =>
    match low with
    | some s => x.flagAt .LEG_STAT_SIDE m s
    | none => let r := x.draw 2
              r.2.wrAt .LEG_STAT_SIDE m r.1
  (d2.bumpAt .LEG_CNT_FAULTS m 0xFFFF).raise (64 + m)

/-- A leg fault (R127, R132): a running or stopping leg enters the faulted state; a faulted leg records the cause too (Table 5-4, log
entry 20); a stopped leg evaluates none. -/
def Dev.legFault (d : Dev) (m : Nat) (c : LegCause) (low : Option Bool) : Dev :=
  if d.legLive m then d.legEnterFault m c low
  else if d.legState m = 2 then d.flagAt c.fld m true
  else d

/-- FLTm is asserted. -/
def Dev.flt (d : Dev) (m : Nat) : Bool := d.bit .PWM_FLT m

/-- A faulted leg enters the stopped state once every cause is clear and neither its trip wire nor FLTm is asserted (R132). -/
def Dev.legRecover (d : Dev) (m : Nat) : Dev :=
  if d.legState m = 2 ∧ !d.legCaused m ∧ !d.tripWire m ∧ !d.flt m then
    ((d.wrAt .LEG_STAT_STATE m 0).flagAt .LEG_STAT_PEND m false).flagAt .LEG_ACTC_RUN m false
  else d

/-- A shadow word of leg `m`. -/
def Dev.shadow (d : Dev) (m w : Nat) : Nat := (d.leg m).shadow.at 0 w

/-- The carrier period that a 24-bit PER encodes: 0 is 2^24 (R122). -/
def perOf (v : Nat) : Nat := if v = 0 then 2 ^ 24 else v

/-- The shadow set of leg `m` is valid (R124). -/
def Dev.shadowValid (d : Dev) (m : Nat) : Bool :=
  let dt := d.shadow m 1
  let per := perOf (bitsOf (d.shadow m 2) 23 0)
  decide (64 ≤ per) && !(d.onAt .LEG_CFG_CMODE m && decide (per % 2 = 1))
    && decide (bitsOf dt 11 0 ≤ 4000) && decide (bitsOf dt 27 16 ≤ 4000)
    && decide (bitsOf (d.shadow m 3) 2 1 ≠ 3)

/-- The shadow set's RUN. -/
def Dev.shadowRun (d : Dev) (m : Nat) : Bool := bitOf (d.shadow m 3) 0

/-- The four shadow words enter the active set together and PEND clears (R123). -/
def Dev.legLoad (d : Dev) (m : Nat) : Dev :=
  let cmp := d.shadow m 0
  let dt := d.shadow m 1
  ((((((((d.wrAt .LEG_ACTA m (bitsOf cmp 28 0)).wrAt .LEG_ACTB m (bitsOf cmp 60 32)).wrAt .LEG_ACTD_DTR m (bitsOf dt 11 0)).wrAt
    .LEG_ACTD_DTF m (bitsOf dt 27 16)).wrAt .LEG_ACTP m (bitsOf (d.shadow m 2) 23 0)).wrAt .LEG_ACTC_MODE m
    (bitsOf (d.shadow m 3) 2 1)).flagAt .LEG_ACTC_RUN m (d.shadowRun m)).flagAt .LEG_STAT_PEND m false)

/-- An invalid set at its load: not loaded, PEND clears, BADW is set, the leg-configuration event rises (R124, R129). -/
def Dev.legBad (d : Dev) (m : Nat) : Dev :=
  ((d.flagAt .LEG_STAT_PEND m false).flagAt .LEG_STAT_BADW m true).raise (88 + m)

/-- RISE and FALL of the leg's active set on its carrier, in 1/16 ticks (R119, R120): the period and the carrier shape are the source
leg's. -/
def Dev.legTimes (d : Dev) (m : Nat) : Nat × Nat × Nat :=
  let src := d.rdAt .LEG_CFG_CSRC m
  let span := 16 * perOf (d.rdAt .LEG_ACTP src)
  let a := min (d.rdAt .LEG_ACTA m) span
  let b := min (d.rdAt .LEG_ACTB m) span
  (a, if d.onAt .LEG_CFG_CMODE src then span - b else b, span)

/-- S at t = 0 of a period (R120): 1 when RISE = 0 and RISE < FALL. -/
def Dev.legStart0 (d : Dev) (m : Nat) : Bool :=
  let t := d.legTimes m
  decide (t.1 = 0) && decide (t.1 < t.2.1)

/-- S at an update point: at t = 0, or (`mid`) at t = 8 × PER of a triangle (R120, R123). -/
def Dev.legSAt (d : Dev) (m : Nat) (mid : Bool) : Bool :=
  let t := d.legTimes m
  if mid then decide (t.1 ≤ t.2.2 / 2) && decide (t.2.2 / 2 < t.2.1) else d.legStart0 m

/-- An edge of S lies between now and the next update point (R120, R130): a fall while S is 1, else a rise if S has not fallen since the last one. -/
def Dev.legNext (d : Dev) (m : Nat) : Bool :=
  let t := d.legTimes m
  let l := d.leg m
  let halves := d.onAt .LEG_CFG_UPD m && d.onAt .LEG_CFG_CMODE (d.rdAt .LEG_CFG_CSRC m)
  let start := if l.half then t.2.2 / 2 else 0
  let stop := if halves && !l.half then t.2.2 / 2 else t.2.2
  if l.s then decide (t.2.1 < stop) else !l.fell && decide (start < t.1) && decide (t.1 < stop) && decide (t.1 < t.2.1)

/-- The active set schedules an edge that turns output `high` off before the next update point (R130). -/
def Dev.legSched (d : Dev) (m : Nat) (high : Bool) : Bool :=
  let l := d.leg m
  (l.out high).on && decide (d.rdAt .LEG_ACTC_MODE m = 0) && decide (l.s = high) && d.legNext m

/-- The output that the active MODE and S want on: none, the high or the low side (Table 5-1). -/
def Dev.legWants (d : Dev) (m : Nat) : Option Bool :=
  match d.rdAt .LEG_ACTC_MODE m with
  | 0 => some (d.leg m).s
  | 2 => some false
  | _ => none

/-- The stop of a stopping leg completes once both outputs are off (R130): a pending set with RUN = 0 is discarded, one with RUN = 1
keeps PEND and starts the leg under R129. The active set keeps its values. -/
def Dev.legStopCheck (d : Dev) (m : Nat) : Dev :=
  if d.legState m = 3 ∧ !(d.leg m).hi.on ∧ !(d.leg m).lo.on then
    (d.wrAt .LEG_STAT_STATE m 0).flagAt .LEG_STAT_PEND m (d.onAt .LEG_STAT_PEND m && d.shadowRun m)
  else d

/-- The leg begins to stop on whole pulses (R130): no output turns on again, and an output that is on turns off at its scheduled edge (`ends`),
or at once (R128: MINPW ticks after its turn-on) when none is scheduled before the next update point. -/
def Dev.legStop (d : Dev) (m : Nat) (ends : Bool → Bool) (onFor : Nat) : Dev :=
  let d1 := (d.wrAt .LEG_STAT_STATE m 3).setLeg m { d.leg m with turnOn := none }
  let d2 := if ends true then d1 else d1.outOffMin m true onFor
  (if ends false then d2 else d2.outOffMin m false onFor).legStopCheck m

/-- Moves a running leg's outputs toward what its active set wants: the output that is on and not wanted goes off, the wanted one's
turn-on becomes pending (R126, R128). -/
def Dev.legSteer (d : Dev) (m onFor : Nat) : Dev :=
  match d.legWants m with
  | none => let d1 := (d.outOffMin m true onFor).outOffMin m false onFor
            d1.setLeg m { d1.leg m with turnOn := none }
  | some h =>
    let d1 := d.outOffMin m (!h) onFor
    let l := d1.leg m
    if (l.out h).on then d1.setLeg m { (l.setOut h { l.out h with delayed := false }) with turnOn := none }
    else d1.setLeg m { (l.setOut h { l.out h with waitOff := false }) with turnOn := some h }

/-- An update point of leg `m` (R120, R123, R124, R130, R132); a stopping leg loads nothing, and an output that its period has not turned off goes
off. A follower whose source has stopped completes its period first. S takes the value that the active set gives it here. `mid`: the update point is a
triangle's midpoint, which is one only with UPD = 1. `onFor`: ticks since the turn-on of the output that is on. -/
def Dev.legUpdate (d : Dev) (m : Nat) (mid : Bool) (onFor : Nat) : Dev :=
  let src := d.rdAt .LEG_CFG_CSRC m
  if mid ∧ !(d.onAt .LEG_CFG_UPD m && d.onAt .LEG_CFG_CMODE src) then d
  else if d.legState m = 3 then ((d.outOffMin m true onFor).outOffMin m false onFor).legStopCheck m
  else if d.legState m ≠ 1 then d
  else if src ≠ m ∧ d.legState src = 0 then (if mid then d else d.legStop m (fun _ => false) onFor)
  else
    let d1 :=
      if d.onAt .LEG_STAT_PEND m then
        if d.shadowValid m then d.legLoad m else d.legBad m
      else d
    let s := d1.legSAt m mid
    let l := d1.leg m
    let resume := l.tripHold && !d1.tripWire m
    let d2 := d1.setLeg m { l with s := s, fell := false, half := mid, tripHold := l.tripHold && !resume }
    if !d2.onAt .LEG_ACTC_RUN m then d2.legStop m (d2.legSched m) onFor
    else if l.tripHold && !resume then d2
    else if resume ∨ d2.rdAt .LEG_ACTC_MODE m ≠ d.rdAt .LEG_ACTC_MODE m ∨ s ≠ l.s then d2.legSteer m onFor
    else d2

/-- An edge of S to `s` (R120, R126, R128): with MODE 0b00 and no trip the output that is on turns off, unless it has been on for less than MINPW
ticks, and the other's turn-on becomes pending unless the leg stops. -/
def Dev.legEdge (d : Dev) (m : Nat) (s : Bool) (onFor : Nat) : Dev :=
  let l := d.leg m
  if !d.legLive m ∨ l.s = s ∨ !d.legNext m then d
  else
    let d1 := d.setLeg m { l with s := s, fell := l.fell || !s }
    if d.rdAt .LEG_ACTC_MODE m ≠ 0 ∨ l.tripHold ∨ d.tripWire m then d1
    else
      let d2 := (d1.setLeg m { d1.leg m with turnOn := none }).outOffMin m (!s) onFor
      if d.legState m = 3 then d2.legStopCheck m
      else
        let l2 := d2.leg m
        let w := l2.out s
        if w.on then d2.setLeg m (l2.setOut s { w with delayed := false })
        else d2.setLeg m { (l2.setOut s { w with waitOff := false }) with turnOn := some s }

/-- The effective dead time before a turn-on: the larger of the staged value and FLOOR (R125). -/
def Dev.deadTime (d : Dev) (m : Nat) (high : Bool) : Nat :=
  max (if high then d.rdAt .LEG_ACTD_DTR m else d.rdAt .LEG_ACTD_DTF m) (d.rdAt .LEG_FLOOR_FLOOR m)

/-- The pending turn-on of a leg falls due, `after` ticks after the edge of S and `room` ticks before the scheduled turn-off (R126,
R128). It happens only once the dead time has run and the complement is confirmed off; a pulse shorter than MINPW is left out; the
output's gate opens at its first turn-on with ARM = 1 (R118); the on check starts for an output that drives (log entry 21). What the start
treated as confirmed (R129) serves this first turn-on only: from it on the complement's GOK says whether it is. -/
def Dev.legTurnOn (d : Dev) (m : Nat) (after : Nat) (room : Option Nat) : Dev :=
  let l := d.leg m
  match l.turnOn with
  | none => d
  | some h =>
    let c := l.out (!h)
    if d.legState m ≠ 1 ∨ l.tripHold ∨ d.tripWire m ∨ c.on ∨ !c.conf ∨ after < d.deadTime m h then d
    else if (room.map fun r => decide (r < d.rdAt .LEG_CFG_MINPW m)).getD false then d.setLeg m { l with turnOn := none }
    else
      let o := l.out h
      let g := o.gate || d.on .PWM_CTRL_ARM
      let drives := g && d.on .PWM_STAT_LEAD
      let l1 := l.setOut (!h) { c with conf := d.gokHigh (pwOf m (!h)) }
      d.setLeg m { (l1.setOut h { o with
        on := true, gate := g, conf := o.conf && !drives, waitOff := false
        waitOn := d.onAt .LEG_CFG_ONCHK m && drives }) with turnOn := none }

/-- MINPW ticks after its turn-on, an output whose turn-off was delayed turns off (R128). -/
def Dev.legDelayedOff (d : Dev) (m : Nat) (high : Bool) : Dev :=
  if ((d.leg m).out high).delayed then (d.outOff m high).legStopCheck m else d

/-- Ball GOKn takes a level (Table 5-9). -/
def Dev.gokBall (d : Dev) (n : Nat) (level : Bool) : Dev :=
  if n < 32 then d.wrBit .PWM_GOKLO n level else d.wrBit .PWM_GOKHI (n - 32) level

/-- GOKn has held a new level for GFLT ticks (R126, R127): high confirms the off state, low on a confirmed output whose ball is low is UNEXP
(log entry 21), and low ends the on check. -/
def Dev.gokChange (d : Dev) (n : Nat) (level : Bool) : Dev :=
  let d1 := { d with conv := { d.conv with gok := setBit d.conv.gok n level } }
  let m := n / 2
  let h := decide (n % 2 = 0)
  let l := d1.leg m
  let o := l.out h
  if level then
    if d1.pw n then d1 else d1.setLeg m (l.setOut h { o with conf := true, waitOff := false })
  else if d1.pw n then d1.setLeg m (l.setOut h { o with waitOn := false })
  else if o.conf ∧ d1.legLive m then d1.legFault m .unexp (some (!h))
  else d1.setLeg m (l.setOut h { o with conf := false })

/-- The off-confirm timeout of output `n` expires (R127). -/
def Dev.offTimeout (d : Dev) (n : Nat) : Dev :=
  let h := decide (n % 2 = 0)
  if ((d.leg (n / 2)).out h).waitOff ∧ d.legLive (n / 2) then d.legFault (n / 2) .tmo (some (!h)) else d

/-- The on check of output `n` expires (R127). -/
def Dev.onTimeout (d : Dev) (n : Nat) : Dev :=
  let h := decide (n % 2 = 0)
  if ((d.leg (n / 2)).out h).waitOn ∧ d.legLive (n / 2) then d.legFault (n / 2) .on (some (!h)) else d

/-- FLTm has been asserted or deasserted (R127, R131). -/
def Dev.fltChange (d : Dev) (m : Nat) (a : Bool) : Dev := if a then d.legFault m .flt none else d.legRecover m

/-- The ordered sets of R134: each two characters, the first a K character. -/
def linkIdle : List (Bool × BitVec 8) := [(true, 0xBC), (false, 0x50)]

/-- SOF (R134). -/
def linkSof : List (Bool × BitVec 8) := [(true, 0xFB), (false, 0xB5)]

/-- EOF with its ERR byte (R134). -/
def linkEof (err : BitVec 8) : List (Bool × BitVec 8) := [(true, 0xFD), (false, err)]

/-- BLOCK (R134). -/
def linkBlock : List (Bool × BitVec 8) := [(true, 0x3C), (false, 0x4A)]

/-- A link enters its blocked state (R141): a frame in progress is abandoned, and eight BLOCK ordered sets and then IDLE are sent. -/
def Dev.blockLink (d : Dev) (l : Nat) : Dev :=
  let k := d.conv.links.at {} l
  { (d.flagAt .CLINK_STAT_BLKD l true) with
    conv := { d.conv with links := d.conv.links.set {} l { k with await := false, sent := (List.replicate 8 linkBlock).flatten ++ linkIdle } } }

/-- A trip with TRIPM = 1 turns both outputs of a live leg off at once (R131, R132): a turn-on that awaits an off-confirm is abandoned with its
timeout (Table 5-4); else the off-confirm of an output that was on is awaited (R127). -/
def Dev.legTripOff (d : Dev) (m : Nat) : Dev :=
  let d1 := if (d.leg m).turnOn.isSome then d.legOff m else (d.outOff m true).outOff m false
  (d1.setLeg m { d1.leg m with tripHold := true, turnOn := none }).legStopCheck m

/-- Leg `m` acts on a new level of its trip wire (R131, R132), and the links that select the wire are blocked (R141). -/
def Dev.legTrip (d : Dev) (m : Nat) : Dev :=
  let w := d.tripWire m
  if (d.leg m).seen = w then d
  else
    let d1 := d.setLeg m { d.leg m with seen := w }
    if w then
      let d2 := d1.each 32 fun x l => x.when (bitOf (x.rdAt .CLINK_TRMSK l) m) fun y => y.blockLink l
      if !d2.onAt .LEG_FLOOR_TRIPM m then d2.legFault m .tripl none
      else if d2.legLive m then d2.legTripOff m
      else d2
    else d1.legRecover m

/-- A stopped leg with a pending set of RUN = 1 starts (R129): the set is checked and loaded; an asserted FLTm or trip wire takes
effect at the start (R127). A follower starts only while its source's carrier runs. -/
def Dev.legStart (d : Dev) (m : Nat) : Dev :=
  let src := d.rdAt .LEG_CFG_CSRC m
  if d.legState m ≠ 0 ∨ !d.onAt .LEG_STAT_PEND m ∨ !d.shadowRun m ∨ (src ≠ m ∧ d.legState src = 0) then d
  else if !d.shadowValid m then d.legBad m
  else
    let d1 := (d.legLoad m).wrAt .LEG_STAT_STATE m 1
    let l := d1.leg m
    let d2 := d1.setLeg m { l with
      s := d1.legStart0 m, fell := false, half := false, turnOn := none, tripHold := d1.tripWire m
      hi := { l.hi with on := false, conf := true, waitOff := false, waitOn := false, delayed := false }
      lo := { l.lo with on := false, conf := true, waitOff := false, waitOn := false, delayed := false } }
    let trips := d2.tripWire m && !d2.onAt .LEG_FLOOR_TRIPM m
    if d2.flt m then (d2.legEnterFault m .flt none).when trips fun x => x.legFault m .tripl none
    else if trips then d2.legEnterFault m .tripl none
    else if d2.tripWire m then d2
    else d2.legSteer m 0

/-- The condition of a cause is still present, judged with both outputs off (R132). -/
def Dev.legPresent (d : Dev) (m : Nat) : LegCause → Bool
  | .flt => d.flt m
  | .tripl => d.tripWire m
  | .tmo | .unexp => d.gokLow (2 * m) || d.gokLow (2 * m + 1)
  | .on => false

/-- The place of a cause in LEG.STATn. -/
def LegCause.pos : LegCause → Nat
  | .flt => 6
  | .unexp => 5
  | .on => 4
  | .tmo => 3
  | .tripl => 2

/-- Ferryman writes LEG.STATn (R132): a cause whose condition is present stays set. -/
def Dev.legClear (d : Dev) (m mask : Nat) : Dev :=
  let d1 := legCauses.foldl (fun x c =>
    if bitOf mask c.pos && !x.legPresent m c then x.flagAt c.fld m false else x) d
  let d2 := d1.when (bitOf mask 15) fun x => x.flagAt .LEG_STAT_BADW m false
  (d2.when (bitOf mask 14) fun x => x.flagAt .LEG_STAT_OVWR m false).legRecover m

/-- Staged leg words enter the shadow (R123). `ws`: the staged words, as (word, value). -/
def Dev.legStage (d : Dev) (m : Nat) (ws : List (Nat × Nat)) : Dev :=
  if ws.isEmpty then d
  else
    let d1 := d.when (d.onAt .LEG_STAT_PEND m) fun x => (x.flagAt .LEG_STAT_OVWR m true).bumpAt .LEG_CNT_OVERWR m 0xFFFF
    let l := d1.leg m
    (d1.setLeg m { l with shadow := ws.foldl (fun t w => t.set 0 w.1 w.2) l.shadow }).flagAt .LEG_STAT_PEND m true

/-- The leg's claim ends (R130, R44): a running leg stops on whole pulses; no load turns an output off, so MINPW delays none (256 ticks). -/
def Dev.legUnclaim (d : Dev) (m : Nat) : Dev := if d.legState m ≠ 1 then d else d.legStop m (d.legSched m) 256

/-! ### The PWM block -/

/-- PWM.STAT.DRIVE (R118). -/
def Dev.drive (d : Dev) : Bool := d.on .PWM_CTRL_ARM && d.on .PWM_STAT_LEAD

/-- A write of 1 to PWM.CTRL.ARM: ignored while the DLL is unlocked (R121), in bench mode (R465) and in the double-fault state (R353). -/
def Dev.arm (d : Dev) : Dev :=
  if d.on .PWM_STAT_DLLLK && !d.on .GWY_BENCH_ON && !d.on .TWIN_STAT_DFLT then d.flag .PWM_CTRL_ARM true else d

/-- ARM becomes 0 other than through KILL (R118, R130): each gate closes at its output's scheduled edge, or at once where none is scheduled; a turn-off
that MINPW delays is scheduled too (R128). -/
def Dev.disarm (d : Dev) : Dev :=
  (d.flag .PWM_CTRL_ARM false).each 48 fun x n =>
    let l := x.leg (n / 2)
    let h := decide (n % 2 = 0)
    let o := l.out h
    if o.gate && !(o.on && (o.delayed || x.legSched (n / 2) h)) then x.setLeg (n / 2) (l.setOut h { o with gate := false }) else x

/-- PWM.CTRL.KILL: every gate closes at once and ARM clears (R118, R130). -/
def Dev.kill (d : Dev) : Dev :=
  (d.flag .PWM_CTRL_ARM false).each 24 fun x m =>
    let l := x.leg m
    x.setLeg m { l with hi := { l.hi with gate := false }, lo := { l.lo with gate := false } }

/-- PWM_ARM (R118). -/
def execPwmArm (req : Requester) (s : State) : Host.Outcome State Fault Refusal := s.upd fun d => d.ctlWrite req Dev.arm

/-- PWM_DISARM (R118, R130): by a write of 0 (`req`), by the management firmware or by the double-fault state (none). -/
def execPwmDisarm (req : Option Requester) (s : State) : Host.Outcome State Fault Refusal :=
  s.upd fun d => match req with
    | some q => d.ctlWrite q Dev.disarm
    | none => d.ctl Dev.disarm

/-- PWM_KILL (R130, R131). -/
def execPwmKill (req : Requester) (s : State) : Host.Outcome State Fault Refusal := s.upd fun d => d.ctlWrite req Dev.kill

/-- DLL_LOCK (R444). -/
def execDllLock (s : State) : Host.Outcome State Fault Refusal := s.upd fun d => d.ctl fun x => x.flag .PWM_STAT_DLLLK true

/-- DLL_LOCK_LOSS (R121): DLLF is set and the DLL-fault event raised. -/
def execDllLockLoss (s : State) : Host.Outcome State Fault Refusal :=
  s.upd fun d => d.ctl fun x =>
    if x.on .PWM_STAT_DLLLK then ((x.flag .PWM_STAT_DLLLK false).flag .PWM_STAT_DLLF true).raise 112 else x

/-- LEG_UPDATE_POINT (R123). -/
def execLegUpdatePoint (leg : Fin 24) (mid : Bool) (onFor : Nat) (s : State) : Host.Outcome State Fault Refusal :=
  s.upd fun d => d.ctl fun x => x.legUpdate leg.val mid onFor

/-- LEG_EDGE (R126). -/
def execLegEdge (leg : Fin 24) (side : Bool) (onFor : Nat) (s : State) : Host.Outcome State Fault Refusal :=
  s.upd fun d => d.ctl fun x => x.legEdge leg.val side onFor

/-- LEG_TURN_ON (R126). -/
def execLegTurnOn (leg : Fin 24) (after : Nat) (room : Option Nat) (s : State) : Host.Outcome State Fault Refusal :=
  s.upd fun d => d.ctl fun x => x.legTurnOn leg.val after room

/-- LEG_DELAYED_TURN_OFF (R128). -/
def execLegDelayedTurnOff (leg : Fin 24) (high : Bool) (s : State) : Host.Outcome State Fault Refusal :=
  s.upd fun d => d.ctl fun x => x.legDelayedOff leg.val high

/-- GOK_CHANGE (R126, R127, Table 5-9): the ball has a new level, in any state of the part; `held`: it has held it for GFLT ticks. -/
def execGokChange (n : Fin 48) (level held : Bool) (s : State) : Host.Outcome State Fault Refusal :=
  s.upd fun d => (d.gokBall n.val level).ctl fun x => x.when held fun y => y.gokChange n.val level

/-- LEG_OFF_CONFIRM_TIMEOUT (R127). -/
def execLegOffConfirmTimeout (n : Fin 48) (s : State) : Host.Outcome State Fault Refusal :=
  s.upd fun d => d.ctl fun x => x.offTimeout n.val

/-- LEG_ON_CHECK_TIMEOUT (R127). -/
def execLegOnCheckTimeout (n : Fin 48) (s : State) : Host.Outcome State Fault Refusal :=
  s.upd fun d => d.ctl fun x => x.onTimeout n.val

/-- FLT_ASSERT (R131, Table 5-9): the ball has a new level, in any state of the part. -/
def execFltAssert (leg : Fin 24) (asserted : Bool) (s : State) : Host.Outcome State Fault Refusal :=
  s.upd fun d => (d.wrBit .PWM_FLT leg.val asserted).ctl fun x => x.fltChange leg.val asserted

/-- LEG_TRIP_WIRE_CHANGE (R131). -/
def execLegTripWireChange (leg : Fin 24) (s : State) : Host.Outcome State Fault Refusal :=
  s.upd fun d => d.ctl fun x => x.legTrip leg.val

/-- LEG_START (R129). -/
def execLegStart (leg : Fin 24) (s : State) : Host.Outcome State Fault Refusal :=
  s.upd fun d => d.ctl fun x => x.legStart leg.val

/-- LEG_CAUSE_CLEAR (R132). -/
def execLegCauseClear (req : Requester) (leg : Fin 24) (mask : BitVec 32) (s : State) : Host.Outcome State Fault Refusal :=
  s.upd fun d => d.ctlWrite req fun x =>
    if x.on .LEG_SEAL_SET then x.legClear leg.val mask.toNat else x.busError

/-- Channel H's loader writes FLOOR and TRIPM of every leg from the verified safety configuration, or the reset values without one, and
sets LEG.SEAL (R125). -/
def Dev.legSealSet (d : Dev) : Dev :=
  let cfg := if d.on .SAF_STAT_CFGOK then (d.saf.cfgPart.map Scfg.fields).getD [] else []
  let d1 := d.each 24 fun x m =>
    (x.wrAt .LEG_FLOOR_FLOOR m 400).wrAt .LEG_FLOOR_TRIPM m 0
  let d2 := cfg.foldl (fun x e =>
    match e.1 with
    | .LEG_FLOOR_FLOOR => x.wrAt .LEG_FLOOR_FLOOR e.2.1 (clampNat 0 4000 e.2.2)
    | .LEG_FLOOR_TRIPM => x.wrAt .LEG_FLOOR_TRIPM e.2.1 (e.2.2 % 2)
    | _ => x) d1
  d2.flag .LEG_SEAL_SET true

/-- LEG_SEAL_SET (R125). -/
def execLegSealSet (s : State) : Host.Outcome State Fault Refusal :=
  s.upd fun d => d.ctl fun x => if x.on .LEG_SEAL_SET then x else x.legSealSet

/-! ### Cell links -/

/-- Cell link `l`. -/
def Dev.link (d : Dev) (l : Nat) : Link := d.conv.links.at {} l

/-- Sets cell link `l`. -/
def Dev.setLink (d : Dev) (l : Nat) (k : Link) : Dev := { d with conv := { d.conv with links := d.conv.links.set {} l k } }

/-- The start conditions of R138 for a period and an output offset in ticks (2.5 ns); times in half nanoseconds. -/
def Dev.linkFits (d : Dev) (l per off : Nat) : Bool :=
  let n := d.rdAt .CLINK_CFG_NCELL l
  decide (1 ≤ n) && decide (n ≤ 48) && decide ((14 + 4 * n) * 32 + 100 ≤ d.rdAt .CLINK_APP_APPLY l * 8)
    && decide (5 * off + 2 * (32 + 40 * n + (16 + 4 * n) * 32 + 100) ≤ 5 * per)

/-- The link's reports of the frame in progress are dropped: its cells board STALE = 1. -/
def Dev.dropReports (d : Dev) (l : Nat) : Dev :=
  { d with conv := { d.conv with reps := d.conv.reps.filter fun e => e.1 / 48 ≠ l } }

/-- Link `l`, asked to run, starts: with the fare of class 21 held and the conditions of R138 met; a link that waits for the fare starts
at its grant (R437). -/
def Dev.linkStart (d : Dev) (l : Nat) : Dev :=
  if !d.linkFits l (d.rd .TIDE_PERIOD_ACT) (d.rd .TIDE_OFFSET_ACT) then d.flagAt .CLINK_STAT_CFGE l true
  else
    let d1 := d.fareAsk 21 (d.fareOf 21)
    if d1.onAt .CAP_CLS_HELD 21 then d1.flagAt .CLINK_STAT_RUNNING l true else d1

/-- A write of CLINK.CTRLn.RUN (R138). -/
def Dev.linkRun (d : Dev) (l : Nat) (run : Bool) : Dev :=
  let d1 := d.flagAt .CLINK_CTRL_RUN l run
  if run then if d1.onAt .CLINK_STAT_RUNNING l then d1 else d1.linkStart l
  else
    let d2 := (d1.flagAt .CLINK_STAT_RUNNING l false).dropReports l
    if (List.range 32).any fun k => d2.onAt .CLINK_CTRL_RUN k then d2 else d2.fareDrop 21

/-- The bytes of the downlink that link `l` sends between SOF and EOF (R135, Table 5-5): header, commands, CRC-32. -/
def Dev.downlink (d : Dev) (l : Nat) : List (BitVec 8) :=
  let n := d.rdAt .CLINK_CFG_NCELL l
  let dseq := d.tide % 15 + 1
  let flags := dseq + 16 * bit01 d.drive + 32 * bit01 (d.onAt .CLINK_STAT_BLKD l) + 64 * d.rd .TWIN_STAT_SIDE
  let body := leBytes 1 0xC1 ++ leBytes 1 flags ++ leBytes 1 n ++ leBytes 1 (d.rdAt .CLINK_CFG_HOLD l)
    ++ leBytes 2 (d.rdAt .CLINK_APP_APPLY l) ++ leBytes 1 l ++ leBytes 1 0
    ++ ((List.range n).map fun p => leBytes 2 (d.conv.cmds.at 0 (48 * l + p))).flatten
  body ++ leBytes 4 (crc32 body)

/-- The characters of a downlink (R134, R135): SOF, the bytes, EOF with ERR 0, then IDLE. -/
def Dev.downlinkChars (d : Dev) (l : Nat) : List (Bool × BitVec 8) :=
  linkSof ++ (d.downlink l).map (fun b => (false, b)) ++ linkEof 0 ++ linkIdle

/-- CELL_DOWNLINK_SEND (R138): a running link sends its downlink. -/
def Dev.linkSend (d : Dev) (l : Nat) : Dev :=
  if d.onAt .CLINK_STAT_RUNNING l then d.setLink l { dseq := d.tide % 15 + 1, sent := d.downlinkChars l, await := true } else d

/-- The content of a returned frame passes the checks of R139 other than the timing one. -/
def Dev.linkContentOk (d : Dev) (l : Nat) (f : List (BitVec 8)) : Bool :=
  let n := d.rdAt .CLINK_CFG_NCELL l
  let k := d.link l
  let at' := fun i => (f.getD i 0).toNat
  k.await && decide (f.length = 12 + 4 * n) && decide (at' 0 = 0xC1) && decide (at' 1 % 16 = k.dseq)
    && decide (at' 2 = n) && decide (at' 6 = l) && decide (at' 7 = n)
    && decide (leNat (f.drop (8 + 4 * n)) = crc32 (f.take (8 + 4 * n)))

/-- A returned frame (R139, R140): a passing one gives its fresh slots' reports and the round trip. -/
def Dev.linkReturn (d : Dev) (l : Nat) (f : List (BitVec 8)) (err : Nat) (late : Bool) (rtt : Nat) : Dev :=
  if !d.onAt .CLINK_STAT_RUNNING l then d
  else
    let ok := d.linkContentOk l f
    let k := d.link l
    if ok && !late then
      let d1 := (d.setLink l { k with await := false }).wrAt .CLINK_RTT l (rtt % 2 ^ 16)
      d1.each (d.rdAt .CLINK_CFG_NCELL l) fun x p =>
        let w := leNat ((f.drop (8 + 4 * p)).take 4)
        if bitsOf w 31 28 = k.dseq then
          { x with conv := { x.conv with reps := x.conv.reps.set 0 (48 * l + p) (w + 1) } }
        else x
    else
      let d1 := (d.setLink l { k with await := false }).dropReports l
      let d2 :=
        if ok then d1.bumpAt .CLINK_ERR_LATE l 0xFFF
        else (d1.bumpAt .CLINK_ERR_BAD l 0xFFF).wrAt .CLINK_ERR_POS l err
      if d2.onAt .CLINK_STAT_FAIL l then d2 else (d2.flagAt .CLINK_STAT_FAIL l true).raise (128 + l)

/-- A cause of the link's blocked state is present (R141, R142). -/
def Dev.linkCause (d : Dev) (l : Nat) : Bool :=
  d.on .SAF_STAT_INH || (List.range 24).any fun m => bitOf (d.rdAt .CLINK_TRMSK l) m && d.tripWire m

/-- A write of UNBLK (R142). -/
def Dev.linkUnblock (d : Dev) (l : Nat) : Dev := if d.linkCause l then d else d.flagAt .CLINK_STAT_BLKD l false

/-- The safe gate inhibit is asserted (R311): every link is blocked (R141); the leg trip wires follow (R153). -/
def Dev.inhibit (d : Dev) : Dev :=
  let d1 := d.flag .SAF_STAT_INH true
  if d1.sys.cdReset then d1 else d1.each 32 fun x l => x.blockLink l

/-- CLINK_RUN (R138). -/
def execClinkRun (req : Requester) (link : Fin 32) (run : Bool) (s : State) : Host.Outcome State Fault Refusal :=
  s.upd fun d => d.ctlWrite req fun x =>
    if x.mayConfigure req .cellLink link.val then x.linkRun link.val run else x.claimViolation

/-- CELL_DOWNLINK_SEND (R138). -/
def execCellDownlinkSend (link : Fin 32) (s : State) : Host.Outcome State Fault Refusal :=
  s.upd fun d => d.ctl fun x => x.linkSend link.val

/-- CELL_FRAME_RETURN (R139). -/
def execCellFrameReturn (link : Fin 32) (frame : List (BitVec 8)) (err : BitVec 8) (late : Bool) (rtt : Nat) (s : State) :
    Host.Outcome State Fault Refusal :=
  s.upd fun d => d.ctl fun x => x.linkReturn link.val frame err.toNat late rtt

/-- CLINK_BLOCK (R141). -/
def execClinkBlock (req : Requester) (link : Fin 32) (s : State) : Host.Outcome State Fault Refusal :=
  s.upd fun d => d.ctlWrite req fun x => x.blockLink link.val

/-- CLINK_UNBLOCK (R142). -/
def execClinkUnblock (req : Requester) (link : Fin 32) (s : State) : Host.Outcome State Fault Refusal :=
  s.upd fun d => d.ctlWrite req fun x => x.linkUnblock link.val

/-- CELL_LINK_COMMA_LOCK (R145): the receiver aligns on commas, or loses them. -/
def execCellLinkCommaLock (link : Fin 32) (locked : Bool) (s : State) : Host.Outcome State Fault Refusal :=
  s.upd fun d => d.ctl fun x => x.flagAt .CLINK_STAT_RXLK link.val locked

end Sys2Proof.Machine
end

