-- ==== Sys2Proof/Machine/Map.lean ====
section
/-!
DEFINITION. Machine/Map.lean: where the addressed memories lie (Tables 0-3 and 1-7, R1, R20).
-/
namespace Sys2Proof.Machine

/-- The window of control engine `n`; 8 is the SE pair's (Table 1-7). -/
def engineWindow (n : Nat) : Nat := 0x1000000000 + n * 0x40000

/-- Address 0 of an engine's instruction SRAM. -/
def instrSram (n : Nat) : Nat := engineWindow n

/-- Address 0 of an engine's data SRAM (0x2_0000 bytes). -/
def dataSram (n : Nat) : Nat := engineWindow n + 0x20000

def berthSram : Nat := 0x1001000000
def translationTable : Nat := 0x1002000000
def ferrymanSram : Nat := 0x1010000000
def ferrymanSramSize : Nat := 0x80000
def bootRom : Nat := 0x1010080000
def flashBase : Nat := 0x3000000000

/-- The installed DRAM ends here (R1: up to 16 GiB). -/
def Dev.dramEnd (d : Dev) : Nat := d.sys.dramGiB * 2 ^ 30

/-- The address lies in a window of on-chip SRAM (Table 1-7). -/
def inSram (a : Nat) : Bool :=
  (decide (0x1000000000 ≤ a) && decide (a < 0x1000240000))
    || (decide (berthSram ≤ a) && decide (a < berthSram + 0x800000))
    || (decide (translationTable ≤ a) && decide (a < translationTable + 0x100000))
    || (decide (ferrymanSram ≤ a) && decide (a < ferrymanSram + ferrymanSramSize))

/-- The address lies in the boot ROM. -/
def inRom (a : Nat) : Bool := decide (bootRom ≤ a) && decide (a < bootRom + 0x10000)

/-- A range of `n` bytes lies inside one window of on-chip SRAM, or the boot ROM (Table 1-7). -/
def inOneWindow (a n : Nat) : Bool := (inSram a || inRom a) && (inSram (a + n - 1) || inRom (a + n - 1))

/-- The address lies in the window of the safety pair. -/
def inPair (a : Nat) : Bool := decide (0x1000200000 ≤ a) && decide (a < 0x1000240000)

/-- SE1's copy of a word of the pair's window (R20); it is no system address. -/
def se1At (a : Nat) : Nat := 2 ^ 40 + a

/-- The address lies in the memory-mapped flash. -/
def inFlash (a : Nat) : Bool := decide (flashBase ≤ a) && decide (a < flashBase + 0x4000000)

end Sys2Proof.Machine
end

