-- ==== Sys2Proof/Machine/Memory.lean ====
section
/-!
DEFINITION. Machine/Memory.lean: error correction and poison, the DDR4 controller, the fill engine, the scrubbers (R356 to R373).
-/
namespace Sys2Proof.Machine

def Dev.onEcc (d : Dev) (f : EccMem → EccMem) : Dev := { d with eccm := f d.eccm }
def Dev.onPager (d : Dev) (f : Pager → Pager) : Dev := { d with pager := f d.pager }

/-! ### Memories (Table 15-4) -/

/-- The memory code of an address. -/
def memCode (a : Nat) : Nat :=
  if 2 ^ 40 ≤ a then 0x11
  else if a < 0x1000000000 then 0x00
  else if a < 0x1000200000 then (if a % 0x40000 < 0x20000 then 0x01 else 0x09) + (a - 0x1000000000) / 0x40000
  else if a < berthSram then 0x11
  else if a < translationTable then 0x12
  else if a < ferrymanSram then 0x13
  else 0x14

/-- The word that holds an address is not good: 1 one bit wrong, 2 uncorrectable, 3 poisoned; 0 good. -/
def Dev.wordState (d : Dev) (a : Nat) : Nat :=
  if a < 2 ^ 40 then d.eccm.bad.at 0 (a / 8) else d.eccm.bad1.at 0 ((a - 2 ^ 40) / 8)

/-- The word that holds an address takes the state `st`. -/
def Dev.setWord (d : Dev) (a st : Nat) : Dev :=
  if a < 2 ^ 40 then d.onEcc fun e => { e with bad := e.bad.set 0 (a / 8) st }
  else d.onEcc fun e => { e with bad1 := e.bad1.set 0 ((a - 2 ^ 40) / 8) st }

/-- The worst state of the words that an access of `n` bytes touches. -/
def Dev.spanState (d : Dev) (a n : Nat) : Nat :=
  (List.range ((a + n - 1) / 8 - a / 8 + 1)).foldl (fun m k => max m (d.wordState (a / 8 * 8 + 8 * k))) 0

/-- The byte lanes of the DRAM population, nine a rank (R356, R368). -/
def Dev.laneCount (d : Dev) : Nat := 9 * (1 + d.rd .DDR_CFG_RANKS)

/-- A corrected error at `a` is counted (Tables 15-11, 18-5 and 20-2). -/
def Dev.correctedAt (d : Dev) (a : Nat) : Dev :=
  ((((d.bump .ECC_CECNT (2 ^ 32 - 1)).flag .ECC_STAT_CE true).life 0x98).signal 0x297 (bit01 (decide (a < 0x1000000000)))).raise 54

/-- A corrected error at `a` that a requester meets; in DRAM it also counts for its byte lane, which the cells decide: a free value. -/
def Dev.corrected (d : Dev) (a : Nat) : Dev :=
  let d1 := d.correctedAt a
  if a < 0x1000000000 then
    let r := d1.draw d1.laneCount
    r.2.bumpAt .ECC_LANE_CE r.1 65535
  else d1

/-- An uncorrectable error at `a` (R365): the first one's address and memory code are recorded, it is counted, the event raised. -/
def Dev.uncorrectableAt (d : Dev) (a : Nat) : Dev :=
  let poison := if a < 0x1000000000 then d.eccm.list.contains (a / 8) else decide (d.wordState a = 3)
  let d1 := d.when (!d.on .ECC_STAT_UE) fun x =>
    (((x.wr .ECC_FADLO (a % 2 ^ 32)).wr .ECC_FADHI_ADDR (a / 2 ^ 32 % 2 ^ 8)).wr .ECC_FADHI_MEM (memCode a)).flag .ECC_FADHI_POISON poison
  ((((d1.bump .ECC_UECNT (2 ^ 32 - 1)).flag .ECC_STAT_UE true).lerr 1).life 0xA0).raise 55

/-- An uncorrectable error confined to byte lane `l` (R368). -/
def Dev.laneError (d : Dev) (l : Nat) : Dev :=
  (d.bumpAt .ECC_LANE_UE l 65535).onEcc fun e => { e with laneErrs := e.laneErrs.set [] l ((d.tide :: e.laneErrs.at [] l).take 16) }

/-- A byte lane whose device fails now (R368): its last 16 uncorrectable errors came within 1 s, and it has not been declared failed. -/
def Dev.failingLane (d : Dev) : Option Nat :=
  (List.range 18).find? fun l =>
    let t := d.eccm.laneErrs.at [] l
    decide (t.length = 16) && decide ((d.tide - t.getLastD 0) * d.rd .TIDE_PERIOD_ACT ≤ 400000000) && !d.eccm.deadLanes.contains l

/-- An uncorrectable error at `a` that a requester meets; in DRAM it counts for the byte lane it is confined to, if to one: a free value. -/
def Dev.uncorrectable (d : Dev) (a : Nat) : Dev :=
  let d1 := d.uncorrectableAt a
  if a < 0x1000000000 then
    let r := d1.draw (d1.laneCount + 1)
    if r.1 < d1.laneCount then r.2.laneError r.1 else r.2
  else d1

/-- The poison pattern (R360). -/
def poisonPattern : Nat := 0x7FC000007FC00000

/-- The word at `a` is poisoned (R360): its bytes, and the part with the word marked and, in DRAM, listed. -/
def Dev.poison (d : Dev) (a : Nat) : (Nat × List Byte) × Dev :=
  let w := a / 8
  let d1 := d.setWord a 3
  let d2 :=
    if 0x1000000000 ≤ a ∨ d1.eccm.list.contains w then d1
    else if 4096 ≤ d1.eccm.list.length then (d1.flag .ECC_STAT_POVF true).raise 57
    else
      let x := d1.onEcc fun e => { e with list := e.list ++ [w] }
      x.wr .ECC_PCNT x.eccm.list.length
  ((w * 8, leBytes 8 poisonPattern), d2)

/-- Words written whole, or filled, hold good check bits and leave the poison list (R360). -/
def Dev.goodCells (d : Dev) (lo hi : Nat) : Dev :=
  let p := fun w => !(lo ≤ w * 8 && w * 8 + 8 ≤ hi)
  let d1 := d.onEcc fun e => { e with bad := e.bad.filter fun x => p x.1, list := e.list.filter p }
  d1.wr .ECC_PCNT d1.eccm.list.length

/-- Whole words written, or filled, through a window: in the pair's window the same words go into SE1's memories (R20). -/
def Dev.goodWords (d : Dev) (lo hi : Nat) : Dev :=
  (d.goodCells lo hi).onEcc fun e => { e with
    bad1 := e.bad1.filter fun x => !(lo ≤ x.1 * 8 && x.1 * 8 + 8 ≤ hi)
    diff1 := e.diff1.filter fun x => !(lo ≤ x.1 && x.1 < hi) }

/-- A byte of SE1's memories, by its address in the pair's window (R20). -/
def Dev.se1Byte (d : Dev) (m : List Host.Cell) (a : Nat) : Byte :=
  match d.eccm.diff1.at 0 a with
  | 0 => memByte m a
  | v + 1 => BitVec.ofNat 8 v

/-- The bytes of a list of stores, each with its address, in order. -/
def storedBytes (l : List (Nat × List Byte)) : List (Nat × Byte) := l.flatMap fun p => p.2.zipIdx.map fun b => (p.1 + b.2, b.1)

/-- What SE1's memories hold after SE0's took the stores `s0` and SE1's the stores `s1`; `m`: the memories before. -/
def Dev.se1Stored (d : Dev) (m : List Host.Cell) (s0 s1 : List (Nat × List Byte)) : Dev :=
  let b0 := storedBytes s0
  let b1 := storedBytes s1
  let last (l : List (Nat × Byte)) (a : Nat) (v : Byte) : Byte := ((l.filter fun x => decide (x.1 = a)).getLast?.map Prod.snd).getD v
  d.onEcc fun e => { e with
    diff1 := (b0 ++ b1).foldl (fun t x =>
      let v0 := last b0 x.1 (memByte m x.1)
      let v1 := last b1 x.1 (d.se1Byte m x.1)
      t.set 0 x.1 (if v0 = v1 then 0 else 1 + v1.toNat)) e.diff1 }

/-- A write of `n` bytes at `a` by a requester (R363, R364): the bytes stored, the address of a word that could not be merged, the part. A
narrower write is a read-modify-write of its word. -/
def Dev.store (d : Dev) (a : Nat) (bytes : List Byte) : List (Nat × List Byte) × Option Nat × Dev :=
  let n := bytes.length
  if a % 8 = 0 ∧ n % 8 = 0 then ([(a, bytes)], none, d.goodWords a (a + n))
  else
    match d.wordState a with
    | 0 => ([(a, bytes)], none, d)
    | 1 => ([(a, bytes)], none, (d.setWord a 0).corrected a)
    | _ =>
      let p := (d.uncorrectable a).poison a
      ([p.1], some a, p.2)

/-- A write through the pair's window (R20) that is no whole word merges into SE1's copy of the word as into SE0's (R363, R364). `r`: the write into
SE0's memory. -/
def Dev.storePair (d : Dev) (m : List Host.Cell) (a : Nat) (bytes : List Byte) (r : List (Nat × List Byte) × Option Nat × Dev) :
    List (Nat × List Byte) × Option Nat × Dev :=
  if !inPair a || (a % 8 = 0 && bytes.length % 8 = 0) then r
  else
    let d1 := r.2.2
    let w := se1At a
    match d.wordState w with
    | 0 => (r.1, r.2.1, d1.se1Stored m r.1 [(a, bytes)])
    | 1 => (r.1, r.2.1, ((d1.setWord w 0).corrected w).se1Stored m r.1 [(a, bytes)])
    | _ => (r.1, some a, (((d1.uncorrectable w).setWord w 3)).se1Stored m r.1 [(a / 8 * 8, leBytes 8 poisonPattern)])

/-! ### Damaged lines (R253) -/

/-- The live line of node `n` becomes damaged for the rest of its residency. -/
def Dev.damage (d : Dev) (n : Nat) : Dev :=
  match (d.pager.lines.find? fun e => e.1 = n) with
  | some (_, l) =>
    if l.dmg then d
    else
      let d1 := d.onPager fun p => { p with lines := p.lines.set {} n { l with dmg := true } }
      ((((d1.bump .BERTH_DMGCNT (2 ^ 32 - 1)).flag .BERTH_STAT_DMG true).lerr 2).dryNote 2).raise 53
  | none => d

/-- The node whose line occupies the berth that holds an address. -/
def Dev.berthNode (d : Dev) (a : Nat) : Option Nat :=
  (d.pager.lines.find? fun e => decide (e.2.berth = (a - berthSram) / 256)).map Prod.fst

/-! ### The DDR4 controller (R356, R357) -/

def ddrInit : Nat := 0
def ddrTrain : Nat := 1
def ddrNormal : Nat := 2
def ddrSelfRef : Nat := 3
def ddrFault : Nat := 4

/-- DDR_INIT_DONE (R357). -/
def execDdrInitDone (s : State) : Host.Outcome State Fault Refusal :=
  s.upd fun d => d.ctl fun x => if x.rd .DDR_STAT_STATE = ddrInit then x.wr .DDR_STAT_STATE ddrTrain else x

/-- DDR_TRAINING_DONE (R356, R357): `pass` is the devices' answer; the population of Table 15-1 alone can pass. -/
def execDdrTrainingDone (pass : Bool) (s : State) : Host.Outcome State Fault Refusal :=
  s.upd fun d => d.ctl fun x =>
    if x.rd .DDR_STAT_STATE = ddrTrain then
      x.wr .DDR_STAT_STATE (if pass && !(x.rd .DDR_CFG_DENS = 2 && x.on .DDR_CFG_RANKS) then ddrNormal else ddrFault)
    else x

/-- A write of 1 to DDR.CTRL.RETRAIN. -/
def Dev.ddrRetrain (d : Dev) : Dev := if d.rd .DDR_STAT_STATE = ddrNormal then d.wr .DDR_STAT_STATE ddrTrain else d

/-- DDR_RETRAIN (R357). -/
def execDdrRetrain (req : Requester) (s : State) : Host.Outcome State Fault Refusal := s.upd fun d => d.ctlWrite req Dev.ddrRetrain

/-! ### The fill engine (R362) -/

/-- A timetable is active or pending. -/
def Dev.timetabled (d : Dev) : Bool := d.tt.active.isSome || d.tt.pending.isSome

/-- Base of the node table and its number of nodes (R242). -/
def Dev.nodeBase (d : Dev) : Nat := d.rd .BERTH_NTBASE_BASE * 2 ^ 30
def Dev.nodeCount (d : Dev) : Nat := d.rd .BERTH_CFG_NTSIZE * 4096

/-- The record of node `n` (R242). -/
def Dev.nodeRecord (d : Dev) (n : Nat) : Nat := d.nodeBase + 0x4000 * n

/-- The bytes from `a` to `b - 1` touch the live line or the history ring of some record (R245, Table 10-1). -/
def Dev.touchesLines (d : Dev) (a b : Nat) : Bool :=
  let lo := max a d.nodeBase
  let hi := min b (d.nodeBase + 0x4000 * d.nodeCount)
  decide (lo < hi) &&
    (let o := (lo - d.nodeBase) % 0x4000
     let n := hi - lo
     decide (o < 0x100) || (decide (o < 0x2000) && decide (0x1000 < o + n)) || decide (0x4000 < o + n))

/-- The range lies in installed DRAM, or in one window of on-chip SRAM. -/
def Dev.fillRange (d : Dev) (a n : Nat) : Bool :=
  decide (a + n ≤ d.dramEnd)
    || (List.range 9).any (fun e => decide (engineWindow e ≤ a) && decide (a + n ≤ engineWindow e + 0x40000))
    || (decide (berthSram ≤ a) && decide (a + n ≤ berthSram + 0x800000))
    || (decide (translationTable ≤ a) && decide (a + n ≤ translationTable + 0x100000))
    || (decide (ferrymanSram ≤ a) && decide (a + n ≤ ferrymanSram + ferrymanSramSize))

/-- A write of 1 to DDR.CTRL.FILLGO (R362); none while a fill runs. -/
def Dev.ddrFill (d : Dev) : Dev :=
  let a := d.rd .DDR_FILLADLO * 64 + 2 ^ 32 * d.rd .DDR_FILLADHI
  let n := 64 * d.rd .DDR_FILLLEN
  if d.on .DDR_STAT_FBUSY then d
  else if a % 64 ≠ 0 then d.wr .DDR_STAT_FSTAT 2
  else if !d.fillRange a n then d.wr .DDR_STAT_FSTAT 3
  else if d.timetabled && d.touchesLines a (a + n) then d.wr .DDR_STAT_FSTAT 4
  else if d.rd .DDR_STAT_STATE ≠ ddrNormal then d.wr .DDR_STAT_FSTAT 5
  else
    let d1 := ((d.flag .DDR_STAT_FBUSY true).wr .DDR_STAT_FSTAT 0).fareAsk 11 (d.fareOf 11)
    d1.onEcc fun e => { e with fill := some (a, n, d.rd64 .DDR_FILLPATLO .DDR_FILLPATHI) }

/-- DDR_FILL (R362). -/
def execDdrFill (req : Requester) (s : State) : Host.Outcome State Fault Refusal := s.upd fun d => d.ctlWrite req Dev.ddrFill

/-- The bytes of `n / 8` words of a pattern. -/
def fillBytes (n p : Nat) : List Byte := (List.replicate (n / 8) (leBytes 8 p)).flatten

/-- The newer valid checkpoint and its slot (R415). -/
def Dev.newestCheckpoint (d : Dev) : Option (Nat × Checkpoint) :=
  let a := d.fm.slots.at {} 0
  let b := d.fm.slots.at {} 1
  if a.valid && (!b.valid || decide (b.ckseq < a.ckseq)) then some (0, a)
  else if b.valid then some (1, b) else none

/-- The firmware restores the newer valid checkpoint after the start-up fill, for the nodes that both table sizes hold (R415, R475): not on a joining
twin, and not while a timetable is there. -/
def Dev.restoreCheckpoint (d : Dev) : List (Nat × List Byte) × Dev :=
  if !d.fm.booted || d.timetabled || decide (d.rd .TWIN_STAT_STATE = 2) then ([], d)
  else match d.newestCheckpoint with
    | none => ([], d.stageLog 5 1)
    | some (_, c) =>
      ((List.range (min d.nodeCount (4096 * c.ntsize))).map fun n =>
        (d.nodeRecord n + 0x100, (List.range 1024).map fun o => c.data.at 0 (1024 * n + o)), d.stageLog 5 0)

/-- The fill ends after `n` bytes with status `st`. -/
def Dev.fillEnd (d : Dev) (n st : Nat) : List (Nat × List Byte) × Dev :=
  match d.eccm.fill with
  | some (a, len, p) =>
    let m := min n len
    let d1 := ((d.onEcc fun e => { e with fill := none }).goodWords a (a + m)).flag .DDR_STAT_FBUSY false |>.fareDrop 11
    let d2 := (d1.wr .DDR_STAT_FSTAT st).when (decide (a = 0) && decide (d.dramEnd ≤ m)) fun x =>
      ({ x with sys := { x.sys with dramLost := false } }).flag .DDR_STAT_UNREL false
    ([(a, fillBytes m p)], d2)
  | none => ([], d)

/-- DDR_FILL_COMPLETE (R362): a fill does not begin before the fare of class 11 is granted (R437). -/
def execDdrFillComplete (s : State) : Host.Outcome State Fault Refusal :=
  s.updM fun _ d =>
    if d.sys.cdReset || !d.onAt .CAP_CLS_HELD 11 then ([], d)
    else
      let r := d.fillEnd (2 ^ 40) 1
      -- the fill of the whole of DRAM is the start-up fill
      if d.eccm.fill.any fun f => decide (f.1 = 0) && decide (d.dramEnd ≤ f.2.1) then
        let q := r.2.restoreCheckpoint
        (r.1 ++ q.1, q.2)
      else r

/-- DDR_FILL_ABORT (R371): `done` 64-byte units had been written. -/
def execDdrFillAbort (req : Requester) (done : Nat) (s : State) : Host.Outcome State Fault Refusal :=
  s.updM fun _ d =>
    if req ≠ .ferryman then ([], d.busError)
    else if d.sys.cdReset then ([], d.answer) else d.answer.fillEnd (64 * done) 6

/-- DMA channel `ch` meets the bad word at `a` and halts (R365). -/
def Dev.dmaHalt (d : Dev) (ch a : Nat) : Dev :=
  (((d.uncorrectable a).wrBit .DDR_HALT ch true).onEcc fun e => { e with halts := e.halts.set 0 ch (a + 1) }).raise 58

/-- DMA channel `ch` reads the words that `p` names, in ascending order: corrected errors are counted, and it halts at the first bad word (R365). Whether it has
read them all. -/
def Dev.dmaReads (d : Dev) (ch : Nat) (p : Nat → Bool) : Bool × Dev :=
  if d.bit .DDR_HALT ch then (false, d)
  else d.eccm.bad.foldl (fun (x : Bool × Dev) e =>
    if !x.1 || !p (8 * e.1) then x
    else if 2 ≤ e.2 then (false, x.2.dmaHalt ch (8 * e.1))
    else (true, x.2.corrected (8 * e.1))) (true, d)

/-- A write of 1 to bit `ch` of DDR.HALT restarts the channel (R365); it halts again at the same burst while the word there is still bad (R371). -/
def Dev.dmaRestart (d : Dev) (ch : Nat) : Dev :=
  let a := d.eccm.halts.at 0 ch - 1
  if !d.bit .DDR_HALT ch then d
  else if d.eccm.halts.at 0 ch ≠ 0 ∧ 2 ≤ d.wordState a then d.dmaHalt ch a
  else (d.wrBit .DDR_HALT ch false).onEcc fun e => { e with halts := e.halts.set 0 ch 0 }

/-- DMA_CHANNEL_RESTART (R365). -/
def execDmaChannelRestart (req : Requester) (ch : Fin 9) (s : State) : Host.Outcome State Fault Refusal :=
  s.upd fun d => d.ctlWrite req fun x => x.dmaRestart ch.val

/-! ### Scrubbing (R366 to R368) -/

/-- The words of on-chip SRAM that the scrubber reads, as ranges in its order (Table 15-4): SE1's memories follow SE0's. -/
def sramRanges : List (Nat × Nat) :=
  ((List.range 8).flatMap fun n => [(instrSram n, 0x10000), (dataSram n, 0x20000)])
    ++ [(instrSram 8, 0x10000), (dataSram 8, 0x20000), (se1At (instrSram 8), 0x10000), (se1At (dataSram 8), 0x20000), (berthSram, 0x800000), (translationTable, 0x100000), (ferrymanSram, 0x80000)]

/-- The SRAM word after `a` among these ranges. -/
def rangeNext (a : Nat) : List (Nat × Nat) → Option Nat
  | [] => none
  | r :: t =>
    if r.1 ≤ a ∧ a + 8 < r.1 + r.2 then some (a + 8)
    else if r.1 ≤ a ∧ a < r.1 + r.2 then t.head?.map Prod.fst
    else rangeNext a t

/-- The SRAM word after `a`; from the last it returns to the first. -/
def sramNext (a : Nat) : Nat := (rangeNext a sramRanges).getD (instrSram 0)

/-- The owner of an uncorrectable word found by scrubbing acts (Table 15-7): a live line is damaged. -/
def Dev.scrubOwner (d : Dev) (a : Nat) : Dev :=
  if berthSram ≤ a ∧ a < translationTable then
    match d.berthNode a with
    | some n => d.damage n
    | none => d
  else if translationTable ≤ a ∧ a < ferrymanSram then
    let n := (a - translationTable) / 8 * 2
    (d.damage n).damage (n + 1)
  else d

/-- A scrubber reads the word at `a` in state `st`. -/
def Dev.scrubWord (d : Dev) (a st : Nat) (lane : Option Nat) : List (Nat × List Byte) × Dev :=
  match st with
  | 0 => ([], d)
  | 1 =>
    let d1 := (d.setWord a 0).correctedAt a
    ([], match lane with
      | some l => if a < 0x1000000000 then d1.bumpAt .ECC_LANE_CE l 65535 else d1
      | none => d1)
  | _ =>
    let p := ((d.flag .ECC_STAT_SCRUE true).uncorrectableAt a).poison a
    let d1 := p.2
    let d2 := match lane with
      | some l => if a < 0x1000000000 then d1.laneError l else d1
      | none => d1
    ([p.1], d2.scrubOwner a)

/-- An engine runs whose memory holds the address (R366): the scrubber waits for its stopped clock. -/
def Dev.engineBusy (d : Dev) (a : Nat) : Bool :=
  (List.range 9).any fun e => (d.engine e).running && decide (engineWindow e ≤ a % 2 ^ 40) && decide (a % 2 ^ 40 < engineWindow e + 0x40000)

/-- SCRUB_STEP (R366): a scrubber reads its next word. `upset`: what has happened to that word's cells since it was written, 0 nothing, 1 one bit,
2 more; `lane`: the byte lane (9 × rank + lane) to which the error is confined. The DRAM scrubber waits while a fill covers its word, and while the
firmware defers it (Table 19-7). -/
def execScrubStep (dram : Bool) (upset : Fin 3) (lane : Option (Fin 18)) (s : State) : Host.Outcome State Fault Refusal :=
  s.updM fun m d =>
    if dram then
      let a := d.rd .DDR_SCRPOSLO + 2 ^ 32 * d.rd .DDR_SCRPOSHI
      let covered := match d.eccm.fill with
        | some (lo, n, _) => decide (lo ≤ a) && decide (a < lo + n)
        | none => false
      if d.sys.cdReset || d.fm.diffAct || !d.on .DDR_SCRUB_EN || decide (d.rd .DDR_STAT_STATE ≠ ddrNormal) || covered then ([], d)
      else
        let r := d.scrubWord a (max (d.wordState a) upset.val) (lane.map Fin.val)
        let b := if a + 8 < d.dramEnd then a + 8 else 0
        (r.1, (r.2.wr .DDR_SCRPOSLO (b % 2 ^ 32)).wr .DDR_SCRPOSHI (b / 2 ^ 32))
    else
      let a := if d.eccm.sramPos = 0 then instrSram 0 else d.eccm.sramPos
      if d.engineBusy a then ([], d) else
      let r := if d.sys.cdReset && (decide (a < ferrymanSram) || decide (2 ^ 40 ≤ a)) then ([], d)
        else d.scrubWord a (max (d.wordState a) upset.val) none
      let d1 := r.2.onEcc fun e => { e with sramPos := sramNext a }
      if a < 2 ^ 40 then (r.1, d1) else ([], d1.se1Stored m [] (r.1.map fun p => (p.1 - 2 ^ 40, p.2)))

/-- A write of 1 to ECC.CTRL.CLR. -/
def Dev.eccClear (d : Dev) : Dev :=
  ((d.wr .ECC_CECNT 0).wr .ECC_UECNT 0).each 18 fun x l => (x.wrAt .ECC_LANE_UE l 0).wrAt .ECC_LANE_CE l 0

/-- ECC_COUNTER_CLEAR (R373). -/
def execEccCounterClear (req : Requester) (s : State) : Host.Outcome State Fault Refusal := s.upd fun d => d.byFerryman req Dev.eccClear

/-- A write of ECC.INJ: ignored outside bench mode (R373). -/
def Dev.eccInject (d : Dev) (arm : Bool) (mask : Nat) : Dev :=
  if d.on .GWY_BENCH_ON then (d.flag .ECC_INJ_ARM arm).wr .ECC_INJ_MASK (mask % 256) else d

/-- ECC_INJECT (R373). -/
def execEccInject (req : Requester) (arm : Bool) (mask : BitVec 8) (s : State) : Host.Outcome State Fault Refusal :=
  s.upd fun d => d.byFerryman req fun x => x.eccInject arm mask.toNat

/-- What a whole word written with the check bits of `mask` inverted is (R359): the bytes that reads deliver, and its state. One bit is correctable, an
even number uncorrectable (the code detects every double-bit error). An odd number above one either shows as uncorrectable or looks like one wrong
data bit, which reads then "correct" (log entry 31). -/
def Dev.injected (d : Dev) (mask : Nat) (l : List Byte) : List Byte × Nat × Dev :=
  let n := ((List.range 8).filter (bitOf mask)).length
  if n ≤ 1 then (l, n, d)
  else if n % 2 = 0 then (l, 2, d)
  else
    let r := d.draw 65
    if r.1 < 64 then (leBytes 8 (leNat l ^^^ 2 ^ r.1), 1, r.2) else (l, 2, r.2)

end Sys2Proof.Machine
end

