-- ==== Sys2Proof/Machine/Adc.lean ====
section
/-!
DEFINITION. Machine/Adc.lean: the auxiliary converters (R374 to R385).
-/
namespace Sys2Proof.Machine

/-- Applies `f` to the converters' state. -/
def Dev.onAdc (d : Dev) (f : Adc → Adc) : Dev := { d with adc := f d.adc }

/-- Input `n` is the odd half of a differential pair (R374). -/
def Dev.adcOddHalf (d : Dev) (n : Nat) : Bool := decide (n % 2 = 1) && d.onAt .ADC_CFG_DIFF (n - 1)

/-- Input `n` is converted on its own (R374). -/
def Dev.adcEnabled (d : Dev) (n : Nat) : Bool := d.onAt .ADC_CFG_EN n && !d.adcOddHalf n

/-- The scan of converter `k` visits position `p` (R375, R379): 0 to 15 its inputs, 16 to 18 the internal inputs of `int`. -/
def Dev.adcVisits (d : Dev) (k int p : Nat) : Bool :=
  if p < 16 then d.adcEnabled (k + 4 * p) else bitOf int (p - 16)

/-- The first position from `p` on that the scan visits. -/
def Dev.adcNext (d : Dev) (k int p : Nat) : Option Nat :=
  (List.range 19).find? fun i => decide (p ≤ i) && d.adcVisits k int i

/-- Sets converter `k`'s record. -/
def Dev.setAdcConv (d : Dev) (k : Nat) (c : AdcConv) : Dev := d.onAdc fun a => { a with conv := a.conv.set {} k c }

/-- Converter `k` starts its next conversion at or after position `p`, with the settings the input has now (R384); the scan ends when
none is left. AD3 starts none while the DAC readback holds it (R379). -/
def Dev.adcGo (d : Dev) (k p : Nat) : Dev :=
  let c := d.adc.conv.at {} k
  match d.adcNext k c.int p with
  | none =>
    let d1 := d.setAdcConv k { c with cur := none, pos := 19 }
    ((d1.flagAt .ADC_ADSTAT_BUSY k false).wrAt .ADC_ADSTAT_NCONV k c.count).wrAt .ADC_ADSTAT_SCANS k
      ((d1.rdAt .ADC_ADSTAT_SCANS k + 1) % 2 ^ 16)
  | some i =>
    if d.onAt .ADC_ADSTAT_RBK k then d.setAdcConv k { c with cur := none, pos := i }
    else
      let n := k + 4 * i
      d.setAdcConv k { c with
        cur := some i, pos := i
        align := decide (i < 16) && d.onAt .ADC_CFG_ALIGN n
        diff := decide (i < 16) && d.onAt .ADC_CFG_DIFF n
        pull := if i < 16 then d.rdAt .ADC_CFG_PULL n else 0 }

/-- A scan of converter `k` starts: the settings of ADC.ADCFGk apply from here (R384). -/
def Dev.adcScan (d : Dev) (k : Nat) : Dev :=
  let int := d.rdAt .ADC_ADCFG_INT k
  if (d.adcNext k int 0).isNone then d
  else
    let d1 := d.setAdcConv k { d.adc.conv.at {} k with int := int, count := 0, cur := none, pos := 0 }
    (d1.flagAt .ADC_ADSTAT_BUSY k true).adcGo k 0

/-- ADC_SCAN_START (R375): with SYNC = 1 in a frame with N mod 2^SCANK = 0; a triggered scan that finds the converter busy is skipped; with SYNC = 0 the scans
follow one another. -/
def execAdcScanStart (k : Fin 4) (s : State) : Host.Outcome State Fault Refusal :=
  s.upd fun d =>
    if d.onAt .ADC_ADCFG_SYNC k.val && decide (d.tide % 2 ^ d.rdAt .ADC_ADCFG_SCANK k.val ≠ 0) then d
    else if d.onAt .ADC_ADSTAT_BUSY k.val then
      if d.onAt .ADC_ADCFG_SYNC k.val then (d.flagAt .ADC_ADSTAT_OVR k.val true).raise (384 + k.val) else d
    else d.adcScan k.val

/-- The code lies at the rail toward which PULL pulls (R378). -/
def atRail (diff : Bool) (pull : Nat) (v : Int) : Bool :=
  if pull = 1 ∨ pull = 2 then (if diff then decide (32440 ≤ v) else decide (64880 ≤ v))
  else if pull = 3 ∨ pull = 4 then (if diff then decide (v ≤ -32440) else decide (v ≤ 655))
  else false

/-- The saturated code of a conversion (R374). -/
def adcCode (diff : Bool) (v : Int) : Int :=
  if diff then (if v < -32768 then -32768 else if 32767 < v then 32767 else v)
  else (if v < 0 then 0 else if 65535 < v then 65535 else v)

/-- The result word of a code (R376). -/
def adcWord (align : Bool) (v : Int) : Nat := if align then ofSigned 16 v * 2 ^ 16 else ofSigned 32 v

/-- The queue delivery of a conversion of input `n` (R383, Table 16-3): the bytes stored, and the part after it. -/
def Dev.adcQueue (d : Dev) (n : Nat) (diff : Bool) : List (Nat × List Byte) × Dev :=
  let selected := if n < 32 then d.bit .ADC_DMASELLO n else d.bit .ADC_DMASELHI (n - 32)
  if !(d.on .ADC_DMACFG_EN && d.on .ADC_DMACFG_MODE && selected) then ([], d)
  else
    let entries := d.rd .ADC_DMALEN_LEN * 8
    let h := d.rd .ADC_DMAHEAD_HEAD
    if (h + 1) % entries = d.rd .ADC_DMATAIL_TAIL % entries then
      ([], ((d.bump .ADC_DMASTAT_DROPCNT 0xFFFF).flag .ADC_DMASTAT_DROPS true).raise 388)
    else
      let w := d.rdAt .ADC_RES n + 2 ^ 32 * d.rdAt .ADC_STAT_SEQ n + 2 ^ 48 * n + 2 ^ 54 * d.rdAt .ADC_STAT_OPEN n
        + 2 ^ 55 * bit01 diff
      let h' := (h + 1) % entries
      let a := ferrymanSram + d.rd .ADC_DMABASE_BASE * 64 + h * 8
      let d1 := (d.goodWords a (a + 8)).wr .ADC_DMAHEAD_HEAD h'
      ([(a, leBytes 8 w)],
        d1.flag .ADC_DMASTAT_FULL (decide ((h' + 1) % entries = d.rd .ADC_DMATAIL_TAIL % entries)))

/-- A conversion of input `n` completes (R376 to R378). -/
def Dev.adcResult (d : Dev) (n : Nat) (c : AdcConv) (v : Int) : Dev :=
  let x := adcCode c.diff v
  let d1 := d.onAdc fun a => { a with
    prevWord := a.prevWord.set 0 n (d.rdAt .ADC_RES n)
    prevSeq := a.prevSeq.set 0 n (d.rdAt .ADC_STAT_SEQ n)
    code := a.code.set 0 n x
    rail := a.rail.set 0 n
      (if atRail c.diff c.pull x then satAdd 4 (if a.pull.at 0 n = c.pull then a.rail.at 0 n else 0) 1 else 0)
    pull := a.pull.set 0 n c.pull }
  let d2 := (d1.wrAt .ADC_RES n (adcWord c.align x)).wrAt .ADC_STAT_SEQ n ((d1.rdAt .ADC_STAT_SEQ n + 1) % 2 ^ 16)
  if d2.adc.rail.at 0 n = 4 then
    if d2.onAt .ADC_STAT_OPEN n then d2
    else ((d2.flagAt .ADC_STAT_OPEN n true).flagAt .ADC_STAT_OPENS n true).raise (320 + n)
  else if d2.adc.rail.at 0 n = 0 then d2.flagAt .ADC_STAT_OPEN n false else d2

/-- The conversion in progress on converter `k`, resuming a scan that the readback suspended. -/
def Dev.adcResume (d : Dev) (k : Nat) : Dev :=
  if d.onAt .ADC_ADSTAT_BUSY k && (d.adc.conv.at {} k).cur.isNone then d.adcGo k (d.adc.conv.at {} k).pos else d

/-- The code of internal input `i` (R379): AGND, VREF/2, VREF. -/
def internalCode (i : Nat) : Int := if i = 0 then 0 else if i = 1 then 32768 else 65535

/-- Converter `k` has converted internal input `i` to the code `x` (R379); in the self-test stage a code more than 8 LSB away fails the test, which is
logged (Table 21-4; the entry's SRC and DATA are the firmware's, log entry 42). -/
def Dev.adcInternal (d : Dev) (k i : Nat) (x : Int) : Dev :=
  let d1 := (d.wrAt .ADC_INTR_INPUT k i).wrAt .ADC_INTR_CODE k x.toNat
  if d.sys.selfTestPassed || bitOf d.adc.failed k || decide ((x - internalCode i).natAbs ≤ 8) then d1
  else
    let p := d1.draw 256
    let q := p.2.draw 16
    let r := q.2.draw (2 ^ 64)
    (r.2.onAdc fun a => { a with failed := setBit a.failed k true }).logAsk { src := 0x200 + p.1, lvl := q.1, fw := true, data := r.1 }

/-- ADC_CONVERSION (R375 to R379, R383): the conversion in progress on converter `k` completes with the code `v`, before saturation, and the
next one starts; after a scan's last, the next scan follows at once with SYNC = 0. -/
def execAdcConversion (k : Fin 4) (v : Int) (s : State) : Host.Outcome State Fault Refusal :=
  s.updM fun _ d0 =>
    let d := d0.adcResume k.val
    let c := d.adc.conv.at {} k.val
    match c.cur with
    | none => ([], d)
    | some i =>
      let d1 := d.setAdcConv k.val { c with cur := none, count := c.count + 1 }
      let r :=
        if i < 16 then
          let n := k.val + 4 * i
          (d1.adcResult n c v).adcQueue n c.diff
        else ([], d1.adcInternal k.val (i - 16) (adcCode false v))
      let d2 := r.2.adcGo k.val (i + 1)
      (r.1, if !d2.onAt .ADC_ADSTAT_BUSY k.val && !d2.onAt .ADC_ADCFG_SYNC k.val then d2.adcScan k.val else d2)

/-- The item that input `n` boards at a Tide edge (R377, Table 4-2): the latest conversion, or the one before when the latest completed
within 100 ns of the edge; bits 47:32 SEQ, bit 48 STALE, which every input of a converter that failed its start-up test has (Table 21-4). -/
def Dev.adcItem (d : Dev) (n : Nat) (late : Bool) : BitVec 64 :=
  let w := if late then d.adc.prevWord.at 0 n else d.rdAt .ADC_RES n
  let q := if late then d.adc.prevSeq.at 0 n else d.rdAt .ADC_STAT_SEQ n
  BitVec.ofNat 64 (w + 2 ^ 32 * q + 2 ^ 48 * bit01 (bitOf d.adc.failed (n % 4) || decide (q = d.adc.boarded.at 0 n)))

/-- After boarding, the boarded SEQ is the one that the next edge compares with. -/
def Dev.adcBoarded (d : Dev) (late : Nat → Bool) : Dev :=
  d.onAdc fun a => { a with
    boarded := (List.range 64).foldl (fun b n =>
      b.set 0 n (if late n then a.prevSeq.at 0 n else d.rdAt .ADC_STAT_SEQ n)) a.boarded }

/-- The inputs selected for DMA delivery, ascending. -/
def Dev.adcSelected (d : Dev) : List Nat :=
  (List.range 64).filter fun n => if n < 32 then d.bit .ADC_DMASELLO n else d.bit .ADC_DMASELHI (n - 32)

/-- The row that the circular DMA writes at a Tide edge that opens frame `f` (R382): a selected input that is not enabled contributes
zero to its slot. `word` is what each input boards at the edge. -/
def Dev.adcRow (d : Dev) (f : Nat) (word : Nat → Nat) : List (Nat × List Byte) × Dev :=
  if d.on .ADC_DMACFG_EN && !d.on .ADC_DMACFG_MODE && decide (f % 2 ^ d.rd .ADC_DMACFG_ROWK = 0) then
    let h := d.rd .ADC_DMAHEAD_HEAD
    let ws := d.adcSelected.map fun n => if d.adcEnabled n then word n else 0
    let bytes := (List.range 16).flatMap fun i => leBytes 4 (ws.getD i 0)
    let a := ferrymanSram + d.rd .ADC_DMABASE_BASE * 64 + h * 8
    ([(a, bytes)],
      (d.goodWords a (a + 64)).wr .ADC_DMAHEAD_HEAD ((h + 8) % (d.rd .ADC_DMALEN_LEN * 8)))
  else ([], d)

/-- The DMA configuration `d` is one that R381 refuses. -/
def Dev.adcDmaBad (d : Dev) : Bool :=
  decide (ferrymanSramSize < (d.rd .ADC_DMABASE_BASE + d.rd .ADC_DMALEN_LEN) * 64)
    || (!d.on .ADC_DMACFG_MODE && decide (16 < d.adcSelected.length)) || d.adcSelected.isEmpty

/-- A write that makes the DMA configuration `d'` out of `d` (R381): refused with CFGE while the channel is or becomes enabled and the
result is one that the rule refuses. -/
def Dev.adcDmaWrite (d d' : Dev) : Dev :=
  if d'.on .ADC_DMACFG_EN && d'.adcDmaBad then d.flag .ADC_DMASTAT_CFGE true else d'

end Sys2Proof.Machine
end

