-- ==== Sys2Proof/Machine/Hawser.lean ====
section
/-!
DEFINITION. Machine/Hawser.lean: the messages between twins (R336 to R338): their header and CRC, sending, and the check of a received one.
-/
namespace Sys2Proof.Machine

/-- A number in a message: `n` bytes, little-endian, from offset `o`. -/
def hwNat (m : List Byte) (o n : Nat) : Nat := leNat ((m.drop o).take n)

/-- The body of a message (Table 14-3). -/
def hwBody (m : List Byte) : List Byte := (m.drop 16).take (hwNat m 2 2)

/-- A Hawser message (R337). -/
def Dev.hawserMessage (d : Dev) (typ : Nat) (body : List Byte) : List Byte :=
  let m := leBytes 1 typ ++ leBytes 1 (bit01 (d.on .PWM_STAT_LEAD) + 2 * bit01 (d.on .TWIN_STAT_SIDE)) ++ leBytes 2 body.length
    ++ leBytes 8 d.tide ++ leBytes 4 (d.twin.tx.at 0 typ) ++ body
  m ++ leBytes 4 (crc32 m)

/-- A lane works (R336): the part of a paired installation can send. -/
def Dev.hawserUp (d : Dev) : Bool := !d.sys.cdReset && d.on .TWIN_STAT_INST && (d.on .TWIN_STAT_LN0 || d.on .TWIN_STAT_LN1)

/-- Sends a message: bulk and CTRL messages wait for their ACK (R336). -/
def Dev.hawserSend (d : Dev) (typ : Nat) (body : List Byte) : Dev :=
  let q := d.twin.tx.at 0 typ
  let m := d.hawserMessage typ body
  d.onTwin fun t => { t with
    tx := t.tx.set 0 typ ((q + 1) % 2 ^ 32)
    sent := t.sent.set [] typ m
    unacked := if typ = 6 ∨ 8 ≤ typ ∧ typ ≤ 10 then t.unacked ++ [(typ, q, m)] else t.unacked }

/-- A received message of TYPE `typ` is used (R336, R337): its length and CRC pass, and it is not the second copy. -/
def Dev.hawserPasses (d : Dev) (typ : Nat) (m : List Byte) : Bool :=
  let n := 16 + hwNat m 2 2
  d.on .TWIN_STAT_INST && decide (hwNat m 0 1 = typ) && decide (m.length = n + 4) && decide (hwNat m n 4 = crc32 (m.take n))
    && decide (d.twin.rx.at 0 typ ≠ hwNat m 0xC 4 + 1)

/-- Uses a received message once (R336): bulk and CTRL messages are answered with an ACK. -/
def Dev.hawserUse (d : Dev) (typ : Nat) (m : List Byte) (f : Dev → Dev) : Dev :=
  d.ctl fun x =>
    if !x.hawserPasses typ m then x
    else
      let q := hwNat m 0xC 4
      let y := x.onTwin fun t => { t with rx := t.rx.set 0 typ (q + 1) }
      f (y.when (typ = 6 ∨ 8 ≤ typ ∧ typ ≤ 10) fun z => z.hawserSend 0xB (leBytes 1 typ ++ leBytes 3 0 ++ leBytes 4 q))

end Sys2Proof.Machine
end

