-- ==== Sys2Proof/Machine/Flags.lean ====
section
/-!
DEFINITION. Machine/Flags.lean: binary32 arithmetic, integer results that saturate, and the flags of s.flags that each computation
sets (R60 to R63, R73, R77 to R81). A binary32 value is its 32 bits as a number; a computation answers its bits and its flags.
-/
namespace Sys2Proof.Machine

/-! ### The flags (Table 3-3) -/

def flagNX : Nat := 1
def flagUF : Nat := 2
def flagOF : Nat := 4
def flagDZ : Nat := 8
def flagNV : Nat := 16
def flagIDZ : Nat := 32
def flagSAT : Nat := 64
def flagLC : Nat := 128

/-- The flag when the condition holds. -/
def flagIf (c : Bool) (f : Nat) : Nat := if c then f else 0

/-! ### binary32 values -/

/-- A binary32 datum: the number (-1)^neg * m * 2^e, an infinity, or a NaN. -/
inductive Fp where
  | nan (signalling : Bool)
  | inf (neg : Bool)
  | fin (neg : Bool) (m : Nat) (e : Int)
deriving DecidableEq, Repr

/-- The datum that 32 bits spell (IEEE 754-2019). -/
def fpOf (b : Nat) : Fp :=
  let neg := bitOf b 31
  let ex := bitsOf b 30 23
  let fr := bitsOf b 22 0
  if ex = 255 then (if fr = 0 then .inf neg else .nan (!bitOf b 22))
  else if ex = 0 then .fin neg fr (-149)
  else .fin neg (fr + 2 ^ 23) ((ex : Int) - 150)

/-- The canonical quiet NaN (R61). -/
def fpNaN : Nat := 0x7FC00000

/-- The sign bit. -/
def fpSign (neg : Bool) : Nat := if neg then 2 ^ 31 else 0

def fpIsNaN (b : Nat) : Bool :=
  match fpOf b with
  | .nan _ => true
  | _ => false

def fpIsSNaN (b : Nat) : Bool :=
  match fpOf b with
  | .nan s => s
  | _ => false

/-- The magnitude m * 2^e as a whole number of units 2^q, to nearest, ties to even, and whether it was inexact. -/
def fpQuant (m : Nat) (e q : Int) : Nat × Bool :=
  if q ≤ e then (m * 2 ^ (e - q).toNat, false)
  else
    let k := (q - e).toNat
    let r := m / 2 ^ k
    let rest := m % 2 ^ k
    let half := 2 ^ (k - 1)
    (if half < rest ∨ (rest = half ∧ r % 2 = 1) then r + 1 else r, decide (rest ≠ 0))

/-- Rounds (-1)^neg * m * 2^e to binary32, to nearest, ties to even, with tininess detected after rounding (R60). -/
def fpRound (neg : Bool) (m : Nat) (e : Int) : Nat × Nat :=
  if m = 0 then (fpSign neg, 0)
  else
    let top : Int := e + (Nat.log2 m : Int)
    let q : Int := if top - 23 < -149 then -149 else top - 23
    let r := fpQuant m e q
    let bits := ((q + 149).toNat) * 2 ^ 23 + r.1
    let tiny := decide (top < -127) || (decide (top = -127) && decide ((fpQuant m e (-150)).1 < 2 ^ 24))
    if 255 * 2 ^ 23 ≤ bits then (fpSign neg + 255 * 2 ^ 23, flagOF + flagNX)
    else (fpSign neg + bits, flagIf r.2 flagNX + flagIf (r.2 && tiny) flagUF)

/-- The same bits with the sign inverted. -/
def fpNeg (b : Nat) : Nat := if bitOf b 31 then b - 2 ^ 31 else b + 2 ^ 31

/-- The same bits with the sign clear. -/
def fpAbs (b : Nat) : Nat := if bitOf b 31 then b - 2 ^ 31 else b

/-- The signed number of units 2^q of a finite datum, for q at most its exponent. -/
def fpUnits (neg : Bool) (m : Nat) (e q : Int) : Int :=
  let v : Int := (m * 2 ^ (e - q).toNat : Nat)
  if neg then -v else v

/-- a × b + c, rounded once (R61, R77). -/
def fpFma (a b c : Nat) : Nat × Nat :=
  let x := fpOf a
  let y := fpOf b
  let z := fpOf c
  let bad := match x, y with
    | .inf _, .fin _ 0 _ => true
    | .fin _ 0 _, .inf _ => true
    | _, _ => false
  if bad || fpIsNaN a || fpIsNaN b || fpIsNaN c then
    (fpNaN, flagIf (bad || fpIsSNaN a || fpIsSNaN b || fpIsSNaN c) flagNV)
  else
    let neg := bitOf a 31 != bitOf b 31
    let big := match x, y with
      | .inf _, _ => true
      | _, .inf _ => true
      | _, _ => false
    match big, x, y, z with
    | true, _, _, .inf n => if n = neg then (fpSign neg + 0x7F800000, 0) else (fpNaN, flagNV)
    | true, _, _, _ => (fpSign neg + 0x7F800000, 0)
    | false, _, _, .inf n => (fpSign n + 0x7F800000, 0)
    | false, .fin _ m1 e1, .fin _ m2 e2, .fin n3 m3 e3 =>
      let e := e1 + e2
      let m := m1 * m2
      let q := if e < e3 then e else e3
      let v := fpUnits neg m e q + fpUnits n3 m3 e3 q
      if v = 0 then (fpSign (neg && n3 && m = 0 && m3 = 0), 0)
      else fpRound (decide (v < 0)) v.natAbs q
    | _, _, _, _ => (fpNaN, 0)

/-- a + b. -/
def fpAdd (a b : Nat) : Nat × Nat := fpFma a 0x3F800000 b

/-- a - b. -/
def fpSub (a b : Nat) : Nat × Nat := fpFma a 0x3F800000 (fpNeg b)

/-- a × b. -/
def fpMul (a b : Nat) : Nat × Nat := fpFma a b 0x80000000

/-- a ÷ b. -/
def fpDiv (a b : Nat) : Nat × Nat :=
  let neg := bitOf a 31 != bitOf b 31
  match fpOf a, fpOf b with
  | .nan s, .nan t => (fpNaN, flagIf (s || t) flagNV)
  | .nan s, _ => (fpNaN, flagIf s flagNV)
  | _, .nan s => (fpNaN, flagIf s flagNV)
  | .inf _, .inf _ => (fpNaN, flagNV)
  | .inf _, _ => (fpSign neg + 0x7F800000, 0)
  | _, .inf _ => (fpSign neg, 0)
  | .fin _ m1 e1, .fin _ m2 e2 =>
    if m2 = 0 then (if m1 = 0 then (fpNaN, flagNV) else (fpSign neg + 0x7F800000, flagDZ))
    else
      let n := m1 * 2 ^ 64
      fpRound neg (2 * (n / m2) + bit01 (decide (n % m2 ≠ 0))) (e1 - e2 - 65)

/-- The integer square root of a number below 2^82, bit by bit. -/
def isqrt : Nat → Nat → Nat → Nat
  | 0, _, r => r
  | k + 1, n, r => isqrt k n (if (r + 2 ^ k) * (r + 2 ^ k) ≤ n then r + 2 ^ k else r)

/-- √a. -/
def fpSqrt (a : Nat) : Nat × Nat :=
  match fpOf a with
  | .nan s => (fpNaN, flagIf s flagNV)
  | .inf false => (a, 0)
  | .inf true => (fpNaN, flagNV)
  | .fin neg m e =>
    if m = 0 then (a, 0)
    else if neg then (fpNaN, flagNV)
    else
      let k : Nat := if e % 2 = 0 then 56 else 57
      let n := m * 2 ^ k
      let r := isqrt 41 n 0
      let x := fpRound false (2 * r + bit01 (decide (r * r ≠ n))) ((e - (k : Int)) / 2 - 1)
      (x.1, x.2)

/-- The numeric order of two data: `none` when either is a NaN; -0 equals +0. -/
def fpCmp (a b : Nat) : Option Ordering :=
  match fpOf a, fpOf b with
  | .nan _, _ => none
  | _, .nan _ => none
  | .inf s, .inf t => some (if s = t then .eq else if s then .lt else .gt)
  | .inf s, _ => some (if s then .lt else .gt)
  | _, .inf t => some (if t then .gt else .lt)
  | .fin n1 m1 e1, .fin n2 m2 e2 =>
    let q := if e1 < e2 then e1 else e2
    some (compare (fpUnits n1 m1 e1 q) (fpUnits n2 m2 e2 q))

def fpLt (a b : Nat) : Bool := decide (fpCmp a b = some .lt)
def fpEq (a b : Nat) : Bool := decide (fpCmp a b = some .eq)
def fpLe (a b : Nat) : Bool := fpLt a b || fpEq a b

/-- NV when a signalling NaN is among the operands. -/
def fpSNaNFlag (a b : Nat) : Nat := flagIf (fpIsSNaN a || fpIsSNaN b) flagNV

/-- minimumNumber (R77): a NaN loses, -0 orders below +0. -/
def fpMin (a b : Nat) : Nat × Nat :=
  let r :=
    if fpIsNaN a && fpIsNaN b then fpNaN
    else if fpIsNaN a then b
    else if fpIsNaN b then a
    else if fpLt b a || (fpEq a b && bitOf b 31) then b else a
  (r, fpSNaNFlag a b)

/-- maximumNumber (R77). -/
def fpMax (a b : Nat) : Nat × Nat :=
  let r :=
    if fpIsNaN a && fpIsNaN b then fpNaN
    else if fpIsNaN a then b
    else if fpIsNaN b then a
    else if fpLt a b || (fpEq a b && bitOf a 31) then b else a
  (r, fpSNaNFlag a b)

/-- A value as an operation delivers it: every NaN is the canonical one (R61). -/
def fpCanon (b : Nat) : Nat := if fpIsNaN b then fpNaN else b

/-- fclamp (R61, R78): a NaN argument gives the lower limit; a NaN limit leaves its side unlimited, a signalling one sets NV. -/
def fpClamp (x lo hi : Nat) : Nat × Nat :=
  if fpIsNaN x then (fpCanon lo, flagNV)
  else (if fpLt hi x then hi else if fpLt x lo then lo else x, fpSNaNFlag lo hi)

/-- minsel (R78): the operands and the result hold a value in bits 31:0 and a tag in bits 63:32. -/
def fpMinsel (a b : Nat) : Nat × Nat :=
  let va := a % 2 ^ 32
  let vb := b % 2 ^ 32
  let f := fpSNaNFlag va vb
  if fpIsNaN va && fpIsNaN vb then (0xFFFFFFFF * 2 ^ 32 + fpNaN, flagNV)
  else if fpIsNaN vb then (a, f)
  else if fpIsNaN va then (b, f)
  else if fpLt vb va then (b, f) else (a, f)

/-- Signed 64-bit integer to binary32. -/
def fpOfInt (x : Int) : Nat × Nat := fpRound (decide (x < 0)) x.natAbs 0

/-- binary32 to a signed 64-bit integer, as 64 bits: toward zero, or to nearest, ties to even. -/
def fpToInt (nearest : Bool) (a : Nat) : Nat × Nat :=
  let out (v : Int) (inexact : Bool) : Nat × Nat :=
    if v < -(2 ^ 63) then (2 ^ 63, flagNV)
    else if 2 ^ 63 ≤ v then (2 ^ 63 - 1, flagNV)
    else (ofSigned 64 v, flagIf inexact flagNX)
  match fpOf a with
  | .nan _ => (0, flagNV)
  | .inf neg => if neg then (2 ^ 63, flagNV) else (2 ^ 63 - 1, flagNV)
  | .fin neg m e =>
    let r :=
      if nearest then fpQuant m e 0
      else if 0 ≤ e then (m * 2 ^ e.toNat, false)
      else (m / 2 ^ (-e).toNat, decide (m % 2 ^ (-e).toNat ≠ 0))
    out (if neg then -(r.1 : Int) else (r.1 : Int)) r.2

/-! ### Numbers as exact fractions -/

/-- A finite datum as a whole number of units 2^-149. -/
def fpVal (b : Nat) : Option Int :=
  match fpOf b with
  | .fin neg m e => some (fpUnits neg m e (-149))
  | _ => none

/-! ### Sine and cosine (R81), as whole numbers of 2^-62 -/

/-- The alternating series from its term `u` of degree `n` on, `k` terms, for the angle `t`. -/
def trigSeries (t : Nat) : Nat → Nat → Nat → Int
  | 0, _, _ => 0
  | k + 1, n, u => (u : Int) - trigSeries t k (n + 2) (u * t / 2 ^ 62 * t / 2 ^ 62 / ((n + 1) * (n + 2)))

/-- Cosine and sine of r / 2^30 of a quarter turn, to within 2^-52. -/
def trigQuarter (r : Nat) : Int × Int :=
  let t := r * 7244019458077122842 / 2 ^ 30
  (trigSeries t 16 0 (2 ^ 62), trigSeries t 16 1 t)

/-- Cosine and sine of a / 2^32 of a turn, to within 2^-52. -/
def trigTurn (a : Nat) : Int × Int :=
  let q := trigQuarter (a % 2 ^ 30)
  match a / 2 ^ 30 % 4 with
  | 0 => (q.1, q.2)
  | 1 => (-q.2, q.1)
  | 2 => (-q.1, -q.2)
  | _ => (q.2, -q.1)

/-- A binary32 value lies within 2^-23 of the number `c` of 2^-62, the error of `trigTurn` taken off. -/
def trigNear (b : Nat) (c : Int) : Bool :=
  match fpVal b with
  | some v => decide ((v - c * 2 ^ 87).natAbs ≤ (2 ^ 39 - 2 ^ 10) * 2 ^ 87)
  | none => false

/-- A result of vsincos (R81): the candidate where its error is allowed, else the nearest binary32 value. -/
def trigLane (candidate : Nat) (c : Int) : Nat := if trigNear candidate c then candidate else (fpRound (decide (c < 0)) c.natAbs (-62)).1

/-! ### Integer results (R73) -/

/-- sat32: the number limited to 32 signed bits, and SAT when it was. -/
def sat32 (x : Int) : Int × Nat :=
  if x < -(2 ^ 31) then (-(2 ^ 31), flagSAT)
  else if 2 ^ 31 - 1 < x then (2 ^ 31 - 1, flagSAT)
  else (x, 0)

/-- divide (R73): quotient and remainder as 64-bit numbers, with their flags. -/
def divide (a b : Nat) (signed : Bool) : Nat × Nat × Nat :=
  if b = 0 then (0, a, flagIDZ)
  else if signed then
    if a = 2 ^ 63 ∧ b = 2 ^ 64 - 1 then (a, 0, 0)
    else
      let x := toSigned 64 a
      let y := toSigned 64 b
      (ofSigned 64 (x.tdiv y), ofSigned 64 (x.tmod y), 0)
  else (a / b, a % b, 0)

/-! ### Transforms (R80): the constants are the nearest binary32 values -/

def fpK23 : Nat := 0x3F2AAAAB
def fpK13 : Nat := 0x3EAAAAAB
def fpKR3 : Nat := 0x3F13CD3A
def fpKH3 : Nat := 0x3F5DB3D7
def fpMinusHalf : Nat := 0xBF000000

/-- Lanes of a transform's result, and the OR of the flags (R62). -/
abbrev Lanes := List Nat × Nat

def fpClarke (a b c : Nat) : Lanes :=
  let t := fpAdd b c
  let u := fpFma fpMinusHalf t.1 a
  let al := fpMul u.1 fpK23
  let w := fpSub b c
  let be := fpMul w.1 fpKR3
  let z := fpAdd a t.1
  let ga := fpMul z.1 fpK13
  ([al.1, be.1, ga.1, 0], [t.2, u.2, al.2, w.2, be.2, z.2, ga.2].foldl Nat.lor 0)

def fpIclarke (al be ga : Nat) : Lanes :=
  let h := fpFma fpMinusHalf al ga
  let x := fpAdd al ga
  let y := fpFma fpKH3 be h.1
  let z := fpFma (fpNeg fpKH3) be h.1
  ([x.1, y.1, z.1, 0], [h.2, x.2, y.2, z.2].foldl Nat.lor 0)

def fpPark (al be cs sn : Nat) : Lanes :=
  let t := fpMul be sn
  let d := fpFma al cs t.1
  let u := fpMul al sn
  let q := fpFma be cs (fpNeg u.1)
  ([al, be, d.1, q.1], [t.2, d.2, u.2, q.2].foldl Nat.lor 0)

def fpIpark (d q cs sn : Nat) : Lanes :=
  let t := fpMul q sn
  let al := fpFma d cs (fpNeg t.1)
  let u := fpMul q cs
  let be := fpFma d sn u.1
  ([al.1, be.1, 0, 0], [t.2, al.2, u.2, be.2].foldl Nat.lor 0)

/-- vminh (R79): the lowest lane value and its lane number, as the 64 bits of rd. -/
def fpVminh (l : List Nat) : Nat × Nat :=
  let anyS := l.any fpIsSNaN
  if l.all fpIsNaN then (0xFFFFFFFF * 2 ^ 32 + fpNaN, flagNV)
  else
    let step (best : Option (Nat × Nat)) (i : Nat) : Option (Nat × Nat) :=
      let v := l.getD i 0
      if fpIsNaN v then best
      else match best with
        | none => some (v, i)
        | some (w, _) => if fpLt v w then some (v, i) else best
    let r := ((List.range 4).foldl step none).getD (0, 0)
    (r.1 + 2 ^ 32 * r.2, flagIf anyS flagNV)

/-! ### Lookups (R82, R83): `rd n a` reads n bytes of data SRAM from address a -/

/-- A table value delivered as the result (R61). -/
def fpTable (y f : Nat) : Nat × Nat := (fpCanon y, Nat.lor f (flagIf (fpIsSNaN y) flagNV))

/-- lut_i. -/
def fpLutI (rd : Nat → Nat → Nat) (x base : Nat) : Nat × Nat :=
  let n := rd 2 base
  let y (j : Nat) := rd 4 (base + 16 + 4 * j)
  if n < 2 ∨ 1024 < n ∨ fpIsNaN x then (fpNaN, flagNV)
  else
    let t := fpSub x (rd 4 (base + 4))
    let u := fpMul t.1 (rd 4 (base + 8))
    let f0 := Nat.lor t.2 u.2
    let m := (fpOfInt ((n : Int) - 1)).1
    if fpIsNaN u.1 then (fpNaN, Nat.lor f0 flagNV)
    else if fpLt u.1 0 then fpTable (y 0) (Nat.lor f0 flagLC)
    else if fpLe m u.1 then fpTable (y (n - 1)) (Nat.lor f0 (flagIf (fpLt m u.1) flagLC))
    else
      let i := (fpToInt false u.1).1
      let f := fpSub u.1 (fpOfInt (i : Int)).1
      let d := fpSub (y (i + 1)) (y i)
      let r := fpFma f.1 d.1 (y i)
      (r.1, [f0, f.2, d.2, r.2].foldl Nat.lor 0)

/-- lut_b. -/
def fpLutB (rd : Nat → Nat → Nat) (x base : Nat) : Nat × Nat :=
  let n := rd 2 base
  let xs (j : Nat) := rd 4 (base + 8 + 4 * j)
  let ys (j : Nat) := rd 4 (base + 8 + 4 * n + 4 * j)
  let ss (j : Nat) := rd 4 (base + 8 + 8 * n + 4 * j)
  if n < 2 ∨ 32 < n ∨ fpIsNaN x then (fpNaN, flagNV)
  else if fpLt x (xs 0) then fpTable (ys 0) flagLC
  else if fpLe (xs (n - 1)) x then fpTable (ys (n - 1)) (flagIf (fpLt (xs (n - 1)) x) flagLC)
  else
    let i := (List.range (n - 1)).foldl (fun i j => if decide (1 ≤ j) && fpLe (xs j) x then j else i) 0
    let d := fpSub x (xs i)
    let r := fpFma d.1 (ss i) (ys i)
    (r.1, Nat.lor d.2 r.2)

end Sys2Proof.Machine
end

