-- ==== Sys2Proof/Machine/Meter.lean ====
section
/-!
DEFINITION. Machine/Meter.lean: the metering engine's arithmetic (R265 to R267, R272 to R276, R282): the metering filter from the bitstream to the
word, the channel value, line cycles, windows and steering blocks, and the quantities over them.
-/
namespace Sys2Proof.Machine

/-- Applies `f` to the metering engine's state. -/
def Dev.onMet (d : Dev) (f : Met → Met) : Dev := { d with met := f d.met }

/-! ### The configuration in force (R268, R298) -/

/-- A lk field of MTR or TALLY as the last applied LOAD left it. -/
def Dev.cfg (d : Dev) (f : Fld) (i : Nat := 0) : Nat := Store.get (f.resetValue i) (f, i) d.met.act

/-- A one-bit field of the configuration in force is 1. -/
def Dev.cfgOn (d : Dev) (f : Fld) (i : Nat := 0) : Bool := decide (d.cfg f i = 1)

/-- What ball MCLKk shows (R259, R330). -/
inductive ClockBall where
  | running | low | highZ
deriving DecidableEq, Repr

/-- The ball of MCLKk: in a paired installation a part that does not drive it holds it at high impedance. -/
def Dev.clockBall (d : Dev) (k : Nat) : ClockBall :=
  if bitOf d.met.mclkRun k && (!d.straps.twinst || bitOf d.met.mclkOwn k) then .running else if d.straps.twinst then .highZ else .low

/-- The rising edges of MCLKk since its clock started (R332), one every 2 × DIV ticks, `ticks` from now; 0 while it does not run. -/
def Dev.mclkCount (d : Dev) (k ticks : Nat) : Nat :=
  if bitOf d.met.mclkRun k then (d.met.mclkAge.at 0 k + ticks) / (2 * max 1 (d.cfg .MTR_MCLK_DIV k)) else 0

/-- The modulator clocks run on for `ticks`. -/
def Dev.clocksRun (d : Dev) (ticks : Nat) : Dev :=
  d.each 6 fun x k => x.when (bitOf x.met.mclkRun k) fun y => y.onMet fun m => { m with mclkAge := m.mclkAge.set 0 k (m.mclkAge.at 0 k + ticks) }

/-- Clock domain `k` has its clock at the ball (R260, R330): in a paired installation either part may drive it. -/
def Dev.clockRuns (d : Dev) (k : Nat) : Bool := decide (k < 6) && (if d.straps.twinst then d.cfgOn .MTR_MCLK_EN k else bitOf d.met.mclkRun k)

/-! ### The metering filter (R265) -/

/-- Five integrators in cascade, each adding what the one before it holds. -/
def integrate : List Int → Int → List Int
  | [], _ => []
  | i :: t, x => (i + x) :: integrate t (i + x)

/-- Five differences in cascade: what they hold then, and their result. -/
def comb : List Int → Int → List Int × Int
  | [], x => ([], x)
  | z :: t, x => let r := comb t (x - z); (x :: r.1, r.2)

/-- One output of stage 1 from the next bits, oldest first: a sinc5 decimator in exact integers. -/
def MeterChan.stageOne (c : MeterChan) (bits : List Bool) : MeterChan :=
  let i := bits.foldl (fun s b => integrate s (if b then 1 else -1)) c.integ
  let r := comb c.diff (i.getLastD 0)
  { c with integ := i, diff := r.1, stage := (r.2 :: c.stage).take 128 }

/-- The first `n` outputs of stage 1, of `r` bits each. -/
def MeterChan.stages (r : Nat) : Nat → List Bool → MeterChan → MeterChan
  | 0, _, c => c
  | n + 1, bits, c => (c.stageOne (bits.take r)).stages r n (bits.drop r)

/-- The sum of t(k) × cos((127 - 2k) × θ) from the last tap to the first, `c` and `p` being the cosines of the present and the previous odd multiple
of θ and `m` that of 2θ, in 2^-62. -/
def cosineSum : List Int → Int → Int → Int → Int
  | [], _, _, _ => 0
  | t :: ts, c, p, m => t * c + cosineSum ts (2 * m * c / 2 ^ 62 - p) c m

/-- π × `n` / `k` in 2^-62. -/
def partOfPi (n k : Nat) : Nat := n * 14488038916154245684 / k

/-- The gain of both stages at `f` Hz, 20,000 or less, as a fraction of the gain at 0 Hz; `far`: at 40,000 Hz less f in its place. Half taps `l`, ratio `r`. -/
def filterGain (l : List Int) (r f : Nat) (far : Bool) : Int × Int :=
  let t := partOfPi f 40000
  let c := trigSeries t 16 0 (2 ^ 62)
  let n := trigSeries t 16 1 t
  let u := partOfPi (if far then 40000 - f else f) (40000 * r)
  let d := r * trigSeries u 16 1 u
  let a := cosineSum l.reverse c c (2 * c * c / 2 ^ 62 - 2 ^ 62)
  if f = 0 then (if far then (0, 1) else (1, 1)) else (a * n ^ 5, l.sum * 2 ^ 62 * d ^ 5)

/-- The gain at `f` Hz lies within 0.001 dB of that at 0 Hz. -/
def passes (l : List Int) (r f : Nat) : Bool :=
  let g := filterGain l r f false
  decide (9998849 * g.2 ≤ 10000000 * g.1) && decide (10000000 * g.1 ≤ 10001151 * g.2)

/-- The gain at `f` Hz, or at 40,000 Hz less f, is at least 100 dB below that at 0 Hz. -/
def stops (l : List Int) (r f : Nat) (far : Bool) : Bool :=
  let g := filterGain l r f far
  decide (100000 * g.1 ≤ g.2) && decide (-g.2 ≤ 100000 * g.1)

/-- Half taps `l` give the response of Table 11-2 at each ratio of stage 1, at every 100 Hz (log entry 157): the other multiples of 40,000 Hz lie lower than
the first. -/
def firMeets (l : List Int) : Bool :=
  decide (l.length = 64) && decide (0 < l.sum) && [125, 250, 500, 625].all fun r =>
    ((List.range 31).all fun k => passes l r (100 * k) && stops l r (100 * k) true) && (List.range 151).all fun k => stops l r (5000 + 100 * k) false

/-- Half taps that meet Table 11-2. -/
def firExample : List Int :=
  [258, -26, -149, -846, -1470, -2004, -1681, -277, 2331, 5329, 7421, 6892, 2672, -5021, -13963, -20343, -19887, -9950, 8604, 30367, 46398, 47189,
    27068, -11872, -58152, -93312, -98232, -61727, 12084, 101286, 171121, 186036, 125264, -4255, -163986, -292933, -328756, -234428, -19965,
    251241, 477620, 554190, 416193, 74899, -371057, -758496, -913896, -722823, -189113, 542032, 1213132, 1533861, 1289202, 440087, -822344,
    -2096278, -2866754, -2657937, -1194861, 1478749, 4970049, 8611738, 11625930, 13331264]

/-- The first 64 of the FIR filter's 128 taps, the rest being these backwards: any that give the response of Table 11-2 (R266). -/
def firHalf : List Int :=
  let l := (List.range 64).map Config.firTap
  if firMeets l then l else firExample

/-- The taps of the FIR filter (R265): 128 of linear phase. -/
def firTaps : List Int := firHalf ++ firHalf.reverse

/-- A weighted sum of values, newest first, and the sum of the weights. -/
def weigh (w l : List Int) : Int × Int := ((List.zipWith (fun a b => a * b) w l).sum, w.sum)

/-- u of the FIR filter, with gain 1 at 0 Hz, as a fraction; `r`: the ratio of stage 1. -/
def MeterChan.firOut (c : MeterChan) (r : Nat) : Int × Int :=
  let s := weigh firTaps c.stage
  (s.1, s.2 * (r : Int) ^ 5)

/-- round(u × 2^23), before saturation; `up` decides an exact half, which the manual leaves open. -/
def firWord (u : Int × Int) (up : Bool) : Int :=
  let n := 2 * u.1 * 2 ^ 23 + u.2
  let q := n / (2 * u.2)
  if n % (2 * u.2) = 0 ∧ !up then q - 1 else q

/-! ### The channel value (R267) -/

/-- The delay of 50,000 ns + CHD + D(T) in 2^-32 of a sample. -/
def Comp.delay (k : Comp) : Int := (50000 * 2 ^ 149 * (k.dd : Int) + k.dn) * 2 ^ 32 / (125000 * 2 ^ 149 * (k.dd : Int))

/-- The delay error of 32 taps at `f` Hz is at most `ns` nanoseconds; the taps delay by `x` / 2^32 of a sample beyond the 15 that they need
(log entry 157). -/
def delayWithin (w : List Int) (x : Int) (f ns : Nat) : Bool :=
  let s := (List.range 32).foldl (fun (a : Int × Int) i =>
    let z := trigTurn (((f : Int) * (((i : Int) - 15) * 2 ^ 32 - x) / 8000) % 2 ^ 32).toNat
    (a.1 + w.getD i 0 * z.1, a.2 + w.getD i 0 * z.2)) (0, 0)
  decide (0 < s.1) && decide (s.2.natAbs * 10 ^ 9 ≤ s.1.natAbs * partOfPi (2 * f * ns) 1 / 2 ^ 62)

/-- 32 taps keep the error bounds of R267. -/
def delayMeets (w : List Int) (x : Int) : Bool :=
  [45, 50, 55, 60, 65].all (fun f => delayWithin w x f 1) && delayWithin w x 3000 10

/-- 32 taps that do: a sinc of delay `x`, windowed by (1 - (t / 17)²)^6. -/
def delayExample (x : Int) : List Int :=
  (List.range 32).map fun (i : Nat) =>
    let u := ((i : Int) - 15) * 2 ^ 32 - x
    let w := (2 ^ 64 - u * u / 289) / 2 ^ 32
    if x % 2 ^ 32 = 0 then (if u = 0 then 1 else 0) else (if i % 2 = 0 then 1 else -1) * (w ^ 6 / 2 ^ 120 / u)

/-- The taps of the fractional-delay filter under compensation `k`: any within the error bounds of R267. -/
def delayTaps (k : Comp) : List Int :=
  let w := (List.range 32).map fun i => Config.delayTap i k.dn k.dd
  if delayMeets w k.delay then w else delayExample k.delay

/-- The numerator of the value of a channel whose words are `l`, newest first, under compensation `k` (R267). -/
def delayed (k : Comp) (l : List Int) : Int := (weigh (delayTaps k) l).1

/-- A finite datum as a number of units 2^-149; 0 for any other. -/
def units (b : Nat) : Int := (fpVal b).getD 0

/-- Volts or amperes for each unit of that numerator, as a fraction (R267): CHK × CHG × G(T) ÷ 2^23 ÷ the weight of the delay filter. -/
def Dev.chanScale (d : Dev) (c : Nat) (k : Comp) : Int × Nat :=
  let w := (delayTaps k).sum
  let s : Int := if w < 0 then -1 else 1
  (s * units (d.cfg .MTR_CHK c) * units (d.cfg .MTR_CHG c) * k.gn, 2 ^ 470 * k.gd * w.natAbs)

/-- Channel `c`. -/
def Dev.chan (d : Dev) (c : Nat) : MeterChan := d.met.chans.at {} c

/-- Sets channel `c`. -/
def Dev.setChan (d : Dev) (c : Nat) (x : MeterChan) : Dev := d.onMet fun m => { m with chans := m.chans.set {} c x }

/-- Metering point `m`. -/
def Dev.point (d : Dev) (m : Nat) : MeterPoint := d.met.points.at {} m

/-- Sets metering point `m`. -/
def Dev.setPoint (d : Dev) (m : Nat) (x : MeterPoint) : Dev := d.onMet fun t => { t with points := t.points.set {} m x }

/-- Point `m` starts anew, with no sample of its windows and blocks (R268). -/
def Dev.pointRestart (d : Dev) (m : Nat) : Dev :=
  (d.setPoint m {}).each 7 fun x k =>
    let c := x.chan (7 * m + k)
    x.setChan (7 * m + k) { c with vals := [], quad := [], count := 0 }

/-- The compensations of the seven channels of point `m`. -/
def Dev.pointComps (d : Dev) (m : Nat) : List Comp := (List.range 7).map fun k => d.met.comp.at {} (7 * m + k)

/-! ### Line cycles, blocks and windows (R272 to R274, R282) -/

/-- The nominal period of point `m` in samples, and the line cycles of a window. -/
def Dev.cyclesOf (d : Dev) (m : Nat) : Nat := if d.cfgOn .MTR_MPCFG_FNOM m then 12 else 10

/-- Three nominal periods in samples: 60 ms at 50 Hz, 50 ms at 60 Hz. -/
def Dev.threePeriods (d : Dev) (m : Nat) : Nat := if d.cfgOn .MTR_MPCFG_FNOM m then 400 else 480

/-- The channels of point `m` take new compensations (R271). -/
def Dev.compsTo (d : Dev) (m : Nat) (next : List Comp) : Dev :=
  d.onMet fun t => { t with comp := (List.range 7).foldl (fun cs k => cs.set {} (7 * m + k) (next.getD k {})) t.comp }

/-- A block of point `m` ends before sample `n`. -/
def Dev.blockEnds (d : Dev) (m n : Nat) : Dev :=
  let p := d.point m
  d.setPoint m { p with blocks := p.blocks ++ [(n, d.pointComps m, d.onAt .MTR_MPSTAT_ZCTO m)] }

/-- The window in progress ends before sample `n`: what it has met goes with it, and the compensation of the next one applies (R271, R274). `last`: the
instant of its last crossing; a fixed block has no cycles. -/
def Dev.windowEnds (d : Dev) (m n last cycles : Nat) (next : List Comp) : Dev :=
  let p := d.point m
  let w : WindowEnd := {
    start := p.start, upto := n, first := p.first, last := last, cycles := cycles, comps := d.pointComps m
    wide := p.wide, loss := d.met.lossW.at false m, clip := d.met.clipW.at false m, tstale := d.met.tstaleW.at false m, isFirst := d.met.firstW.at false m }
  let still := (List.range 7).any fun k =>
    let i := d.cfg .MTR_CHSEL_SD (7 * m + k)
    d.cfgOn .MTR_CHSEL_EN (7 * m + k) && if i < 32 then d.bit .MTR_SDLOSS0 i else d.bit .MTR_SDLOSS1 (i - 32)
  ((d.setPoint m { p with wins := p.wins ++ [w], start := n, first := last, cycles := 0, wide := false }).onMet fun t => { t with
    lossW := t.lossW.set false m still
    clipW := t.clipW.set false m false
    tstaleW := t.tstaleW.set false m (d.onAt .MTR_MPSTAT_TSTALE m)
    firstW := t.firstW.set false m false }).compsTo m next

/-- A crossing of point `m` at the instant `t`, in 1/256 of a sample, opens sample `n` (R272 to R274). -/
def Dev.crossing (d : Dev) (m n t : Nat) (next : List Comp) : Dev :=
  let p := d.point m
  let len := t - p.last.getD t
  if d.onAt .MTR_MPSTAT_ZCTO m then
    let good := if p.last.isSome ∧ 8000 * 256 ≤ 70 * len ∧ 40 * len ≤ 8000 * 256 then p.good + 1 else 0
    let x := d.setPoint m { p with last := some t, good := good }
    if 2 ≤ good then ((x.blockEnds m n).windowEnds m n t 0 next).flagAt .MTR_MPSTAT_ZCTO m false else x
  else
    let x := (d.blockEnds m n)
    let q := x.point m
    if !q.begun then (x.setPoint m { q with last := some t, begun := true, start := n, first := t, cycles := 0 }).compsTo m next
    else if q.cycles + 1 = d.cyclesOf m then (x.setPoint m { q with last := some t }).windowEnds m n t (q.cycles + 1) next
    else x.setPoint m { q with last := some t, cycles := q.cycles + 1 }

/-- Sample `n` of the crossing source of point `m`, numerator `y` after `prev`, of scale `s` (R272, R273): a crossing is the first sample at or above 0 after
one below -ZCHYS; its instant is interpolated to 1/256 of a sample, rounded down or up. While ZCTO = 1 blocks are 160 samples and windows 1,600. -/
def Dev.crossingSample (d : Dev) (m n : Nat) (prev y : Int) (s : Int × Nat) (next : List Comp) : Dev :=
  let a := prev * s.1
  let b := y * s.1
  let h := units (d.cfg .MTR_MPVNOM m) * (d.cfg .MTR_MPCFG_ZCHYS m : Nat) * (s.2 : Int)
  let low := decide (b < 0) && decide (2 * h * h < (b * 1000 * 2 ^ 149) * (b * 1000 * 2 ^ 149))
  let p := d.point m
  if p.armed && decide (0 ≤ b) then
    let k := (256 * -a) / (b - a)
    let up := d.draw 2
    let t := 256 * (n - 1) + k.toNat + (if (256 * -a) % (b - a) = 0 then 0 else up.1)
    (up.2.setPoint m { p with armed := false }).crossing m n t next
  else
    let x := d.setPoint m { p with armed := p.armed || low }
    if d.onAt .MTR_MPSTAT_ZCTO m ∧ p.timeout < n ∧ (n - p.timeout) % 160 = 0 then
      let y := x.blockEnds m n
      if (n - p.timeout) % 1600 = 0 then y.windowEnds m n (256 * n) 0 next else y
    else x

/-- No crossing has come for three nominal periods (R273). -/
def Dev.crossingLate (d : Dev) (m : Nat) : Bool :=
  let n := (d.chan (7 * m + d.cfg .MTR_MPCFG_ZCSRC m)).count
  decide ((d.point m).last.getD 0 + 256 * d.threePeriods m ≤ 256 * n)

/-- The timeout of point `m` at its present sample: the window in progress ends and counts as a block; blocks and windows are fixed from here (R273,
Table 11-6). -/
def Dev.crossingTimeout (d : Dev) (m : Nat) (next : List Comp) : Dev :=
  let n := (d.chan (7 * m + d.cfg .MTR_MPCFG_ZCSRC m)).count
  let x := d.blockEnds m n
  let p := x.point m
  let y := if p.begun then x.windowEnds m n (256 * n) 0 next
    else (x.setPoint m { p with begun := true, start := n, first := 256 * n, cycles := 0 }).compsTo m next
  let q := y.point m
  y.setPoint m { q with timeout := n, good := 0 }

/-! ### Sums over samples (R275, R282) -/

/-- Entries `a` to `b` - 1 of a list that is newest first and ends with entry `count` - 1. -/
def span (l : List Int) (count a b : Nat) : List Int := (l.drop (count - b)).take (b - a)

/-- The values of channel `c` over samples `a` to `b` - 1. -/
def Dev.valuesOf (d : Dev) (c a b : Nat) : List Int := span (d.chan c).vals (d.chan c).count a b

/-- The values vh of voltage channel `c`. -/
def Dev.quadsOf (d : Dev) (c a b : Nat) : List Int := span (d.chan c).quad (d.chan c).count a b

/-- The sum of the products of two lists. -/
def dot (x y : List Int) : Int := (List.zipWith (fun a b => a * b) x y).foldl (fun s v => s + v) 0

/-- Samples of point `m` that all seven channels have. -/
def Dev.pointCount (d : Dev) (m : Nat) : Nat := (List.range 7).foldl (fun n k => min n (d.chan (7 * m + k)).count) (d.chan (7 * m)).count

/-- The energies of phase `x` of point `m` over samples `a` to `b` - 1, in 2^-32 LSB (R281, R282): the sums times 125 µs, each brought to a whole number by
rounding down or up, which the manual leaves open. -/
def Dev.phaseEnergy (d : Dev) (m x a b : Nat) (comps : List Comp) : BlockEnergy × Dev :=
  let v := d.valuesOf (7 * m + x) a b
  let h := d.quadsOf (7 * m + x) a b
  let i := d.valuesOf (7 * m + 3 + x) a b
  let sv := d.chanScale (7 * m + x) (comps.getD x {})
  let si := d.chanScale (7 * m + 3 + x) (comps.getD (3 + x) {})
  let num : Int := sv.1 * si.1 * 5 * 2 ^ 32
  let den : Int := (144 * sv.2 * si.2 : Nat)
  let whole := fun (n : Int) (u : Nat) => n / den + (if n % den = 0 then 0 else (u : Int))
  let u1 := d.draw 2
  let u2 := u1.2.draw 2
  let u3 := u2.2.draw 2
  let sq := (dot v v * dot i i).natAbs * num.natAbs * num.natAbs
  let root := isqrt (Nat.log2 sq / 2 + 1) sq 0
  ({ ep := whole (dot v i * num) u1.1, eq := whole (dot h i * num) u2.1, es := root / den.natAbs + u3.1 }, u3.2)

/-- The energies of the three phases of point `m` over samples `a` to `b` - 1. -/
def Dev.blockEnergy (d : Dev) (m a b : Nat) (comps : List Comp) : List BlockEnergy × Dev :=
  (List.range 3).foldl (fun r x => let e := r.2.phaseEnergy m x a b comps; (r.1 ++ [e.1], e.2)) ([], d)

/-- Samples that no window or block of point `m` needs any more are let go. -/
def Dev.trim (d : Dev) (m : Nat) : Dev :=
  let p := d.point m
  let keep := match p.wins with
    | w :: _ => min w.start p.blockAt
    | [] => if p.begun then min p.start p.blockAt else p.blockAt
  d.each 7 fun x k =>
    let c := x.chan (7 * m + k)
    x.setChan (7 * m + k) { c with vals := c.vals.take (max 128 (c.count - keep)), quad := c.quad.take (max 128 (c.count - keep)) }

/-! ### The quantities of a window (R275, R276) -/

/-- The nearest binary32 to n / k. -/
def fpOfRatio (n : Int) (k : Nat) : Nat :=
  let m := n.natAbs * 2 ^ (Nat.log2 k + 64)
  (fpRound (decide (n < 0)) (2 * (m / k) + bit01 (decide (m % k ≠ 0))) (-((Nat.log2 k + 65 : Nat) : Int))).1

/-- The nearest binary32 to the square root of n / k. -/
def fpOfRoot (n k : Nat) : Nat :=
  let e := 2 * (Nat.log2 k / 2 + 64)
  let m := n * 2 ^ e / k
  let r := isqrt (Nat.log2 m / 2 + 1) m 0
  (fpRound false (2 * r + bit01 (decide (r * r * k ≠ n * 2 ^ e))) (-((e / 2 + 1 : Nat) : Int))).1

/-- A datum within `tol` millionths of n / k. -/
def fpNear (tol : Nat) (n : Int) (k : Nat) (b : Nat) : Bool :=
  match fpVal b with
  | some u => decide (1000000 * (u * k - n * 2 ^ 149).natAbs ≤ tol * (n * 2 ^ 149).natAbs)
  | none => false

/-- A non-negative datum within `tol` millionths of the square root of n / k. -/
def fpNearRoot (tol n k : Nat) (b : Nat) : Bool :=
  match fpVal b with
  | some u =>
    let s := u.natAbs * u.natAbs * k * 10 ^ 12
    decide (0 ≤ u) && decide ((1000000 - tol) * (1000000 - tol) * n * 2 ^ 298 ≤ s) && decide (s ≤ (1000000 + tol) * (1000000 + tol) * n * 2 ^ 298)
  | none => false

/-- The result of a quantity (R276): any datum within the device's error of it, which is free; where no error is stated for it, the nearest one. -/
def Dev.measured (d : Dev) (ok : Nat → Bool) (nearest : Nat) : Nat × Dev :=
  let r := d.draw (2 ^ 32)
  (if ok r.1 then r.1 else nearest, r.2)

/-- The mean square of channel `c` over a window, in V² or A², as a fraction. -/
def Dev.meanSquare (d : Dev) (c : Nat) (w : WindowEnd) : Nat × Nat :=
  let l := d.valuesOf c w.start w.upto
  let s := d.chanScale c (w.comps.getD (c % 7) {})
  ((dot l l * s.1 * s.1).natAbs, s.2 * s.2 * (w.upto - w.start))

/-- The mean of the product of voltage values `l` and the current of channel `c`, in W or var, as a fraction. -/
def Dev.meanProduct (d : Dev) (v c : Nat) (l : List Int) (w : WindowEnd) : Int × Nat :=
  let sv := d.chanScale v (w.comps.getD (v % 7) {})
  let si := d.chanScale c (w.comps.getD (c % 7) {})
  (dot l (d.valuesOf c w.start w.upto) * sv.1 * si.1, sv.2 * si.2 * (w.upto - w.start))

/-- a/b ≤ (x/y) × (u × 2^-149)², the square of a fraction of a binary32 value. -/
def leSquare (a b : Nat) (x y : Nat) (u : Int) : Bool := decide (a * y * y * 2 ^ 298 ≤ x * x * (u * u).natAbs * b)

/-- (x/y)² × (u × 2^-149)² ≤ a/b. -/
def geSquare (a b : Nat) (x y : Nat) (u : Int) : Bool := decide (x * x * (u * u).natAbs * b ≤ a * y * y * 2 ^ 298)

/-- The frequency of a window lies between `lo` and `hi` Hz. -/
def WindowEnd.within (w : WindowEnd) (lo hi : Nat) : Bool :=
  decide (lo * (w.last - w.first) ≤ w.cycles * 2048000) && decide (w.cycles * 2048000 ≤ hi * (w.last - w.first))

/-- The conditions of R276 that hold of phase `x` of point `m` over a window, but for those of one quantity: samples within 0.8 of full scale, the voltage
80 % to 115 % of nominal, 45 Hz to 65 Hz, the current 1 % to 120 % of nominal, the temperatures within the tables. -/
def Dev.accurate (d : Dev) (m x : Nat) (w : WindowEnd) : Bool :=
  let v := d.meanSquare (7 * m + x) w
  let i := d.meanSquare (7 * m + 3 + x) w
  let vn := units (d.cfg .MTR_MPVNOM m)
  let an := units (d.cfg .MTR_MPINOM m)
  !w.wide && w.within 45 65 && geSquare v.1 v.2 80 100 vn && leSquare v.1 v.2 115 100 vn && geSquare i.1 i.2 1 100 an && leSquare i.1 i.2 120 100 an
    && (List.range 7).all fun k => !d.onAt .MTR_CHST_TRANGE (7 * m + k)

/-- The error of a power, in millionths, by the part |P| ÷ S of it (Table 11-5): `one` at 1 and `half` from 0.5 on; none below (log entry 158). -/
def powerError (one half : Nat) (p s : Nat) : Option Nat :=
  match fpVal p, fpVal s with
  | some u, some v =>
    if 9995 * v.natAbs ≤ 10000 * u.natAbs then some one else if v.natAbs ≤ 2 * u.natAbs then some half else none
  | _, _ => none

/-- The RMS value of channel `c` over a window (R275): within 0.01 % from 10 % to 120 % of the nominal value `nom`. -/
def Dev.rmsOf (d : Dev) (c x : Nat) (nom : Int) (w : WindowEnd) : Nat × Dev :=
  let s := d.meanSquare c w
  let r := fpOfRoot s.1 s.2
  if d.accurate (c / 7) x w && geSquare s.1 s.2 10 100 nom && leSquare s.1 s.2 120 100 nom then d.measured (fpNearRoot 100 s.1 s.2) r else (r, d)

/-- A power of phase `x` of point `m` over a window from the values `l` of its voltage; `s` is the apparent power. -/
def Dev.powerOf (d : Dev) (m x : Nat) (l : List Int) (one half s : Nat) (w : WindowEnd) : Nat × Dev :=
  let p := d.meanProduct (7 * m + x) (7 * m + 3 + x) l w
  let r := fpOfRatio p.1 p.2
  match d.accurate m x w, powerError one half r s with
  | true, some tol => d.measured (fpNear tol p.1 p.2) r
  | _, _ => (r, d)

/-! ### Angles (R275): the fundamental by one-bin DFT, in whole numbers of 2^-62 -/

/-- The phasor of a list, newest first, at `cycles` in `span` / 256 samples, with the newest as origin of the phase: real and imaginary part. -/
def phasor (cycles span : Nat) (l : List Int) : Int × Int :=
  let t := if span = 0 then 0 else 2 * 14488038916154245684 * cycles * 256 / span
  let c := trigSeries t 16 0 (2 ^ 62)
  let s := trigSeries t 16 1 t
  let r := l.foldl (fun (a : (Int × Int) × Int × Int) y =>
    let z := a.2
    ((a.1.1 + y * z.1, a.1.2 + y * z.2), ((z.1 * c - z.2 * s) / 2 ^ 62, (z.1 * s + z.2 * c) / 2 ^ 62))) ((0, 0), (2 ^ 62, 0))
  r.1

/-- The cosine and sine of `k` hundredths of a degree. -/
def centiTrig (k : Nat) : Int × Int :=
  let t := k * 14488038916154245684 / 18000
  let q := fun (u : Nat) => (trigSeries u 20 0 (2 ^ 62), trigSeries u 20 1 u)
  if k ≤ 9000 then q t
  else let r := q ((18000 - k) * 14488038916154245684 / 18000); (-r.1, r.2)

/-- The least `k` from `lo` on, by halving an interval of `2 ^ n` hundredths of a degree, whose angle plus half a hundredth is not before that of (x, y),
y ≥ 0. -/
def angleSearch (x y : Int) : Nat → Nat → Nat
  | 0, lo => lo
  | n + 1, lo =>
    let mid := lo + 2 ^ n
    let a := centiTrig (min 18000 mid)
    let b := centiTrig (min 18000 (mid - 1))
    -- the angle of (x, y) lies past the middle between mid - 1 and mid
    if 0 < y * (a.1 + b.1) - x * (a.2 + b.2) ∧ mid ≤ 18000 then angleSearch x y n mid else angleSearch x y n lo

/-- The angle of (x, y) in 0.01°, to nearest, from -18,000 to 17,999. -/
def angleOf (x y : Int) : Int :=
  let k : Int := (angleSearch x (if y < 0 then -y else y) 15 0 : Nat)
  let r := if y < 0 then -k else k
  if 18000 ≤ r then r - 36000 else r

/-- The angle of phasor `a` ahead of phasor `b`. -/
def angleBetween (a b : Int × Int) : Int := angleOf (a.1 * b.1 + a.2 * b.2) (a.2 * b.1 - a.1 * b.2)

/-- The magnitude of a phasor over `n` values of scale `s` is at least 1 % of the nominal RMS value `nom`. -/
def phasorOk (a : Int × Int) (n : Nat) (s : Int × Nat) (nom : Int) : Bool :=
  decide (nom * nom * (n * n * s.2 * s.2 * 2 ^ 124 : Nat) ≤ 20000 * (a.1 * a.1 + a.2 * a.2) * s.1 * s.1 * 2 ^ 298)

end Sys2Proof.Machine
end

