-- ==== Sys2Proof/Machine/Custody.lean ====
section
/-!
DEFINITION. Machine/Custody.lean: the Tally, its commits, and the Manifest (R280 to R303).
-/
namespace Sys2Proof.Machine

/-- Applies `f` to the custody state. -/
def Dev.onCus (d : Dev) (f : Custody → Custody) : Dev := { d with cus := f d.cus }

/-! ### The configuration in force (R268, R298) -/

/-- The field is lk and belongs to MTR or TALLY. -/
def Fld.metering (f : Fld) : Bool :=
  (f.blk == .MTR || f.blk == .TALLY) && match f.row with
    | some r => r.acc == .lk
    | none => false

/-- The lk fields of MTR and TALLY as the registers hold them. -/
def Dev.lockFields (d : Dev) : Store (Fld × Nat) Nat := d.regs.filter fun e => e.1.1.metering

/-- The words of the lk registers of a block by address, from the configuration in force. -/
def Dev.lockWords (d : Dev) (b : Blk) : Store Nat Nat :=
  (b.rows.filter fun r => r.acc == .lk).foldl (fun t r =>
    (List.range (r.count * r.count2)).foldl (fun t k =>
      let a := r.off + r.stride * (k / r.count2) + r.stride2 * (k % r.count2)
      Store.insert natLt a (Store.at t 0 a + d.cfg r.fld k * 2 ^ r.lsb) t) t) []

/-- The configuration digest (R298). -/
def Dev.configDigest (d : Dev) : List Byte :=
  shake256 32 (((d.lockWords .MTR ++ d.lockWords .TALLY).map fun e => leBytes 4 e.2).flatten)

/-! ### Intervals (R283, R292, R294) -/

/-- The calendar in microseconds (R411). -/
def Dev.now (d : Dev) : Nat := d.fm.cal

/-- The interval length of an IMIN code, in minutes. -/
def iminMinutes (c : Nat) : Nat :=
  match c with
  | 0 => 1
  | 1 => 5
  | 2 => 10
  | 3 => 15
  | 4 => 30
  | _ => 60

/-- Sets bit `b` of point `m`'s QFLAGS in the open interval: 0 BLK, 1 LOSS, 2 CLIP, 3 TSTALE, 4 PARTIAL, 5 GAP, 6 UNSEAL, 7 STEP. -/
def Dev.ivFlag (d : Dev) (m b : Nat) : Dev :=
  d.onCus fun c => { c with iv := c.iv.map fun v => { v with qflags := setBit v.qflags (8 * m + b) true } }

/-- Sets a QFLAGS bit for every point. -/
def Dev.ivFlagAll (d : Dev) (b : Nat) : Dev := d.each 4 fun x m => x.ivFlag m b

/-- Pulse input `j` had OVR or BADQ in the interval. -/
def Dev.ivPulse (d : Dev) (j : Nat) : Dev :=
  d.onCus fun c => { c with iv := c.iv.map fun v => { v with uflags := setBit v.uflags j true } }

/-- A new interval that starts at `start` (R292); unsealed ones carry UNSEAL. -/
def Dev.openInterval (d : Dev) (start : Nat) : Dev :=
  let code := d.cfg .TALLY_CFG_IMIN
  let len := iminMinutes code * 60000000
  let d1 := d.onCus fun c => { c with iv := some { start := start, nominal := (start / len + 1) * len, imin := code } }
  if d.cus.isSealed then d1 else d1.ivFlagAll 6

/-- Tally register `n`'s 96-bit value, provisional. -/
def Dev.tlValue (d : Dev) (n : Nat) : Nat := d.cus.tl.at 0 n / 2 ^ 32

/-- The registers that INTERVAL records carry: bit n for TLn (R294). -/
def Dev.selMask (d : Dev) : Nat := (List.range 5).foldl (fun a k => a + d.cfg .TALLY_SEL k * 2 ^ (32 * k)) 0

/-- What the record of an interval carries, closed at `close` (R294). -/
def Dev.closedOf (d : Dev) (v : Interval) (close : Nat) : Closed :=
  let mask := d.selMask
  { start := v.start, close := close, imin := iminMinutes v.imin, qflags := v.qflags, uflags := v.uflags, rev := v.rev
    mask := mask, values := ((List.range 160).filter fun n => bitOf mask n).map d.tlValue, time := d.now
    isSealed := d.cus.isSealed }

/-! ### Steering (R280 to R283) -/

/-- Adds to a Tally register, in units of 2^-32 LSB (R280, R281). -/
def Dev.tlAdd (d : Dev) (n a : Nat) : Dev := d.onCus fun c => { c with tl := c.tl.set 0 n ((c.tl.at 0 n + a) % 2 ^ 128) }

/-- One phase's energies are steered (R282). -/
def Dev.steerPhase (d : Dev) (base : Nat) (e : BlockEnergy) : Dev :=
  if 0 ≤ e.ep then
    let d1 := (d.tlAdd base e.ep.toNat).tlAdd (base + 6) e.es
    if 0 ≤ e.eq then d1.tlAdd (base + 2) e.eq.toNat else d1.tlAdd (base + 5) (-e.eq).toNat
  else
    let d1 := (d.tlAdd (base + 1) (-e.ep).toNat).tlAdd (base + 7) e.es
    if 0 ≤ e.eq then d1.tlAdd (base + 3) e.eq.toNat else d1.tlAdd (base + 4) (-e.eq).toNat

/-- The sums over the three phases. -/
def totalEnergy (l : List BlockEnergy) : BlockEnergy :=
  (l.take 3).foldl (fun a e => { ep := a.ep + e.ep, eq := a.eq + e.eq, es := a.es + e.es }) {}

/-- The reversal count of point `m` follows the sign of the block's total (R283). -/
def Dev.countReversal (d : Dev) (m : Nat) (ep : Int) : Dev :=
  if ep = 0 then d
  else
    let s : Int := if 0 < ep then 1 else -1
    let old := d.cus.signs.getD m 0
    let d1 := d.onCus fun c => { c with signs := c.signs.set m s }
    if old ≠ 0 ∧ old ≠ s then
      d1.onCus fun c => { c with iv := c.iv.map fun v => { v with rev := v.rev.set m (satAdd 65535 (v.rev.getD m 0) 1) } }
    else d1

/-- A steering block of point `m` ends (R282, R283); a 20 ms block (`fixed`) sets BLK. -/
def Dev.steer (d : Dev) (m : Nat) (l : List BlockEnergy) (fixed : Bool) : Dev :=
  let t := totalEnergy l
  let d1 := d.each 3 fun x p => x.steerPhase (32 * m + 8 * p) (l.getD p {})
  let d2 := (d1.steerPhase (32 * m + 24) t).countReversal m t.ep
  d2.when fixed fun x => x.ivFlag m 0

/-- Energies and pulses are counted: metering has started and is not frozen. -/
def Dev.counting (d : Dev) : Bool := d.cus.started && !d.cus.frozen

/-- The interval closes now, a commit falls due (R287, R292), and the next interval opens; the first close of a day makes an anchor due (R295). -/
def Dev.intervalClose (d : Dev) : Dev :=
  match d.cus.iv with
  | none => d
  | some v =>
    if !d.counting || decide (d.now < v.nominal) then d
    else
      let day := d.now / 86400000000
      let first := decide (d.cus.anchorDay < day + 1)
      let d1 := d.onCus fun c => { c with
        closing := c.closing ++ [d.closedOf v d.now], due := true
        anchorDay := if first then day + 1 else c.anchorDay
        anchorDue := if first then some day else c.anchorDue
        anchorReady := if first then false else c.anchorReady }
      d1.openInterval d.now

/-- The lowest-numbered enabled metering point (R292). -/
def Dev.firstPoint (d : Dev) : Option Nat := (List.range 4).find? fun m => d.cfgOn .MTR_MPCFG_EN m

/-- After a steering block of point `m`: the interval whose nominal end has passed closes with a block of the lowest-numbered enabled point (R292). -/
def Dev.blockClosed (d : Dev) (m : Nat) : Dev := d.when (decide (d.firstPoint = some m)) Dev.intervalClose

/-- The oldest steering block of point `m` that has ended is steered (R282), once every channel has its samples. -/
def Dev.steerBlock (d : Dev) (m : Nat) : Dev :=
  let p := d.point m
  match p.blocks with
  | [] => d
  | (n, comps, fixed) :: t =>
    if d.pointCount m < n then d
    else
      let e := d.blockEnergy m p.blockAt n comps
      (((e.2.setPoint m { p with blocks := t, blockAt := n }).steer m e.1 fixed).trim m).blockClosed m

/-- STEERING_BLOCK_END (R282). -/
def execSteeringBlockEnd (m : Fin 4) (s : State) : Host.Outcome State Fault Refusal :=
  s.upd fun d => if d.counting && d.cfgOn .MTR_MPCFG_EN m.val then d.steerBlock m.val else d

/-- Steers `n` blocks of point `m`. -/
def Dev.steerBlocks (m : Nat) : Nat → Dev → Dev
  | 0, d => d
  | n + 1, d => (d.steerBlock m).steerBlocks m n

/-- Every block that has ended is steered. -/
def Dev.steerAll (d : Dev) : Dev :=
  d.each 4 fun x m => if x.counting && x.cfgOn .MTR_MPCFG_EN m then x.steerBlocks m (x.point m).blocks.length else x

/-- The partial energies of the open steering blocks, by point (R285). -/
def Dev.openBlocks (d : Dev) : List (Nat × List BlockEnergy) × Dev :=
  ((List.range 4).filter fun m => d.cfgOn .MTR_MPCFG_EN m).foldl (fun r m =>
    let e := r.2.blockEnergy m (r.2.point m).blockAt (r.2.pointCount m) (r.2.pointComps m)
    (r.1 ++ [(m, e.1)], e.2)) ([], d)

/-- The open blocks are closed and steered (Table 12-3). -/
def Dev.closeBlocks (d : Dev) : Dev :=
  let e := d.steerAll.openBlocks
  e.1.foldl (fun x b => ((x.setPoint b.1 { x.point b.1 with blockAt := x.pointCount b.1 }).steer b.1 b.2 (x.onAt .MTR_MPSTAT_ZCTO b.1)).blockClosed b.1) e.2

/-! ### Pulse inputs (R284) -/

/-- The part is in step with its twin: LEADING or TRAILING (Table 14-8). -/
def Dev.paired (d : Dev) : Bool :=
  d.on .TWIN_STAT_INST && (decide (d.rd .TWIN_STAT_STATE = 3) || decide (d.rd .TWIN_STAT_STATE = 4))

/-- The copy of a resynchronisation runs: from hyperperiod boundary B to the cut C (R348). -/
def Dev.copies (d : Dev) : Bool :=
  (match d.twin.copyFrom with
    | some b => decide (b ≤ d.tide)
    | none => false) && (match d.twin.cutAt with
    | some c => decide (d.tide < c)
    | none => true)

/-- The part boards as one of a pair: in step, or from the cut on (R333, R348). -/
def Dev.boardsPaired (d : Dev) : Bool :=
  d.paired || ((decide (d.rd .TWIN_STAT_STATE = 2) || decide (d.rd .TWIN_STAT_STATE = 6))
    && (match d.twin.cutAt with
      | some c => decide (c ≤ d.tide)
      | none => false))

/-- A pulse enters the Tally (R284), in a pair at the next Tide edge: the leading twin's (R333). -/
def Dev.pulseTally (d : Dev) (r : Nat) : Dev :=
  if d.paired then
    (if d.rd .TWIN_STAT_STATE = 3 then d.onTwin fun t => { t with pulses := t.pulses.set 0 r (t.pulses.at 0 r + 1) } else d)
  else d.tlAdd (128 + r) (2 ^ 32)

/-- A pulse of PUj is counted in its forward or reverse register (R284, Table 4-2); `over`: the counted rate exceeds PMAX. -/
def Dev.pulse (d : Dev) (j : Nat) (rev exceed : Bool) : Dev :=
  let d1 := (d.pulseTally (2 * j + bit01 rev)).onMet fun m => { m with
    pulses := m.pulses.set 0 j ((m.pulses.at 0 j + 1) % 2 ^ 32)
    pulseRev := m.pulseRev.set false j rev }
  d1.when exceed fun x => (x.flagAt .TALLY_PUST_OVR j true).ivPulse j

/-- PUj is track B of a quadrature pair. -/
def Dev.trackB (d : Dev) (j : Nat) : Bool := decide (j % 2 = 1) && decide (d.cfg .TALLY_PUCFG_MODE (j - 1) = 3)

/-- PULSE_EDGE (R284): a debounced level change of PUj. -/
def execPulseEdge (j : Fin 16) (level exceed : Bool) (s : State) : Host.Outcome State Fault Refusal :=
  s.upd fun d =>
    let j := j.val
    let d1 := d.flagAt .TALLY_PUST_LEVEL j level
    if !level || !d.counting || d.trackB j then d1
    else match d.cfg .TALLY_PUCFG_MODE j with
      | 1 => d1.pulse j false exceed
      | 2 => d1.pulse j true exceed
      | 3 => d1.onMet fun m => { m with quad := m.quad.set 0 j (1 + d.rdAt .TALLY_PUST_LEVEL (j + 1)) }
      | _ => d1

/-- QUADRATURE_DECISION (R284): 1 µs after the debounced rising edge of track A on PUj. `bEdge`: a debounced edge of B lay within 1 µs. -/
def execQuadratureDecision (j : Fin 16) (bEdge exceed : Bool) (s : State) : Host.Outcome State Fault Refusal :=
  s.upd fun d =>
    let q := d.met.quad.at 0 j.val
    if q = 0 then d
    else
      let d1 := d.onMet fun m => { m with quad := m.quad.set 0 j.val 0 }
      if !d.counting then d1
      else if bEdge then (d1.flagAt .TALLY_PUST_BADQ j.val true).ivPulse j.val
      else d1.pulse j.val (decide (q = 1)) exceed

/-! ### Manifest records (R293 to R297) -/

/-- Lays fields (offset, bytes), in ascending order, over zeros up to a length. -/
def layOut (len : Nat) (fs : List (Nat × List Byte)) : List Byte :=
  let r := fs.foldl (fun a f => a ++ List.replicate (f.1 - a.length) 0 ++ f.2) []
  (r ++ List.replicate (len - r.length) 0).take len

/-- A record without its DIGEST (Table 12-5): SEQ and TIDE are entered when it is appended. -/
def Dev.recordOf (_ : Dev) (typ len time : Nat) (isSealed : Bool) (body : List (Nat × List Byte)) : List Byte :=
  layOut (len - 32) ([(0, leBytes 1 typ ++ leBytes 1 1 ++ leBytes 2 len ++ leBytes 4 (bit01 isSealed)), (0x18, leBytes 8 time),
    (0x20, leBytes 8 Config.serial.toNat)] ++ body)

/-- The last record of the ring: its SEQ and DIGEST; D(0) is 32 zero bytes (R293). -/
def Dev.lastRecord (d : Dev) : Nat × List Byte :=
  match d.cus.ring.getLast? with
  | some r => (r.seq, r.bytes.drop (r.bytes.length - 32))
  | none => (0, List.replicate 32 0)

/-- FREE (R297): the ring's 2 MiB less the bytes of records not landed. -/
def Dev.ringFree (d : Dev) : Nat :=
  2097152 - d.cus.ring.foldl (fun a r => if d.cus.land < r.seq then a + r.bytes.length else a) 0

/-- The newest records that the ring's 2 MiB hold. -/
def ringFit (l : List Rec) : List Rec :=
  (l.foldr (fun r (x : Nat × List Rec) => if x.1 + r.bytes.length ≤ 2097152 then (x.1 + r.bytes.length, r :: x.2) else (2097153, x.2))
    (0, [])).2

/-- The registers that show the Manifest's and the seal's state follow it (Tables 12-15 and 12-16). -/
def Dev.manSync (d : Dev) : Dev :=
  let free := d.ringFree
  let d1 := ((d.wr64 .MAN_HEADLO .MAN_HEADHI d.cus.head).wr64 .MAN_LANDLO .MAN_LANDHI d.cus.land).wr .MAN_FREE free
  let d2 := (d1.wr .MAN_PENDN_PEND d.cus.pend.length).wr .MAN_PENDN_COAL ((d.cus.coal.map fun c => c.coal).getD 0 % 256)
  let d3 := (d2.flag .MAN_STAT_RSVLOW (decide (free < 262144))).flag .MAN_STAT_BUSY
    (d.cus.breaking.isSome || decide (d.cus.head < d.lastRecord.1))
  let d4 := ((d3.flag .MAN_STAT_SEALED d.cus.isSealed).flag .MAN_STAT_JMP (d.cus.jumper.getD false)).flag .MTR_STAT_SEALED
    d.cus.isSealed
  (d4.wr .MAN_SBCNT (d.cus.sbcnt % 2 ^ 32)).wr64 .MAN_NONCELO .MAN_NONCEHI d.cus.nonce

/-- Appends a record: SEQ, TIDE and DIGEST are assigned (R293, R297). -/
def Dev.ringAppend (d : Dev) (r : List Byte) : Dev :=
  let l := d.lastRecord
  let r1 := r.take 8 ++ leBytes 8 (l.1 + 1) ++ leBytes 8 d.tide ++ r.drop 24
  let full := r1 ++ shake256 32 (l.2 ++ r1)
  let d1 := (d.onCus fun c => { c with ring := ringFit (c.ring ++ [⟨l.1 + 1, full⟩]) }).nvWrote
  -- in a pair each record goes to the other part (R350)
  d1.when d.hawserUp fun x => x.hawserSend 6 full

/-- The record of a closed interval (Table 12-7). -/
def Dev.intervalRecord (d : Dev) (c : Closed) : List Byte :=
  let n := c.values.length
  let len := 96 + (12 * n + 7) / 8 * 8 + 32
  d.recordOf 0x01 len c.time c.isSealed
    [(0x28, leBytes 8 c.start), (0x30, leBytes 8 c.close), (0x38, leBytes 1 c.imin), (0x39, leBytes 1 n), (0x3A, leBytes 2 c.coal),
     (0x3C, leBytes 4 c.qflags), (0x40, (c.rev.map (leBytes 2)).flatten), (0x48, leBytes 20 c.mask), (0x5C, leBytes 2 c.uflags),
     (0x60, (c.values.map (leBytes 12)).flatten)]

/-- A further interval merges into the open coalesced record (Table 12-9). -/
def Closed.merge (c n : Closed) : Closed :=
  { c with
    close := n.close, imin := n.imin, mask := n.mask, values := n.values
    qflags := Nat.lor c.qflags n.qflags
    uflags := Nat.lor c.uflags n.uflags
    rev := List.zipWith (fun a b => satAdd 65535 a b) c.rev n.rev
    coal := satAdd 65535 c.coal 1 }

/-- An INTERVAL record is appended, or merged (Table 12-9). -/
def Dev.addInterval (d : Dev) (c : Closed) : Dev :=
  let r := d.intervalRecord c
  if 262144 + r.length + 32 ≤ d.ringFree ∧ d.cus.coal.isNone ∧ d.cus.pend.isEmpty then d.ringAppend r
  else d.onCus fun x => { x with coal := some (match x.coal with
    | some o => o.merge c
    | none => c) }

/-- A GAP, OUTAGE, SEAL or CONFIG record is appended, queued with PEND = 1, or lost (Table 12-9). -/
def Dev.addRecord (d : Dev) (r : List Byte) : Dev :=
  if r.length + 32 ≤ d.ringFree ∧ d.cus.pend.isEmpty then d.ringAppend r
  else if d.cus.pend.length < 32 then
    let f := leNat ((r.drop 4).take 4)
    d.onCus fun c => { c with pend := c.pend ++ [r.take 4 ++ leBytes 4 (Nat.lor f 2) ++ r.drop 8] }
  else
    ((d.onCus fun c => { c with lost := satAdd 65535 c.lost 1 }).bump .MAN_LOSTCNT (2 ^ 32 - 1)).flag .MAN_STAT_OVF true |>.raise 314

/-- The configuration digest that MTR.DGST0 to DGST7 show. -/
def Dev.shownDigest (d : Dev) : List Byte := ((List.range 8).map fun j => leBytes 4 (d.rdAt .MTR_DGST j)).flatten

/-- A SEAL (0x05) or CONFIG (0x06) record (Table 12-8). -/
def Dev.sealRecord (d : Dev) (typ action nonce : Nat) : Dev :=
  d.addRecord (d.recordOf typ 128 d.now d.cus.isSealed
    [(0x28, leBytes 1 action), (0x30, leBytes 8 d.cus.sbcnt), (0x38, d.shownDigest), (0x58, leBytes 8 nonce)])

/-- An OUTAGE record (Table 12-8). -/
def Dev.outageRecord (d : Dev) (toff ton cseq cause : Nat) : Dev :=
  d.addRecord (d.recordOf 0x03 104 d.now d.cus.isSealed
    [(0x28, leBytes 8 toff), (0x30, leBytes 8 ton), (0x38, leBytes 8 cseq), (0x40, leBytes 1 cause)])

/-- The anchor of day `day` (R295, Table 12-8); skipped when the ring, the pending queue or a coalesced record stands in its way
(Table 12-9, Table 12-11). -/
def Dev.addAnchor (d : Dev) (day : Nat) : Dev :=
  if 2200 ≤ d.ringFree ∧ d.cus.pend.isEmpty ∧ d.cus.coal.isNone then
    let l := d.lastRecord
    let r := d.recordOf 0x04 (2048 + 32) d.now d.cus.isSealed
      [(0x28, leBytes 8 (day * 86400000000)), (0x30, leBytes 8 d.cus.sbcnt),
       (0x38, leBytes 4 (bit01 d.cus.isSealed + 2 * bit01 (d.cus.jumper.getD false))), (0x3C, leBytes 2 d.cus.missed),
       (0x3E, leBytes 2 d.cus.lost), (0x40, d.shownDigest), (0x60, l.2),
       (0x80, ((List.range 160).map fun n => leBytes 12 (d.cus.ctl.at 0 n / 2 ^ 32)).flatten)]
    let r1 := r.take 2 ++ leBytes 2 2200 ++ (r.drop 4).take 4 ++ leBytes 8 (l.1 + 1) ++ leBytes 8 d.tide ++ r.drop 24
    let sig := (List.range 114).map (Config.signByte 1 r1)
    ((d.onCus fun c => { c with missed := 0, lost := 0 }).ringAppend (r1 ++ sig ++ List.replicate 6 0))
  else d.onCus fun c => { c with missed := satAdd 65535 c.missed 1 }

/-- Appends the pending records in order while there is room, then the open coalesced record (R297). -/
def Dev.drainPending : Nat → Dev → Dev
  | 0, d => d
  | k + 1, d =>
    match d.cus.pend with
    | r :: t =>
      if r.length + 32 ≤ d.ringFree then Dev.drainPending k ((d.ringAppend r).onCus fun c => { c with pend := t }) else d
    | [] =>
      match d.cus.coal with
      | some c =>
        let r := d.intervalRecord c
        if 262144 + r.length + 32 ≤ d.ringFree then (d.ringAppend r).onCus fun x => { x with coal := none } else d
      | none => d

/-- PENDING_RECORD_APPEND (R297). -/
def execPendingRecordAppend (s : State) : Host.Outcome State Fault Refusal := s.upd fun d => (d.drainPending 33).manSync

/-- The record after the highest accepted one is accepted, when the ring holds it; a paired device needs the twin's confirmed copy
(R296, R350). -/
def Dev.acceptNext (d : Dev) (paired : Bool) : Dev :=
  if d.cus.head < d.lastRecord.1 ∧ (!paired ∨ d.cus.head + 1 ≤ d.cus.confirmed) then
    (d.onCus fun c => { c with head := c.head + 1 }).manSync
  else d

/-- RECORD_ACCEPTED (R296). -/
def execRecordAccepted (s : State) : Host.Outcome State Fault Refusal := s.upd fun d => d.acceptNext d.paired

/-- Lands every record up to the SEQ written, or sets ACKE (R296). -/
def Dev.manAck (d : Dev) : Dev :=
  let q := d.rd64 .MAN_ACKLO .MAN_ACKHI
  let dg := leBytes 4 (d.rd .MAN_ACKDG0) ++ leBytes 4 (d.rd .MAN_ACKDG1)
  let copy := (d.cus.ring.find? fun r => decide (r.seq = q)).map fun r => (r.bytes.drop (r.bytes.length - 32)).take 8
  if q ≤ d.cus.head ∧ d.cus.land < q ∧ copy = some dg then (d.onCus fun c => { c with land := q }).manSync
  else d.flag .MAN_STAT_ACKE true

/-- MAN_ACK (R296). -/
def execManAck (req : Requester) (s : State) : Host.Outcome State Fault Refusal :=
  s.upd fun d => d.byFerryman req Dev.manAck

/-- MAN_RECORD_READ (R303): a write of MAN.RDSEQLO or, with `high`, RDSEQHI selects the record that MAN.RDWIN shows. -/
def Dev.manSelect (d : Dev) (high : Bool) (v : Nat) : Dev :=
  let d1 := if high then d.wr .MAN_RDSEQHI v else d.wr .MAN_RDSEQLO v
  let q := d1.rd64 .MAN_RDSEQLO .MAN_RDSEQHI
  match d.cus.ring.find? fun r => decide (r.seq = q) with
  | some r => ((d1.flag .MAN_RDSTAT_VALID true).wr .MAN_RDSTAT_LEN r.bytes.length).onCus fun c => { c with rdwin := r.bytes }
  | none => ((d1.flag .MAN_RDSTAT_VALID false).wr .MAN_RDSTAT_LEN 0).onCus fun c => { c with rdwin := [] }

/-- MAN_RECORD_READ (R303). -/
def execManRecordRead (req : Requester) (high : Bool) (v : BitVec 32) (s : State) : Host.Outcome State Fault Refusal :=
  s.upd fun d => d.byFerryman req fun x => x.manSelect high v.toNat

/-! ### Commits (R285 to R287) -/

/-- The snapshot at a Tide edge (R285); `blocks` are the partial energies of the open steering blocks, by point. -/
def Dev.snapshot (d : Dev) (lc rst : Bool) (cseq tide time : Nat) (blocks : List (Nat × List BlockEnergy)) : Snapshot :=
  { lc := lc, rst := rst, cseq := cseq, tide := tide, time := time, reg := d.cus.tl, blocks := blocks, iv := d.cus.iv
    signs := d.cus.signs, closing := d.cus.closing, coal := d.cus.coal, pend := d.cus.pend, missed := d.cus.missed
    lost := d.cus.lost, act := d.met.act, anchorDay := d.cus.anchorDay }

/-- CSEQ of the latest commit. -/
def Dev.cseq (d : Dev) : Nat := d.rd64 .TALLY_CSEQLO .TALLY_CSEQHI

/-- The content of commit slot 0 or 1. -/
def Custody.slotAt (c : Custody) (i : Nat) : Option Snapshot := if i = 0 then c.slotA else c.slotB

/-- Sets the content of a commit slot. -/
def Custody.setSlot (c : Custody) (i : Nat) (x : Option Snapshot) : Custody :=
  if i = 0 then { c with slotA := x } else { c with slotB := x }

/-- A commit is due (R285): one is asked for, or CP × 100 ms have passed since the latest snapshot; after a PAIR, the other part's next commit edge has
come (R350). -/
def Dev.commitDue (d : Dev) : Bool :=
  d.cus.due || (match d.twin.commitEdge with
    | some e => decide (e ≤ d.tide)
    | none => decide (d.cfg .TALLY_CFG_CP * 40000000 ≤ d.cus.since))

/-- The Tide edge of the next commit (R285, R350). -/
def Dev.nextCommit (d : Dev) : Nat :=
  match d.cus.due, d.twin.commitEdge with
  | true, _ => d.tide + 1
  | false, some e => e
  | false, none =>
    let p := max 1 (d.rd .TIDE_PERIOD_ACT)
    d.tide + max 1 ((d.cfg .TALLY_CFG_CP * 40000000 - d.cus.since + p - 1) / p)

/-- COMMIT (R285): a due commit takes its snapshot at a Tide edge and is written into the slot that does not hold the latest valid
commit. Only one is written at a time. -/
def execCommit (s : State) : Host.Outcome State Fault Refusal :=
  s.upd fun d =>
    if !d.counting || d.cus.writing.isSome || !d.commitDue then d
    else
      let slot := 1 - d.cus.slot
      let e := d.steerAll.openBlocks
      let x := e.2.snapshot false false (d.cseq + 1) d.tide d.now e.1
      (e.2.onCus fun c => { c.setSlot slot none with writing := some (slot, x), due := false, since := 0 }).flag .TALLY_STAT_CBUSY true
        |>.nvWrote |>.onTwin fun t => { t with commitEdge := none }

/-- A snapshot is committed (R285, R287). -/
def Dev.committed (d : Dev) (slot : Nat) (x : Snapshot) : Dev :=
  let d1 := d.onCus fun c => { c.setSlot slot (some x) with slot := slot, ctl := x.reg }
  (d1.wr64 .TALLY_CSEQLO .TALLY_CSEQHI x.cseq).wr .TALLY_STAT_SLOT slot

/-- COMMIT_COMPLETE (R285 to R287): the slot is read back and checked. Once it is committed, the records of the intervals whose close it
holds are appended; an anchor may follow. -/
def execCommitComplete (pass : Bool) (s : State) : Host.Outcome State Fault Refusal :=
  s.upd fun d =>
    match d.cus.writing with
    | none => d
    | some (slot, x) =>
      let d1 := (d.onCus fun c => { c with writing := none }).flag .TALLY_STAT_CBUSY false
      if !pass then (d1.flag .TALLY_STAT_CFAIL true).raise 312
      else
        let d2 := (d1.committed slot x).onCus fun c => { c with
          closing := c.closing.drop x.closing.length
          anchorReady := c.anchorReady || (c.anchorDue.isSome && decide (c.closing.length = x.closing.length)) }
        (x.closing.foldl (fun y c => y.addInterval c) d2).manSync

/-- TALLY_COMMIT_REQUEST (R285). -/
def execTallyCommitRequest (req : Requester) (s : State) : Host.Outcome State Fault Refusal :=
  s.upd fun d => d.byFerryman req fun x => x.onCus fun c => { c with due := true }

/-- INTERVAL_CLOSE (R292): with no point enabled the interval closes at its nominal end; else with the steering block of the lowest-numbered enabled point,
which ends here. -/
def execIntervalClose (s : State) : Host.Outcome State Fault Refusal :=
  s.upd fun d => match d.firstPoint with
    | none => d.intervalClose
    | some m => if d.counting then d.steerBlock m else d

/-- ANCHOR_APPEND (R287, R295): once its commit is done. -/
def execAnchorAppend (s : State) : Host.Outcome State Fault Refusal :=
  s.upd fun d =>
    match d.cus.anchorDue with
    | some day =>
      if d.cus.anchorReady then
        ((d.onCus fun c => { c with anchorDue := none, anchorReady := false }).addAnchor day).manSync
      else d
    | none => d

/-- TALLY_READ (R302): a read of TLn.W0 or, with `committed`, CTLn.W0 latches W1, W2 and FRAC for the requester. -/
def execTallyRead (req : Requester) (committed : Bool) (n : Fin 160) (s : State) : Host.Outcome State Fault Refusal :=
  s.upd fun d =>
    let v := if committed then d.cus.ctl.at 0 n.val else d.cus.tl.at 0 n.val
    let k := 65536 * req.id + 0x1000 * bit01 committed + n.val
    ({ d with lat := { d.lat with tally := d.lat.tally.set 0 k v } }).answer (v / 2 ^ 32 % 2 ^ 32)

/-! ### Last crossing and restart (R288 to R291) -/

/-- The freeze (Table 12-3): open blocks are closed and steered, counting stops, a commit in progress is abandoned, and the marker is
written. -/
def Dev.freeze (d : Dev) : Dev :=
  if !d.cus.started || d.cus.frozen then d
  else
    let d1 := d.closeBlocks
    (d1.onCus fun c => { c with frozen := true, writing := none, marker := some (d.cseq, d.tide, d.now) }).flag
      .TALLY_STAT_CBUSY false

/-- LAST_CROSSING_FREEZE (R288, R289): in a last crossing under way. -/
def execLastCrossingFreeze (s : State) : Host.Outcome State Fault Refusal :=
  s.upd fun d => if d.sys.sfPending.isSome || d.sys.pdPending.isSome then d.freeze else d

/-- The last crossing's snapshot is written and read back (Table 12-3): with a passing check it is committed and the marker is
cleared. RST: the crossing was started for a reset without loss of VIN (R17). -/
def Dev.lastSave (d : Dev) (rst pass : Bool) : Dev :=
  match d.cus.frozen, d.cus.marker with
  | true, some (_, tide, time) =>
    let slot := 1 - d.cus.slot
    let x := d.snapshot true rst (d.cseq + 1) tide time []
    let d := d.nvWrote
    if pass then (d.committed slot x).onCus fun c => { c with marker := none }
    else ((d.onCus fun c => c.setSlot slot none).flag .TALLY_STAT_CFAIL true).raise 312
  | _, _ => d

/-- The later of the two slots, with its number. -/
def Custody.latest (c : Custody) : Option (Nat × Snapshot) :=
  match c.slotA, c.slotB with
  | some a, some b => if a.cseq < b.cseq then some (1, b) else some (0, a)
  | some a, none => some (0, a)
  | none, some b => some (1, b)
  | none, none => none

/-- A field of a commit's configuration. -/
def Snapshot.cfg (x : Snapshot) (f : Fld) (i : Nat) : Nat := Store.get (f.resetValue i) (f, i) x.act

/-- EB(m) of R290: ceil(1150 × VNOM × INOM × t) µWh, for t in microseconds. -/
def energyBound (v i t : Nat) : Nat :=
  let n := 1150 * ((fpVal v).getD 0).toNat * ((fpVal i).getD 0).toNat * t
  let k := 2 ^ 298 * 10 ^ 6
  (n + k - 1) / k

/-- A GAP record (R290, Table 12-8): the bound on energy metered but not committed. -/
def Dev.gapRecord (d : Dev) (x : Option Snapshot) (tfrom tto cseq cause : Nat) (cover : Option Nat) : Dev :=
  let t := tto - tfrom
  let eb (m : Nat) : Nat := match x with
    | some y => if y.cfg .MTR_MPCFG_EN m = 1 then energyBound (y.cfg .MTR_MPVNOM m) (y.cfg .MTR_MPINOM m) t else 0
    | none => 0
  let pb (j : Nat) : Nat := match x with
    | some y => if y.cfg .TALLY_PUCFG_MODE j ≠ 0 then (y.cfg .TALLY_PUCFG_PMAX j * t + 999999) / 1000000 else 0
    | none => 0
  let d1 := d.addRecord (d.recordOf 0x02 272 d.now d.cus.isSealed
    [(0x28, leBytes 8 tfrom), (0x30, leBytes 8 tto), (0x38, leBytes 8 cseq), (0x40, leBytes 1 cause),
     (0x41, leBytes 1 (bit01 cover.isSome)), (0x48, leBytes 8 (cover.getD 0)),
     (0x50, ((List.range 4).map fun m => leBytes 8 (eb m)).flatten), (0x70, ((List.range 16).map fun j => leBytes 8 (pb j)).flatten)])
  ((((d1.bump .MAN_GAPCNT (2 ^ 32 - 1)).flag .TALLY_STAT_GAP true).life 0xE0).raise 313).ivFlagAll 5

/-- The state that a commit holds becomes the running state (R289). -/
def Dev.restore (d : Dev) (slot : Nat) (x : Snapshot) : Dev :=
  let d1 := (d.committed slot x).onCus fun c => { c with
    tl := x.reg, iv := x.iv, signs := x.signs, closing := x.closing, coal := x.coal, pend := x.pend, missed := x.missed
    lost := x.lost, anchorDay := x.anchorDay }
  x.blocks.foldl (fun y b => y.steer b.1 b.2 (y.onAt .MTR_MPSTAT_ZCTO b.1)) d1

/-- The interval that the committed state leaves open (R289): it continues with PARTIAL = 1, or it is closed at TOFF and the next one
starts at the restart. -/
def Dev.resumeInterval (d : Dev) (toff : Nat) : Dev :=
  match d.cus.iv with
  | none => (d.openInterval d.now).ivFlagAll 4
  | some v =>
    if d.now < v.nominal then d.ivFlagAll 4
    else
      let d1 := d.ivFlagAll 4
      let c := d1.closedOf ((d1.cus.iv).getD v) toff
      ((d1.addInterval c).openInterval d.now).ivFlagAll 4

/-- The GAP and OUTAGE records of a restart (R289, Table 12-4). -/
def Dev.restartRecords (d : Dev) (h : HeldRestart) (cover : Option Nat) : Dev :=
  let d1 := d.onCus fun c => { c with cover := cover.isSome }
  let d2 := if h.row = 1 then d1.gapRecord h.snap h.tfrom h.tto h.cseq 1 cover
    else if h.row = 4 then d1.gapRecord h.snap h.tfrom h.tto h.cseq 2 cover else d1
  match h.row with
  | 1 => d2.outageRecord h.toff h.ton h.cseq 1
  | 2 => d2.outageRecord h.toff h.ton h.cseq 1
  | 3 => d2.outageRecord h.toff h.ton h.cseq 2
  | 4 => d2.outageRecord h.toff h.ton h.cseq 3
  | _ => d2

/-- TALLY_RESTART (R289, R290, Table 12-4): the slots and the marker are read, the registers restored, and the restart records appended, or, in a
paired installation, held (R350). `cover`: the twin's commit sequence number, when the twin holds a commit whose snapshot lies at or after
TTO (R291). -/
def Dev.tallyRestart (d : Dev) (cover : Option Nat) : Dev :=
  if d.cus.started then d
  else
    let latest := d.cus.latest
    let mk := d.cus.marker
    let row : Nat := match latest, mk with
      | none, none => 0
      | none, some _ => 1
      | some (_, x), some (q, _, _) => if x.cseq ≤ q then 1 else if x.lc then (if x.rst then 3 else 2) else 4
      | some (_, x), none => if x.lc then (if x.rst then 3 else 2) else 4
    let d0 := d.onCus fun c => { c with started := true, frozen := false, writing := none, due := true, marker := none }
    let d1 := match latest with
      | some (i, x) => d0.restore i x
      | none => d0
    -- records of intervals that closed before the power-down come before the restart records (Table 12-11)
    let d2 := (d1.cus.closing.foldl (fun y c => y.addInterval c) d1).onCus fun c => { c with closing := [] }
    let snap := latest.map Prod.snd
    let tfrom := (snap.map fun x => x.time).getD 0
    let cp := (snap.map fun x => x.cfg .TALLY_CFG_CP 0).getD 10
    let tfreeze := (mk.map fun x => x.2.2).getD tfrom
    let h : HeldRestart := {
      row := row, snap := snap, tfrom := tfrom
      tto := if row = 1 then tfreeze else tfrom + cp * 100000 + 2000
      toff := if row = 1 then tfreeze else tfrom
      ton := d.now
      cseq := (snap.map fun x => x.cseq).getD 0 }
    let d3 := if row = 0 then d2.openInterval d2.now else d2.resumeInterval h.toff
    let d4 := if d.straps.twinst then d3.onCus fun c => { c with heldRestart := some h } else d3.restartRecords h cover
    ((d4.flag .TALLY_STAT_LCOK (decide (row = 2 ∨ row = 3))).each 4 fun x m =>
      (x.pointRestart m).onMet fun t => { t with firstW := t.firstW.set false m (x.cfgOn .MTR_MPCFG_EN m) }).manSync

/-- TALLY_RESTART (R289). -/
def execTallyRestart (cover : Option Nat) (s : State) : Host.Outcome State Fault Refusal := s.upd fun d => d.tallyRestart cover

/-- The held restart records are appended and COVER is decided (R350). -/
def Dev.releaseRestart (d : Dev) (cover : Option Nat) : Dev :=
  match d.cus.heldRestart with
  | some h => ((d.onCus fun c => { c with heldRestart := none }).restartRecords h cover).manSync
  | none => d

/-! ### The metrology seal (R298 to R300) -/

/-- A seal or break action is refused (R298, R299). -/
def Dev.sealRefuse (d : Dev) (code : Nat) : Dev := (d.flag .MAN_STAT_SEALE true).wr .MAN_STAT_SCODE code

/-- A write of 1 to MAN.CTRL.SEAL (R298); `names` are the claimable resources that the configuration names. -/
def Dev.manSeal (d : Dev) (names : List (Resource × Nat)) : Dev :=
  if d.cus.isSealed then d.sealRefuse 0x9
  else if d.cus.breaking.isSome then d.sealRefuse 0xA
  else if d.cus.jumper ≠ some true then d.sealRefuse 0x3
  else if d.rd .MAN_SEALCHK ≠ d.rdAt .MTR_DGST 0 then d.sealRefuse 0x4
  else if !d.met.loadOk then d.sealRefuse 0x7
  else if names.any (fun r => (d.cell r.1 r.2).owner != none && (d.cell r.1 r.2).owner != some .metering) then d.sealRefuse 0x8
  else
    let d1 := names.foldl (fun x r => x.setCell r.1 r.2 { x.cell r.1 r.2 with
      owner := some .metering, rsv := some 2, rsvSealed := true }) d
    let d2 := d1.onCus fun c => { c with
      isSealed := true, sealRsv := names.filter fun r => (d.cell r.1 r.2).rsv.isNone, sealDigest := d.shownDigest, sealConfig := d.met.act }
    -- a live analog route opens (R464)
    let d3 := d2.each 2 fun x k => x.when (x.onAt .GWY_ASEL_EN k) fun y => (y.flagAt .GWY_ASEL_EN k false).flag .GWY_STAT_ASEAL true
    ((d3.wr .MAN_STAT_SCODE 0x1).sealRecord 0x05 1 0).manSync

/-- A write of 1 to MAN.CTRL.BREAK starts the verification of MAN.CMD (R299). -/
def Dev.manBreak (d : Dev) : Dev :=
  if d.cus.breaking.isSome then d.sealRefuse (if d.cus.isSealed then 0xA else 0xB)
  else
    let cmd := ((List.range 44).map fun i => leBytes 4 (d.rdAt .MAN_CMD i)).flatten
    (d.onCus fun c => { c with breaking := some cmd }).manSync

/-- MAN_BREAK (R299). -/
def execManBreak (req : Requester) (s : State) : Host.Outcome State Fault Refusal :=
  s.upd fun d => d.byFerryman req Dev.manBreak

/-- The result code of a break command (R299); 0 accepts it. -/
def Dev.breakCode (d : Dev) (cmd : List Byte) (sigOk : Bool) : Nat :=
  let f (o n : Nat) : Nat := leNat ((cmd.drop o).take n)
  if !d.cus.isSealed then 0xB
  else if d.cus.jumper ≠ some false then 0x3
  else if f 0 4 ≠ 2 ∨ f 4 4 ≠ d.cus.sbcnt ∨ f 8 8 ≠ Config.serial.toNat ∨ f 16 8 ≠ d.cus.nonce then 0x6
  else if (cmd.drop 0x18).take 32 ≠ d.cus.sealDigest then 0x4
  else if !sigOk then 0x5
  else 0

/-- A new nonce, a free value (R299, log entry 1). -/
def Dev.newNonce (d : Dev) : Dev :=
  let r := d.draw (2 ^ 64)
  r.2.onCus fun c => { c with nonce := r.1 }

/-- The rank-2 reservations that the seal made are lifted; the claims stay (R299), and so does a reservation of the safety configuration. -/
def Dev.liftSeal (d : Dev) : Dev :=
  (d.cus.sealRsv.foldl (fun x r => x.setCell r.1 r.2 { x.cell r.1 r.2 with rsv := none, rsvSealed := false }) d).onCus fun c => { c with sealRsv := [] }

/-- The verification of a break command ends (R299): accepted, the counter rises, the seal clears, the record is appended, the open
interval is marked and the reservations are lifted; a new nonce is drawn either way. A landing that waited follows (R303). -/
def Dev.breakDone (d : Dev) (sigOk : Bool) : Dev :=
  match d.cus.breaking with
  | none => d
  | some cmd =>
    let code := d.breakCode cmd sigOk
    let d1 := d.onCus fun c => { c with breaking := none, ackWait := false }
    let d2 :=
      if code ≠ 0 then d1.sealRefuse code
      else
        let d3 := (d1.onCus fun c => { c with sbcnt := c.sbcnt + 1, isSealed := false }).wr .MAN_STAT_SCODE 0x2
        ((d3.sealRecord 0x05 2 (leNat ((cmd.drop 16).take 8))).ivFlagAll 6).liftSeal
    let d4 := d2.newNonce.manSync
    if d.cus.ackWait then d4.manAck else d4

/-- MSEAL_CHANGE (R298, R300): the level of MSEAL has held for 10 ms. The first level after a reset is compared with the stored state. -/
def execMsealChange (fitted : Bool) (s : State) : Host.Outcome State Fault Refusal :=
  s.upd fun d =>
    let old := d.cus.jumper.getD d.cus.jumperKept
    let d1 := d.onCus fun c => { c with jumper := some fitted, jumperKept := fitted }
    (if d.cus.isSealed && old != fitted then
      (if fitted then d1.sealRecord 0x05 4 0 else (d1.sealRecord 0x05 3 0).raise 315)
    else d1).manSync

end Sys2Proof.Machine
end

