-- ==== Sys2Proof/Machine/Operands.lean ====
section
/-!
DEFINITION. Machine/Operands.lean: the register operands of the VCS instructions (R55 to R57): general, vector and predicate registers, read and
written.
-/
namespace Sys2Proof.Machine

/-- The engine's number: 0 to 7 CE0 to CE7, 8 the SE pair, 10 Ferryman. -/
def Eng.index : Eng → Nat
  | .ce n => n.val
  | .se => 8
  | .ferryman => 10

/-! ### Registers (R55 to R57). In the scoreboard g0 to g31 are 0 to 31, v0 to v15 are 32 to 47, p0 to p7 are 48 to 55. -/

def regG (n : Nat) : Nat := n
def regV (n : Nat) : Nat := 32 + n
def regP (n : Nat) : Nat := 48 + n

/-- A general register; g0 reads as zero. -/
def Engine.gr (x : Engine) (n : Nat) : BitVec 64 := if n = 0 then 0 else x.g.at 0 n

/-- A vector register. -/
def Engine.vr (x : Engine) (n : Nat) : BitVec 128 := x.v.at 0 n

/-- A predicate register; p0 reads as 1. -/
def Engine.pr (x : Engine) (n : Nat) : Bool := n = 0 || bitOf x.p n

/-- A register write. -/
inductive RegW where
  | g (n : Nat) (v : BitVec 64)
  | v (n : Nat) (v : BitVec 128)
  | p (n : Nat) (b : Bool)
deriving DecidableEq, Repr

/-- Applies a register write; one to g0 or p0 is discarded. -/
def Engine.put (x : Engine) : RegW → Engine
  | .g n v => if n = 0 then x else { x with g := x.g.set 0 n v }
  | .v n v => { x with v := x.v.set 0 n v }
  | .p n b => if n = 0 then x else { x with p := setBit x.p n b }

end Sys2Proof.Machine
end

