-- ==== Sys2Proof/Machine/SafetyOps.lean ====
section
/-!
DEFINITION. Machine/SafetyOps.lean: what the safety channels' rules share: switches, latches, demands, lockouts (R304 to R312, R325).
-/
namespace Sys2Proof.Machine

/-- Applies `f` to the safety channels' state. -/
def Dev.onSaf (d : Dev) (f : Saf → Saf) : Dev := { d with saf := f d.saf }

/-- The functions a channel holds latched. -/
def Dev.latched (d : Dev) (chanH : Bool) : Nat := if chanH then d.saf.latchH else d.saf.latchP

/-- A channel's receivers. -/
def Dev.rx (d : Dev) (chanH : Bool) : Receiver := if chanH then d.saf.rxH else d.saf.rxP

/-- Sets a channel's receivers. -/
def Dev.setRx (d : Dev) (chanH : Bool) (r : Receiver) : Dev :=
  d.onSaf fun s => if chanH then { s with rxH := r } else { s with rxP := r }

/-- The outputs that function `f` masks (SAF.SFMSK). -/
def Dev.mask (d : Dev) (f : Nat) : Nat :=
  match f with
  | 0 => d.rd .SAF_SFMSK_MSKA
  | 1 => d.rd .SAF_SFMSK_MSKB
  | 2 => d.rd .SAF_SFMSK_MSKC
  | _ => d.rd .SAF_SFMSK_MSKD

/-- A latched function of the channel masks output `n` (R311). SF-D masks its outputs from the expiry of its delay on. -/
def Dev.masked (d : Dev) (chanH : Bool) (n : Nat) : Bool :=
  let l := d.latched chanH
  (bitOf l 0 && bitOf (d.mask 0) n) || (bitOf l 1 && bitOf (d.mask 1) n)
    || (bitOf l 2 && bitOf (d.mask 2) n)
    || (bitOf l 3 && !d.saf.sfdRun && bitOf (d.mask 3) n)

/-- A channel is locked out. -/
def Dev.locked (d : Dev) (chanH : Bool) : Bool := if chanH then d.on .SAF_STAT_LOCKH else d.on .SAF_STAT_LOCKP

/-- The first three conditions of R312, under which switch P stays closed, with the output in use. -/
def Dev.keepP (d : Dev) (n : Nat) : Bool :=
  d.onAt .SAF_SOCFG_EN n && !d.locked false && !d.masked false n && d.onAt .SAF_SOSTAT_REQ n && !d.sys.cdReset

/-- Channel H commands switch H of output `n` closed (R312). -/
def Dev.closeH (d : Dev) (n : Nat) : Bool := d.onAt .SAF_SOCFG_EN n && !d.locked true && !d.masked true n

/-- The contactor state that the checks of output `n` expect (R313, R321): the output's on the leading part; on the trailing part, whose
output its twin drives, the permit that channel P stages. `now`: this part energises the output. -/
def Dev.expectOn (d : Dev) (n : Nat) (now : Bool) : Bool :=
  if d.on .PWM_STAT_LEAD then now else bitOf d.saf.permit n && d.keepP n

/-- A latched function or a lockout opens a switch of output `n`. -/
def Dev.outputHalted (d : Dev) (n : Nat) : Bool := d.masked true n || d.masked false n || d.locked true || d.locked false

/-- One output follows its commands: the readbacks, ON, and at a change of ON the closure count, the off-state result and the feedback
check (R304, R312, R313, R320, R321). The trailing twin's switch P stays open. A test pulse that a demand or a lockout ends is counted
(R319). -/
def Dev.outputStep (d : Dev) (n : Nat) : Dev :=
  let h := d.closeH n
  let p := bitOf d.saf.cmdP n && d.keepP n
  let t := d.saf.test.at 0 n
  let lead := d.on .PWM_STAT_LEAD
  let was := d.bit .SAF_STAT_ON n
  let now := h && p && lead
  let e := d.expectOn n now
  let d1 := d.onSaf fun s => { s with
    cmdH := setBit s.cmdH n h, cmdP := setBit s.cmdP n p, expect := setBit s.expect n e
    fbSettled := if bitOf s.expect n = e then s.fbSettled else setBit s.fbSettled n false }
  let d2 := ((d1.flagAt .SAF_SOSTAT_SWH n (h && t ≠ 1)).flagAt .SAF_SOSTAT_SWP n (p && lead && t ≠ 2)).wrBit .SAF_STAT_ON n now
  if was = now then d2
  else
    if now then d2.life (0x20 + 8 * n)
    else
      let d4 := d2.onSaf fun s => { s with offPassed := setBit s.offPassed n false, test := s.test.set 0 n 0 }
      (d4.flagAt .SAF_SOSTAT_TRUN n false).when (decide (t ≠ 0) && d.outputHalted n) fun x => x.bumpAt .SAF_SOCNT_TDISC n 0xFFFF

/-- Every output follows its commands. -/
def Dev.outputs (d : Dev) : Dev := d.each 8 Dev.outputStep

/-- The latch register and its events follow the channels' latches: SAF.LATCH shows a function latched by either channel, and its
rise raises the event and counts in the lifetime partition (R311, R408). -/
def Dev.latchSync (d : Dev) : Dev :=
  d.each 4 fun x f =>
    let now := bitOf x.saf.latchH f || bitOf x.saf.latchP f
    let was := x.bit .SAF_LATCH f
    let y := (x.wrBit .SAF_LATCH f now).level (394 + f) now
    if now && !was then y.life (0x60 + 8 * f) else y

/-- A channel latches function `f` (R311): SF-B in the partition too; SF-C on channel H asserts the safe gate inhibit; SF-D on channel H
raises the safe-stop event; the delay starts with the first channel's demand, and a second demand does not restart it (Table 13-10).
`cause`: the row of Table 13-15 that the demand gives to a reset attempt under way. -/
def Dev.demand (d : Dev) (chanH : Bool) (f : Nat) (grid : Bool) (cause : Nat) : Dev :=
  let had := bitOf (d.latched chanH) f
  let d1 := d.onSaf fun s =>
    let s1 := if chanH then { s with latchH := setBit s.latchH f true } else { s with latchP := setBit s.latchP f true }
    let s2 := if f = 0 && !grid then { s1 with sfaOther := true } else s1
    if f = 1 then { s2 with partSfB := true } else s2
  let d2 := if f = 2 && chanH then d1.inhibit else d1
  let d3 :=
    if f = 3 && !had then
      (d2.onSaf fun s => { s with sfdRun := s.sfdRun || !bitOf (d.latched (!chanH)) 3 }).when chanH fun x => x.raise 398
    else d2
  let d4 := d3.onSaf fun s => match s.resetRun with
    | some 0 => { s with resetRun := some cause }
    | _ => s
  d4.latchSync.outputs

/-- Demands every function of a set. -/
def Dev.demands (d : Dev) (chanH : Bool) (fs cause : Nat) : Dev :=
  d.each 4 fun x f => x.when (bitOf fs f) fun y => y.demand chanH f false cause

/-- A detected fault locks out the detecting channel (R325): the first fault is recorded, the lockout held in the partition, the
switches opened, and channel H asserts the safe gate inhibit; any lockout demands SF-C. The event's log entry carries the code. -/
def Dev.lockout (d : Dev) (chanH : Bool) (code item : Nat) : Dev :=
  let first := !(if chanH then d.on .SAF_FLTH_VALID else d.on .SAF_FLTP_VALID)
  let d0 := d.onSaf fun s => match s.resetRun with
    | some 0 => { s with resetRun := some (if code = 0x0E then 0x25 else code) }
    | _ => s
  let d1 :=
    if !first then d0
    else if chanH then
      (((d0.flag .SAF_FLTH_VALID true).wr .SAF_FLTH_CODE code).wr .SAF_FLTH_ITEM item).onSaf fun s =>
        { s with partLockH := some (code, item) }
    else
      (((d0.flag .SAF_FLTP_VALID true).wr .SAF_FLTP_CODE code).wr .SAF_FLTP_ITEM item).onSaf fun s =>
        { s with partLockP := some (code, item) }
  let d2 := if chanH then d1.flag .SAF_STAT_LOCKH true else (d1.flag .SAF_STAT_LOCKP true).onSaf fun s => { s with cmdP := 0 }
  let d3 := d2.when first fun x => (x.raiseWith (if chanH then 392 else 393) code).life 0x80
  d3.demand chanH 2 false code

/-- Both channels record a fault (Table 13-8). -/
def Dev.lockoutBoth (d : Dev) (code item : Nat) : Dev := (d.lockout true code item).lockout false code item

end Sys2Proof.Machine
end

