-- ==== Sys2Proof/Machine/Comparators.lean ====
section
/-!
DEFINITION. Machine/Comparators.lean: window comparators, trip matrix, night watch, self-checks (R146 to R164), and channel H's grid
window (R314).
-/
namespace Sys2Proof.Machine

/-- Comparator `n`. -/
def Dev.cmp (d : Dev) (n : Nat) : Cmp := d.conv.cmps.at {} n

/-- Sets comparator `n`. -/
def Dev.setCmp (d : Dev) (n : Nat) (c : Cmp) : Dev := { d with conv := { d.conv with cmps := d.conv.cmps.set {} n c } }

/-- The state bits of comparator `n`: bit 0 BELOW, bit 1 ABOVE, bit 2 L2. -/
def Dev.cmpBits (d : Dev) (n : Nat) : Nat :=
  d.rdAt .WCMP_STAT_BELOW n + 2 * d.rdAt .WCMP_STAT_ABOVE n + 4 * d.rdAt .WCMP_STAT_L2 n

/-- The state bits that have a destination (R162): the trip matrix through RTB, RTA or RT2.LEGS, or channel H through H1 or H2. -/
def Dev.cmpRouted (d : Dev) (n : Nat) : Nat :=
  let h1 := d.onAt .WCMP_RT1_H1 n
  bit01 (d.onAt .WCMP_RT1_RTB n || h1) + 2 * bit01 (d.onAt .WCMP_RT1_RTA n || h1)
    + 4 * bit01 (decide (n < 16) && (decide (d.rdAt .WCMP_RT2_LEGS n ≠ 0) || d.onAt .WCMP_RT1_H2 n))

/-- The bits that comparator `n` has: no L2 on WC16 to WC31 (R147). -/
def cmpAll (n : Nat) : Nat := if n < 16 then 7 else 3

/-- Every state bit follows the input: MODE is not off, and no check or readback fault forces any (R147, R161, R163). -/
def Dev.cmpLive (d : Dev) (n : Nat) : Bool :=
  decide (d.rdAt .WCMP_CFG_MODE n ≠ 0) && !d.onAt .WCMP_STAT_CHKF n && !d.onAt .WCMP_STAT_RBF n

/-- The state bits that a check or readback fault holds at 1: those with a destination (R161, R163). -/
def Dev.cmpPinned (d : Dev) (n : Nat) : Nat := if d.cmpLive n then 0 else d.cmpRouted n

/-- What R147 makes of the state bits for an input `v`, in 1/16 LSB of the DACs: each bit sets beyond its threshold, clears beyond the
hysteresis, and keeps its value between. -/
def Dev.cmpJudge (d : Dev) (n v : Nat) : Nat :=
  let h := d.rdAt .WCMP_CFG_HYST n
  let lo := d.rdAt .WCMP_THR_LO n
  let hi := d.rdAt .WCMP_THR_HI n
  let lo2 := d.rdAt .WCMP_THR2_LO2 n
  let hi2 := d.rdAt .WCMP_THR2_HI2 n
  let b := if v < 16 * lo then true else if 16 * (lo + h) < v then false else d.onAt .WCMP_STAT_BELOW n
  let a := if 16 * hi < v then true else if v < 16 * (hi - h) then false else d.onAt .WCMP_STAT_ABOVE n
  let l := if 16 * hi2 < v ∨ v < 16 * lo2 then true
    else if 16 * (lo2 + h) < v ∧ v < 16 * (hi2 - h) then false else d.onAt .WCMP_STAT_L2 n
  bit01 b + 2 * bit01 a + 4 * bit01 (l && decide (n < 16))

/-- The bits whose hysteresis band the input `v` lies outside of (R162). -/
def Dev.cmpClear (d : Dev) (n v : Nat) : Nat :=
  let h := d.rdAt .WCMP_CFG_HYST n
  let lo := d.rdAt .WCMP_THR_LO n
  let hi := d.rdAt .WCMP_THR_HI n
  let lo2 := d.rdAt .WCMP_THR2_LO2 n
  let hi2 := d.rdAt .WCMP_THR2_HI2 n
  bit01 (decide (v < 16 * lo) || decide (16 * (lo + h) < v))
    + 2 * bit01 (decide (16 * hi < v) || decide (v < 16 * (hi - h)))
    + 4 * bit01 (decide (16 * hi2 < v) || decide (v < 16 * lo2) || (decide (16 * (lo2 + h) < v) && decide (v < 16 * (hi2 - h))))

/-- The night-watch wake request (R159, R402): WAKEP is set and the event raised. -/
def Dev.wake (d : Dev) (n : Nat) : Dev := (d.flag .FM_CDCTL_WAKEP true).raise (224 + n)

/-- The phase of channel H's grid window that comparator `n` watches (SAF.HGCFG). -/
def Dev.gridPhase (d : Dev) (n : Nat) : Option Nat :=
  if !d.on .SAF_HGCFG_EN then none
  else if d.rd .SAF_HGCFG_CMPA = n then some 0
  else if d.rd .SAF_HGCFG_CMPB = n then some 1
  else if d.rd .SAF_HGCFG_CMPC = n then some 2
  else none

/-- The comparator of a phase of channel H's grid window. -/
def Dev.gridCmp (d : Dev) (p : Nat) : Nat :=
  match p with
  | 0 => d.rd .SAF_HGCFG_CMPA
  | 1 => d.rd .SAF_HGCFG_CMPB
  | _ => d.rd .SAF_HGCFG_CMPC

/-- A trip condition of channel H's grid window is present on some phase (R314). -/
def Dev.gridTripped (d : Dev) : Bool :=
  (List.range 3).any fun p =>
    decide (d.rd .SAF_HGTIM_HOVN ≤ d.saf.hov.at 0 p) || decide (d.rd .SAF_HGTIM_HFN ≤ d.saf.hfr.at 0 p)
      || (d.cmp (d.gridCmp p)).under

/-- Channel H judges its grid window: a trip condition demands SF-A (R314). -/
def Dev.gridJudge (d : Dev) : Dev :=
  let now := d.gridTripped
  let was := d.saf.gridH
  let d1 := d.onSaf fun s => { s with gridH := now }
  if now && !was then d1.demand true 0 true 0x22 else d1

/-- Channel H follows the bits of a grid-window comparator (R314): cycles with ABOVE, and the period, in µs, between rising edges of
BELOW. -/
def Dev.gridFollow (d : Dev) (n old new period : Nat) : Dev :=
  match d.gridPhase n with
  | none => d
  | some p =>
    let c := d.cmp n
    let riseA := bitOf new 1 && !bitOf old 1
    let riseB := bitOf new 0 && !bitOf old 0
    let d1 :=
      if riseA && !c.cycleAbove then
        (d.onSaf fun s => { s with hov := s.hov.set 0 p (satAdd 255 (s.hov.at 0 p) 1) }).setCmp n { c with cycleAbove := true }
      else d
    let d2 :=
      if riseB then
        let c1 := d1.cmp n
        let bad := decide (period < d1.rd .SAF_HGFRQ_HFMIN) || decide (d1.rd .SAF_HGFRQ_HFMAX < period)
        (d1.onSaf fun s => { s with
          hov := if c1.cycleAbove then s.hov else s.hov.set 0 p 0
          hfr := s.hfr.set 0 p (if bad then satAdd 255 (s.hfr.at 0 p) 1 else 0) }).setCmp n
            { c1 with cycleAbove := bitOf new 1, under := false }
      else d1
    d2.gridJudge

/-- The state bits of comparator `n` become `new` (R147, R152, R154, R159). A rise of BELOW or ABOVE inside a blanking window is
withheld from the blanked destinations; the state-change event rises for every change that is not withheld; L2 rising sets L2LAT on a
comparator with second-level routes; a change of a WAKE bit wakes. -/
def Dev.cmpApply (d : Dev) (n new period : Nat) : Dev :=
  let old := d.cmpBits n
  if new = old then d
  else
    let c := d.cmp n
    let nb := bitOf new 0
    let na := bitOf new 1
    let nl := bitOf new 2
    let hideB := c.window && nb && !bitOf old 0
    let hideA := c.window && na && !bitOf old 1
    let c1 := { c with bBelow := if hideB then c.bBelow else nb, bAbove := if hideA then c.bAbove else na }
    let d1 := (((d.flagAt .WCMP_STAT_BELOW n nb).flagAt .WCMP_STAT_ABOVE n na).flagAt .WCMP_STAT_L2 n nl).setCmp n c1
    let d2 := d1.when (nl && !bitOf old 2 && decide (d1.rdAt .WCMP_RT2_LEGS n ≠ 0)) fun x => x.flagAt .WCMP_STAT_L2LAT n true
    let seen := (c1.bBelow != c.bBelow) || (c1.bAbove != c.bAbove) || (nl != bitOf old 2)
    let d3 := d2.when seen fun x => x.raise (160 + n)
    let w := d3.rdAt .WCMP_CFG_WAKE n
    let d4 := d3.when ((List.range 3).any fun k => bitOf w k && (bitOf new k != bitOf old k)) fun x => x.wake n
    d4.gridFollow n old new period

/-- The bits of `new` where `sel` selects, of `old` elsewhere. -/
def pickBits (sel new old : Nat) : Nat :=
  (List.range 3).foldl (fun a k => a + 2 ^ k * bit01 (if bitOf sel k then bitOf new k else bitOf old k)) 0

/-- Sets the held bits, with PUH (R162). -/
def Dev.setHeld (d : Dev) (n h : Nat) : Dev :=
  (d.setCmp n { d.cmp n with held := h }).flagAt .WCMP_STAT_PUH n (decide (h ≠ 0))

/-- The input of comparator `n` is judged at `v` (R147): bits in the power-up hold, bits that a fault forces and bits of a pair under check
keep their values. -/
def Dev.cmpEval (d : Dev) (n v period : Nat) : Dev :=
  if d.rdAt .WCMP_CFG_MODE n = 0 then d
  else
    let c := d.cmp n
    let pin := d.cmpPinned n
    let sel := (List.range 3).foldl (fun a k =>
      a + 2 ^ k * bit01 (!bitOf c.held k && !bitOf pin k && !(decide (c.frozen = 1) && decide (k < 2)) && !(decide (c.frozen = 2) && decide (k = 2)))) 0
    d.cmpApply n (pickBits sel (d.cmpJudge n v) (d.cmpBits n)) period

/-- The bits of comparator `n` that the power-up hold still keeps (R162). -/
def Dev.cmpHeld (d : Dev) (n : Nat) : Nat := pickBits (cmpAll n) (d.cmp n).held 0

/-- An evaluation during the power-up hold (R162): a held bit whose band the input lies outside of follows R147 from here on. -/
def Dev.holdEval (d : Dev) (n v : Nat) : Dev :=
  if d.rdAt .WCMP_CFG_MODE n = 0 then d
  else
    let h := d.cmpHeld n
    let free := d.cmpClear n v
    let left := (List.range 3).foldl (fun a k => a + 2 ^ k * bit01 (bitOf h k && !bitOf free k)) 0
    (d.setHeld n left).cmpEval n v 0

/-- A power-up hold starts (R162): a bit with a destination is 1, another takes PUST. -/
def Dev.holdStart (d : Dev) (n : Nat) : Dev :=
  let bits := pickBits (cmpAll n) (pickBits (d.cmpRouted n) 7 (d.rdAt .WCMP_CFG_PUST n)) 0
  (d.setHeld n (cmpAll n)).cmpApply n bits 0

/-- Every bit of comparator `n` with a destination is forced to 1 (R161, R163). -/
def Dev.cmpForce (d : Dev) (n : Nat) : Dev := d.cmpApply n (pickBits (d.cmpRouted n) 7 (d.cmpBits n)) 0

/-- A blanking window closes (R152): a bit still 1 reaches the blanked destinations. -/
def Dev.windowClose (d : Dev) (n : Nat) : Dev :=
  let c := d.cmp n
  if !c.window then d
  else
    let b := d.onAt .WCMP_STAT_BELOW n
    let a := d.onAt .WCMP_STAT_ABOVE n
    (d.setCmp n { c with window := false, bBelow := b, bAbove := a }).when ((b != c.bBelow) || (a != c.bAbove)) fun x =>
      x.raise (160 + n)

/-- Outside continuous mode no window applies (R151) and no in-service check runs (R160). -/
def Dev.cmpUnwatch (d : Dev) (n : Nat) : Dev :=
  let d1 := d.windowClose n
  d1.setCmp n { d1.cmp n with frozen := 0 }

/-- While MODE is off, bits with a destination read 1 and the others 0 (R147). -/
def Dev.cmpOffBits (d : Dev) (n : Nat) : Dev := d.cmpApply n (pickBits (d.cmpRouted n) 7 0) 0

/-- MODE goes off, which ends a window, a check and a power-up hold (log entry 143). -/
def Dev.cmpOff (d : Dev) (n : Nat) : Dev := ((d.cmpUnwatch n).setHeld n 0).cmpOffBits n

/-- The configuration of comparator `n` has changed: while MODE is off or a fault forces bits, a new route changes what reads 1. -/
def Dev.cmpRerouted (d : Dev) (n : Nat) : Dev :=
  if d.rdAt .WCMP_CFG_MODE n = 0 then d.cmpOffBits n else if d.cmpLive n then d else d.cmpForce n

/-- Writes a configuration field of comparator `n`: a threshold goes to the shadow (R148); MODE leaving off starts the power-up hold; a
route written while off, or while a fault forces bits, changes what reads 1. -/
def Dev.cmpWrite (d : Dev) (n : Nat) (f : Fld) (v : Nat) : Dev :=
  let c := d.cmp n
  match f with
  | .WCMP_THR_LO => d.setCmp n { c with shLo := v }
  | .WCMP_THR_HI => d.setCmp n { c with shHi := v }
  | .WCMP_THR2_LO2 => if n < 16 then d.setCmp n { c with shLo2 := v } else d
  | .WCMP_THR2_HI2 => if n < 16 then d.setCmp n { c with shHi2 := v } else d
  | .WCMP_RT2_LEGS => if n < 16 then
      (d.wrAt f n v).cmpRerouted n
    else d
  | .WCMP_CFG_MODE =>
    let was := d.rdAt f n
    let d1 := d.wrAt f n v
    if v = 0 then d1.cmpOff n
    else
      let d2 := if v = 1 then d1 else d1.cmpUnwatch n
      if was = 0 then d2.holdStart n else d2
  | _ => (d.wrAt f n v).cmpRerouted n

/-- The shadow threshold set of comparator `n` is valid (R148). -/
def Dev.thrValid (d : Dev) (n : Nat) : Bool :=
  let c := d.cmp n
  let h := d.rdAt .WCMP_CFG_HYST n
  decide (c.shLo + h + h < c.shHi) && (decide (16 ≤ n) || (decide (c.shLo2 < c.shLo) && decide (c.shHi < c.shHi2)))

/-- The shadow set of comparator `n` differs from the active one. -/
def Dev.thrDirty (d : Dev) (n : Nat) : Bool :=
  let c := d.cmp n
  decide (c.shLo ≠ d.rdAt .WCMP_THR_LO n) || decide (c.shHi ≠ d.rdAt .WCMP_THR_HI n)
    || (decide (n < 16) && (decide (c.shLo2 ≠ d.rdAt .WCMP_THR2_LO2 n) || decide (c.shHi2 ≠ d.rdAt .WCMP_THR2_HI2 n)))

/-- The Tide edge judges the shadow set (R148): a valid one is loaded into the DACs; an invalid one is not, and sets THRE, at every edge at which
it stands (log entry 69). -/
def Dev.thrLoad (d : Dev) (n : Nat) : Dev :=
  if d.thrValid n then
    if !d.thrDirty n then d
    else
    let c := d.cmp n
    let d1 := (d.wrAt .WCMP_THR_LO n c.shLo).wrAt .WCMP_THR_HI n c.shHi
    if n < 16 then (d1.wrAt .WCMP_THR2_LO2 n c.shLo2).wrAt .WCMP_THR2_HI2 n c.shHi2 else d1
  else d.flagAt .WCMP_STAT_THRE n true

/-- A check or readback fault on comparator `n` (R161, R163): the event, the forced bits, and channel H's fault 0x12 with PROT = 1. -/
def Dev.cmpFault (d : Dev) (n : Nat) (f : Fld) : Dev :=
  let d1 := ((d.flagAt f n true).cmpForce n).raise (192 + n)
  if d1.onAt .WCMP_CFG_PROT n then d1.lockout true 0x12 n else d1

/-- The levels of the two PW balls of leg `m`. -/
def Dev.pwLevels (d : Dev) (m : Nat) : Nat := bit01 (d.pw (2 * m)) + 2 * bit01 (d.pw (2 * m + 1))

/-- A strobe of leg `m` (R150, R151): it opens a window on each comparator that selects the leg, in continuous mode, with BLANK above 0,
unless a window is open or ended less than 50 ns ago (bit n of `recent`). -/
def Dev.strobe (d : Dev) (m recent : Nat) : Dev :=
  d.each 32 fun x n =>
    let c := x.cmp n
    if bitOf (x.rdAt .WCMP_BLK_LEGS n) m && decide (x.rdAt .WCMP_BLK_BLANK n ≠ 0) && decide (x.rdAt .WCMP_CFG_MODE n = 1)
        && !c.window && !bitOf recent n
    then x.setCmp n { c with window := true } else x

/-- Leg `m`'s strobe pulses once a PW ball of the leg has changed its level since the last one, whatever changed it (R150). -/
def Dev.strobeDue (d : Dev) (m recent : Nat) : Dev :=
  let now := d.pwLevels m
  if bitsOf d.conv.seenPw (2 * m + 1) (2 * m) = now then d
  else
    let seen := setBit (setBit d.conv.seenPw (2 * m) (bitOf now 0)) (2 * m + 1) (bitOf now 1)
    ({ d with conv := { d.conv with seenPw := seen } }).strobe m recent

/-- The tie codes of the in-service check (R161). -/
def tieCode (rot : Nat) : Nat := if rot = 0 then 0 else if rot = 1 then 512 else 1024

/-- A tie code within 4 LSB of a threshold skips the comparison (R161). -/
def tieSkips (t thr : Nat) : Bool := decide (t ≤ thr + 4) && decide (thr ≤ t + 4)

/-- The in-service check of comparator `n` starts (R160), in a frame whose number is a multiple of 2^CHKK: on WC00 to WC15 odd-numbered runs check
the second-level pair. DESIGN CHOICE (log entry 142): the first run after a reset is number 0, and it is the frame number that 2^CHKK divides. -/
def Dev.checkStart (d : Dev) (n : Nat) : Dev :=
  let c := d.cmp n
  if decide (d.rdAt .WCMP_CFG_MODE n = 1) && d.onAt .WCMP_CFG_CHKEN n && decide (c.frozen = 0)
      && decide (d.tide % 2 ^ d.rdAt .WCMP_CFG_CHKK n = 0) then
    d.setCmp n { c with frozen := if n < 16 ∧ c.runs % 2 = 1 then 2 else 1, runs := c.runs + 1 }
  else d

/-- The in-service check ends (R160, R161). `swapOk`: the swapped outputs are the complement of the raw ones; `moved`: the raw outputs
changed in the 1 µs before the freeze; `tie`: the outputs of the lower and upper threshold under the tie. The freeze ends in every case: bits that a
check fault does not force follow the input `v`. DESIGN CHOICE (log entry 142): one tie rotation per comparator, shared by both pairs, starts at
AGND; a run some or all of whose comparisons are skipped counts in PASS when none that it made failed. -/
def Dev.checkEnd (d : Dev) (n : Nat) (swapOk moved : Bool) (tie v : Nat) : Dev :=
  let c := d.cmp n
  if c.frozen = 0 then d
  else
    let first := decide (c.frozen = 1)
    let t := tieCode c.rot
    let lo := if first then d.rdAt .WCMP_THR_LO n else d.rdAt .WCMP_THR2_LO2 n
    let hi := if first then d.rdAt .WCMP_THR_HI n else d.rdAt .WCMP_THR2_HI2 n
    let badLo := !tieSkips t lo && (bitOf tie 0 != decide (lo < t))
    let badHi := !tieSkips t hi && (bitOf tie 1 != decide (hi < t))
    let swapBad := !moved && !swapOk
    let prev := if first then c.swap1 else c.swap2
    let skips := bit01 (tieSkips t lo) + bit01 (tieSkips t hi) + bit01 moved
    let c1 := { c with frozen := 0, rot := (c.rot + 1) % 3,
                       swap1 := if first then swapBad else c.swap1, swap2 := if first then c.swap2 else swapBad }
    let d1 := (d.setCmp n c1).bumpAt .WCMP_CHKCNT_SKIP n 0xFFFF skips
    let d2 := d1.when (!badLo && !badHi && !swapBad) fun x => x.bumpAt .WCMP_CHKCNT_PASS n 0xFFFF
    (d2.when (badLo || badHi || (swapBad && prev)) fun x => x.cmpFault n .WCMP_STAT_CHKF).cmpEval n v 0

/-- Recovery, in the sense of R163: ARM = 0 and every cell link stopped or in its blocked state. -/
def Dev.recovery (d : Dev) : Bool :=
  !d.on .PWM_CTRL_ARM
    && (List.range 32).all fun l => !d.onAt .CLINK_STAT_RUNNING l || d.onAt .CLINK_STAT_BLKD l

/-- COMPARATOR_CROSSING (R147): the input of a comparator in continuous mode moves to `v` (1/16 LSB); `period` is the time, in µs, since
the last rising edge of BELOW. -/
def execComparatorCrossing (n : Fin 32) (v period : Nat) (s : State) : Host.Outcome State Fault Refusal :=
  s.upd fun d => if d.rdAt .WCMP_CFG_MODE n.val = 1 then d.cmpEval n.val v period else d

/-- BLANKING_STROBE (R150, R151): the strobe of a change of a PW ball reaches the comparators; without one there is none. -/
def execBlankingStrobe (leg : Fin 24) (recent : BitVec 32) (s : State) : Host.Outcome State Fault Refusal :=
  s.upd fun d => d.ctl fun x => x.strobeDue leg.val recent.toNat

/-- BLANKING_WINDOW_CLOSE (R152). -/
def execBlankingWindowClose (n : Fin 32) (s : State) : Host.Outcome State Fault Refusal :=
  s.upd fun d => d.windowClose n.val

/-- WCMP_L2LAT_CLEAR (R154). -/
def execWcmpL2latClear (req : Requester) (n : Fin 32) (s : State) : Host.Outcome State Fault Refusal :=
  s.upd fun d => d.byFerryman req fun x =>
    if x.onAt .WCMP_STAT_L2 n.val then x else x.flagAt .WCMP_STAT_L2LAT n.val false

/-- CHANNEL_H_COMPARATOR_TRIP (R155, R311): a comparator with H1 or H2, asserted for HFILT samples, demands SF-C unless SAF.HGCFG
names it. -/
def execChannelHComparatorTrip (n : Fin 32) (s : State) : Host.Outcome State Fault Refusal :=
  s.upd fun d =>
    let b := d.cmpBits n.val
    let seen := (d.onAt .WCMP_RT1_H1 n.val && (bitOf b 0 || bitOf b 1)) || (d.onAt .WCMP_RT1_H2 n.val && bitOf b 2)
    if seen && (d.gridPhase n.val).isNone then d.demand true 2 false 0x23 else d

/-- COMPARATOR_SAMPLE (R158): a comparator in sampled mode takes its sample at an edge with N mod 2^SAMPK = 0; the first sample is the
hold's first evaluation (R162). DESIGN CHOICE (log entry 142): it follows TIDE_EDGE, so the item boarded at that edge (R149) holds the sample
before. -/
def execComparatorSample (n : Fin 32) (v period : Nat) (s : State) : Host.Outcome State Fault Refusal :=
  s.upd fun d =>
    if d.rdAt .WCMP_CFG_MODE n.val = 2 ∧ d.tide % 2 ^ d.rdAt .WCMP_CFG_SAMPK n.val = 0 then
      if d.cmpHeld n.val ≠ 0 then d.holdEval n.val v else d.cmpEval n.val v period
    else d

/-- COMPARATOR_CHECK (R160). -/
def execComparatorCheck (n : Fin 32) (s : State) : Host.Outcome State Fault Refusal := s.upd fun d => d.checkStart n.val

/-- COMPARATOR_CHECK_END (R161). -/
def execComparatorCheckEnd (n : Fin 32) (swapOk moved : Bool) (tie : BitVec 2) (v : Nat) (s : State) :
    Host.Outcome State Fault Refusal :=
  s.upd fun d => d.checkEnd n.val swapOk moved tie.toNat v

/-- POWER_UP_HOLD_EVALUATION (R162). -/
def execPowerUpHoldEvaluation (n : Fin 32) (v : Nat) (s : State) : Host.Outcome State Fault Refusal :=
  s.upd fun d => if d.rdAt .WCMP_CFG_MODE n.val = 1 then d.holdEval n.val v else d

/-- Ferryman clears CHKF, RBF or THRE of comparator `n` (R161 to R164): with CHKF or RBF cleared, a power-up hold starts. -/
def Dev.cmpFaultClear (d : Dev) (n mask : Nat) : Dev :=
  let hold := (bitOf mask 29 && d.onAt .WCMP_STAT_CHKF n) || (bitOf mask 27 && d.onAt .WCMP_STAT_RBF n)
  let d1 := d.when (bitOf mask 29) fun x => x.flagAt .WCMP_STAT_CHKF n false
  let d2 := d1.when (bitOf mask 27) fun x => x.flagAt .WCMP_STAT_RBF n false
  let d3 := d2.when (bitOf mask 28) fun x => x.flagAt .WCMP_STAT_THRE n false
  if hold then (if d3.rdAt .WCMP_CFG_MODE n = 0 then (d3.setHeld n (cmpAll n)).cmpOffBits n else d3.holdStart n) else d3

/-- WCMP_FAULT_CLEAR (R162). -/
def execWcmpFaultClear (req : Requester) (n : Fin 32) (mask : BitVec 32) (s : State) : Host.Outcome State Fault Refusal :=
  s.upd fun d => d.byFerryman req fun x => x.cmpFaultClear n.val mask.toNat

/-- The readback starts (R163): AD3 is busy with it; `all`: the start-up self-test. -/
def Dev.readbackGo (d : Dev) (all : Bool) : Dev :=
  (((({ d with conv := { d.conv with rbStart := all } }).flag .WCMP_RBCTL_BUSY true).flag .WCMP_RBCTL_REF false).flag .WCMP_RBRES_DONE false).flagAt .ADC_ADSTAT_RBK 3 true

/-- A write of 1 to WCMP.RBCTL.START: only in bench mode or in recovery and with AD3 claimed by Ferryman, else refused. DESIGN CHOICE (log entry
142): one written while a readback runs changes nothing, REF included. -/
def Dev.readbackAsk (d : Dev) : Dev :=
  if d.on .WCMP_RBCTL_BUSY then d
  else if (d.on .GWY_BENCH_ON || d.recovery) && decide ((d.cell .converter 3).owner = some .ferryman) then d.readbackGo false
  else d.flag .WCMP_RBCTL_REF true

/-- The start-up self-test may run (R163): once after a reset of the supervisor fabric, before claims open, while every comparator is in its
power-up hold. -/
def Dev.readbackDue (d : Dev) : Bool :=
  !d.sys.claimsOpen && !d.on .WCMP_RBCTL_BUSY && !d.on .WCMP_RBRES_DONE && (List.range 32).all fun n => decide (d.cmpHeld n = cmpAll n)

/-- WCMP_READBACK_START (R163): by Ferryman, only in bench mode or in recovery and with AD3 claimed by Ferryman, else refused; at
start-up (no requester) by the device itself. -/
def execWcmpReadbackStart (req : Option Requester) (s : State) : Host.Outcome State Fault Refusal :=
  s.upd fun d => match req with
    | some q => d.byFerryman q Dev.readbackAsk
    | none => if d.readbackDue then d.readbackGo true else d

/-- A DAC that a readback reads (R146, R163), as 4 × n + k: every one of the 96 at start-up, those of the enabled comparators outside
it. -/
def Dev.dacRead (d : Dev) (startUp : Bool) (f : Nat) : Bool :=
  (decide (f / 4 < 16) || decide (f % 4 < 2)) && (startUp || decide (d.rdAt .WCMP_CFG_MODE (f / 4) ≠ 0))

/-- DAC_READBACK_END (R163): `fails` are the DACs outside tolerance, as 4 × n + k, in the order read. -/
def execDacReadbackEnd (fails : List (Fin 128)) (s : State) : Host.Outcome State Fault Refusal :=
  s.upd fun d =>
    if !d.on .WCMP_RBCTL_BUSY then d
    else
      let fs := (fails.map Fin.val).filter (d.dacRead d.conv.rbStart)
      let d1 := ((d.flag .WCMP_RBCTL_BUSY false).flag .WCMP_RBRES_DONE true).flagAt .ADC_ADSTAT_RBK 3 false
      let d2 := (d1.wr .WCMP_RBRES_NFAIL (min 0xFF fs.length)).wr .WCMP_RBRES_FIRST (fs.headD 0)
      d2.each 32 fun x n => x.when (fs.any fun f => decide (f / 4 = n)) fun y => y.cmpFault n .WCMP_STAT_RBF

/-- WCMP_SEAL_SET (R164): the loader sets SEAL once it has written the reserved comparators of a verified configuration. -/
def execWcmpSealSet (s : State) : Host.Outcome State Fault Refusal :=
  s.upd fun d => if d.on .SAF_STAT_CFGOK then d.flag .WCMP_SEAL_SET true else d

end Sys2Proof.Machine
end

