-- ==== Sys2Proof/Machine/Frames.lean ====
section
/-!
DEFINITION. Machine/Frames.lean: Ethernet frames as bytes, the queues they are sent from, the timestamp FIFOs (R221, R234, R235, R241). The layouts of
IEEE 802.3, IEEE 802.1Q, IPv4, UDP, ARP and IEEE 1588 are those of their own standards (log entry 155).
-/
namespace Sys2Proof.Machine

def Dev.onEth (d : Dev) (f : EthNet → EthNet) : Dev := { d with ethn := f d.ethn }

/-- A number of `n` bytes with the most significant byte first, as Ethernet and IPv4 headers carry it. -/
def beBytes (n v : Nat) : List Byte := (leBytes n v).reverse

/-- Such a number at offset `o` of a frame. -/
def beNat (m : List Byte) (o n : Nat) : Nat := leNat (((m.drop o).take n).reverse)

/-! ### Reading a frame -/

/-- What the headers of a frame show: source MAC address, VLAN tag's VID, EtherType, IPv4 source address, whether it is an IPv4 fragment, UDP source and
destination port, and the bytes after the headers. -/
structure NetFrame where
  mac   : Nat
  vid   : Option Nat
  etype : Nat
  ip    : Option Nat
  frag  : Bool
  udp   : Option (Nat × Nat)
  body  : List Byte

/-- The headers of a frame, which begins with its destination address. -/
def netFrame (f : List Byte) : NetFrame :=
  let tagged := decide (beNat f 12 2 = 0x8100)
  let o := if tagged then 16 else 12
  let etype := beNat f o 2
  let p := f.drop (o + 2)
  let h := 4 * (beNat p 0 1 % 16)
  let ip := decide (etype = 0x0800)
  let frag := ip && decide (beNat p 6 2 % 2 ^ 14 ≠ 0)
  let udp := ip && !frag && decide (beNat p 9 1 = 17)
  { mac := beNat f 6 6
    vid := if tagged then some (beNat f 14 2 % 2 ^ 12) else none
    etype := etype
    ip := if ip then some (beNat p 12 4) else none
    frag := frag
    udp := if udp then some (beNat p h 2, beNat p (h + 2) 2) else none
    body := if udp then p.drop (h + 8) else p }

/-- A frame of 64 to 1,522 bytes (R234) whose last four are its FCS. -/
def frameGood (f : List Byte) : Bool :=
  decide (64 ≤ f.length) && decide (f.length ≤ 1522) && decide (leNat (f.drop (f.length - 4)) = crc32 (f.take (f.length - 4)))

/-- The messageType and sequenceId of an IEEE 1588 message, over UDP or directly (Table 9-10), and whether it is an event message. -/
def NetFrame.ptp (f : NetFrame) : Option (Nat × Nat × Bool) :=
  let over1588 := decide (f.etype = 0x88F7) || (match f.udp with
    | some u => decide (u.2 = 319) || decide (u.2 = 320)
    | none => false)
  if over1588 then some (beNat f.body 0 1 % 16, beNat f.body 30 2, decide (beNat f.body 0 1 % 16 < 4)) else none

/-! ### Forming a frame -/

/-- The sum of the 16-bit words of some bytes, an odd last byte padded with zero. -/
def sum16 : List Byte → Nat
  | [] => 0
  | [a] => 256 * a.toNat
  | a :: b :: t => 256 * a.toNat + b.toNat + sum16 t

/-- The checksum of IPv4 and UDP: the complement of the ones' complement sum. -/
def inetSum (l : List Byte) : Nat :=
  let s := sum16 l
  let t := s % 2 ^ 16 + s / 2 ^ 16
  0xFFFF - (t % 2 ^ 16 + t / 2 ^ 16)

/-- A message as UDP over IPv4 (R221): no options, DF, TTL 64, both checksums; `id` is the identification that the manual leaves open. -/
def udpPacket (id src dst port : Nat) (msg : List Byte) : List Byte :=
  let len := 8 + msg.length
  let head := fun (sum : Nat) => beBytes 1 0x45 ++ beBytes 1 0 ++ beBytes 2 (20 + len) ++ beBytes 2 id ++ beBytes 2 0x4000 ++ beBytes 1 64
    ++ beBytes 1 17 ++ beBytes 2 sum ++ beBytes 4 src ++ beBytes 4 dst
  let ports := beBytes 2 port ++ beBytes 2 port ++ beBytes 2 len
  let sum := inetSum (beBytes 4 src ++ beBytes 4 dst ++ beBytes 2 17 ++ beBytes 2 len ++ ports ++ beBytes 2 0 ++ msg)
  head (inetSum (head 0)) ++ ports ++ beBytes 2 (if sum = 0 then 0xFFFF else sum) ++ msg

/-- A frame: addresses, the tag (PCP and VID) if it carries one, EtherType, content padded to the least length, FCS. -/
def etherFrame (dst src : Nat) (tag : Option (Nat × Nat)) (etype : Nat) (body : List Byte) : List Byte :=
  let head := beBytes 6 dst ++ beBytes 6 src ++ (match tag with
    | some (pcp, vid) => beBytes 2 0x8100 ++ beBytes 2 (2 ^ 13 * pcp + vid)
    | none => []) ++ beBytes 2 etype ++ body
  let f := head ++ List.replicate (60 - head.length) 0
  f ++ leBytes 4 (crc32 f)

/-! ### Queues (R234) -/

/-- Queue `q` of port `p` is in use: queue 0 is Ferryman's, any other is enabled and claimed. -/
def Dev.queueUsed (d : Dev) (p q : Nat) : Bool :=
  decide (q = 0) || (d.onAt .ETH_QCFG_EN (8 * p + q) && (d.cell .ethQueue (8 * p + q)).owner.isSome)

/-- A frame waits in transmit queue `q` of port `p`. -/
def Dev.enqueue (d : Dev) (p q : Nat) (f : List Byte) : Dev :=
  if d.queueUsed p q then d.onEth fun e => { e with tx := e.tx.set [] (8 * p + q) (e.tx.at [] (8 * p + q) ++ [f]) } else d

/-- The tag that queue `q` of port `p` gives to a transmitted frame (Table 9-19). -/
def Dev.queueTag (d : Dev) (p q : Nat) : Option (Nat × Nat) :=
  if d.onAt .ETH_QCFG_TAG (8 * p + q) then some (d.rdAt .ETH_QCFG_PCP (8 * p + q), d.rdAt .ETH_QCFG_VID (8 * p + q)) else none

/-- The port's own MAC address. -/
def Dev.portMac (d : Dev) (p : Nat) : Nat := d.rdAt .ETH_MACLO p + 2 ^ 32 * d.rdAt .ETH_MACHI p

/-! ### Timestamps (R235, R241) -/

/-- TSSTATp and TSDATp follow the port's timestamp FIFO. -/
def Dev.stampSync (d : Dev) (p : Nat) : Dev :=
  let l := d.ethn.stamps.at [] p
  let d1 := d.wrAt .ETH_TSSTAT_COUNT p l.length
  match l with
  | [] => d1
  | t :: _ => ((((d1.wrAt .ETH_TSDAT0 p (t.sec % 2 ^ 32)).wrAt .ETH_TSDAT1 p t.ns).wrAt .ETH_TSDAT2_DIR p (bit01 t.tx)).wrAt .ETH_TSDAT2_TYPE p
      t.typ).wrAt .ETH_TSDAT2_SEQ p t.seq

/-- A stamp of the clock, `ns` after the last Tide edge, to a resolution of 8 ns, enters the FIFO of port `p`; a full one loses it and sets OVF. -/
def Dev.stamp (d : Dev) (p : Nat) (tx : Bool) (typ seq ns : Nat) : Dev :=
  let l := d.ethn.stamps.at [] p
  if !d.on .ETH_PTPCTL_EN then d
  else if 64 ≤ l.length then d.flagAt .ETH_TSSTAT_OVF p true
  else
    let t := d.ethn.ns + ns
    let s : Stamp := { sec := d.ethn.sec + t / 1000000000, ns := t % 1000000000 / 8 * 8, tx := tx, typ := typ, seq := seq }
    (d.onEth fun e => { e with stamps := e.stamps.set [] p (l ++ [s]) }).stampSync p

/-! ### Transmission (R234, R235) -/

/-- The next frame to leave port `p`: the oldest of the highest queue that holds one. -/
def EthNet.txHead (e : EthNet) (p : Nat) : Option (Nat × List Byte) :=
  (List.range 8).foldl (fun b q => match e.tx.at [] (8 * p + q) with
    | f :: _ => some (q, f)
    | [] => b) none

/-- Nanoseconds that port `p` takes for a byte. -/
def Dev.byteTime (d : Dev) (p : Nat) : Nat := if d.rdAt .ETH_CTRL_MODE p = 3 then 80 else 8

/-- A frame leaves port `p`, `at'` ns after the last Tide edge: it is counted, and an IEEE 1588 event message is stamped. -/
def Dev.sendFrame (d : Dev) (p q : Nat) (f : List Byte) (at' : Nat) : Dev :=
  let d1 := (d.onEth fun e => { e with
    tx := e.tx.set [] (8 * p + q) ((e.tx.at [] (8 * p + q)).drop 1), out := e.out.set [] p (e.out.at [] p ++ [f]) }).bumpAt .ETH_TXFR p (2 ^ 32 - 1)
  match (netFrame f).ptp with
  | some (typ, seq, true) => d1.stamp p true typ (seq % 2 ^ 16) (at' + 8 * d.byteTime p)
  | _ => d1

/-- Port `p` sends what waits in its queues in strict priority, up to `n` frames, from `t` to `stop` ns after the last Tide edge: a frame takes its bytes
and 20 more for preamble and gap, and one that is on its way at `stop` ends later. -/
def Dev.sendFrames (p stop : Nat) : Nat → Nat → Dev → Dev
  | 0, _, d => d
  | n + 1, t, d =>
    match d.ethn.txHead p with
    | none => d
    | some (q, f) =>
      if stop ≤ t then d.onEth fun e => { e with busy := e.busy.set 0 p (t - stop) }
      else
        let next := t + (f.length + 20) * d.byteTime p
        let x := (d.sendFrame p q f t).onEth fun e => { e with busy := e.busy.set 0 p (next - stop) }
        x.sendFrames p stop n next

/-- What port `p` sends in the frame of `stop` ns that a Tide edge ends, as long as it is enabled with its link up. -/
def Dev.transmit (d : Dev) (stop p : Nat) : Dev :=
  let d1 := d.onEth fun e => { e with out := e.out.set [] p [] }
  if !d1.onAt .ETH_CTRL_EN p || !d1.onAt .ETH_STAT_LINK p then d1
  else
    let t := d1.ethn.busy.at 0 p
    let n := (List.range 8).foldl (fun k q => k + (d1.ethn.tx.at [] (8 * p + q)).length) 0
    (d1.onEth fun e => { e with busy := e.busy.set 0 p (t - stop) }).sendFrames p stop n t

end Sys2Proof.Machine
end

