-- ==== Sys2Proof/Machine/SafetyChannels.lean ====
section
/-!
DEFINITION. Machine/SafetyChannels.lean: the commands of the two safety channels (R304 to R328, R478).
-/
namespace Sys2Proof.Machine

/-! ### Safety inputs (R309, R310) -/

/-- The pair mode that governs input `n`: the even input's PAIR (R310). -/
def Dev.pairMode (d : Dev) (n : Nat) : Nat := d.rdAt .SAF_SICFG_PAIR (n - n % 2)

/-- Input `n`, or the pair it belongs to, is in use, and the functions it demands (R310). -/
def Dev.inputUse (d : Dev) (n : Nat) : Bool × Nat :=
  let e := n - n % 2
  if d.pairMode n = 0 then (d.onAt .SAF_SICFG_EN n, d.rdAt .SAF_SICFG_FUNC n)
  else (d.onAt .SAF_SICFG_EN e, Nat.lor (d.rdAt .SAF_SICFG_FUNC e) (d.rdAt .SAF_SICFG_FUNC (e + 1)))

/-- The level that input `n` shows in its healthy state (the table of R310). -/
def Dev.healthyLevel (d : Dev) (n : Nat) : Bool := !(decide (d.pairMode n = 2) && decide (n % 2 = 1))

/-- A channel's filtered level of input `n`. -/
def Dev.siLevel (d : Dev) (chanH : Bool) (n : Nat) : Bool :=
  if chanH then d.bit .SAF_SILVL_H n else d.bit .SAF_SILVL_P n

/-- Input `n` shows its demand level to the channel. -/
def Dev.siDemands (d : Dev) (chanH : Bool) (n : Nat) : Bool := d.siLevel chanH n != d.healthyLevel n

/-- The channel judges input `n`, or its pair, after a change (R310): a demand latches the mapped functions; a pair that returns to
healthy with one input never having shown its demand level is fault 0x10. -/
def Dev.siJudge (d : Dev) (chanH : Bool) (n : Nat) : Dev :=
  let e := n - n % 2
  let paired := decide (d.pairMode n ≠ 0)
  let key := if paired then e else n
  let use := d.inputUse n
  if !use.1 then d
  else
    let r := d.rx chanH
    let u0 := if paired then d.siDemands chanH e else d.siDemands chanH n
    let u1 := if paired then d.siDemands chanH (e + 1) else u0
    if u0 || u1 then
      let sh := if paired then
          let s0 := if u0 then setBit r.shown e true else r.shown
          if u1 then setBit s0 (e + 1) true else s0
        else r.shown
      (d.setRx chanH { r with demand := setBit r.demand key true, open_ := setBit r.open_ key true, shown := sh }).demands
        chanH use.2 0x20
    else if bitOf r.open_ key then
      let both := !paired || (bitOf r.shown e && bitOf r.shown (e + 1))
      let r1 := { r with
        demand := setBit r.demand key false, open_ := setBit r.open_ key false
        shown := if paired then setBit (setBit r.shown e false) (e + 1) false else r.shown
        disc := if both then r.disc else setBit (setBit r.disc e true) (e + 1) true }
      let d1 := d.setRx chanH r1
      if both then d1 else d1.lockout chanH 0x10 (if bitOf r.shown e then e + 1 else e)
    else d.setRx chanH { r with demand := setBit r.demand key false }

/-- The feedback contact of output `n` is checked against the expected state (R313, R321): 1 while the output is off, 0 while it is on. -/
def Dev.fbRight (d : Dev) (chanH : Bool) (n : Nat) : Bool := bitOf (d.rx chanH).fbk n != bitOf d.saf.expect n

/-- The feedback check of output `n` is in use. -/
def Dev.fbUsed (d : Dev) (n : Nat) : Bool := d.onAt .SAF_SOCFG_EN n && d.onAt .SAF_SOCFG_FBEN n

/-- A receiver of a channel passes a new level (R309). -/
def Dev.safetyInput (d : Dev) (chanH : Bool) (b : SafetyBall) (level : Bool) : Dev :=
  if !chanH && d.sys.cdReset then d
  else
    match b with
    | .si n => (if chanH then d.wrBit .SAF_SILVL_H n.val level else d.wrBit .SAF_SILVL_P n.val level).siJudge chanH n.val
    | .fbk n =>
      let r := d.rx chanH
      let d1 := d.setRx chanH { r with fbk := setBit r.fbk n.val level }
      let d2 := if chanH then d1.flagAt .SAF_SOSTAT_FBK n.val level else d1
      if d2.fbUsed n.val && bitOf d2.saf.fbSettled n.val && !d2.fbRight chanH n.val then d2.lockout chanH 0x0E n.val else d2
    | .srst =>
      let d1 := d.setRx chanH { d.rx chanH with srst := level }
      if chanH then d1.flag .SAF_STAT_SRST level else d1

/-! ### The reset procedure (R326) and the start-up lockout (R478) -/

/-- Every enabled message source has formed a matched pair without DEMAND bits within MSGTO, at both checkers. -/
def Dev.sourcesClear (d : Dev) : Bool :=
  (List.range 8).all fun s => !d.onAt .SAF_MSFN_EN s
    || ((d.saf.rxH.sources.at {} s).clear && (d.saf.rxP.sources.at {} s).clear)

/-- A comparator with H1 or H2 shows a set bit to channel H. -/
def Dev.hComparatorSet (d : Dev) : Bool :=
  (List.range 32).any fun n =>
    (d.onAt .WCMP_RT1_H1 n && (d.onAt .WCMP_STAT_BELOW n || d.onAt .WCMP_STAT_ABOVE n))
      || (d.onAt .WCMP_RT1_H2 n && d.onAt .WCMP_STAT_L2 n)

/-- An SI, or a pair by its even input, that demands a function is not healthy at a channel, or has not completed R310. -/
def Dev.inputUnhealthy (d : Dev) (chanH : Bool) (n : Nat) : Bool :=
  let use := d.inputUse n
  let pair := decide (d.pairMode n ≠ 0)
  use.1 && decide (use.2 ≠ 0) && !(pair && decide (n % 2 = 1))
    && (bitOf (d.rx chanH).open_ n || d.siDemands chanH n || (pair && d.siDemands chanH (n + 1)))

/-- A fault condition of Table 13-8 that the part's own state still shows, by its code, beside those that have rows of their own in Table 13-15: no verified
configuration, a failed SP link, a check flag of a protected comparator; 0 none. -/
def Dev.faultStands (d : Dev) : Nat :=
  if !d.on .SAF_STAT_CFGOK then 0x01
  else if d.sys.spFailed then 0x05
  else if (List.range 32).any (fun n => d.onAt .WCMP_CFG_PROT n && (d.onAt .WCMP_STAT_CHKF n || d.onAt .WCMP_STAT_RBF n)) then 0x12
  else 0

/-- The first failing check of step 3 other than the pulse length, by Table 13-15; 0 when none fails. `fault` is any other fault
condition of Table 13-8 still present. -/
def Dev.resetRefusal (d : Dev) (fault : Nat) : Nat :=
  if (List.range 16).any (fun n => d.inputUnhealthy true n || d.inputUnhealthy false n) then 0x20
  else if d.saf.sfdRun then 0x24
  else if !d.sourcesClear then 0x21
  else if d.saf.gridH ∨ d.saf.gridP then 0x22
  else if d.hComparatorSet then 0x23
  else if d.rd .SAF_SWS ≠ d.rd .SAF_SWSEXP then 0x02
  else if (List.range 8).any (fun n => d.fbUsed n && !(bitOf d.saf.rxH.fbk n && bitOf d.saf.rxP.fbk n)) then 0x25
  else if d.faultStands ≠ 0 then d.faultStands
  else fault

/-- A reset attempt is refused (R326): the code, and the event. -/
def Dev.resetRefuse (d : Dev) (code : Nat) : Dev :=
  (((d.onSaf fun s => { s with resetRun := none }).flag .SAF_RSTAT_DONE true).wr .SAF_RSTAT_CODE code).raise 400

/-- Both fault registers clear (R325). -/
def Dev.clearFaults (d : Dev) : Dev :=
  [Fld.SAF_FLTH_VALID, .SAF_FLTH_CODE, .SAF_FLTH_ITEM, .SAF_FLTP_VALID, .SAF_FLTP_CODE, .SAF_FLTP_ITEM].foldl
    (fun x f => x.wr f 0) d

/-- The lockout and every latched function clear, and the safe gate inhibit is released (step 5 of R326). -/
def Dev.resetAccept (d : Dev) : Dev :=
  let d1 := d.onSaf fun s => { s with
    latchH := 0, latchP := 0, sfaOther := false, sfdRun := false, resetRun := none, pClear := false
    partLockH := none, partLockP := none, partSfB := false
    rxH := { s.rxH with disc := 0 }, rxP := { s.rxP with disc := 0 } }
  let d2 := (((d1.flag .SAF_STAT_LOCKH false).flag .SAF_STAT_LOCKP false).flag .SAF_STAT_INH false).clearFaults
  (((d2.flag .SAF_RSTAT_DONE true).wr .SAF_RSTAT_CODE 0).raise 399).latchSync.outputs

/-- The start-up lockout clears when the conditions of R478 hold: channel H and the latches of SF-A, SF-C and SF-D at once, channel P at
the first normal end of its safety logic task. -/
def Dev.startupClear (d : Dev) : Dev :=
  if d.sys.selfTestPassed && d.saf.partLockH.isNone && d.saf.partLockP.isNone && !d.saf.partSfB
      && decide (d.resetRefusal 0 = 0) && d.on .SAF_STAT_CFGOK then
    let d1 := d.onSaf fun s => { s with latchH := 0, sfaOther := false, sfdRun := false, pClear := true }
    ((d1.flag .SAF_STAT_LOCKH false).flag .SAF_STAT_INH false).latchSync.outputs
  else d

/-- A normal end of an activation of the safety logic task (R305, R478): channel P clears a start-up lockout that waits for it, and
toggles FXP while it is not locked out; channel H watches FXP from here on. -/
def Dev.safetyTaskEnd (d : Dev) : Dev :=
  let d1 :=
    if d.saf.pClear then
      ((d.onSaf fun s => { s with pClear := false, latchP := if s.partSfB then 2 else 0 }).flag .SAF_STAT_LOCKP false).latchSync
    else d
  if d1.locked false then d1 else (d1.onSaf fun s => { s with fxp := !s.fxp, fxpWatch := true }).outputs

/-! ### Safe messages (R322 to R324) -/

/-- The number in `n` bytes of a message from an offset. -/
def msgNat (m : List (BitVec 8)) (off n : Nat) : Nat := leNat ((m.drop off).take n)

/-- VER, TYPE, LEN and CRC of a message are valid (R323, Table 13-7). -/
def msgFormOk (m : List (BitVec 8)) : Bool :=
  decide (32 ≤ m.length) && decide (msgNat m 0 1 = 1) && decide (msgNat m 1 1 = 1) && decide (msgNat m 2 2 = 32)
    && decide (crc32c (m.take 0x1C) = msgNat m 0x1C 4)

/-- The enabled source whose identifier a message carries. -/
def Dev.msgSource (d : Dev) (m : List (BitVec 8)) : Option Nat :=
  (List.range 8).find? fun s => d.onAt .SAF_MSFN_EN s && decide (d.rdAt .SAF_MSRC s = msgNat m 4 4)

/-- SEQ lies 1 to 2^31 ahead of the last passing SEQ. -/
def seqAhead (last : Option Nat) (seq : Nat) : Bool :=
  match last with
  | none => true
  | some l => let a := (seq + 2 ^ 32 - l) % 2 ^ 32
    decide (1 ≤ a) && decide (a ≤ 2 ^ 31)

/-- A checker examines a received copy (R323): a passing copy demands its mapped functions at once; the second copy of one SEQ forms a
matched pair when the contents are equal and is fault 0x11 when they differ. A first copy that a later message overtakes counts in ONE:
its twin copy can no longer pass. Checker P also posts to queue 13, with a payload whose
layout the manual does not give (log entry 22). -/
def Dev.safeMessage (d : Dev) (chanH : Bool) (m : List (BitVec 8)) : Dev :=
  if d.sys.cdReset || !msgFormOk m then d
  else if msgNat m 8 4 ≠ d.rd .SAF_MYID ∧ msgNat m 8 4 ≠ 2 ^ 32 - 1 then d
  else
    match d.msgSource m with
    | none => d
    | some s =>
      let r := d.rx chanH
      let k := r.sources.at {} s
      let seq := msgNat m 0xC 4
      let time := msgNat m 0x10 8
      let body := m.take 32
      let second := decide (k.first.isSome) && decide (k.seq = some seq)
      let passes := second || (seqAhead k.seq seq && (match k.time with | none => true | some t => decide (t < time)))
      if !passes then d
      else
        let same := decide (k.first = some body)
        let k1 :=
          if second then { k with first := none, clear := if same then decide (msgNat m 0x18 2 % 16 = 0) else k.clear }
          else { k with seq := some seq, time := some time, first := some body }
        let d1 := d.setRx chanH { r with sources := r.sources.set {} s k1 }
        let fs := Nat.land (msgNat m 0x18 2 % 16) (d1.rdAt .SAF_MSFN_FN s)
        let d2 := (d1.demands chanH fs (if bitOf fs 3 then 0x24 else 0x21)).when (!second && k.first.isSome) fun x =>
          x.bump .SAF_MSCNT_ONE 0xFFFF
        let d3 := d2.when (!chanH && decide (fs ≠ 0)) fun x =>
          let (v, y) := x.draw (2 ^ 48)
          match y.queuePush 13 v with
          | some z => z.1
          | none => y
        if second && !same then d3.lockout chanH 0x11 s else d3

/-- The message that channel H sends (R324, Table 13-7). -/
def Dev.hMessage (d : Dev) (time : Nat) : List (BitVec 8) :=
  let b := leBytes 1 1 ++ leBytes 1 1 ++ leBytes 2 32 ++ leBytes 4 (d.rd .SAF_MYID) ++ leBytes 4 (2 ^ 32 - 1)
    ++ leBytes 4 (d.saf.txSeq % 2 ^ 32) ++ leBytes 8 time ++ leBytes 2 d.saf.latchH
    ++ leBytes 2 (d.rd .SAF_STAT_LOCKH)
  b ++ leBytes 4 (crc32c b)

/-! ### The signed configuration (R307) -/

/-- The loader may write field `f`: an lk field of SAF, or SAFP of a route (R307, R455). -/
def loaderField (f : Fld) : Bool :=
  decide (f = .EVT_RT_SAFP) || (decide (f.blk = .SAF) && (match f.row with | some r => decide (r.acc = .lk) | none => false))

/-- A reserved claim is made (R24): the reservation, and the holder of that rank. A holder there is keeps it (R22). -/
def Dev.reserve (d : Dev) (r : Resource) (n rank : Nat) : Dev :=
  let c := d.cell r n
  d.setCell r n { c with
    rsv := some rank, rsvSealed := true
    owner := some (c.owner.getD (match rank with | 0 => .channelH | 1 => .channelP | _ => .metering)) }

/-- Channel H's loader acts on a verified configuration, in the order of R307; the SE parameter block is written into the zeroed SE data
SRAM at the control domain's start. -/
def Dev.configLoad (d : Dev) (c : Scfg) : Dev :=
  let d1 := c.fields.foldl (fun x e => x.when (loaderField e.1) fun y => y.loadField e.1 e.2.1 e.2.2) d
  let d2 := c.comparators.foldl (fun x k =>
    k.fields.foldl (fun y f => match f.1.row with
      | some r => if r.acc = .lk ∧ f.1.blk = .WCMP then
          y.cmpWrite k.n f.1 (r.range.apply (y.rdAt f.1 k.n) (f.2 % 2 ^ r.width)) else y
      | none => y) (x.reserve .comparator k.n (min k.rank 1))) d1
  let d4 := c.claims.foldl (fun x e => x.reserve e.1 e.2.1 (min e.2.2 1)) d2
  let d5 := d4.each 8 fun x j => x.wrAt .SAF_CFGDG j (leNat ((c.digest.drop (4 * j)).take 4))
  ((d5.flag .SAF_SEAL_SET true).flag .SAF_STAT_CFGOK true).outputs

/-! ### Commands -/

/-- SWITCH_READBACK_FAULT (R304). -/
def execSwitchReadbackFault (chanH : Bool) (out : Fin 8) (s : State) : Host.Outcome State Fault Refusal :=
  s.upd fun d => d.lockout chanH 0x0D out.val

/-- FXH_TOGGLE (R305): a healthy channel H toggles its wire. -/
def execFxhToggle (s : State) : Host.Outcome State Fault Refusal :=
  s.upd fun d => if d.locked true then d else d.onSaf fun x => { x with fxh := !x.fxh }

/-- FXP_TIMEOUT (R305): channel H, while it watches FXP, records fault 0x08. -/
def execFxpTimeout (s : State) : Host.Outcome State Fault Refusal :=
  s.upd fun d => if d.saf.fxpWatch && !d.sys.cdReset then d.lockout true 0x08 0 else d

/-- FXH_TIMEOUT (R305): channel P's hardware records fault 0x0A and opens every switch P. -/
def execFxhTimeout (s : State) : Host.Outcome State Fault Refusal :=
  s.upd fun d => if d.sys.cdReset then d else d.lockout false 0x0A 0

/-- OSCILLATOR_FAULT (R306). -/
def execOscillatorFault (s : State) : Host.Outcome State Fault Refusal := s.upd fun d => d.lockout true 0x03 0

/-- SAFETY_CONFIG_LOAD (R307): once after each reset of the supervisor fabric; `sigOk` is the Ed448 engine's answer (log entry 4). The loader does not run
after a failed checker self-test (Table 21-3). -/
def execSafetyConfigLoad (sigOk : Bool) (s : State) : Host.Outcome State Fault Refusal :=
  s.upd fun d =>
    if d.sys.loaded then d
    else
      let d1 := d.onSys fun x => { x with loaded := true }
      match d1.saf.cfgPart with
      | some c => if sigOk && !d.on .ECC_STAT_STF then d1.configLoad c else d1.lockoutBoth 0x01 0
      | none => d1.lockoutBoth 0x01 0

/-- SWITCH_BANK_READ (R308): a third consecutive mismatch records fault 0x02. -/
def execSwitchBankRead (chanH : Bool) (bank : BitVec 12) (s : State) : Host.Outcome State Fault Refusal :=
  s.upd fun d =>
    if !chanH && d.sys.cdReset then d else
    let d1 := d.wr .SAF_SWS bank.toNat
    let r := d1.rx chanH
    if bank.toNat = d1.rd .SAF_SWSEXP then d1.setRx chanH { r with bankBad := 0 }
    else
      let d2 := d1.setRx chanH { r with bankBad := min 3 (r.bankBad + 1) }
      if 2 ≤ r.bankBad then d2.lockout chanH 0x02 bank.toNat else d2

/-- SAFETY_INPUT_CHANGE (R309). -/
def execSafetyInputChange (chanH : Bool) (input : SafetyBall) (level : Bool) (s : State) : Host.Outcome State Fault Refusal :=
  s.upd fun d => d.safetyInput chanH input level

/-- DISCREPANCY_TIMEOUT (R310). -/
def execDiscrepancyTimeout (chanH : Bool) (pair : Fin 8) (s : State) : Host.Outcome State Fault Refusal :=
  s.upd fun d =>
    let e := 2 * pair.val
    if d.pairMode e ≠ 0 ∧ d.onAt .SAF_SICFG_EN e ∧ d.siDemands chanH e ≠ d.siDemands chanH (e + 1) then
      let r := d.rx chanH
      (d.setRx chanH { r with disc := setBit (setBit r.disc e true) (e + 1) true }).lockout chanH 0x10 e
    else d

/-- SAFE_STOP_DELAY_EXPIRY (R311): both channels demand SF-A and SF-C, and SF-D's own outputs open. -/
def execSafeStopDelayExpiry (s : State) : Host.Outcome State Fault Refusal :=
  s.upd fun d =>
    if d.saf.sfdRun then
      let d1 := (d.onSaf fun x => { x with sfdRun := false, latchH := setBit x.latchH 3 true, latchP := setBit x.latchP 3 true })
      (((d1.demand true 0 false 0x24).demand true 2 false 0x24).demand false 0 false 0x24).demand false 2 false 0x24
    else d

/-- SFA_REARM (R311): with AREARM = 1, a latch set only by the grid windows clears once both windows have been clear for SFAREC. -/
def execSfaRearm (s : State) : Host.Outcome State Fault Refusal :=
  s.upd fun d =>
    if d.on .SAF_CFG_AREARM && !d.saf.sfaOther && !d.saf.gridH && !d.saf.gridP then
      (d.onSaf fun x => { x with latchH := setBit x.latchH 0 false, latchP := setBit x.latchP 0 false }).latchSync.outputs
    else d

/-- The close request of output `n` is set or cleared (R312): its pull-in asks for its fare, or gives it up (Tables 19-4 and 19-8). -/
def Dev.closeAsk (d : Dev) (n : Nat) (on : Bool) : Dev :=
  let d1 := d.flagAt .SAF_SOSTAT_REQ n on
  if !on then d1.fareDrop (1 + n) else if d.onAt .SAF_SOSTAT_REQ n then d1 else d1.fareAsk (1 + n) (d1.fareOf (1 + n))

/-- CLOSE_REQUEST (R312): the command at the front of queue 12 sets the close requests, payload bits 7:0. -/
def execCloseRequest (s : State) : Host.Outcome State Fault Refusal :=
  s.upd fun d => d.ctl fun x => match (x.queue 12).items with
    | [] => x
    | c :: _ => (x.each 8 fun y n => y.closeAsk n (bitOf c.payload n)).outputs

/-- SWITCH_P_CLOSE (R312): channel P closes switch P of the output once every condition holds. -/
def execSwitchPClose (out : Fin 8) (s : State) : Host.Outcome State Fault Refusal :=
  s.upd fun d =>
    let n := out.val
    if d.keepP n && bitOf d.saf.offPassed n && (!d.onAt .SAF_SOCFG_FBEN n || bitOf d.saf.rxP.fbk n)
        && d.onAt .CAP_CLS_HELD (1 + n) then
      (d.onSaf fun x => { x with cmdP := setBit x.cmdP n true, permit := setBit x.permit n true }).outputs
    else d

/-- PULL_IN_FARE_RELEASE (R437): CAP.PINT after the closure. -/
def execPullInFareRelease (out : Fin 8) (s : State) : Host.Outcome State Fault Refusal := s.upd fun d => d.fareDrop (1 + out.val)

/-- H_GRID_UNDERVOLTAGE (R314): no rising edge of BELOW for HUVT on a phase of channel H's grid window. -/
def execHGridUndervoltage (phase : Fin 3) (s : State) : Host.Outcome State Fault Refusal :=
  s.upd fun d =>
    if d.on .SAF_HGCFG_EN then
      let n := d.gridCmp phase.val
      (d.setCmp n { d.cmp n with under := true }).gridJudge
    else d

/-- SAFE_OUTPUT_OVERCURRENT (R317). -/
def execSafeOutputOvercurrent (out : Fin 8) (s : State) : Host.Outcome State Fault Refusal :=
  s.upd fun d => d.lockoutBoth 0x0F out.val

/-- A test pulse can start on output `n`: energised (on a trailing part by the twin, R313), TEN, no test running, the other switch closed (R318). -/
def Dev.testCan (d : Dev) (chanH : Bool) (n : Nat) : Bool :=
  bitOf d.saf.expect n && d.onAt .SAF_SOCFG_TEN n && decide (d.saf.test.at 0 n = 0)
    && (if chanH then d.onAt .SAF_SOSTAT_SWP n else d.onAt .SAF_SOSTAT_SWH n)

/-- TEST_PULSE_START (R318). -/
def execTestPulseStart (chanH : Bool) (out : Fin 8) (s : State) : Host.Outcome State Fault Refusal :=
  s.upd fun d =>
    if d.testCan chanH out.val then
      ((d.onSaf fun x => { x with test := x.test.set 0 out.val (if chanH then 1 else 2) }).flagAt .SAF_SOSTAT_TRUN out.val
        true).outputs
    else d

/-- TEST_PULSE_END (R318): a failed check is fault 0x0B of the testing channel. -/
def execTestPulseEnd (chanH : Bool) (out : Fin 8) (pass : Bool) (s : State) : Host.Outcome State Fault Refusal :=
  s.upd fun d =>
    if d.saf.test.at 0 out.val = (if chanH then 1 else 2) then
      let d1 := ((d.onSaf fun x => { x with test := x.test.set 0 out.val 0 }).flagAt .SAF_SOSTAT_TRUN out.val false).outputs
      if pass then d1 else d1.lockout chanH 0x0B out.val
    else d

/-- TEST_PULSE_SKIP (R318): a test that cannot start within 100 ms is counted. -/
def execTestPulseSkip (chanH : Bool) (out : Fin 8) (s : State) : Host.Outcome State Fault Refusal :=
  s.upd fun d =>
    if bitOf d.saf.expect out.val && d.onAt .SAF_SOCFG_TEN out.val && !d.testCan chanH out.val then
      d.bumpAt .SAF_SOCNT_TSKIP out.val 0xFFFF
    else d

/-- The off-state result of a voltage in mV (Table 13-6), as SOSTAT.OSR codes it. -/
def offResult (mv : Nat) : Nat := if mv < 15 then 2 else if mv ≤ 4000 then 1 else if mv ≤ 10000 then 3 else 4

/-- OFF_STATE_DIAGNOSTIC (R320): any result but "load present" on an enabled output is fault 0x0C, with the result in ITEM. A trailing
twin with a staged permit skips it (R313). -/
def execOffStateDiagnostic (out : Fin 8) (mv : Nat) (s : State) : Host.Outcome State Fault Refusal :=
  s.upd fun d =>
    let n := out.val
    if d.bit .SAF_STAT_ON n || (bitOf d.saf.permit n && !d.on .PWM_STAT_LEAD && !d.sys.cdReset) then d
    else
      let r := offResult mv
      let d1 := (d.wrAt .SAF_SOSTAT_OSR n r).onSaf fun x => { x with offPassed := setBit x.offPassed n (decide (r = 1)) }
      if r ≠ 1 ∧ d1.onAt .SAF_SOCFG_EN n then d1.lockoutBoth 0x0C (16 * r + n) else d1

/-- FEEDBACK_TIMEOUT (R321): FBKT after the output turned on or off. -/
def execFeedbackTimeout (chanH : Bool) (out : Fin 8) (s : State) : Host.Outcome State Fault Refusal :=
  s.upd fun d =>
    if !d.fbUsed out.val then d
    else if d.fbRight chanH out.val then d.onSaf fun x => { x with fbSettled := setBit x.fbSettled out.val true }
    else d.lockout chanH 0x0E out.val

/-- A port receives a frame of the safe messages' EtherType, behind a tag or not (R322). -/
def Dev.safeFrame (d : Dev) (p : Nat) (frame : List (BitVec 8)) : Bool :=
  d.onAt .ETH_CTRL_EN p && d.onAt .ETH_STAT_LINK p && frameGood frame && decide ((netFrame frame).etype = d.rd .SAF_MSGCFG_ETYPE)

/-- SAFE_MESSAGE (R322, R323): a copy arrives at a checker in a frame; `port3` names the port, ETH3 or ETH2. -/
def execSafeMessage (chanH : Bool) (frame : List (BitVec 8)) (port3 : Bool) (s : State) : Host.Outcome State Fault Refusal :=
  s.upd fun d => if d.safeFrame (if port3 then 3 else 2) frame then d.safeMessage chanH (netFrame frame).body else d

/-- SAFE_MESSAGE_PAIR_TIMEOUT (R323). -/
def execSafeMessagePairTimeout (chanH : Bool) (src : Fin 8) (s : State) : Host.Outcome State Fault Refusal :=
  s.upd fun d =>
    let r := d.rx chanH
    let k := r.sources.at {} src.val
    if k.first.isSome then
      (d.setRx chanH { r with sources := r.sources.set {} src.val { k with first := none } }).bump .SAF_MSCNT_ONE 0xFFFF
    else d

/-- SAFE_MESSAGE_TIMEOUT (R323): the checker demands every function mapped for the source. -/
def execSafeMessageTimeout (chanH : Bool) (src : Fin 8) (s : State) : Host.Outcome State Fault Refusal :=
  s.upd fun d =>
    if d.onAt .SAF_MSFN_EN src.val then
      let r := d.rx chanH
      let k := r.sources.at {} src.val
      let d1 := (d.setRx chanH { r with sources := r.sources.set {} src.val { k with clear := false } }).bump .SAF_MSCNT_TMO 0xFFFF
      let fs := d1.rdAt .SAF_MSFN_FN src.val
      d1.demands chanH fs (if bitOf fs 3 then 0x24 else 0x21)
    else d

/-- A safe message goes out on ETH2 and ETH3, on queue 7 of each (R322); the manual gives no destination address: it is free (log entry 160). -/
def Dev.safeSend (d : Dev) (msg : List (BitVec 8)) : Dev :=
  let r := d.draw (2 ^ 48)
  [2, 3].foldl (fun x p => x.enqueue p 7 (etherFrame r.1 (x.portMac p) (x.queueTag p 7) (x.rd .SAF_MSGCFG_ETYPE) msg)) r.2

/-- SAFE_MESSAGE_SEND (R322, R324): `time` is the IEEE 1588 time of sending, in ns. -/
def execSafeMessageSend (time : Nat) (s : State) : Host.Outcome State Fault Refusal :=
  s.upd fun d => (d.onSaf fun x => { x with txMsg := d.hMessage time, txSeq := (x.txSeq + 1) % 2 ^ 32 }).ctl fun x => x.safeSend (d.hMessage time)

/-- SRST_PULSE (R326): the falling edge of a pulse of `ms` milliseconds, after SRST was low for `lowBefore` milliseconds; `fault` is a
fault condition of Table 13-8 still present, 0 none. -/
def execSrstPulse (ms lowBefore fault : Nat) (s : State) : Host.Outcome State Fault Refusal :=
  s.upd fun d =>
    if lowBefore < 100 ∨ d.saf.resetRun.isSome then d
    else if ms < 300 ∨ 3000 < ms then d.resetRefuse 0x3F
    else
      let code := d.resetRefusal fault
      if code ≠ 0 then d.resetRefuse code else d.onSaf fun x => { x with resetRun := some 0 }

/-- RESET_PROCEDURE_COMPLETE (R326): 20 ms after the edge; `results` are the off-state results of SO0 to SO7 (SOSTAT.OSR codes). -/
def execResetProcedureComplete (results : List Nat) (s : State) : Host.Outcome State Fault Refusal :=
  s.upd fun d => match d.saf.resetRun with
    | none => d
    | some (c + 1) => d.resetRefuse (c + 1)
    | some 0 =>
      let d1 := d.each 8 fun x n =>
        if x.onAt .SAF_SOCFG_EN n then
          (x.wrAt .SAF_SOSTAT_OSR n (results.getD n 0 % 8)).onSaf fun y => { y with offPassed := setBit y.offPassed n (decide (results.getD n 0 = 1)) }
        else x
      if (List.range 8).any (fun n => d.onAt .SAF_SOCFG_EN n && decide (results.getD n 0 ≠ 1)) then d1.resetRefuse 0x0C
      else d1.resetAccept

/-- The self-test stage passes (R476): not while a checker or the pump's drive shows a failed test. -/
def Dev.stagePass (d : Dev) (selfTests : Bool) : Dev :=
  { d with sys := { d.sys with selfTestPassed := d.sys.selfTestPassed || (selfTests && !d.on .ECC_STAT_STF && !d.on .COOL_STAT_DIAGF) } }

/-- STARTUP_LOCKOUT_CLEAR (R478); `selfTests`: every test of Table 21-4 has passed. -/
def execStartupLockoutClear (selfTests : Bool) (s : State) : Host.Outcome State Fault Refusal :=
  s.upd fun d => (d.stagePass selfTests).startupClear

end Sys2Proof.Machine
end

