-- ==== Sys2Proof/Machine/Engine.lean ====
section
/-!
DEFINITION. Machine/Engine.lean: what the issue of an instruction rests on (R55 to R72, R87, R99 to R110): the issue cycle, traps, the lockstep of
the safety pair.
-/
namespace Sys2Proof.Machine

/-! ### Instructions -/

/-- What the issue rules and the profiles need of an instruction (Tables 3-6, 3-7 to 3-10, 4-1, 4-6): its class, latency (0 when it has no
register result), the registers it reads and writes beside its predicate, and the profiles that contain it. -/
structure Op where
  cls    : Nat := 0
  lat    : Nat := 1
  reads  : List Nat := []
  writes : List Nat := []
  /-- It uses the divide unit (R68). -/
  div    : Bool := false
  /-- It is lut.i or lut.b (R69). -/
  lookup : Bool := false
  /-- It is br, jl or jr (R69). -/
  branch : Bool := false
  /-- Cycles for which it occupies the data-SRAM port (R87). -/
  port   : Nat := 0
  control    : Bool := true
  safety     : Bool := false
  management : Bool := true

/-- What an instruction does when it issues and its predicate holds: register writes, flags, a taken transfer, the end of the segment, bytes
stored in the memories; `trap`: it raises a trap (cause, value) after an access that had effects of its own. -/
structure Fx where
  ws     : List RegW := []
  flags  : Nat := 0
  target : Option Nat := none
  stop   : Bool := false
  mem    : List (Nat × List Byte) := []
  trap   : Option (Nat × Nat) := none

/-- The body of an instruction: from the memories, the issue cycle and the part, the trap it raises (cause, value), or its effect. -/
abbrev Body := List Host.Cell → Nat → Dev → Except (Nat × Nat) (Fx × Dev)

/-- The profile of the engine contains the instruction (R102, R103). -/
def Op.allowed (o : Op) : Eng → Bool
  | .ce _ => o.control
  | .se => o.safety
  | .ferryman => o.management

/-- g0 and p0 create no dependency (R55, R57). -/
def realRegs (l : List Nat) : List Nat := l.filter fun r => r ≠ 0 && r ≠ 48

/-! ### Issue (R66 to R72, R87) -/

/-- The first cycle from `lo` on in which R67, R68 and R87 let the instruction issue. -/
def Engine.ready (x : Engine) (o : Op) (pr lo : Nat) : Nat :=
  let c1 := (realRegs (regP pr :: o.reads)).foldl (fun c r => max c (x.land.at 0 r)) lo
  let c2 := (realRegs o.writes).foldl (fun c r => max c (if x.land.at 0 r = 0 then 0 else x.land.at 0 r + 1 - o.lat)) c1
  let c3 := if o.div then max c2 x.divFree else c2
  if 0 < o.port then max c3 x.portFree else c3

/-- The instruction may issue in the same cycle as the one before it (R69, the conditions that R67 and R68 do not cover). -/
def Engine.pairs (x : Engine) (o : Op) (pr : Nat) : Bool :=
  let w := x.prev.writes
  x.issued && !x.prev.paired && !x.prev.branch
    && ((decide (o.cls = 0) && decide (x.prev.cls = 1)) || (decide (o.cls = 1) && decide (x.prev.cls = 0)))
    && (realRegs (regP pr :: o.reads)).all (fun r => !w.contains r) && (realRegs o.writes).all (fun r => !w.contains r)
    && !(x.prev.lookup && decide (0 < o.port)) && !(o.lookup && x.prev.memory)

/-- The issue cycle, and whether the instruction issues as the second half of a pair (R67 to R72). -/
def Engine.cycle (x : Engine) (o : Op) (pr : Nat) : Nat × Bool :=
  if x.pairs o pr && decide (x.ready o pr x.last = x.last) then (x.last, true)
  else
    let c := x.ready o pr x.earliest
    (if o.cls = 2 then max c x.maxLand else c, false)

/-- The scoreboard after the instruction issued in cycle `c` (R66 to R72). -/
def Engine.issue (x : Engine) (o : Op) (c : Nat) (paired taken : Bool) : Engine :=
  let ws := realRegs o.writes
  { x with
    land := ws.foldl (fun l r => l.set 0 r (c + o.lat)) x.land
    maxLand := if 0 < o.lat then max x.maxLand (c + o.lat) else x.maxLand
    divFree := if o.div then c + o.lat else x.divFree
    portFree := if 0 < o.port then max x.portFree (c + o.port) else x.portFree
    issued := true
    last := c
    earliest := if taken then c + 3 else c + 1
    prev := { cls := o.cls, writes := ws, paired := paired, branch := o.branch, lookup := o.lookup
              memory := decide (0 < o.port) && !o.lookup } }

/-! ### Count signals, tags (R458, R461) -/

/-- Counts an engine's signal `x` of Table 20-2; Ferryman has none. -/
def Dev.engineSignal (d : Dev) (e x a : Nat) : Dev := if e ≤ 8 ∧ 0 < a then d.signal (0x200 + 16 * e + x) a else d

/-- The tagger sees an issued instruction (R461): a record waits for its landing, or the interval counts down. The interval is
2^K + j with j drawn from a generator, a free value (log entry 1). -/
def Dev.tag (d : Dev) (e task pc c stall lat : Nat) (paired pfalse trap : Bool) : Dev :=
  if !d.on .PCNT_TAGCFG_EN || decide (d.rd .PCNT_TAGCFG_ENG ≠ e) then d
  else if 0 < d.evt.tagWait then { d with evt := { d.evt with tagWait := d.evt.tagWait - 1 } }
  else
    let k := min (d.rd .PCNT_TAGCFG_K) 16
    let r := d.draw (2 ^ k)
    let wait := if k = 0 then 0 else 2 ^ k + r.1 - 2 ^ (k - 1) - 1
    let rec_ : TagRec :=
      { a := pc % 2 ^ 16 * 2 ^ 16 + task * 2 ^ 7 + e * 2 ^ 3 + bit01 paired * 4 + bit01 pfalse * 2 + bit01 trap
        b := c % 2 ^ 17 * 2 ^ 15 + min stall 255 * 2 ^ 7 + lat * 4 + 1 }
    let d1 := r.2
    { d1 with evt := { d1.evt with tagWait := wait, tagPend := d1.evt.tagPend ++ [rec_] } }

/-! ### Traps (R99 to R101, R105 to R108) -/

/-- Applies `f` to a task's activation. -/
def Dev.onAct (d : Dev) (t : Nat) (f : Act → Act) : Dev := d.onTt fun x => { x with acts := x.acts.set {} t (f (x.acts.at {} t)) }

/-- An activation is abandoned: what it staged and stored is discarded (R48, R49, R100). -/
def Dev.abandon (d : Dev) (t : Nat) : Dev :=
  d.onAct t fun a => { a with staged := [], stores := [], commands := [], idle := true, abandoned := true, abandonedAt := d.tide + 1 }

/-- Sets bit-fields of the trap registers of an engine: CEn's, or the SE pair's. -/
def Dev.recordTrap (d : Dev) (e task pc code value : Nat) : Dev :=
  if e < 8 then
    let first := !d.onAt .CE_TRAP_VALID e
    let d1 := d.when first fun x =>
      ((((x.flagAt .CE_TRAP_VALID e true).wrAt .CE_TRAP_TASK e task).wrAt .CE_TRAP_CAUSE e code).wrAt .CE_TRAPPC e (pc % 2 ^ 16)).wrAt
        .CE_TRAPVAL e (value % 2 ^ 32)
    d1.bumpAt .CE_TRAP_COUNT e 255
  else
    let first := !d.on .SE_TRAP_VALID
    let d1 := d.when first fun x =>
      ((((x.flag .SE_TRAP_VALID true).wr .SE_TRAP_TASK task).wr .SE_TRAP_CAUSE code).wr .SE_TRAPPC (pc % 2 ^ 16)).wr
        .SE_TRAPVAL (value % 2 ^ 32)
    d1.bump .SE_TRAP_COUNT 255

/-- An instruction of CE or SE number `e` raises a trap (R100, R101): recorded, the event raised, the activation abandoned; on the SE pair
channel P reports fault 0x07. -/
def Dev.engineTrap (d : Dev) (e code value : Nat) : Dev :=
  let x := d.engine e
  let d1 := (d.setEngine e { x with trapped := true }).recordTrap e x.task x.pc code value
  let d2 := ((((d1.abandon x.task).engineSignal e 9 1).lerr 0).dryNote 1).raise (34 + e)
  if e = 8 then d2.lockout false 0x07 x.task else d2

/-- Ferryman takes a trap (R108): saved as at an interrupt entry, except that the levels stay. -/
def Dev.ferryTrap (d : Dev) (code value : Nat) : Dev :=
  let x := d.engine 10
  let f := d.vcs.ferry
  let d1 := d.setEngine 10 { x with pc := f.mvec, earliest := x.last + 1 }
  { d1 with vcs := { d1.vcs with ferry := { f with
      mepc := x.pc, mcause := code, mtval := value, pmie := f.mie, ppriv := f.priv, mie := false, priv := true
      entries := false :: f.entries, waiting := false } } }

/-- The trap of engine `e`. -/
def Dev.trapOf (d : Dev) (e code value : Nat) : Dev := if e = 10 then d.ferryTrap code value else d.engineTrap e code value

/-- The permission of an access of `n` bytes at `a` by Ferryman (R107): the lowest-numbered enabled region that contains the first byte
decides, and the access must lie wholly inside it. `bit`: 2 execute, 1 write, 0 read. -/
def Ferry.permits (f : Ferry) (a n bit : Nat) : Bool :=
  f.priv || match (List.range 8).find? fun r =>
      bitOf (f.lim.at 0 r) 3 && decide (f.base.at 0 r / 4096 ≤ a / 4096) && decide (a / 4096 ≤ f.lim.at 0 r / 4096) with
    | some r => bitOf (f.lim.at 0 r) bit && decide ((a + n - 1) / 4096 ≤ f.lim.at 0 r / 4096)
    | none => false

/-- Ferryman's pending interrupt levels (s.mpend, R454). -/
def Dev.mpend (d : Dev) : Nat :=
  (List.range 16).foldl (fun m l => if (List.range 512).any fun n =>
    d.onAt .EVT_RT_PEND n && d.onAt .EVT_RT_FM n && decide (d.rdAt .EVT_RT_LVL n = l) then m + 2 ^ l else m) 0

/-- The lowest pending level below s.mlevel. -/
def Dev.mlowest (d : Dev) : Option Nat := (List.range 16).find? fun l => bitOf d.mpend l && decide (l < d.vcs.ferry.mlevel)

/-- The engine can issue now: a segment runs (on Ferryman, the processor runs), nothing has trapped or stopped it, and it is not halted. -/
def Dev.canIssue (d : Dev) (e : Nat) (c : Nat × Bool) : Bool :=
  let x := d.engine e
  if e = 10 then !d.vcs.ferry.halted && (!d.vcs.ferry.waiting || d.mlowest.isSome)
  else !d.sys.cdReset && x.running && !x.trapped && !x.exceed
    && (!x.halted || x.step || (c.2 && decide (x.stepCycle = some c.1)))

/-! ### Lockstep (R110) -/

/-- What the body of an instruction answers: its trap, or its effect and the part after it. -/
abbrev Ran := Except (Nat × Nat) (Fx × Dev)

/-- The trap of a run, if it has one. -/
def ranTrap : Ran → Option (Nat × Nat)
  | .ok (fx, _) => fx.trap
  | .error t => some t

/-- The bytes that a run stores. -/
def ranMem : Ran → List (Nat × List Byte)
  | .ok (fx, _) => fx.mem
  | .error _ => []

/-- The part as SE1 sees it: SE0's record with SE1's registers and flags, SE1's own memories (R20). -/
def Dev.asSe1 (d : Dev) : Dev :=
  let y := d.engine 9
  (d.setEngine 8 { d.engine 8 with g := y.g, p := y.p, flags := y.flags }).onEcc fun e => { e with bad := e.bad1 }

/-- The memories as SE1 sees them (R20). -/
def Dev.se1View (d : Dev) (m : List Host.Cell) : List Host.Cell :=
  d.eccm.diff1.foldl (fun m x => memSet m x.1 (BitVec.ofNat 8 (x.2 - 1))) m

/-- The unit of Table 4-13 in which the results of an instruction on SE0 (`a`) and on SE1 (`b`) differ first; 0 none. `d`: the part before it. -/
def lockstepUnit (d : Dev) (a b : Ran) : Nat :=
  match a, b with
  | .ok (fx, x), .ok (fy, y) =>
    let t := (d.engine 8).task
    let special := (x.engine 8).flags != (d.engine 8).flags || (y.engine 8).flags != (d.asSe1.engine 8).flags
    if fx.ws ≠ fy.ws then 1
    else if fx.mem ≠ fy.mem then 2
    else if (x.tt.acts.at {} t).staged ≠ (y.tt.acts.at {} t).staged then 3
    else if fx.target ≠ fy.target ∨ fx.stop ≠ fy.stop ∨ fx.trap ≠ fy.trap then 4
    else if fx.flags ≠ fy.flags ∨ (special ∧ (x.engine 8).flags ≠ (y.engine 8).flags) then 5
    else 0
  | .error x, .error y => if x = y then 0 else 4
  | _, _ => 4

/-- SE1 keeps what it computed itself: registers, flags, its memories and their check bits (R20, R110). `d`: the part before the instruction,
`after`: after SE0's. -/
def Dev.se1Keeps (d after : Dev) (m : List Host.Cell) (a b : Ran) : Dev :=
  let d1 := match b with
    | .ok (fy, y) =>
      let z := fy.ws.foldl Engine.put (y.engine 8)
      (after.setEngine 9 { g := z.g, p := z.p, flags := Nat.lor z.flags fy.flags }).onEcc fun e => { e with bad1 := y.eccm.bad, diff1 := d.eccm.diff1 }
    | .error _ => (after.setEngine 9 (d.engine 9)).onEcc fun e => { e with bad1 := d.eccm.bad1, diff1 := d.eccm.diff1 }
  d1.se1Stored m (ranMem a) (ranMem b)

/-- The errors that SE1's data accesses met are counted: SE.ECC sums over SE0 and SE1 (R88, R116). -/
def Dev.se1Counted (d after : Dev) (b : Ran) : Dev :=
  let d1 := match b with
    | .ok (_, y) => if d.rd .SE_ECC_DCOR < y.rd .SE_ECC_DCOR then (after.bump .SE_ECC_DCOR 65535).corrected (se1At (dataSram 8)) else after
    | .error _ => after
  match ranTrap b with
  | some (code, v) => if code = 5 then d1.uncorrectable (se1At (dataSram 8 + v)) else d1
  | none => d1

/-- The pair compares an instruction of cycle `c` (R101, R110): each mismatch makes channel P report fault 0x06, the first is recorded. `d`: the part
before the instruction, `after`: after SE0's. -/
def Dev.lockstep (d after : Dev) (m : List Host.Cell) (c : Nat) (a b : Ran) : Dev :=
  let d1 := d.se1Counted (d.se1Keeps after m a b) b
  let u := lockstepUnit d a b
  if u = 0 then d1
  else
    (d1.when (!d1.on .SE_STAT_LSERR) fun x =>
      ((x.flag .SE_STAT_LSERR true).wr .SE_LSCMP_UNIT u).wr .SE_LSCMP_CYCLE (c % 2 ^ 17)).lockout false 0x06 u

end Sys2Proof.Machine
end

