-- ==== Sys2Proof/Machine/Admission.lean ====
section
/-!
DEFINITION. Machine/Admission.lean: the timetable as it stands in DRAM and the checks that admit it (R39 to R41, R43, R111, R247, R249, R335).
-/
namespace Sys2Proof.Machine

/-! ### The block in DRAM (Tables 2-2 to 2-5) -/

/-- The header's fields. -/
structure TtHeader where
  magic : Nat
  version : Nat
  ntask : Nat
  period : Nat
  offset : Nat
  ttid : Nat
  taskOff : Nat
  setOff : Nat
  setLen : Nat
  clmOff : Nat
  clmLen : Nat
  crc : Nat

/-- Reads the header (Table 2-2). -/
def ttHeader (m : List Host.Cell) (a : Nat) : TtHeader :=
  { magic := memNat m a 4, version := memNat m (a + 4) 2, ntask := memNat m (a + 6) 2, period := memNat m (a + 8) 4
    offset := memNat m (a + 0xC) 4, ttid := memNat m (a + 0x10) 4, taskOff := memNat m (a + 0x14) 4
    setOff := memNat m (a + 0x18) 4, setLen := memNat m (a + 0x1C) 4, clmOff := memNat m (a + 0x20) 4
    clmLen := memNat m (a + 0x24) 4, crc := memNat m (a + 0x3C) 4 }

/-- The extent (R39). -/
def TtHeader.extent (h : TtHeader) : Nat :=
  max (max 64 (h.taskOff + 64 * h.ntask)) (max (h.setOff + h.setLen) (h.clmOff + h.clmLen))

/-- Two ranges overlap. -/
def overlaps (a n b k : Nat) : Bool := decide (0 < n) && decide (0 < k) && decide (a < b + k) && decide (b < a + n)

/-- Check 2 of Table 2-6 (R39). -/
def Dev.ttPlaced (d : Dev) (m : List Host.Cell) (a : Nat) (h : TtHeader) : Bool :=
  decide (h.magic = 0x31425454) && decide (h.version = 1) && decide (h.extent ≤ 2 ^ 24) && decide (a + h.extent ≤ d.dramEnd)
    && decide (h.taskOff % 64 = 0) && decide (h.setOff % 8 = 0) && decide (h.setLen % 8 = 0) && decide (h.clmOff % 8 = 0)
    && decide (h.clmLen % 8 = 0) && decide (0x40 ≤ h.taskOff) && decide (0x40 ≤ h.setOff) && decide (0x40 ≤ h.clmOff)
    && !overlaps h.taskOff (64 * h.ntask) h.setOff h.setLen && !overlaps h.taskOff (64 * h.ntask) h.clmOff h.clmLen
    && decide (h.crc = crc32 (memBytes m a 0x3C ++ [0, 0, 0, 0] ++ memBytes m (a + 0x40) (h.extent - 0x40)))

/-- Where Table 2-5 admits a class. -/
inductive SetRole where
  | input | output | node | claim
deriving DecidableEq

/-- The number of indices of a class, when Table 2-5 admits it in the role (class 0x09 and 0x0D on other engines are check 7's). -/
def classRange (c : Nat) (r : SetRole) : Option Nat :=
  match c, r with
  | 0x01, .input => some 48
  | 0x02, .input => some 64
  | 0x02, .claim => some 64
  | 0x03, .input => some 1536
  | 0x03, .output => some 1536
  | 0x04, .input => some 48
  | 0x05, .input => some 32
  | 0x05, .claim => some 32
  | 0x06, .input => some 16
  | 0x07, .input => some 256
  | 0x08, .output => some 24
  | 0x08, .claim => some 24
  | 0x09, .output => some 8
  | 0x0A, .node => some 262144
  | 0x0A, .output => some 262144
  | 0x0B, .claim => some 32
  | 0x0C, .input => some 16
  | 0x0C, .claim => some 16
  | 0x0D, .input => some 16
  | 0x0D, .claim => some 16
  | 0x0E, .claim => some 80
  | _, _ => none

/-- Reads `n` entries of an area from offset `off` of the timetable at `a`; `none` when they leave the area, their class's range or its role. -/
def ttEntries (m : List Host.Cell) (a areaOff areaLen off n : Nat) (r : SetRole) : Option (List SetEntry) :=
  if n = 0 then some []
  else if off < areaOff ∨ areaOff + areaLen < off + 8 * n then none
  else (List.range n).mapM fun i =>
    let b := a + off + 8 * i
    let e : SetEntry := { cls := memNat m b 1, count := memNat m (b + 2) 2, first := memNat m (b + 4) 4 }
    match classRange e.cls r with
    | some k => if 1 ≤ e.count ∧ e.first + e.count ≤ k then some e else none
    | none => none

/-- A refusal: code, then ENGINE, FRAME, TASK and EXCESS of TTB.ADMSTAT and ADMINFO, and BERTH.ADM (KIND, TASK, EXCESS) for code 0x0C. -/
structure AdmFail where
  code : Nat
  engine : Nat := 0
  frame : Nat := 0
  task : Nat := 0
  excess : Nat := 0
  adm : Option (Nat × Nat × Nat) := none

/-- Descriptor `i` (Table 2-3): its fields, before the checks. -/
def ttRaw (m : List Host.Cell) (b : Nat) : Task :=
  { id := memNat m b 2, engine := memNat m (b + 2) 1, rate := memNat m (b + 3) 1, phase := memNat m (b + 4) 2, order := memNat m (b + 6) 1
    segs := memNat m (b + 7) 1, budget := memNat m (b + 8) 4, entry := memNat m (b + 0xC) 4 }

/-- The descriptor's own fields satisfy check 5. -/
def Task.fieldsOk (t : Task) : Bool :=
  decide (t.id ≤ 511) && decide (t.engine ≤ 8) && decide (t.order ≤ 63) && decide (t.rate ≤ 12) && decide (1 ≤ t.segs)
    && decide (t.segs ≤ 16) && decide (t.phase + t.segs ≤ 2 ^ t.rate) && decide (16 ≤ t.budget) && decide (t.budget ≤ 76000)
    && decide (t.entry % 4 = 0) && decide (t.entry ≤ 0xFFFC)

/-- Check 5 on one descriptor, after the descriptors `before`: the task with its sets, or a refusal. DESIGN CHOICE (log entry 141): an ENGINE or a
TASKID out of range is reported by the low bits that its field holds. -/
def ttTask (m : List Host.Cell) (a : Nat) (h : TtHeader) (before : List Task) (i : Nat) : Except AdmFail Task :=
  let b := a + h.taskOff + 64 * i
  let t := ttRaw m b
  let fail : AdmFail := { code := 0x04, engine := t.engine % 16, task := t.id % 512 }
  if !t.fieldsOk || before.any (fun x => decide (x.id = t.id) || (decide (x.engine = t.engine) && decide (x.order = t.order))) then
    .error fail
  else
    let inset := memNat m (b + 0x10) 4
    let nin := memNat m (b + 0x14) 2
    let nout := memNat m (b + 0x16) 2
    let nnode := memNat m (b + 0x18) 2
    match ttEntries m a h.setOff h.setLen inset nin .input, ttEntries m a h.setOff h.setLen (inset + 8 * nin) nout .output,
        ttEntries m a h.setOff h.setLen (inset + 8 * (nin + nout)) nnode .node,
        ttEntries m a h.clmOff h.clmLen (memNat m (b + 0x1C) 4) (memNat m (b + 0x1A) 2) .claim with
    | some x, some y, some z, some w => .ok { t with ins := x, outs := y, nodes := z, claims := w }
    | _, _, _, _ => .error fail

/-- The entry records of an engine's loaded image (R111, R420). -/
def Dev.entryRecord (d : Dev) (t : Task) : Option EntryRec :=
  let l := if t.engine = 8 then d.fm.safe.entries else (d.fm.ctrl.flatMap fun x => x.2.entries)
  l.find? fun r => decide (r.engine = t.engine) && decide (r.entry = t.entry)

/-- Check 6 for a task (R111). -/
def Dev.countsOk (d : Dev) (t : Task) : Bool :=
  match d.entryRecord t with
  | some r => decide (r.nseg = t.segs) && (List.range t.segs).all fun j => decide (r.counts.getD j 0 ≤ t.budget)
  | none => false

/-- Two tasks write a common output item. -/
def Task.sharesOutput (t u : Task) : Bool :=
  t.outs.any fun e => u.outs.any fun f => decide (e.cls = f.cls) && overlaps e.first e.count f.first f.count

/-- Check 7: the first descriptor that uses class 0x09 or 0x0D, in any of its sets, off ENGINE 8, else the first that shares an output item with one
before it. DESIGN CHOICE (log entry 141): which of several failing descriptors is named. -/
def ttOutputs (ts : List Task) : Option Task :=
  let wrong (t : Task) : Bool :=
    decide (t.engine ≠ 8) && (t.ins ++ t.outs ++ t.claims).any fun e => decide (e.cls = 0x09) || decide (e.cls = 0x0D)
  match ts.find? wrong with
  | some t => some t
  | none => (((List.range ts.length).find? fun i =>
      match ts[i]? with
      | some t => (ts.take i).any fun u => t.sharesOutput u
      | none => false).bind fun i => ts[i]?)

/-! ### Node sets (R247, R249) -/

/-- S: the length of a task's node list. -/
def Task.nodeCount (t : Task) : Nat := t.nodes.foldl (fun n e => n + e.count) 0

/-- Sorted insertion of intervals by start. -/
def insertSpan (x : Nat × Nat) : List (Nat × Nat) → List (Nat × Nat)
  | [] => [x]
  | y :: t => if x.1 ≤ y.1 then x :: y :: t else y :: insertSpan x t

/-- How many numbers a list of intervals [first, first + count) holds. -/
def spanCount (l : List (Nat × Nat)) : Nat :=
  let s := l.foldr insertSpan []
  (s.foldl (fun (acc : Nat × Nat) x =>
    let lo := max acc.2 x.1
    let hi := x.1 + x.2
    if lo < hi then (acc.1 + (hi - lo), hi) else acc) (0, 0)).1

/-- The pageable nodes of the whole sets of a timetable, as intervals. -/
def Timetable.wholeSpans (x : Timetable) : List (Nat × Nat) :=
  (x.tasks.filter fun t => decide (t.win = 0)).flatMap fun t => t.nodes.map fun e => (max e.first 1536, e.first + e.count - max e.first 1536)

/-- Ceiling of a quotient. -/
def ceilDiv (a b : Nat) : Nat := (a + b - 1) / b

/-- D of a timetable (R249). -/
def Timetable.demand (x : Timetable) (hor : Nat) : Nat :=
  x.tasks.foldl (fun n t =>
    if t.win = 0 then
      n + ceilDiv (t.nodes.foldl (fun k e => k + (e.first + e.count - max e.first 1536)) 0) (2 ^ t.rate)
    else
      let w := min t.win t.nodeCount
      n + ceilDiv w (min hor (2 ^ t.rate)) + ceilDiv w (2 ^ t.rate)) 0

/-- Check 8 (R249): the failed condition, or none. -/
def Dev.berthsFail (d : Dev) (x : Timetable) : Option (Nat × Nat × Nat) :=
  let hor := d.rd .BERTH_CFG_HOR
  match x.tasks.find? (fun t => decide (4096 < t.win) || t.nodes.any fun e => decide (d.nodeCount < e.first + e.count)) with
  | some t => some (0, t.id, 0)
  | none =>
    let both := x :: d.tt.active.toList
    let u := spanCount (both.flatMap Timetable.wholeSpans)
      + ((both.flatMap Timetable.tasks).filter fun t => decide (t.win ≠ 0)).foldl (fun n t => n + 2 * min t.win t.nodeCount) 0
    let rate := 3 * x.period / 100
    let dm := x.demand hor
    let act := (d.tt.active.map fun a => a.demand hor).getD 0
    let spans := x.wholeSpans
    let unew := spanCount spans - (d.pager.lines.filter fun l =>
      l.2.res && decide (1536 ≤ l.1) && spans.any fun s => decide (s.1 ≤ l.1) && decide (l.1 < s.1 + s.2)).length
    if 31232 < u then some (1, 0, min (u - 31232) 0xFFFF)
    else if rate < dm then some (2, 0, min (dm - rate) 0xFFFF)
    else if (256 : Int) * ((rate : Int) - act) < unew then some (3, 0, min ((unew : Int) - 256 * ((rate : Int) - act)).toNat 0xFFFF)
    else none

/-! ### Load (R40) -/

/-- The load of engine `e` in the frames of index `f`. -/
def ttLoad (ts : List Task) (e f : Nat) : Nat :=
  ts.foldl (fun n t =>
    let r := f % 2 ^ t.rate
    if t.engine = e ∧ t.phase ≤ r ∧ r < t.phase + t.segs then n + t.budget + 24 else n) 40

/-- After so many frames the loads of an engine repeat: the longest rate period of its tasks. -/
def ttRepeat (ts : List Task) (e : Nat) : Nat := ts.foldl (fun n t => if t.engine = e then max n (2 ^ t.rate) else n) 1

/-- The ceiling (R40). -/
def ttCeiling (p : Nat) : Nat := 95 * 2 * p / 100

/-- Check 11: the first overload, lowest engine, then lowest frame. -/
def ttOverload (ts : List Task) (p : Nat) : Option (Nat × Nat × Nat) :=
  (List.range 9).findSome? fun e =>
    ((List.range (ttRepeat ts e)).find? fun f => decide (ttCeiling p < ttLoad ts e f)).map fun f => (e, f, ttLoad ts e f - ttCeiling p)

/-- The peak load of engine `e` and the lowest frame index at which it occurs (Table 2-18). -/
def ttPeak (ts : List Task) (e : Nat) : Nat × Nat :=
  (List.range (ttRepeat ts e)).foldl (fun b f => if b.1 < ttLoad ts e f then (ttLoad ts e f, f) else b) (0, 0)

/-! ### The mirror load (R335) -/

/-- The distinct indices of a class in the input sets, except the queue that is not mirrored. -/
def Timetable.distinct (x : Timetable) (c : Nat) : Nat :=
  spanCount ((x.tasks.flatMap Task.ins).filterMap fun e => if e.cls = c then some (e.first, e.count) else none)

/-- Some input set names item `i` of class `c`. -/
def Timetable.boards (x : Timetable) (c i : Nat) : Bool :=
  x.tasks.any fun t => t.ins.any fun e => decide (e.cls = c) && decide (e.first ≤ i) && decide (i < e.first + e.count)

/-- The mirror load in bytes. -/
def Timetable.mirrorLoad (x : Timetable) : Nat :=
  124 + 12 * (x.distinct 0x02 + (x.distinct 0x06 - bit01 (x.boards 0x06 13)) + x.distinct 0x07)

/-! ### Claims (R26, R30) -/

/-- The requester on whose behalf an engine's claims are made (Table 1-9). -/
def engineRequester (e : Nat) : Requester := if e = 8 then .channelP else .ce ⟨e % 8, Nat.mod_lt _ (by decide)⟩

/-- The resource that a claim entry's item names (Table 2-5). -/
def claimItem (c i : Nat) : Option (Resource × Nat) :=
  match c with
  | 0x02 => some (.analogInput, i)
  | 0x05 => some (.comparator, i)
  | 0x08 => some (.leg, i)
  | 0x0B => some (.cellLink, i)
  | 0x0C => some (.pulseInput, i)
  | 0x0D => some (.safetyInput, i)
  | 0x0E => some (if i < 16 then (.capture, i) else (.counter, i - 16))
  | _ => none

/-- The resources that a task declares. -/
def Task.resources (t : Task) : List (Resource × Nat) :=
  t.claims.flatMap fun e => (List.range e.count).filterMap fun k => claimItem e.cls (e.first + k)

/-- The timetable claims the resource for another engine already. -/
def Timetable.rival (x : Timetable) (q : Requester) (r : Resource × Nat) : Bool :=
  x.held.any fun m => decide (m.1 = r.1) && decide (m.2.1 = r.2) && decide (m.2.2 ≠ q)

/-- The status of a claim that an admission refuses: a resource that the same timetable gives another engine is held (Table 1-11). -/
def Dev.ttRefuse (d : Dev) (x : Timetable) (q : Requester) (r : Resource × Nat) : Dev :=
  if x.rival q r then
    let c := d.cell r.1 r.2
    d.setCell r.1 r.2 { c with status := c.status.set 0 q.id 0x3 }
  else d.claim q r.1 r.2

/-- One claim of an admission: a resource that the active timetable holds for another engine passes at the boundary, unless it is reserved for
another rank (R24) or the timetable claims it for a second engine. -/
def Dev.ttClaim (d : Dev) (x : Timetable) (q : Requester) (r : Resource × Nat) : Option (Dev × Timetable) :=
  let item := (r.1, r.2, q)
  let c := d.cell r.1 r.2
  let passes := match c.owner, d.tt.active with
    | some o, some a => decide (o ≠ q) && a.held.contains (r.1, r.2, o) && (c.rsv.isNone || decide (c.rsv = some q.rank))
    | _, _ => false
  if x.rival q r then none
  else if x.held.contains item then some (d, x)
  else if passes then some (d, { x with moves := item :: x.moves, held := item :: x.held })
  else
    let code := d.claimStatus q r.1 r.2
    let d1 := d.claim q r.1 r.2
    if code = 0x1 then some (d1, { x with granted := item :: x.granted, held := item :: x.held })
    else if code = 0x2 then some (d1, { x with held := item :: x.held })
    else none

/-- Makes every claim of the tasks in order; on a refusal the claims granted before stay in the second result. -/
def Dev.ttClaims : List Task → Dev → Timetable → Except (Dev × Timetable × Task) (Dev × Timetable)
  | [], d, x => .ok (d, x)
  | t :: ts, d, x =>
    let q := engineRequester t.engine
    match t.resources.foldl (fun (acc : Except (Dev × Timetable) (Dev × Timetable)) r =>
        match acc with
        | .error e => .error e
        | .ok (d1, x1) =>
          match d1.ttClaim x1 q r with
          | some y => .ok y
          | none => .error (d1.ttRefuse x1 q r, x1)) (.ok (d, x)) with
    | .error (d1, x1) => .error (d1, x1, t)
    | .ok (d1, x1) => Dev.ttClaims ts d1 x1

/-- The owner's claim on a resource ends: a leg stops on whole pulses, a cell link too (R44, R130); a reserved claim stays while its configuration
is sealed (R24). -/
def Dev.ttRelease (d : Dev) (i : Resource × Nat × Requester) : Dev :=
  let c := d.cell i.1 i.2.1
  if d.mayRelease i.2.2 i.1 i.2.1 then
    let d1 := d.setCell i.1 i.2.1 { c with owner := none }
    match i.1 with
    | .leg => d1.legUnclaim i.2.1
    | .cellLink => d1.linkRun i.2.1 false
    | _ => d1
  else d

/-! ### Admission (R41) -/

/-- The checks 2 to 9 and 11 that read the timetable at `a`: the timetable, or the refusal, in the order of Table 2-6. `twinHas`: the twin holds
a timetable with the same TTID, PERIOD and OFFSET pending, or is admitting it (check 10). -/
def Dev.ttCheck (d : Dev) (m : List Host.Cell) (a : Nat) (twinHas : Bool) : Except AdmFail Timetable :=
  let h := ttHeader m a
  if !d.ttPlaced m a h then .error { code := 0x01 }
  else if h.period < 2000 ∨ 40000 < h.period ∨ 1000 < h.offset ∨ h.period < 2 * h.offset then .error { code := 0x02 }
  else
    let engines := (List.range h.ntask).map fun i => memNat m (a + h.taskOff + 64 * i + 2) 1
    if h.ntask < 1 ∨ 512 < h.ntask ∨ (List.range 256).any (fun e => decide (64 < (engines.filter fun x => x = e).length)) then
      .error { code := 0x03 }
    else
      match (List.range h.ntask).foldl (fun (acc : Except AdmFail (List Task)) i =>
          match acc with
          | .error e => .error e
          | .ok l => match ttTask m a h l i with
            | .error e => .error e
            | .ok t => .ok (l ++ [{ t with win := d.rdAt .BERTH_TWIN_W t.id }])) (.ok []) with
      | .error e => .error e
      | .ok ts =>
        let x : Timetable := { ttid := h.ttid, period := h.period, offset := h.offset, tasks := ts }
        match ts.find? fun t => !d.countsOk t with
        | some t => .error { code := 0x05, engine := t.engine, task := t.id }
        | none => match ttOutputs ts with
          | some t => .error { code := 0x07, engine := t.engine, task := t.id }
          | none => match d.berthsFail x with
            | some f => .error { code := 0x0C, adm := some f }
            | none =>
              let offSafety (t : Task) : Bool := decide (t.engine = 8)
                && (decide ((d.entryRecord t).map EntryRec.profile ≠ some 1) || decide (400000 < 2 ^ t.rate * h.period))
              match ts.find? offSafety with
              | some t => .error { code := 0x09, engine := 8, task := t.id }
              | none =>
                if d.paired ∧ (!twinHas ∨ h.period / 4 < x.mirrorLoad) then .error { code := 0x0A }
                else match ttOverload ts h.period with
                  | some (e, f, n) => .error { code := 0x06, engine := e, frame := f, excess := min n 0x1FFFF }
                  | none => .ok x

/-- The registers that report an admission's outcome, and the event. -/
def Dev.admReport (d : Dev) (f : AdmFail) : Dev :=
  let d1 := (((((d.wr .TTB_ADMSTAT_CODE f.code).wr .TTB_ADMSTAT_ENGINE f.engine).wr .TTB_ADMSTAT_FRAME f.frame).wr .TTB_ADMINFO_TASK
    f.task).wr .TTB_ADMINFO_EXCESS f.excess)
  let d2 := match f.adm with
    | some (k, t, e) => ((d1.wr .BERTH_ADM_KIND k).wr .BERTH_ADM_TASK t).wr .BERTH_ADM_EXCESS e
    | none => d1
  d2.raise 8

/-- A write of 1 to TTB.CTRL.LOAD (R41): check 1, then admission runs. -/
def Dev.ttbLoad (d : Dev) : Dev :=
  if d.tt.admitting.isSome ∨ d.tt.pending.isSome then d.admReport { code := 0x0B }
  else (d.onTt fun t => { t with admitting := some (d.rd .TTB_ADDRLO * 64 + 2 ^ 32 * d.rd .TTB_ADDRHI) }).flag .TTB_ADMSTAT_BUSY true

/-- TTB_LOAD (R41). -/
def execTtbLoad (req : Requester) (s : State) : Host.Outcome State Fault Refusal := s.upd fun d => d.ctlWrite req Dev.ttbLoad

/-- The first hyperperiod boundary at least 256 frames after now (R42). -/
def nextBoundary (n : Nat) : Nat := (n + 257 + 4095) / 4096 * 4096

/-- An admitted timetable is pending (R42). -/
def Dev.ttAdmit (d : Dev) (x : Timetable) : Dev :=
  let b := nextBoundary d.tide
  let d1 := d.onTt fun t => { t with pending := some x, actAt := b }
  let d2 := ((d1.flag .TTB_ADMSTAT_PEND true).wr .TTB_PENDID x.ttid).wr64 .TTB_ACTATLO .TTB_ACTATHI b
  ((d2.wr .TIDE_PERIOD_PEND x.period).wr .TIDE_OFFSET_PEND x.offset).admReport { code := 0 }

/-- Admission ends (R41). -/
def Dev.admissionEnd (d : Dev) (m : List Host.Cell) (twinHas : Bool) : Dev :=
  match d.tt.admitting with
  | none => d
  | some a =>
    let d1 := (d.onTt fun t => { t with admitting := none }).flag .TTB_ADMSTAT_BUSY false
    match d1.ttCheck m a twinHas with
    | .error f => d1.admReport f
    | .ok x =>
      match d1.ttClaims x.tasks x with
      | .ok (d2, y) => (if d2.paired then (d2.wr .TWIN_MIRB_USED x.mirrorLoad).wr .TWIN_MIRB_LIMIT (x.period / 4) else d2).ttAdmit y
      | .error (d2, y, t) => (y.granted.foldl Dev.ttRelease d2).admReport { code := 0x08, engine := t.engine, task := t.id }

/-- ADMISSION_END (R41). -/
def execAdmissionEnd (twinHas : Bool) (s : State) : Host.Outcome State Fault Refusal :=
  s.updR fun m d => d.ctl fun x => x.admissionEnd m twinHas

/-- The pending timetable is discarded and its claims are released (R43); TTB.ACTAT shows the last activation again (Table 2-14). -/
def Dev.ttDrop (d : Dev) : Dev :=
  match d.tt.pending with
  | none => d
  | some x =>
    let d1 := (x.granted.foldl Dev.ttRelease d).onTt fun t => { t with pending := none }
    ((((d1.flag .TTB_ADMSTAT_PEND false).wr .TTB_PENDID 0).wr .TIDE_PERIOD_PEND 0).wr .TIDE_OFFSET_PEND 0).wr64 .TTB_ACTATLO .TTB_ACTATHI d1.tt.lastAct

/-- The part is one of a pair, in step or on the way to it: HOST, JOIN, LEADING or TRAILING (Table 14-8). -/
def Dev.twinned (d : Dev) : Bool := d.paired || (d.on .TWIN_STAT_INST && (decide (d.rd .TWIN_STAT_STATE = 2) || decide (d.rd .TWIN_STAT_STATE = 6)))

/-- The boundary at which the pending timetable will activate, once it is known: in a pair the one that TTACT has named (R42, R347). -/
def Dev.actBoundary (d : Dev) : Option Nat :=
  match d.tt.pending with
  | none => none
  | some p =>
    if d.twinned then (d.twin.ttact.filter fun x => decide (x.2 = p.ttid)).map Prod.fst
    else some (max d.tt.actAt ((d.tide / 4096 + 1) * 4096))

/-- A write of 1 to TTB.CTRL.CANCEL (R43): ignored less than 2 frames before the activation boundary. -/
def Dev.ttbCancel (d : Dev) : Dev :=
  match d.actBoundary with
  | some b => if d.tide + 2 < b then d.ttDrop else d
  | none => d.ttDrop

/-- TTB_CANCEL (R43). -/
def execTtbCancel (req : Requester) (s : State) : Host.Outcome State Fault Refusal := s.upd fun d => d.ctlWrite req Dev.ttbCancel

/-- A write of TTB.CTRL (R43): the cancellation first, the load second. -/
def Dev.ttbCtrl (d : Dev) (cancel load : Bool) : Dev := (d.when cancel Dev.ttbCancel).when load Dev.ttbLoad

/-- A write of TTB.CLRTSK clears the task's TSKnnn and USEnnn registers whole (R54). DEDUCED (log entry 166): Table 2-14 names CONSEC, TOTAL and
MAXUSE; the rule's registers are taken. -/
def Dev.ttbClear (d : Dev) (t : Nat) : Dev :=
  (([.TTB_TSK_CONSEC, .TTB_TSK_TOTAL, .TTB_USE_OVR, .TTB_USE_MAXUSE, .TTB_USE_LAST] : List Fld).foldl (fun x f => x.wrAt f t 0) d).onTt fun x =>
    { x with missRaised := x.missRaised.filter fun k => k ≠ t }

/-- TTB_CLEAR_TASK (R54). -/
def execTtbClearTask (req : Requester) (task : Fin 512) (s : State) : Host.Outcome State Fault Refusal :=
  s.upd fun d => d.ctlWrite req fun x => x.ttbClear task.val

end Sys2Proof.Machine
end

