-- ==== Sys2Proof/Machine/Metering.lean ====
section
/-!
DEFINITION. Machine/Metering.lean: modulator inputs, control filters, metering points (R258 to R279).
-/
namespace Sys2Proof.Machine

/-! ### Modulator inputs and control filters (R261 to R264) -/

/-- Control filter `n`. -/
def Dev.filter (d : Dev) (n : Nat) : Filter := d.met.filters.at {} n

/-- Sets control filter `n`. -/
def Dev.setFilter (d : Dev) (n : Nat) (x : Filter) : Dev := d.onMet fun m => { m with filters := m.filters.set {} n x }

/-- The loss bit of input `n` (R261). -/
def Dev.sdLoss (d : Dev) (n : Nat) : Bool := if n < 32 then d.bit .MTR_SDLOSS0 n else d.bit .MTR_SDLOSS1 (n - 32)

/-- Sets the loss bit of input `n`. -/
def Dev.setSdLoss (d : Dev) (n : Nat) (b : Bool) : Dev :=
  if n < 32 then d.wrBit .MTR_SDLOSS0 n b else d.wrBit .MTR_SDLOSS1 (n - 32) b

/-- The value test of R264: each of the last FRZN outputs lies within FRZTOL of the first of them. -/
def frozenTest (frzn tol : Nat) (hist : List Int) : Bool :=
  let l := hist.take frzn
  decide (0 < frzn) && decide (l.length = frzn) && l.all fun x => decide ((x - l.getLastD 0).natAbs ≤ tol)

/-- FROZEN and LOSS of channel `n` follow their causes, and FRZS and LOSSS record each rise (R264). -/
def Dev.filterFlags (d : Dev) (n : Nat) : Dev :=
  let loss := d.sdLoss n
  let frz := loss || frozenTest (d.rdAt .SDF_CFG_FRZN n) (d.rdAt .SDF_CFG_FRZTOL n) (d.filter n).hist
  let d1 := if loss && !d.onAt .SDF_STAT_LOSS n then d.flagAt .SDF_STAT_LOSSS n true else d
  let d2 := if frz && !d1.onAt .SDF_STAT_FROZEN n then d1.flagAt .SDF_STAT_FRZS n true else d1
  (d2.flagAt .SDF_STAT_LOSS n loss).flagAt .SDF_STAT_FROZEN n frz

/-- Channel `n` restarts (R262, R263): no output until it has filled, SEQ from zero. -/
def Dev.filterRestart (d : Dev) (n : Nat) : Dev :=
  let f := d.filter n
  ((d.setFilter n { f with hist := [], prev := f.sample, prevSeq := 0, boarded := 0 }).wrAt .SDF_STAT_SEQ n 0).flagAt
    .SDF_STAT_RUN n false

/-- The points with a channel on input `n` have lost it in their windows (R274, Table 11-6). -/
def Dev.pointLoss (d : Dev) (n : Nat) : Dev :=
  d.each 28 fun x c =>
    if x.cfgOn .MTR_CHSEL_EN c && decide (x.cfg .MTR_CHSEL_SD c = n) && x.cfgOn .MTR_MPCFG_EN (c / 7) then
      x.onMet fun m => { m with lossW := m.lossW.set false (c / 7) true }
    else x

/-- MODULATOR_LOSS (R261): an input whose CLK is 6 or 7 is unused and has no clock (R260). -/
def execModulatorLoss (n : Fin 48) (s : State) : Host.Outcome State Fault Refusal :=
  s.upd fun d =>
    if 6 ≤ d.cfg .MTR_SDCFG_CLK n.val then d else
    let d1 := ((d.setSdLoss n.val true).pointLoss n.val).when (!d.sdLoss n.val) fun x => x.raise (256 + n.val)
    d1.ctl fun x => x.filterFlags n.val

/-- MODULATOR_LOSS_CLEAR (R261): LOSS clears; FROZEN clears at the next output (R264). -/
def execModulatorLossClear (n : Fin 48) (s : State) : Host.Outcome State Fault Refusal :=
  s.upd fun d =>
    (d.setSdLoss n.val false).ctl fun x => x.flagAt .SDF_STAT_LOSS n.val false

/-- The coefficient w(j) of three cascaded boxcars of length `r` (R262): the ways to write j as a sum of three numbers below r. -/
def sinc3Weight (r j : Nat) : Int :=
  let c (k : Nat) : Int := if k * r ≤ j then (((j - k * r + 2) * (j - k * r + 1) / 2 : Nat) : Int) else 0
  c 0 - 3 * c 1 + 3 * c 2 - c 3

/-- acc of R262 over the bits, newest first. -/
def sinc3Acc (r : Nat) (bits : List Bool) : Int :=
  (List.range (3 * (r - 1) + 1)).foldl (fun a j => if bits.getD j false then a + sinc3Weight r j else a - sinc3Weight r j) 0

/-- Channel `n` gives an output at the domain clock's edge of count `edge`, from the `bits` sampled since its restart (R260, R262): its clock runs, the count is
a multiple of OSR, the next one after an output, and the filter has filled. -/
def Dev.filterDue (d : Dev) (n bits edge : Nat) : Bool :=
  let r := d.rdAt .SDF_CFG_OSR n
  d.onAt .SDF_CFG_EN n && d.clockRuns (d.cfg .MTR_SDCFG_CLK n) && decide (edge % r = 0) && decide (3 * (r - 1) + 1 ≤ edge)
    && decide (3 * (r - 1) + 1 ≤ bits) && (!d.onAt .SDF_STAT_RUN n || decide (edge = (d.filter n).edge + r))

/-- CONTROL_FILTER_OUTPUT (R262 to R264): an output of channel `n` at the edge of count `edge` since its clock started, from the bits sampled since the
channel's restart, newest first. -/
def execControlFilterOutput (n : Fin 48) (edge : Nat) (bits : List Bool) (s : State) : Host.Outcome State Fault Refusal :=
  s.upd fun d => d.ctl fun x =>
    let n := n.val
    if !x.filterDue n bits.length edge then x
    else
      let r := x.rdAt .SDF_CFG_OSR n
      let acc := sinc3Acc r bits
      let u := (fpDiv (fpOfInt acc).1 (fpOfInt (r * r * r : Nat)).1).1
      let y := (fpFma (x.rdAt .SDF_GAIN n) u (x.rdAt .SDF_OFF n)).1
      let f := x.filter n
      let x1 := x.setFilter n { f with
        hist := (acc :: f.hist).take 4095
        sample := y, prev := f.sample, prevSeq := x.rdAt .SDF_STAT_SEQ n, edge := edge }
      let x2 := (x1.wrAt .SDF_STAT_SEQ n ((x1.rdAt .SDF_STAT_SEQ n + 1) % 2 ^ 16)).wrAt .SDF_RAW n (ofSigned 32 acc)
      (x2.flagAt .SDF_STAT_RUN n true).filterFlags n

/-- The class 0x01 item that channel `n` boards (R263, Table 4-2): the latest output completed at least 100 ns before the edge; bits 47:32
SEQ, bit 48 STALE, bit 49 FROZEN. -/
def Dev.filterItem (d : Dev) (n : Nat) (late : Bool) : BitVec 64 :=
  let f := d.filter n
  let q := if late then f.prevSeq else d.rdAt .SDF_STAT_SEQ n
  BitVec.ofNat 64 ((if late then f.prev else f.sample) + 2 ^ 32 * q + 2 ^ 48 * bit01 (decide (q = f.boarded))
    + 2 ^ 49 * d.rdAt .SDF_STAT_FROZEN n)

/-- After boarding, the boarded SEQ is the one that the next edge compares with. -/
def Dev.filterBoarded (d : Dev) (late : Nat → Bool) : Dev :=
  d.each 48 fun x n =>
    let f := x.filter n
    x.setFilter n { f with boarded := if late n then f.prevSeq else x.rdAt .SDF_STAT_SEQ n }

/-! ### Metering samples and points (R265 to R275) -/

/-- The points of channel `c`'s table in force: T, G and D as units of 2^-149 (R270). -/
def Dev.table (d : Dev) (c : Nat) : List (Int × Int × Int) :=
  (List.range (d.cfg .MTR_CHTS_NPTS c)).map fun p =>
    (units (d.cfg .MTR_CTT (16 * c + p)), units (d.cfg .MTR_CTG (16 * c + p)), units (d.cfg .MTR_CTD (16 * c + p)))

/-- Linear interpolation at `t` in a table (R270): numerator and denominator of G, and of D. -/
def interpolate : List (Int × Int × Int) → Int → (Int × Nat) × (Int × Nat)
  | [], _ => ((0, 1), (0, 1))
  | [(_, g, e)], _ => ((g, 1), (e, 1))
  | (ta, ga, da) :: (tb, gb, db) :: rest, t =>
    if t ≤ ta then ((ga, 1), (da, 1))
    else if t < tb then
      (((ga * (tb - ta) + (t - ta) * (gb - ga)), (tb - ta).toNat), ((da * (tb - ta) + (t - ta) * (db - da)), (tb - ta).toNat))
    else interpolate ((tb, gb, db) :: rest) t

/-- The compensation of channel `c` at temperature bits `t` (R267, R270): CHD + D(T) limited to ±50,000 ns. -/
def Dev.compAt (d : Dev) (c t : Nat) : Comp :=
  let chd := units (d.cfg .MTR_CHD c)
  let lim (n : Int) (k : Nat) : Int × Nat :=
    let m : Int := 50000 * 2 ^ 149 * k
    (if m < n then m else if n < -m then -m else n, k)
  if d.cfg .MTR_CHTS_TSRC c = 0x7F then
    let r := lim chd 1
    { dn := r.1, dd := r.2 }
  else
    let x := interpolate (d.table c) (units t)
    let r := lim (x.2.1 + chd * x.2.2) x.2.2
    { gn := x.1.1, gd := x.1.2, dn := r.1, dd := r.2 }

/-- The compensations that the next window of point `m` takes, from the temperatures in use (R270, R271). -/
def Dev.nextComps (d : Dev) (m : Nat) : List Comp := (List.range 7).map fun k => d.compAt (7 * m + k) (d.rdAt .MTR_CHTMP (7 * m + k))

/-! ### Samples and crossings (R265 to R267, R272, R273) -/

/-- The ratio of stage 1 for channel `c`: fMCLK ÷ 40,000 Hz (R265). -/
def Dev.stageRatio (d : Dev) (c : Nat) : Nat := 5000 / d.cfg .MTR_MCLK_DIV (d.cfg .MTR_SDCFG_CLK (d.cfg .MTR_CHSEL_SD c))

/-- Channel `c` is enabled and its input has a clock (R260, R265). -/
def Dev.chanRuns (d : Dev) (c : Nat) : Bool :=
  d.cfgOn .MTR_CHSEL_EN c && d.clockRuns (d.cfg .MTR_SDCFG_CLK (d.cfg .MTR_CHSEL_SD c))

/-- A word is limited to ±(2^23 - 1) (R265). -/
def wordLimit (q : Int) : Int := if 2 ^ 23 - 1 < q then 2 ^ 23 - 1 else if q < -(2 ^ 23 - 1) then -(2 ^ 23 - 1) else q

/-- The word of channel `c` from the bits of a sample period, before it is limited, and its filter after it (R265). -/
def Dev.filterWord (d : Dev) (c : Nat) (bits : List Bool) : Int × MeterChan × Dev :=
  let r := d.stageRatio c
  let f := (d.chan c).stages r 5 bits
  let up := d.draw 2
  (firWord (f.firOut r) (decide (up.1 = 1)), f, up.2)

/-- A sample of channel `c` with word `y`: its value enters the windows and blocks of its point (R267), with vh for a voltage (R275). -/
def Dev.chanSample (d : Dev) (c : Nat) (f : MeterChan) (y : Int) : Dev :=
  let words := (y :: f.words).take 32
  let v := delayed (d.met.comp.at {} c) words
  let vals := v :: f.vals
  d.setChan c { f with
    words := words, vals := vals, quad := if c % 7 < 3 then Config.quadrature (vals.take 128) :: f.quad else f.quad, count := f.count + 1 }

/-- METERING_SAMPLE (R265, R267, R272): the five times D1 bits of a sample period of channel `c`'s input, oldest first, complete a word. -/
def execMeteringSample (c : Fin 28) (bits : List Bool) (s : State) : Host.Outcome State Fault Refusal :=
  s.upd fun d =>
    let c := c.val
    let m := c / 7
    if !d.chanRuns c || decide (bits.length ≠ 5 * d.stageRatio c) then d
    else
      let w := d.filterWord c bits
      let y := wordLimit w.1
      let prev := (d.chan c).vals.headD 0
      let n := (d.chan c).count
      let d1 := (w.2.2.chanSample c w.2.1 y).onMet fun t => { t with q := t.q.set 0 c y }
      let d2 := d1.when (decide (y ≠ w.1)) fun x => x.onMet fun t => { t with clipW := t.clipW.set false m true }
      let d3 := d2.when (decide (8 * 2 ^ 23 < 10 * y.natAbs)) fun x => x.setPoint m { x.point m with wide := true }
      if d3.cfgOn .MTR_MPCFG_EN m ∧ c % 7 = d3.cfg .MTR_MPCFG_ZCSRC m then
        d3.crossingSample m n prev ((d3.chan c).vals.headD 0) (d3.chanScale c (d3.met.comp.at {} c)) (d3.nextComps m)
      else d3

/-- ZERO_CROSSING_TIMEOUT (R273): no crossing of point `m` within three nominal periods of the last. -/
def execZeroCrossingTimeout (m : Fin 4) (s : State) : Host.Outcome State Fault Refusal :=
  s.upd fun d =>
    let m := m.val
    if !d.cfgOn .MTR_MPCFG_EN m || d.onAt .MTR_MPSTAT_ZCTO m || !d.crossingLate m then d
    else
      let d1 := d.crossingTimeout m (d.nextComps m)
      (((d1.flagAt .MTR_MPSTAT_ZCTO m true).flagAt .MTR_MPSTAT_ZCTOS m true).wrAt .MTR_FREQ m 0).raise (304 + m)

/-- TSTALE of point `m` follows its channels (R271). -/
def Dev.pointStale (d : Dev) (m : Nat) : Dev :=
  let b := (List.range 7).any fun k => d.onAt .MTR_CHST_TSTALE (7 * m + k)
  (d.flagAt .MTR_MPSTAT_TSTALE m b).when b fun x => x.onMet fun t => { t with tstaleW := t.tstaleW.set false m true }

/-- T lies outside the table of channel `c` (R270). -/
def Dev.outside (d : Dev) (c t : Nat) : Bool :=
  let ts := (d.table c).map fun p => p.1
  decide (units t < ts.headD 0) || decide (ts.getLastD 0 < units t)

/-- T of channel `c` becomes `t`, with TRANGE (R270). -/
def Dev.setTemp (d : Dev) (c t : Nat) : Dev := (d.wrAt .MTR_CHTMP c t).flagAt .MTR_CHST_TRANGE c (d.outside c t)

/-- TEMPERATURE_UPDATE (R271): the 100 ms reading of channel `c`'s temperature input, T = CHTA × r + CHTB. Only a fresh result counts; a stale input keeps the
last good T. In a pair the leading twin's T, when it changes, goes through the mirror to both (R333). -/
def execTemperatureUpdate (c : Fin 28) (s : State) : Host.Outcome State Fault Refusal :=
  s.upd fun d =>
    let c := c.val
    let a := d.cfg .MTR_CHTS_TSRC c
    if !d.cfgOn .MTR_CHSEL_EN c || a = 0x7F then d
    else
      let q := d.rdAt .ADC_STAT_SEQ a
      let fresh := decide (d.met.tseq.at 0 c ≠ q + 1) && !d.onAt .ADC_STAT_OPEN a
      let d1 := d.onMet fun t => { t with tseq := t.tseq.set 0 c (q + 1) }
      if !fresh then d1
      else
        let t := (fpFma (d.cfg .MTR_CHTA c) (fpOfInt (d.adc.code.at 0 a)).1 (d.cfg .MTR_CHTB c)).1
        let d2 := if !d1.boardsPaired then d1.setTemp c t
          else if d1.on .PWM_STAT_LEAD && decide (t ≠ d1.rdAt .MTR_CHTMP c) then d1.onTwin fun x => { x with tempWait := x.tempWait.set 0 c t }
          else d1
        (d2.flagAt .MTR_CHST_TSTALE c false).pointStale (c / 7)

/-- TEMPERATURE_STALE (R271): the input of channel `c` has been unchanged for 1 s, or is open. -/
def execTemperatureStale (c : Fin 28) (s : State) : Host.Outcome State Fault Refusal :=
  s.upd fun d =>
    if !d.cfgOn .MTR_CHSEL_EN c.val || decide (d.cfg .MTR_CHTS_TSRC c.val = 0x7F) || d.onAt .MTR_CHST_TSTALE c.val then d
    else ((d.flagAt .MTR_CHST_TSTALE c.val true).pointStale (c.val / 7)).raise (308 + c.val / 7)

/-- Writes consecutive register numbers. -/
def Dev.wrList (d : Dev) (f : Fld) (i : Nat) : List Nat → Dev
  | [] => d
  | v :: t => (d.wrAt f i v).wrList f (i + 1) t

/-- The sum of three binary32 values, in order. -/
def fpSum3 (l : List Nat) : Nat := (fpAdd (fpAdd (l.getD 0 0) (l.getD 1 0)).1 (l.getD 2 0)).1

/-- PF (R275): P ÷ S; 0 when S is below 10^-4 × VNOM × INOM. -/
def Dev.powerFactor (d : Dev) (m p s : Nat) : Nat :=
  let sv := (fpVal s).getD 0
  let lim := (fpVal (d.cfg .MTR_MPVNOM m)).getD 0 * (fpVal (d.cfg .MTR_MPINOM m)).getD 0
  if sv * 2 ^ 149 * 10000 < lim then 0 else (fpDiv p s).1

/-- An angle in 0.01° as its 16 bits. -/
def angleBits (x : Int) : Nat := ofSigned 16 x

/-- The quantities of a point over a window, per phase where there are three (R275): binary32 values, the frequency in mHz, the angles Vb − Va, Vc − Va,
Va − Ia, Vb − Ib, Vc − Ic in 0.01°, and whether all of them are valid. -/
structure Quantities where
  vrms : List Nat
  irms : List Nat
  p : List Nat
  q : List Nat
  freq : Nat
  angles : List Int
  angv : Bool

/-- A list of measurements, each drawn after the one before. -/
def Dev.measures (d : Dev) (l : List Nat) (f : Dev → Nat → Nat × Dev) : List Nat × Dev :=
  l.foldl (fun r x => let v := f r.2 x; (r.1 ++ [v.1], v.2)) ([], d)

/-- The frequency of a window in mHz (R275): its line cycles over the time from the first crossing to the last, rounded down or up; 0 for a fixed block (R273). -/
def Dev.freqOf (d : Dev) (w : WindowEnd) : Nat × Dev :=
  let k := w.last - w.first
  let n := w.cycles * 2048000000
  let up := d.draw 2
  (if w.cycles = 0 ∨ k = 0 then 0 else n / k + (if n % k = 0 then 0 else up.1), up.2)

/-- The fundamental phasor of the channel with index `k` of point `m` over a window, and whether its magnitude reaches 1 % of nominal (R275). -/
def Dev.phasorOf (d : Dev) (m : Nat) (w : WindowEnd) (k : Nat) : (Int × Int) × Bool :=
  let s := d.chanScale (7 * m + k) (w.comps.getD k {})
  let a := phasor w.cycles (w.last - w.first) (d.valuesOf (7 * m + k) w.start w.upto)
  let a := if s.1 < 0 then (-a.1, -a.2) else a
  (a, phasorOk a (w.upto - w.start) s (units (d.cfg (if k < 3 then .MTR_MPVNOM else .MTR_MPINOM) m)))

/-- An angle between two phasors; it reads 0 when either is too small. -/
def angleRead (a b : (Int × Int) × Bool) : Int × Bool := if a.2 && b.2 then (angleBetween a.1 b.1, true) else (0, false)

/-- The quantities of point `m` over a window (R275, R276). -/
def Dev.quantities (d : Dev) (m : Nat) (w : WindowEnd) : Quantities × Dev :=
  let vn := units (d.cfg .MTR_MPVNOM m)
  let an := units (d.cfg .MTR_MPINOM m)
  let v := d.measures (List.range 3) fun x k => x.rmsOf (7 * m + k) k vn w
  let i := v.2.measures (List.range 4) fun x k => x.rmsOf (7 * m + 3 + k) (min 2 k) an w
  let s := fun (k : Nat) => (fpMul (v.1.getD k 0) (i.1.getD k 0)).1
  let p := i.2.measures (List.range 3) fun x k => x.powerOf m k (x.valuesOf (7 * m + k) w.start w.upto) 200 500 (s k) w
  let q := p.2.measures (List.range 3) fun x k => x.powerOf m k (x.quadsOf (7 * m + k) w.start w.upto) 500 1000 (s k) w
  let f := q.2.freqOf w
  let z := fun (k : Nat) => d.phasorOf m w k
  let a := [angleRead (z 1) (z 0), angleRead (z 2) (z 0), angleRead (z 0) (z 3), angleRead (z 1) (z 4), angleRead (z 2) (z 5)]
  ({ vrms := v.1, irms := i.1, p := p.1, q := q.1, freq := f.1, angles := a.map Prod.fst, angv := a.all Prod.snd }, f.2)

/-- The result registers of point `m` take the quantities of a window, all together (R274): S, PF and the totals follow from the rest (R275). -/
def Dev.showQuantities (d : Dev) (m : Nat) (x : Quantities) : Dev :=
  let sx := (List.range 3).map fun k => (fpMul (x.vrms.getD k 0) (x.irms.getD k 0)).1
  let pt := fpSum3 x.p
  let st := fpSum3 sx
  let pf := (List.range 3).map fun k => d.powerFactor m (x.p.getD k 0) (sx.getD k 0)
  let d1 := (d.wrList .MTR_VRMS (3 * m) x.vrms).wrList .MTR_IRMS (4 * m) x.irms
  let d2 := (d1.wrList .MTR_P (4 * m) (x.p ++ [pt])).wrList .MTR_Q (4 * m) (x.q ++ [fpSum3 x.q])
  let d3 := (d2.wrList .MTR_S (4 * m) (sx ++ [st])).wrList .MTR_PF (4 * m) (pf ++ [d.powerFactor m pt st])
  let a := x.angles.map angleBits
  let d4 := ((d3.wrAt .MTR_ANGVV_BA m (a.getD 0 0)).wrAt .MTR_ANGVV_CA m (a.getD 1 0)).wrList .MTR_ANGVI (3 * m) [a.getD 2 0, a.getD 3 0, a.getD 4 0]
  (d4.wrAt .MTR_FREQ m (x.freq % 2 ^ 32)).flagAt .MTR_MPSTAT_ANGV m x.angv

/-- The state of point `m` over a window, with the flags that the open interval takes from it (R274, R294, Table 11-11). -/
def Dev.showWindow (d : Dev) (m : Nat) (w : WindowEnd) : Dev :=
  let d1 := d.wrAt .MTR_WCNT m ((d.rdAt .MTR_WCNT m + 1) % 2 ^ 32)
  let d2 := if w.loss && !d.onAt .MTR_MPSTAT_LOSS m then d1.flagAt .MTR_MPSTAT_LOSSS m true else d1
  let d3 := (((d2.flagAt .MTR_MPSTAT_VALID m true).flagAt .MTR_MPSTAT_LOSS m w.loss).flagAt .MTR_MPSTAT_CLIP m w.clip).flagAt .MTR_MPSTAT_FIRST m w.isFirst
  ((d3.when w.loss fun x => x.ivFlag m 1).when w.clip fun x => x.ivFlag m 2).when w.tstale fun x => x.ivFlag m 3

/-- METERING_WINDOW_END (R273 to R276): the oldest window of point `m` that has ended is evaluated, once every channel has its samples. -/
def execMeteringWindowEnd (m : Fin 4) (s : State) : Host.Outcome State Fault Refusal :=
  s.upd fun d =>
    let m := m.val
    let p := d.point m
    if !d.cfgOn .MTR_MPCFG_EN m || !d.counting then d
    else match p.wins with
      | [] => d
      | w :: t =>
        if d.pointCount m < w.upto then d
        else
          let r := d.quantities m w
          (((r.2.setPoint m { p with wins := t }).showQuantities m r.1).showWindow m w).trim m

/-- MPSTATm as a word (Table 11-11). -/
def Dev.mpstatWord (d : Dev) (m : Nat) : Nat :=
  [(Fld.MTR_MPSTAT_VALID, 31), (.MTR_MPSTAT_ZCTO, 30), (.MTR_MPSTAT_TSTALE, 29), (.MTR_MPSTAT_LOSS, 28), (.MTR_MPSTAT_CLIP, 27),
    (.MTR_MPSTAT_FIRST, 26), (.MTR_MPSTAT_ANGV, 25), (.MTR_MPSTAT_ZCTOS, 24), (.MTR_MPSTAT_LOSSS, 23)].foldl
    (fun a p => a + d.rdAt p.1 m * 2 ^ p.2) 0

/-- The result words of point `m`, from FREQ to ANGVI.c (Table 11-10). -/
def Dev.resultWords (d : Dev) (m : Nat) : List Nat :=
  [d.rdAt .MTR_FREQ m, d.rdAt .MTR_WCNT m]
    ++ (List.range 3).map (fun k => d.rdAt .MTR_VRMS (3 * m + k)) ++ (List.range 4).map (fun k => d.rdAt .MTR_IRMS (4 * m + k))
    ++ (List.range 4).map (fun k => d.rdAt .MTR_P (4 * m + k)) ++ (List.range 4).map (fun k => d.rdAt .MTR_Q (4 * m + k))
    ++ (List.range 4).map (fun k => d.rdAt .MTR_S (4 * m + k)) ++ (List.range 4).map (fun k => d.rdAt .MTR_PF (4 * m + k))
    ++ [d.rdAt .MTR_ANGVV_BA m + 2 ^ 16 * d.rdAt .MTR_ANGVV_CA m] ++ (List.range 3).map (fun k => d.rdAt .MTR_ANGVI (3 * m + k))

/-- MPSTAT_READ (R274): the read latches the point's results for the requester. -/
def execMpstatRead (req : Requester) (m : Fin 4) (s : State) : Host.Outcome State Fault Refusal :=
  s.upd fun d =>
    ({ d with lat := { d.lat with mtr := d.lat.mtr.set [] (256 * req.id + m.val) (d.resultWords m.val) } }).answer
      (d.mpstatWord m.val)

/-! ### Configuration (R268, R269, R298) -/

/-- The value of a field in the configuration that a LOAD would validate. -/
def Dev.want (d : Dev) (f : Fld) (i : Nat) : Nat := d.rdAt f i

/-- The metering dividers of R265. -/
def meteringDivider (v : Nat) : Bool := v == 8 || v == 10 || v == 20 || v == 40

/-- Channel `c`'s table meets R270. -/
def Dev.tableValid (d : Dev) (c : Nat) : Bool :=
  let n := d.want .MTR_CHTS_NPTS c
  let t (p : Nat) : Option Int := fpVal (d.want .MTR_CTT (16 * c + p))
  let unit : Int := 2 ^ 149
  (List.range n).all fun p =>
    (match t p, fpVal (d.want .MTR_CTG (16 * c + p)), fpVal (d.want .MTR_CTD (16 * c + p)) with
      | some _, some g, some e =>
        decide (99 * unit ≤ 100 * g) && decide (100 * g ≤ 101 * unit) && decide (-50000 * unit ≤ e) && decide (e ≤ 50000 * unit)
      | _, _, _ => false)
      && (p = 0 || match t (p - 1), t p with
        | some a, some b => decide (a < b)
        | _, _ => false)

/-- Channel `c`'s TSRC names an input that the sealed configuration can reserve for rank 2 (R24, R268). -/
def Dev.tsrcValid (d : Dev) (c : Nat) : Bool :=
  let a := d.want .MTR_CHTS_TSRC c
  decide (a = 0x7F) || (decide (a < 64) && match (d.cell .analogInput a).rsv with
    | some r => decide (r = 2)
    | none => true)

/-- Every condition under which R268 refuses the configuration, as (code, item) of Table 11-12, in the order of the rule. -/
def Dev.loadFaults (d : Dev) : List (Nat × Nat) :=
  let pts := (List.range 4).filter fun m => d.onAt .MTR_MPCFG_EN m
  let chans := (List.range 28).filter fun c => d.onAt .MTR_CHSEL_EN c
  let clk (c : Nat) : Nat := d.want .MTR_SDCFG_CLK (d.want .MTR_CHSEL_SD c)
  (pts.flatMap fun m => ((List.range 7).filter fun k => !d.onAt .MTR_CHSEL_EN (7 * m + k)).map fun k => (0x03, 7 * m + k))
    ++ ((chans.filter fun c => chans.any fun e => decide (e ≠ c) && decide (d.want .MTR_CHSEL_SD e = d.want .MTR_CHSEL_SD c)).map
      fun c => (0x04, c))
    ++ ((pts.filter fun m => (List.range 7).any fun k => decide (clk (7 * m + k) ≠ clk (7 * m))).map fun m => (0x03, m))
    ++ ((pts.filter fun m => decide (6 ≤ clk (7 * m)) || !d.onAt .MTR_MCLK_EN (clk (7 * m))).map fun m => (0x03, m))
    ++ ((pts.filter fun m => decide (clk (7 * m) < 6) && !meteringDivider (d.want .MTR_MCLK_DIV (clk (7 * m)))).map
      fun m => (0x02, clk (7 * m)))
    ++ ((chans.filter fun c => !d.tableValid c).map fun c => (0x05, c))
    ++ ((chans.filter fun c => !d.tsrcValid c).map fun c => (0x06, c))

/-- The LOAD result (Table 11-12). -/
def Dev.loadResult (d : Dev) (code item : Nat) : Dev :=
  ((d.flag .MTR_STAT_CFGE (decide (code ≠ 0))).wr .MTR_STAT_CODE code).wr .MTR_STAT_ITEM item

/-- A write of 1 to MTR.CTRL.LOAD (R268, R269): which of several failing conditions the result names is free (log entry 1). -/
def Dev.mtrLoad (d : Dev) : Dev :=
  let refuse (x : Dev) (code item : Nat) : Dev := (x.loadResult code item).onMet fun m => { m with loadOk := false }
  if d.cus.isSealed then (refuse d 0x01 0).sealedWrite (Blk.base .MTR)
  else
    let l := d.loadFaults
    if l.isEmpty then (d.loadResult 0 0).onMet fun m => { m with load := some d.lockFields }
    else
      let r := d.draw l.length
      let f := l.getD r.1 (0, 0)
      refuse r.2 f.1 f.2

/-- MTR_LOAD (R268, R269): the manual names no requester that may not write it. -/
def execMtrLoad (req : Requester) (s : State) : Host.Outcome State Fault Refusal :=
  s.upd fun d => d.answer.mtrLoad

/-- The claimable resources that the configuration in force names (R298): the temperature inputs of its enabled channels and the pulse
inputs in use. -/
def Dev.meteringNames (d : Dev) : List (Resource × Nat) :=
  (((List.range 28).filter fun c => d.cfgOn .MTR_CHSEL_EN c && decide (d.cfg .MTR_CHTS_TSRC c < 64)).map
      fun c => (Resource.analogInput, d.cfg .MTR_CHTS_TSRC c))
    ++ ((List.range 16).filter fun j =>
      decide (d.cfg .TALLY_PUCFG_MODE j ≠ 0)
        || (decide (j % 2 = 1) && decide (d.cfg .TALLY_PUCFG_MODE (j - 1) = 3))).map fun j => (Resource.pulseInput, j)

/-- The input of channel `c`, its clock domain and its divider are the same in two parts. -/
def Dev.sameInput (d e : Dev) (c : Nat) : Bool :=
  let i := d.cfg .MTR_CHSEL_SD c
  let k := d.cfg .MTR_SDCFG_CLK i
  decide (i = e.cfg .MTR_CHSEL_SD c) && decide (k = e.cfg .MTR_SDCFG_CLK i) && decide (d.cfg .MTR_MCLK_DIV k = e.cfg .MTR_MCLK_DIV k)

/-- The clocks start and stop with EN (R259): at this Tide edge a clock starts with a full high phase, or has completed its period and stops low; from a start its
edges are counted anew (R262). -/
def Dev.clocksFollow (d : Dev) : Dev :=
  let run := (List.range 6).foldl (fun w k => setBit w k (d.cfgOn .MTR_MCLK_EN k)) 0
  let starts (k : Nat) : Bool := bitOf run k && !bitOf d.met.mclkRun k
  let d1 := d.onMet fun m => { m with
    mclkRun := run, mclkOwn := Nat.land m.mclkOwn run
    mclkAge := (List.range 6).foldl (fun a k => if starts k then a.set 0 k 0 else a) m.mclkAge }
  d1.each 48 fun x n => if starts (d.cfg .MTR_SDCFG_CLK n) then x.setFilter n { x.filter n with edge := 0 } else x

/-- A configuration takes force (R259, R268, R298): the open blocks are steered, the clocks follow, the digest follows, the windows restart with FIRST = 1, and
filters whose input or clock domain changed restart. -/
def Dev.applyConfig (e : Dev) (c : Store (Fld × Nat) Nat) : Dev :=
  let d := if e.counting then e.closeBlocks else e
  let d0 := (d.onMet fun m => { m with act := c, load := none }).clocksFollow
  let d1 := (d0.each 4 Dev.pointRestart).each 28 fun x k =>
    let y := if d.sameInput x k then x else x.setChan k {}
    y.flagAt .MTR_CHST_TRANGE k (y.cfgOn .MTR_CHSEL_EN k && decide (y.cfg .MTR_CHTS_TSRC k ≠ 0x7F) && y.outside k (y.rdAt .MTR_CHTMP k))
  let d2 := (d1.wrList .MTR_DGST 0 ((List.range 8).map fun j => leNat ((d1.configDigest.drop (4 * j)).take 4)))
  let d3 := d2.each 4 fun x m =>
    let y := x.flagAt .MTR_MPSTAT_VALID m false
    if y.cfgOn .MTR_MPCFG_EN m then
      y.onMet fun t => { t with
        firstW := t.firstW.set false m true
        lossW := t.lossW.set false m false
        clipW := t.clipW.set false m false
        tstaleW := t.tstaleW.set false m false
        comp := (List.range 7).foldl (fun cs k => cs.set {} (7 * m + k) (x.compAt (7 * m + k) (x.rdAt .MTR_CHTMP (7 * m + k)))) t.comp }
    else y
  d3.ctl fun x => x.each 48 fun y n => if d.cfg .MTR_SDCFG_CLK n = y.cfg .MTR_SDCFG_CLK n then y else y.filterRestart n

/-- METERING_CONFIG_APPLY (R268, R299): at the Tide edge after an accepted LOAD. The CONFIG record is made, the points whose windows
restarted are partial, and claims of the metering engine that the configuration does not name are released. -/
def execMeteringConfigApply (s : State) : Host.Outcome State Fault Refusal :=
  s.upd fun d =>
    match d.met.load with
    | none => d
    | some c =>
      let d1 := (d.applyConfig c).onMet fun m => { m with loadOk := true }
      let d2 := d1.each 4 fun x m => x.when (d.cfgOn .MTR_MPCFG_EN m || x.cfgOn .MTR_MPCFG_EN m) fun y => y.ivFlag m 4
      let names := d2.meteringNames
      let drop (x : Dev) (r : Resource) (n : Nat) : Dev := x.each n fun y i =>
        if decide ((y.cell r i).owner = some .metering) && (y.cell r i).rsv.isNone && !names.contains (r, i) then
          y.setCell r i { y.cell r i with owner := none }
        else y
      ((drop (drop d2 .analogInput 64) .pulseInput 16).sealRecord 0x06 0 0).manSync

/-- MAN_SEAL (R298). -/
def execManSeal (req : Requester) (s : State) : Host.Outcome State Fault Refusal :=
  s.upd fun d => d.byFerryman req fun x => x.manSeal x.meteringNames

/-- BREAK_VERIFY_COMPLETE (R299); `sigOk`: SIG verifies under the metrology authority key (log entry 4). -/
def execBreakVerifyComplete (sigOk : Bool) (s : State) : Host.Outcome State Fault Refusal :=
  s.upd fun d => d.breakDone sigOk

end Sys2Proof.Machine
end

