-- ==== Sys2Proof/Machine/Timetable.lean ====
section
/-!
DEFINITION. Machine/Timetable.lean: Tide edges and boarding, dispatch, overruns, the landing phase, activation (R18, R19, R31 to R54, R90 to R95,
R333, R334, R341).
-/
namespace Sys2Proof.Machine

/-! ### Boarding (R18, R90, R91, R333, R334) -/

/-- The boarding buffer's key of item `i` of class `c`. -/
def boardKey (c i : Nat) : Nat := 2 ^ 20 * c + i

/-- The item that the present edge boards for cell `c` from report `r` (1 + word, 0 none): a stale item keeps the last report. -/
def Dev.cellItem (d : Dev) (c r : Nat) : BitVec 64 :=
  if r = 0 then BitVec.ofNat 64 ((d.vcs.boarded.at 0 (boardKey 3 c)).toNat % 2 ^ 48 + 2 ^ 48)
  else BitVec.ofNat 64 (r - 1 + 2 ^ 32 * bitsOf (r - 1) 31 28)

/-- The item of host command queue `q`: its oldest command (Table 4-2). -/
def Dev.queueItem (d : Dev) (q : Nat) : BitVec 64 :=
  match (d.queue q).items with
  | [] => 0
  | c :: _ => BitVec.ofNat 64 (c.payload % 2 ^ 48 + 2 ^ 48 * (c.seq % 2 ^ 15) + 2 ^ 63)

/-- The classes that are boarded and how many items each has (Table 2-5). -/
def boardClasses : List (Nat × Nat) := [(1, 48), (2, 64), (3, 1536), (4, 48), (5, 32), (6, 16), (7, 256), (0xC, 16), (0xD, 16)]

/-- The part's own copy of an item at an edge (Tables 1-5 and 4-2). `lateF`, `lateA`: the control filters and analog inputs whose latest output was
completed within 100 ns of the edge. -/
def Dev.ownItem (d : Dev) (lateF lateA : Nat → Bool) (c i : Nat) : BitVec 64 :=
  match c with
  | 1 => d.filterItem i (lateF i)
  | 2 => d.adcItem i (lateA i)
  | 3 => d.cellItem i (d.conv.reps.at 0 i)
  | 4 => BitVec.ofNat 64 (bit01 (d.gok i) + 2 * bit01 (d.flt (i / 2)))
  | 5 => BitVec.ofNat 64 (d.rdAt .WCMP_STAT_BELOW i + 2 * d.rdAt .WCMP_STAT_ABOVE i + (if i < 16 then 4 * d.rdAt .WCMP_STAT_L2 i else 0))
  | 6 => d.queueItem i
  | 7 => d.twin.mirror.at 0 (boardKey 7 i)
  | 0xC => BitVec.ofNat 64 (d.met.pulses.at 0 i + 2 ^ 32 * bit01 (d.met.pulseRev.at false i))
  | _ => BitVec.ofNat 64 (d.rd .SAF_SILVL_P / 2 ^ i % 2 + 2 * bit01 (bitOf d.saf.rxP.disc i))

/-- The report of cell `c` that both twins agree to board (R334): both fresh maps hold it, or one does and the cell is among the FILLMAX lowest that
the other lacks. The report, as 1 + word (0: none), and whether it was due and is missing. -/
def Dev.agreedReport (d : Dev) (peer : Nat → Bool) (c : Nat) : Nat × Bool :=
  let own := d.twin.ownReps
  let mine := own.at 0 c ≠ 0
  let rank (p : Nat → Bool) : Nat := ((List.range c).filter p).length
  let most := d.rd .TWIN_CFG_FILLMAX
  if mine ∧ peer c then (own.at 0 c, false)
  else if mine then (if rank (fun k => decide (own.at 0 k ≠ 0) && !peer k) < most then (own.at 0 c, false) else (0, false))
  else if peer c then
    (if rank (fun k => decide (own.at 0 k = 0) && peer k) < most then (d.twin.fills.at 0 c, decide (d.twin.fills.at 0 c = 0)) else (0, false))
  else (0, false)

/-- The other part's fresh map holds cell `c`. -/
def Dev.peerFresh (d : Dev) (c : Nat) : Bool :=
  match d.twin.peerMap with
  | some m => bitOf (m.getD (c / 8) 0).toNat (c % 8)
  | none => false

/-- The class is mirrored (Table 14-2): the leading twin's copy of the edge before. -/
def mirroredClass (c i : Nat) : Bool :=
  c == 2 || c == 4 || c == 5 || c == 7 || c == 0xC || (c == 6 && i != 13)

/-- The items of the edge that opens the present frame (R333), and whether a mirrored value was missing. `own` is the part's own copy. -/
def Dev.boardedItem (d : Dev) (own : Nat → Nat → BitVec 64) (c i : Nat) : BitVec 64 :=
  let k := boardKey c i
  if !d.boardsPaired then own c i
  else if c = 3 then d.cellItem i (d.agreedReport d.peerFresh i).1
  else if mirroredClass c i then
    (if d.on .PWM_STAT_LEAD then d.twin.delay.at 0 k
     else if d.twin.mirrorFor = some d.tide then d.twin.mirror.at 0 k else d.vcs.boarded.at 0 k)
  else own c i

/-- A table of every boarded item. -/
def boardTable (f : Nat → Nat → BitVec 64) : Store Nat (BitVec 64) :=
  (boardClasses.flatMap fun c => (List.range c.2).map fun i => (boardKey c.1 i, f c.1 i)).filter fun e => e.2 ≠ 0

/-- An item of the boarding buffer is stale. -/
def Dev.staleItem (d : Dev) (c i : Nat) : Bool := bitOf (d.vcs.boarded.at 0 (boardKey c i)).toNat 48

/-- What the dry crossing notes of a boarding (R477): from frame 16 on every cell of every running link, and every filter and AN item in an input
set, boards fresh. -/
def Dev.dryBoarding (d : Dev) : Dev :=
  match d.tt.active with
  | none => d
  | some x =>
    let cells := decide (16 ≤ d.tide % 4096) && (List.range 32).any fun l => d.onAt .CLINK_STAT_RUNNING l
      && (List.range (d.rdAt .CLINK_CFG_NCELL l)).any fun p => d.staleItem 3 (48 * l + p)
    let ins := x.tasks.any fun t => t.ins.any fun e => (decide (e.cls = 1) || decide (e.cls = 2))
      && (List.range e.count).any fun k => d.staleItem e.cls (e.first + k)
    (d.when cells fun y => y.dryNote 3).when ins fun y => y.dryNote 4

/-- At the end of a hyperperiod of the dry crossing, what it met waits to be judged (R477): there are three attempts in all. -/
def Dev.dryClose (d : Dev) : Dev :=
  if decide (d.tide % 4096 = 0) && d.tt.active.isSome && !d.sys.dryPassed && decide (d.sys.dryAttempts < 3) then
    { d with sys := { d.sys with dryEnd := some d.sys.dryFault, dryFault := 0 } }
  else d

/-- Boarding at the edge that opens the present frame. -/
def Dev.board (d : Dev) (lateF lateA : Nat → Bool) : Dev :=
  let own := d.ownItem lateF lateA
  let missing := d.boardsPaired && ((!d.on .PWM_STAT_LEAD && decide (d.twin.mirrorFor ≠ some d.tide))
    || (List.range 1536).any fun c => (d.agreedReport d.peerFresh c).2)
  let items := boardTable (d.boardedItem own)
  let d1 := { d with vcs := { d.vcs with boarded := items, boardBad := [] } }
  let d2 := d1.onTwin fun t => { t with
    delay := boardTable fun c i => if mirroredClass c i then own c i else 0
    ownReps := d.conv.reps, fills := [], peerMap := none }
  let d3 := { d2 with conv := { d2.conv with reps := [] } }
  (((d3.filterBoarded lateF).adcBoarded lateA).when missing fun x => x.lerr 3).dryBoarding

/-! ### The Tide edge (R32 to R34) -/

/-- The IEEE 1588 clock after `n` ticks of 2.5 ns (R235): each adds PTPINC units of 2^-28 ns, and an adjustment counts at the first. -/
def EthNet.run (e : EthNet) (inc n : Nat) : EthNet :=
  let t := (e.ns : Int) + e.adj.getD 0
  let u := t * 2 ^ 28 + e.frac + inc * n
  let ns := u / 2 ^ 28
  { e with adj := none, frac := (u % 2 ^ 28).toNat, sec := ((e.sec : Int) + ns / 1000000000).toNat % 2 ^ 48, ns := (ns % 1000000000).toNat }

/-- The calendar after `n` ticks of 2.5 ns, with the rate trimmed by `trim` × 0.1 ppm (R411): it stands still once it has ended. -/
def Fm.run (f : Fm) (n : Nat) (trim : Int) : Fm :=
  if f.calStopped then f
  else
    let u := f.calFrac + 25 * n * (10000000 + trim).toNat
    { f with cal := f.cal + u / 100000000000, calFrac := u % 100000000000 }

/-- A hyperperiod boundary (R33, R51): BND, the event, and the capture of the IEEE 1588 time, kept back while a reader holds the registers. -/
def Dev.boundary (d : Dev) (held : Bool) : Dev :=
  let d1 := (d.flag .TIDE_STAT_BND true).raise 6
  let t := (d1.ethn.sec, d1.ethn.ns)
  if held && d.tt.captureHeld then d1.onTt fun x => { x with ptpNext := some t } else d1.captureTo t

def Dev.onNode (d : Dev) (f : NodeNet → NodeNet) : Dev := { d with node := f d.node }

/-- Landing `l` enters a state (R220): coming up, its nodes are absent until a report comes (Table 9-1); falling down raises the event. -/
def Dev.landEnter (d : Dev) (l st : Nat) : Dev :=
  let was := d.rdAt .NODE_LCFG_STATE l
  if !d.onAt .NODE_LCFG_EN l || decide (was = st) then d
  else
    let d1 := d.wrAt .NODE_LCFG_STATE l st
    if st = 2 then
      (d1.wr .NODE_STAT_NUP (d.rd .NODE_STAT_NUP + 1)).onNode fun n => { n with silent := n.silent.set 0 l 0, raised := n.raised ++ [l] }
    else if was = 2 then ((d1.wr .NODE_STAT_NUP (d.rd .NODE_STAT_NUP - 1)).flag .NODE_STAT_LDOWN true).raise 424
    else d1

/-- Landing states whose edge has come are entered (R220, R333). -/
def Dev.landingsRise (d : Dev) : Dev :=
  let due := d.node.states.filter fun e => decide (e.1 ≤ d.tide)
  due.foldl (fun x e => x.landEnter e.2.1 e.2.2) (d.onNode fun n => { n with states := n.states.filter fun e => decide (d.tide < e.1) })

/-! ### The Hawser's frame messages (R338 to R340) -/

/-- The HEART body at the edge of frame N (Table 14-5). -/
def Dev.heartBody (d : Dev) : List Byte :=
  leBytes 8 d.twin.dgst ++ leBytes 1 (d.rd .TWIN_STAT_STATE) ++ leBytes 1 d.twin.lerr1 ++ leBytes 2 0 ++ leBytes 4 d.twin.mirn
    ++ leBytes 8 d.cseq ++ leBytes 8 d.cus.head ++ leBytes 4 (d.rd .TTB_ACTID) ++ leBytes 4 (d.rd .TTB_PENDID) ++ leBytes 24 0

/-- `n` fields of `w` bits packed into bytes, the first in the lowest bits. -/
def packBits (w n bytes : Nat) (f : Nat → Nat) : List Byte :=
  leBytes bytes ((List.range n).foldl (fun a i => a + f i % 2 ^ w * 2 ^ (w * i)) 0)

/-- The pulses that the frame before added for input `j`. -/
def Dev.pulsesAdded (d : Dev) (j : Nat) : Nat := d.twin.pulses.at 0 (2 * j) + d.twin.pulses.at 0 (2 * j + 1)

/-- A 12-byte item of a MIRROR body (R339). -/
def mirrorItem (c i v : Nat) : List Byte := leBytes 1 c ++ leBytes 1 0 ++ leBytes 2 i ++ leBytes 8 v

/-- The MIRROR body for the next edge (R339): the copies that the leading twin holds back, and the changed metering temperatures. `added`: the pulses of the
frame before. -/
def Dev.mirrorBody (d : Dev) (added : Nat → Nat) : List Byte :=
  let v := fun c i => (d.twin.delay.at 0 (boardKey c i)).toNat
  let items := match d.tt.active with
    | some x => [2, 6, 7].flatMap fun c => (List.range 256).flatMap fun i =>
        if x.boards c i && !(c == 6 && i == 13) then mirrorItem c i (v c i) else []
    | none => []
  leBytes 8 (d.tide + 1) ++ packBits 2 48 12 (v 4) ++ packBits 3 32 12 (v 5)
    ++ ((List.range 16).flatMap fun j => leBytes 4 (v 0xC j) ++ leBytes 1 (added j)) ++ items
    ++ d.twin.tempWait.flatMap fun e => mirrorItem 0x80 e.1 e.2

/-- HEART, MIRROR and CELLST of a frame (Table 14-4). -/
def Dev.frameMessages (d : Dev) (added : Nat → Nat) : Dev :=
  if !d.hawserUp then d
  else
    let d1 := d.hawserSend 1 d.heartBody
    let b := d1.mirrorBody added
    let d2 := if d1.boardsPaired && d1.on .PWM_STAT_LEAD then (d1.hawserSend 2 b).onTwin fun t => { t with mirnNext := b.length, tempNext := t.tempWait, tempWait := [] } else d1
    if (List.range 32).any fun l => d2.onAt .CLINK_STAT_RUNNING l then
      d2.hawserSend 3 (packBits 1 1536 192 fun c => bit01 (decide (d2.twin.ownReps.at 0 c ≠ 0)))
    else d2

/-- The control die's part of a Tide edge. `added`: the pulses of the frame that ended. What the shipped tasks stored into exchange nodes in that frame is
seen from this one on (R166). -/
def Dev.frameOpen (d : Dev) (lateF lateA : Nat → Bool) (added : Nat → Nat) : Dev :=
  let out := if d.tt.landed && !d.twin.depose then !d.twin.twrOut else d.twin.twrOut
  let d1 := d.onTt fun t => { t with nextOrder := [], ended := [], endedStores := [], landed := false }
  let d2 := d1.onTwin fun t => { t with
    lerr2 := t.lerr1, lerr1 := t.lerr, lerr := if d.sys.devFailed then 2 else 0, twrOut := out
    mirn := if d.on .PWM_STAT_LEAD || decide (t.mirrorFor = some d.tide) then t.mirnNext else 0
    expoTicks := if d.on .TWIN_EXPO_OPEN then t.expoTicks + d.rd .TIDE_PERIOD_ACT else t.expoTicks }
  let d3 := (((d2.dryClose.board lateF lateA).landingsRise).wr .TWIN_EXPO_MS (min (2 ^ 31 - 1) (d2.twin.expoTicks / 400000))).frameMessages added
  { d3 with
    pager := { d3.pager with lines := d3.pager.lines.map fun e => (e.1, { e.2 with usable := e.2.res }) }
    prog := { d3.prog with seen := d3.prog.pub } }

/-- Pulses that the pair adds to the Tally at this edge (R333). -/
def Dev.pulsesIn (d : Dev) : Dev :=
  if d.paired && d.counting then
    (d.twin.pulses.foldl (fun x e => x.tlAdd (128 + e.1) (e.2 * 2 ^ 32)) d).onTwin fun t => { t with pulses := [] }
  else d

/-- The mirrored metering temperatures whose edge has come apply (R333); a part that no longer boards as one of a pair takes its own at once. -/
def Dev.tempsIn (d : Dev) : Dev :=
  let l := d.twin.tempNext ++ (if d.boardsPaired then [] else d.twin.tempWait)
  (l.foldl (fun x e => x.setTemp e.1 e.2) d).onTwin fun t => { t with tempNext := [], tempWait := if d.boardsPaired then t.tempWait else [] }

/-- At the edge of the cut a joining twin with COVER = 1 adopts the other part's registers (R350). -/
def Dev.adoptAt (d : Dev) : Dev :=
  match d.twin.cutAt, d.twin.adopt with
  | some c, some l =>
    if c = d.tide then
      (((List.range 160).foldl (fun x n => x.onCus fun k => { k with tl := k.tl.set 0 n (l.getD n 0 % 2 ^ 128) }) d)).onTwin fun t =>
        { t with adopt := none }
    else d
  | _, _ => d

/-- A Tide edge opens a frame (R32): the first after a restart opens frame 0. What the ports sent in the frame before has left them (R234). -/
def Dev.tideEdge (d : Dev) (lateF lateA : Nat → Bool) (held : Bool) : Dev :=
  let p := d.rd .TIDE_PERIOD_ACT
  let n := if d.tt.opened then d.tide + 1 else d.tide
  let c := d.ctl fun x => x.each 4 fun y k => y.transmit (5 * p / 2) k
  let d0 := { c with fm := d.fm.run p (toSigned 16 (d.rd .FM_CALTRIM)), ethn := if d.on .ETH_PTPCTL_EN then c.ethn.run (d.rd .ETH_PTPINC) p else c.ethn }
  let d1 := ((d0.captureLate.wr64 .TIDE_CNTLO .TIDE_CNTHI n).wr .TIDE_HPIDX_IDX (n % 4096)).onTt fun t => { t with opened := true }
  let d2 := (d1.when (decide (n % 4096 = 0)) fun x => x.boundary held).onTt fun t => { t with captureHeld := false }
  let d3 := ((d2.adoptAt.pulsesIn.tempsIn.clocksRun p).each 32 Dev.thrLoad).onTwin fun t => { t with tl0 := d2.cus.tl }
  (d3.onCus fun u => { u with since := u.since + p }).ctl fun x => x.frameOpen lateF lateA d2.pulsesAdded

/-- TIDE_EDGE (R32). `lateF`, `lateA`: control filters and analog inputs whose latest output came within 100 ns of the edge (R263, R377); `held`: a
reader holds the capture registers (R51). -/
def execTideEdge (lateF : BitVec 48) (lateA : BitVec 64) (held : Bool) (s : State) : Host.Outcome State Fault Refusal :=
  s.updM fun _ d =>
    let late := fun n => bitOf lateA.toNat n
    let word := fun n => (d.adcItem n (late n)).toNat % 2 ^ 32
    let d1 := d.tideEdge (fun n => bitOf lateF.toNat n) late held
    d1.adcRow d1.tide word

/-- A value that was at or below the count when it was written never fires (R52). -/
def Dev.alarmAhead (d : Dev) : Bool :=
  match d.tt.almAt with
  | some n => decide (n < d.rd64 .TIDE_ALMLO .TIDE_ALMHI)
  | none => true

/-- TIDE_ALARM (R51, R52): at the edge whose count equals ALMHI:ALMLO. -/
def execTideAlarm (s : State) : Host.Outcome State Fault Refusal :=
  s.upd fun d =>
    if d.on .TIDE_STAT_ALMEN ∧ d.alarmAhead ∧ d.tide = d.rd64 .TIDE_ALMLO .TIDE_ALMHI then
      ((d.flag .TIDE_STAT_ALM true).flag .TIDE_STAT_ALMEN false).raise 5
    else d

/-- A write of TIDE.ALMLO or, with `high`, ALMHI clears ALMEN (R52). -/
def Dev.tideAlarmSet (d : Dev) (high : Bool) (v : Nat) : Dev :=
  ((d.wr (if high then .TIDE_ALMHI else .TIDE_ALMLO) v).flag .TIDE_STAT_ALMEN false).onTt fun t => { t with almAt := some d.tide }

/-- TIDE_ALARM_SET (R52). -/
def execTideAlarmSet (req : Requester) (high : Bool) (value : BitVec 32) (s : State) : Host.Outcome State Fault Refusal :=
  s.upd fun d => d.byFerryman req fun x => x.tideAlarmSet high value.toNat

/-- TIDE_COUNT_READ (R51). -/
def execTideCountRead (req : Requester) (s : State) : Host.Outcome State Fault Refusal :=
  s.upd fun d =>
    { d with lat := { d.lat with tideHi := d.lat.tideHi.set 0 req.id (d.rd .TIDE_CNTHI) } }.answer (d.rd .TIDE_CNTLO)

/-- PTP_CAPTURE_READ (R51). -/
def execPtpCaptureRead (req : Requester) (s : State) : Host.Outcome State Fault Refusal := s.upd Dev.captureHold

/-! ### Dispatch (R37, R38, R49, R92) -/

/-- The task of engine `e` to be served next in the present frame: the lowest ORDER not yet served. -/
def Dev.nextTask (d : Dev) (e : Nat) : Option Task :=
  match d.tt.active with
  | none => none
  | some x =>
    let due := x.tasks.filter fun t =>
      let r := d.tide % 2 ^ t.rate
      decide (t.engine = e) && decide (t.phase ≤ r) && decide (r < t.phase + t.segs) && decide (d.tt.nextOrder.at 0 e ≤ t.order)
    due.foldl (fun b t => match b with
      | none => some t
      | some u => if t.order < u.order then some t else some u) none

/-- The host commands that an activation boards as their owner (R92): the queues that its input set names and no task of a lower TASKID does, with the
SEQ of each valid command. -/
def Dev.ownedCommands (d : Dev) (t : Task) : List (Nat × Nat) :=
  match d.tt.active with
  | none => []
  | some x => (List.range 16).filterMap fun q =>
    let names (u : Task) : Bool := u.ins.any fun e => decide (e.cls = 6) && decide (e.first ≤ q) && decide (q < e.first + e.count)
    let v := (d.vcs.boarded.at 0 (boardKey 6 q)).toNat
    if names t && !(x.tasks.any fun u => decide (u.id < t.id) && names u) && bitOf v 63 then some (q, bitsOf v 62 48) else none

/-- STAT of an engine: STATE 0 clock stopped, 1 running, 2 halted (Table 4-10). -/
def Dev.engineState (d : Dev) (e st : Nat) : Dev := if e < 8 then d.wrAt .CE_STAT_STATE e st else if e = 8 then d.wr .SE_STAT_STATE st else d

/-- A segment starts on engine `e` with its registers cleared (R38); on the pair, SE1's too. -/
def Dev.segmentStart (d : Dev) (e : Nat) (t : Task) (j pc : Nat) : Dev :=
  let halt := e < 8 && d.onAt .CE_DBG_HALT e
  let d1 := d.setEngine e { pc := pc, running := true, task := t.id, seg := j, budget := t.budget, halted := halt, step := false, stepCycle := none }
  let d2 := (d1.engineState e (if halt then 2 else 1)).when (decide (e < 8)) fun y => (y.wrAt .CE_STAT_TASK e t.id).flagAt .CE_DBG_HALTED e halt
  if e = 8 then (d2.wr .SE_STAT_TASK t.id).setEngine 9 {} else d2

/-- The joining twin's control engines do not execute before the cut (R348). -/
def Dev.joining (d : Dev) : Bool :=
  decide (d.rd .TWIN_STAT_STATE = 2) && (match d.twin.cutAt with
    | some c => decide (d.tide < c)
    | none => true)

/-- The scheduler serves the next slot of engine `e` (R37): a segment starts, or the slot of an idle activation passes (R49); none on an engine that is
halted (R466). -/
def Dev.dispatch (d : Dev) (e : Nat) : Dev :=
  if (d.engine e).running || (decide (e < 8) && (d.joining || d.onAt .CE_DBG_HALT e)) then d
  else match d.nextTask e with
    | none => d
    | some t =>
      let j := d.tide % 2 ^ t.rate - t.phase
      let d1 := d.onTt fun x => { x with nextOrder := x.nextOrder.set 0 e (t.order + 1) }
      if j = 0 then (d1.onAct t.id fun _ => { next := 0, commands := d1.ownedCommands t }).segmentStart e t 0 t.entry
      else
        let a := d1.tt.acts.at {} t.id
        if a.idle || decide (a.next ≠ j) then d1
        else (d1.onAct t.id fun y => { y with commands := y.commands ++ d1.ownedCommands t }).segmentStart e t j a.resume

/-- TASK_DISPATCH (R37). -/
def execTaskDispatch (e : Fin 9) (s : State) : Host.Outcome State Fault Refusal := s.upd fun d => d.ctl fun x => x.dispatch e.val

/-! ### Ends of segments (R46 to R50, R92, R94, R95) -/

/-- The descriptor of an active task. -/
def Dev.taskOf (d : Dev) (id : Nat) : Option Task := d.tt.active.bind fun x => x.tasks.find? fun t => t.id = id

/-- The segment on engine `e` is over: its clock stops until the next dispatch. -/
def Dev.engineStop (d : Dev) (e : Nat) : Dev := (d.setEngine e { d.engine e with running := false }).engineState e 0

/-- TTB.USEnnn after a normal segment whose last instruction issued in cycle `c` (Table 2-19). -/
def Dev.useNote (d : Dev) (id c : Nat) : Dev :=
  let n := c + 1
  (d.wrAt .TTB_USE_LAST id n).wrAt .TTB_USE_MAXUSE id (max (d.rdAt .TTB_USE_MAXUSE id) ((n + 7) / 8))

/-- The commands that an activation boarded leave their queues (R92). -/
def Dev.popCommands (d : Dev) (l : List (Nat × Nat)) : Dev :=
  l.foldl (fun x c =>
    let h := x.queue c.1
    match h.items with
    | k :: r => if k.seq = c.2 then x.setQueue c.1 { h with items := r } else x
    | [] => x) d

/-- An activation ends normally (R47, R92, R95): its stores, and with `keep` its staged outputs, enter the frame's output set, and USE.OVR is 0. -/
def Dev.activationEnd (d : Dev) (id : Nat) (keep : Bool) : Dev :=
  let a := d.tt.acts.at {} id
  let d1 := d.onTt fun t => { t with
    ended := if keep then t.ended ++ a.staged else t.ended
    endedStores := t.endedStores ++ a.stores
    missRaised := t.missRaised.filter fun k => k ≠ id }
  (((d1.popCommands a.commands).wrAt .TTB_TSK_CONSEC id 0).flagAt .TTB_USE_OVR id false).onAct id fun _ => { idle := true }

/-- endf issues in cycle `c` (R94, R49). -/
def Dev.endSegment (d : Dev) (e c : Nat) : Dev :=
  let x := d.engine e
  match d.taskOf x.task with
  | none => d.engineStop e
  | some t =>
    let d1 := ((d.useNote t.id c).engineSignal e 7 1).engineSignal e 0 (c + 1)
    let d2 := if t.segs ≤ x.seg + 1 then d1.activationEnd t.id true
      else d1.onAct t.id fun a => { a with next := x.seg + 1, resume := x.pc + 4 }
    d2.engineStop e

/-- hold issues in cycle `c` (R95). -/
def Dev.holdSegment (d : Dev) (e c : Nat) : Dev :=
  let x := d.engine e
  let d1 := ((d.useNote x.task c).engineSignal e 10 1).engineSignal e 0 (c + 1)
  let d2 := d1.when (decide (e < 8)) fun y => y.bumpAt .CE_HOLDCNT e (2 ^ 32 - 1)
  (d2.activationEnd x.task false).engineStop e

/-- A segment's budget has run out without endf, or after a trap (R48, R50, R100). -/
def Dev.overrun (d : Dev) (e : Nat) : Dev :=
  let x := d.engine e
  if !x.running || x.halted then d
  else
    let id := x.task
    let d1 := ((d.abandon id).wrBit .TTB_MISS e true).bumpAt .TTB_TSK_CONSEC id 255
    let d2 := ((d1.bumpAt .TTB_TSK_TOTAL id 65535).flagAt .TTB_USE_OVR id true).wrAt .TTB_USE_LAST id x.budget
    let d3 := (((d2.engineSignal e 8 1).engineSignal e 0 x.budget).dryNote 1).raise (16 + e)
    let n := d3.rdAt .TTB_TSK_CONSEC id
    let d4 := if d3.rd .TTB_MISSLIM_LIMIT ≤ n && !d3.tt.missRaised.contains id then
        (d3.onTt fun t => { t with missRaised := id :: t.missRaised }).raise (25 + e)
      else d3
    d4.engineStop e

/-- SEGMENT_OVERRUN (R48). -/
def execSegmentOverrun (e : Fin 9) (s : State) : Host.Outcome State Fault Refusal := s.upd fun d => d.ctl fun x => x.overrun e.val

/-! ### The landing phase (R19, R34, R96, R341) -/

/-- The order of staged items for the digest: class, then output index. -/
def OutItem.key (o : OutItem) : Nat := 2 ^ 32 * o.cls + 4 * o.item + o.word

/-- Sorted insertion of staged items. -/
def insertOut (x : OutItem) : List OutItem → List OutItem
  | [] => [x]
  | y :: t => if x.key ≤ y.key then x :: y :: t else y :: insertOut x t

/-- The output index of a staged item: the cell, or 4 × leg + word. -/
def OutItem.index (o : OutItem) : Nat := if o.cls = 8 then 4 * o.item + o.word else o.item

/-- The berth address of a byte of node `n`'s live line. -/
def Line.addr (l : Line) (off : Nat) : Nat := berthSram + 256 * l.berth + off

/-- The bytes that the frame's berth stores write, by berth address (R96): a line that is damaged or no longer resident takes none. -/
def Dev.storeBytes (d : Dev) : List (Nat × List Byte) :=
  d.tt.endedStores.filterMap fun b =>
    let l := d.pager.lines.at {} b.node
    if l.res && !l.dmg then some (l.addr b.off, [b.val]) else none

/-- Marks the sectors that berth stores change dirty (R251). -/
def Dev.dirtyStores (d : Dev) : Dev :=
  d.tt.endedStores.foldl (fun x b =>
    let l := x.pager.lines.at {} b.node
    if l.res && !l.dmg then x.onPager fun p => { p with lines := p.lines.set {} b.node { l with dirty := setBit l.dirty (b.off / 32) true } }
    else x) d

/-- The 8-byte units that berth stores touch, ascending by node and offset. -/
def storeUnits (l : List LineByte) : List (Nat × Nat) :=
  (((l.map fun b => (b.node * 256 + b.off / 8 * 8, 0)).foldr insertSpan []).foldr (fun x (acc : List (Nat × Nat)) =>
    match acc with
    | y :: _ => if y.1 = x.1 then acc else x :: acc
    | [] => [x]) []).map fun x => (x.1 / 256, x.1 % 256)

/-- The digest of the frame that ends (R341). `unit n o` reads the 8 bytes at offset o of node n's line after the stores. -/
def Dev.frameDigest (d : Dev) (unit : Nat → Nat → List Byte) : Nat :=
  let outs := (d.tt.ended.filter fun o => decide (o.cls = 3) || decide (o.cls = 8)).foldr insertOut []
  let deltas := (List.range 160).flatMap fun n =>
    let x := (d.cus.tl.at 0 n + 2 ^ 128 - d.twin.tl0.at 0 n) % 2 ^ 128
    if x = 0 then [] else leBytes 2 n ++ leBytes 14 x
  crc64 (leBytes 8 d.tide
    ++ (outs.flatMap fun o => leBytes 1 o.cls ++ leBytes 3 o.index ++ leBytes 8 o.value.toNat)
    ++ ((storeUnits d.tt.endedStores).flatMap fun u => leBytes 4 u.1 ++ leBytes 4 u.2 ++ unit u.1 u.2)
    ++ deltas)

/-- The landing phase of the frame closes (R19): its output set is fixed, its berth stores take effect, the digest of the frame is formed. -/
def Dev.landingClose (m : List Host.Cell) (d : Dev) : List (Nat × List Byte) × Dev :=
  if d.sys.cdReset || d.tt.landed || !d.tt.opened then ([], d)
  else
    let w := d.storeBytes
    let m1 := w.foldl (fun x b => memPut x b.1 b.2) m
    let dg := d.frameDigest fun n o => memBytes m1 ((d.pager.lines.at {} n).addr o) 8
    let d1 := (d.dirtyStores.wr64 .TWIN_DGSTLO .TWIN_DGSTHI dg).onTwin fun t => { t with dgst := dg, dgstFrame := d.tide }
    (w, d1.onTt fun t => { t with landed := true, outSet := t.ended })

/-- LANDING_PHASE_CLOSE (R19). -/
def execLandingPhaseClose (s : State) : Host.Outcome State Fault Refusal := s.updM Dev.landingClose

/-- Staged permits of channel P take effect (R93, R313): a switch that is no longer permitted opens. -/
def Dev.permits (d : Dev) (n : Nat) (b : Bool) : Dev :=
  (d.onSaf fun x => { x with permit := setBit x.permit n b, cmdP := if b then x.cmdP else setBit x.cmdP n false }).outputs

/-- The output set of the frame before takes effect (R34, Table 1-6). -/
def Dev.outputsTake (d : Dev) : Dev :=
  let l := d.tt.outSet
  let d1 := (l.filter fun o => decide (o.cls = 3)).foldl (fun x o =>
    { x with conv := { x.conv with cmds := x.conv.cmds.set 0 o.item (o.value.toNat % 2 ^ 16) } }) d
  let d2 := d1.each 24 fun x m =>
    let ws := (l.filter fun o => decide (o.cls = 8) && decide (o.item = m)).map fun o => (o.word, o.value.toNat)
    if ws.isEmpty then x else x.legStage m ws
  let d3 := (l.filter fun o => decide (o.cls = 9)).foldl (fun x o => x.permits o.item (bitOf o.value.toNat 0)) d2
  d3.onTt fun t => { t with outSet := [] }

/-- OUTPUT_TAKE_EFFECT (R34). -/
def execOutputTakeEffect (s : State) : Host.Outcome State Fault Refusal := s.upd fun d => d.ctl Dev.outputsTake

/-! ### Activation (R42, R44, R26, R36) -/

/-- A resource passes to the incoming timetable's holder without a free interval (R26). -/
def Dev.ttPass (d : Dev) (i : Resource × Nat × Requester) : Dev :=
  d.setCell i.1 i.2.1 { d.cell i.1 i.2.1 with owner := some i.2.2 }

/-- The CTRL image that the timetable enters becomes active: its ACTSEL bit changes (R420). -/
def Dev.ctrlActive (d : Dev) (x : Timetable) : Dev :=
  match x.tasks.find? fun t => t.engine < 8 with
  | some t =>
    let h := t.entry / 0x8000
    if d.fm.ctrl.any fun e => e.1 = h then d.wrBit .FM_ACTSEL 1 (d.fm.ctrlBank.at 0 h = 1) else d
  | none => d

/-- The timetable claims the resource. -/
def Timetable.claimsIt (x : Timetable) (r : Resource) (n : Nat) : Bool := x.held.any fun k => decide (k.1 = r) && decide (k.2.1 = n)

/-- Legs and cell links that the incoming timetable does not claim stop on whole pulses (R44). -/
def Dev.stopUnclaimed (d : Dev) (x : Timetable) : Dev :=
  (d.each 24 fun y m => y.when (!x.claimsIt .leg m) fun z => z.legUnclaim m).each 32 fun y l =>
    y.when (!x.claimsIt .cellLink l && y.onAt .CLINK_CTRL_RUN l) fun z => z.linkRun l false

/-- A running link that the period and the output offset now active do not fit stops, with CFGE (R138). -/
def Dev.stopUnfit (d : Dev) : Dev :=
  d.each 32 fun y l =>
    y.when (y.onAt .CLINK_STAT_RUNNING l && !y.linkFits l (y.rd .TIDE_PERIOD_ACT) (y.rd .TIDE_OFFSET_ACT)) fun z =>
      (z.linkRun l false).flagAt .CLINK_STAT_CFGE l true

/-- The pending timetable activates (R42, R44). -/
def Dev.activate (d : Dev) (x : Timetable) : Dev :=
  let old := (d.tt.active.map Timetable.held).getD []
  let d1 := x.moves.foldl Dev.ttPass (((old.filter fun i => !x.claimsIt i.1 i.2.1).foldl Dev.ttRelease d).stopUnclaimed x)
  let d2 := (d1.onTt fun t => { t with
    active := some { x with granted := [], moves := [] }, pending := none, acts := [], lastAct := d.tide }).wr64 .TTB_ACTATLO .TTB_ACTATHI d.tide
  let d3 := (((d2.wr .TTB_ACTID x.ttid).wr .TTB_PENDID 0).flag .TTB_ADMSTAT_PEND false)
  let d4 := ((((d3.wr .TIDE_PERIOD_ACT x.period).wr .TIDE_OFFSET_ACT x.offset).wr .TIDE_PERIOD_PEND 0).wr .TIDE_OFFSET_PEND 0).stopUnfit
  let d5 := d4.each 9 fun y e => (y.wrAt .TTB_PEAK_CYCLES e (ttPeak x.tasks e).1).wrAt .TTB_PEAK_FRAME e (ttPeak x.tasks e).2
  let d6 := (d5.each 512 fun y i => y.wrAt .BERTH_TWACT_W i 0)
  let d7 := x.tasks.foldl (fun y t => y.wrAt .BERTH_TWACT_W t.id t.win) d6
  (((d7.wr .BERTH_PEAK_DEMAND (min 65535 (x.demand (d7.rd .BERTH_CFG_HOR)))).ctrlActive x).raise 7).dryBoarding

/-- The boundary that TTACT named for timetable `id` (R347): a part that has not admitted it cancels its own, and the trailing twin enters OUT. -/
def Dev.ttactMissed (d : Dev) : Dev :=
  let d1 := d.ttDrop
  if d1.rd .TWIN_STAT_STATE = 4 then d1.wr .TWIN_STAT_STATE 7 else d1

/-- The pending timetable activates at its boundary (R42), a hyperperiod boundary at or after the tide count that admission gave; in a pair, with
the joining of one included, only at the one that TTACT names (R45, R347, Table 14-12). -/
def Dev.activation (d : Dev) : Dev :=
  let own := match d.tt.pending with
    | some p => if d.tt.opened ∧ d.tide % 4096 = 0 ∧ d.tt.actAt ≤ d.tide then d.activate p else d
    | none => d
  if !d.twinned then own
  else match d.twin.ttact with
    | some (b, id) =>
      if b ≠ d.tide then d
      else
        let d1 := d.onTwin fun t => { t with ttact := none }
        match d1.tt.pending with
        | some p => if p.ttid = id then d1.activate p else d1.ttactMissed
        | none => d1.ttactMissed
    | none => d

/-- TIMETABLE_ACTIVATION (R42): at the boundary that TTB.ACTAT names. -/
def execTimetableActivation (s : State) : Host.Outcome State Fault Refusal := s.upd fun d => d.ctl Dev.activation

end Sys2Proof.Machine
end

