-- ==== Sys2Proof/Machine/Control.lean ====
section
/-!
DEFINITION. Machine/Control.lean: the shipped control programs (R165 to R191): commands and parameters, candidates, feedback fallbacks, stops.
-/
namespace Sys2Proof.Machine

/-- A parameter: its ID, the ranges a value may lie in (binary32, the bounds as the nearest binary32 numbers), its default, and whether it can
change only in the stop state (R191). -/
structure Param where
  id      : Nat
  ranges  : List (Nat × Nat)
  dflt    : Nat
  stopped : Bool
deriving DecidableEq, Repr

/-- Parameters of Tables 7-11 and 8-7, part 1. -/
def paramTable1 : List Param := [
  ⟨0x01, [(0x47C35000, 0x4C189680)], 0x00000000, true⟩,  -- sys.prated
  ⟨0x02, [(0x42C80000, 0x471C4000)], 0x00000000, true⟩,  -- sys.urated
  ⟨0x03, [(0x3F800000, 0x47C35000)], 0x00000000, true⟩,  -- sys.irated
  ⟨0x04, [(0x42480000, 0x476A6000)], 0x00000000, true⟩,  -- sys.udcnom
  ⟨0x10, [(0x00000000, 0x42C80000)], 0x00000000, true⟩,  -- cc.kp
  ⟨0x11, [(0x00000000, 0x49742400)], 0x00000000, true⟩,  -- cc.ki
  ⟨0x12, [(0x3DCCCCCD, 0x3FC00000)], 0x3F8CCCCD, false⟩,  -- cc.ilim
  ⟨0x13, [(0x00000000, 0x3F800000)], 0x00000000, false⟩,  -- cc.prio
  ⟨0x14, [(0x3F000000, 0x3F933333)], 0x3F800000, true⟩,  -- cc.vlim
  ⟨0x20, [(0x00000000, 0x49742400)], 0x00000000, true⟩,  -- dc.kp
  ⟨0x21, [(0x00000000, 0x4CBEBC20)], 0x00000000, true⟩,  -- dc.ki
  ⟨0x22, [(0x3E99999A, 0x3F800000)], 0x3F333333, false⟩,  -- dc.umin
  ⟨0x23, [(0x3EB33333, 0x3F800000)], 0x3F4CCCCD, false⟩,  -- dc.ulow
  ⟨0x24, [(0x3F800000, 0x3FC00000)], 0x3F99999A, false⟩,  -- dc.ovp
  ⟨0x30, [(0xBF800000, 0x00000000)], 0x00000000, false⟩,  -- cmp.pmin
  ⟨0x31, [(0x00000000, 0x3E4CCCCD)], 0x3CA3D70A, false⟩,  -- cur.margin
  ⟨0x40, [(0x00000000, 0x40000000)], 0x00000000, false⟩,  -- prm.src
  ⟨0x41, [(0x00000000, 0x4C189680)], 0x00000000, false⟩,  -- prm.fs
  ⟨0x42, [(0x42480000, 0x43FA0000)], 0x42C80000, false⟩,  -- prm.burden
  ⟨0x43, [(0x00000000, 0x460CA000)], 0x447A0000, false⟩,  -- prm.f0
  ⟨0x44, [(0x447A0000, 0x461C4000)], 0x460CA000, false⟩,  -- prm.f100
  ⟨0x45, [(0x00000000, 0x4C189680)], 0x00000000, false⟩,  -- prm.fault
  ⟨0x46, [(0x3DCCCCCD, 0x42700000)], 0x40000000, false⟩,  -- prm.flt_t
  ⟨0x50, [(0x00000000, 0x3F800000)], 0x3E99999A, false⟩,  -- th.coolp
  ⟨0x51, [(0x3C23D70A, 0x41200000)], 0x3DCCCCCD, false⟩]  -- th.coolr

/-- Parameters of Tables 7-11 and 8-7, part 2. -/
def paramTable2 : List Param := [
  ⟨0x52, [(0x3F800000, 0x45610000)], 0x42700000, false⟩,  -- th.coolt
  ⟨0x53, [(0x00000000, 0x41600000)], 0x00000000, true⟩,  -- cel.tpos
  ⟨0x54, [(0x3A83126F, 0x3F800000)], 0x3D800000, true⟩,  -- cel.tlsb
  ⟨0x60, [(0x3A83126F, 0x42700000)], 0x3DCCCCCD, false⟩,  -- rmp.up
  ⟨0x70, [(0x00000000, 0x3F800000)], 0x3F800000, false⟩,  -- fw.en
  ⟨0x71, [(0x3C8B4396, 0x3F800000)], 0x3D1374BC, false⟩,  -- fw.db
  ⟨0x72, [(0x3CA3D70A, 0x3DCCCCCD)], 0x3D4CCCCD, false⟩,  -- fw.k
  ⟨0x73, [(0x3E4CCCCD, 0x41200000)], 0x40A00000, false⟩,  -- fw.tr
  ⟨0x80, [(0x00000000, 0x3F800000)], 0x00000000, false⟩,  -- vw.en
  ⟨0x81, [(0x3F000000, 0x42700000)], 0x41200000, false⟩,  -- vw.tr
  ⟨0x90, [(0x3DCCCCCD, 0x44160000)], 0x41200000, false⟩,  -- hst.to
  ⟨0x91, [(0xBF800000, 0x3F800000)], 0x00000000, false⟩,  -- hst.fb
  ⟨0xA0, [(0x00000000, 0x41000000)], 0x40000000, false⟩,  -- fb.hold
  ⟨0xA1, [(0x00000000, 0x437F0000)], 0x41200000, false⟩,  -- fb.holdslow
  ⟨0xA2, [(0x00000000, 0x42800000)], 0x40000000, false⟩,  -- fb.cellmax
  ⟨0xA3, [(0x00000000, 0x477FFF00)], 0x00000000, true⟩,  -- fb.cellfb
  ⟨0xA4, [(0x00000000, 0x423C0000), (0x437F0000, 0x437F0000)], 0x437F0000, true⟩,  -- fb.udc2
  ⟨0xB0, [(0x3B03126F, 0x3F800000)], 0x3CA3D70A, false⟩,  -- stp.t
  ⟨0x15, [(0x00000000, 0x40400000)], 0x40400000, false⟩,  -- hc.mask
  ⟨0x16, [(0x00000000, 0x47C35000)], 0x00000000, true⟩,  -- hc.kr
  ⟨0xB1, [(0x00000000, 0x44160000)], 0x43960000, false⟩,  -- rc.delay
  ⟨0xB2, [(0x3F6147AE, 0x3F733333)], 0x3F6AC083, false⟩,  -- rc.vlo
  ⟨0xB3, [(0x3F800000, 0x3F87AE14)], 0x3F866666, false⟩,  -- rc.vhi
  ⟨0xB4, [(0xBF800000, 0xBC23D70A)], 0xBF000000, false⟩,  -- rc.flo
  ⟨0xB5, [(0x3C23D70A, 0x3F800000)], 0x3DCCCCCD, false⟩]  -- rc.fhi

/-- Parameters of Tables 7-11 and 8-7, part 3. -/
def paramTable3 : List Param := [
  ⟨0xB6, [(0x3F800000, 0x447A0000)], 0x43960000, false⟩,  -- rc.tramp
  ⟨0xB7, [(0x00000000, 0x3F800000)], 0x3F800000, false⟩,  -- rc.auto
  ⟨0xB8, [(0x00000000, 0x3F800000)], 0x00000000, true⟩,  -- gf.mode
  ⟨0xB9, [(0x3F000000, 0x41A00000)], 0x40800000, false⟩,  -- gf.h
  ⟨0xBA, [(0x00000000, 0x42C80000)], 0x41A00000, false⟩,  -- gf.d
  ⟨0xBB, [(0x00000000, 0x3E4CCCCD)], 0x3D4CCCCD, false⟩,  -- gf.kq
  ⟨0xBC, [(0x3CA3D70A, 0x3F000000)], 0x3DCCCCCD, true⟩,  -- gf.xv
  ⟨0xC0, [(0x42480000, 0x42480000), (0x42700000, 0x42700000)], 0x42480000, true⟩,  -- sy.fnom
  ⟨0xC1, [(0x40A00000, 0x42C80000)], 0x41F00000, true⟩,  -- sy.bw
  ⟨0xC2, [(0x3D4CCCCD, 0x3F000000)], 0x3DCCCCCD, false⟩,  -- sy.vmin
  ⟨0xC3, [(0x3D4CCCCD, 0x40000000)], 0x3E4CCCCD, false⟩,  -- sy.lockt
  ⟨0xC4, [(0x3BA3D70A, 0x3E4CCCCD)], 0x3CA3D70A, false⟩,  -- sy.ftc
  ⟨0xC8, [(0x00000000, 0x40400000)], 0x00000000, false⟩,  -- q.mode
  ⟨0xC9, [(0xBF800000, 0xBF4CCCCD), (0x3F4CCCCD, 0x3F800000)], 0x3F800000, false⟩,  -- q.pf
  ⟨0xCA, [(0xBF19999A, 0x3F19999A)], 0x00000000, false⟩,  -- q.set
  ⟨0xCB, [(0x3F733333, 0x3F866666)], 0x3F800000, false⟩,  -- q.vref
  ⟨0xCC, [(0x00000000, 0x3D4CCCCD)], 0x00000000, false⟩,  -- q.vdb
  ⟨0xCD, [(0x3CA3D70A, 0x3E4CCCCD)], 0x3DA3D70A, false⟩,  -- q.vlen
  ⟨0xCE, [(0x00000000, 0x3F19999A)], 0x3EE147AE, false⟩,  -- q.vq
  ⟨0xCF, [(0x3F800000, 0x42B40000)], 0x40A00000, false⟩,  -- q.vtr
  ⟨0xD0, [(0x3E4CCCCD, 0x3F666666)], 0x3F000000, false⟩,  -- q.wp
  ⟨0xD1, [(0xBF19999A, 0x00000000)], 0xBEE147AE, false⟩,  -- q.wq
  ⟨0xD4, [(0x3F4CCCCD, 0x3F733333)], 0x3F6147AE, false⟩,  -- rt.ucont
  ⟨0xD5, [(0x3F866666, 0x3F99999A)], 0x3F8CCCCD, false⟩,  -- rt.ocont
  ⟨0xD6, [(0x3F800000, 0x41000000)], 0x40400000, false⟩]  -- rt.entn

/-- Parameters of Tables 7-11 and 8-7, part 4. -/
def paramTable4 : List Param := [
  ⟨0xD7, [(0x3CA3D70A, 0x41200000)], 0x3DCCCCCD, false⟩,  -- rt.trst
  ⟨0xD8, [(0x00000000, 0x3F19999A)], 0x3F000000, false⟩,  -- rt.mcv
  ⟨0xD9, [(0x3A83126F, 0x3F000000)], 0x3DA3D70A, false⟩,  -- rt.mcrest
  ⟨0xDA, [(0x3F8CCCCD, 0x3FA66666)], 0x3F99999A, false⟩,  -- rt.ovmc
  ⟨0xDB, [(0x3DCCCCCD, 0x42C80000)], 0x41200000, false⟩,  -- rt.prec
  ⟨0xDC, [(0x00000000, 0x3F800000)], 0x3F800000, false⟩,  -- rt.iqmode
  ⟨0xDD, [(0x00000000, 0x3F800000)], 0x00000000, false⟩,  -- rt.nsmode
  ⟨0xDE, [(0x00000000, 0x40C00000)], 0x40000000, false⟩,  -- rt.k2
  ⟨0xDF, [(0x3F800000, 0x3FC00000)], 0x3F99999A, false⟩,  -- rt.ilim
  ⟨0xE0, [(0x3D4CCCCD, 0x3FF33333)], 0x3F000000, false⟩,  -- rt.e1
  ⟨0xE1, [(0x00000000, 0x40800000)], 0x3FC00000, false⟩,  -- rt.g1
  ⟨0xE4, [(0x3DCCCCCD, 0x40A00000)], 0x3F99999A, false⟩,  -- of1.df
  ⟨0xE5, [(0x3E23D70A, 0x447A0000)], 0x43960000, false⟩,  -- of1.t
  ⟨0xE6, [(0x3DCCCCCD, 0x40A00000)], 0x40000000, false⟩,  -- of2.df
  ⟨0xE7, [(0x3E23D70A, 0x447A0000)], 0x3E23D70A, false⟩,  -- of2.t
  ⟨0xE8, [(0x3DCCCCCD, 0x41200000)], 0x3FC00000, false⟩,  -- uf1.df
  ⟨0xE9, [(0x3E23D70A, 0x447A0000)], 0x43960000, false⟩,  -- uf1.t
  ⟨0xEA, [(0x3DCCCCCD, 0x41200000)], 0x40600000, false⟩,  -- uf2.df
  ⟨0xEB, [(0x3E23D70A, 0x447A0000)], 0x3E23D70A, false⟩,  -- uf2.t
  ⟨0xEC, [(0x00000000, 0x3F800000)], 0x3F800000, false⟩,  -- uf.en
  ⟨0xED, [(0x3C8B4396, 0x3F800000)], 0x3D1374BC, false⟩,  -- uf.db
  ⟨0xF0, [(0x00000000, 0x3F800000)], 0x3F800000, false⟩,  -- is.en
  ⟨0xF1, [(0x42C80000, 0x447A0000)], 0x43480000, false⟩,  -- is.per
  ⟨0xF2, [(0x41200000, 0x42C80000)], 0x41A00000, false⟩,  -- is.dur
  ⟨0xF3, [(0x3C23D70A, 0x3DCCCCCD)], 0x3CF5C28F, false⟩]  -- is.qamp

/-- Parameters of Tables 7-11 and 8-7, part 5. -/
def paramTable5 : List Param := [
  ⟨0xF4, [(0x3CA3D70A, 0x3F800000)], 0x3DCCCCCD, false⟩,  -- is.dfth
  ⟨0xF5, [(0x3F800000, 0x40800000)], 0x40000000, false⟩,  -- is.nwin
  ⟨0xF6, [(0x00000000, 0x41A00000)], 0x40A00000, false⟩,  -- is.kf
  ⟨0xF7, [(0x00000000, 0x40000000)], 0x3F000000, false⟩,  -- is.cf0
  ⟨0xF8, [(0x00000000, 0x4B7FFFFF)], 0x00000000, false⟩,  -- is.next
  ⟨0xF9, [(0x00000000, 0x3F800000)], 0x3F800000, false⟩,  -- is.sync
  ⟨0xFA, [(0x00000000, 0x3F800000)], 0x00000000, false⟩,  -- is.roen
  ⟨0xFB, [(0x3DCCCCCD, 0x40A00000)], 0x3F800000, false⟩,  -- is.rocof
  ⟨0xFC, [(0x3CA3D70A, 0x3F000000)], 0x3DCCCCCD, false⟩,  -- is.rocw
  ⟨0xFD, [(0x00000000, 0x3F800000)], 0x00000000, false⟩,  -- is.vsen
  ⟨0xFE, [(0x40000000, 0x41A00000)], 0x41200000, false⟩]  -- is.vs

/-- Parameters of Table 9-13. -/
def paramTable6 : List Param := [
  ⟨0x61, [(0x3EB33333, 0x3FC00000)], 0x3F666666, false⟩,  -- ft.udc
  ⟨0x62, [(0x3DCCCCCD, 0x3F733333)], 0x3F19999A, false⟩,  -- ft.shd
  ⟨0x63, [(0x3F800000, 0x42800000)], 0x41A00000, false⟩,  -- ft.strn
  ⟨0x64, [(0x3C23D70A, 0x3F800000)], 0x3D4CCCCD, false⟩,  -- ft.gain
  ⟨0x65, [(0x00000000, 0x3C23D70A)], 0x3A83126F, false⟩,  -- ft.rot
  ⟨0x66, [(0x00000000, 0x45800000)], 0x43800000, false⟩,  -- ft.smax
  ⟨0x67, [(0x3F800000, 0x45610000)], 0x42700000, false⟩,  -- ft.rescan
  ⟨0x68, [(0x41200000, 0x44FA0000)], 0x43480000, false⟩,  -- ft.pstep
  ⟨0x69, [(0x00000000, 0x42C80000)], 0x41000000, false⟩,  -- ft.scanlo
  ⟨0x6A, [(0x41200000, 0x42F00000)], 0x42700000, false⟩,  -- ft.scanhi
  ⟨0x6B, [(0x00000000, 0x44FA0000)], 0x00000000, false⟩]  -- ft.plim

/-- The parameters of Tables 7-11, 8-7 and 9-13 (R191, R214, R239). -/
def paramTable : List Param := paramTable1 ++ paramTable2 ++ paramTable3 ++ paramTable4 ++ paramTable5 ++ paramTable6

/-- Applies `f` to what the shipped programs hold. -/
def Dev.onProg (d : Dev) (f : Ctl → Ctl) : Dev := { d with prog := f d.prog }

/-- VALID and FREE of the grid state word (Table 8-3). -/
def Ctl.valid (p : Ctl) : Bool := p.sync ≠ .searching
def Ctl.free (p : Ctl) : Bool := p.sync = .free

/-- RT: a profile timer runs (R203). -/
def Ctl.rt (p : Ctl) : Bool := p.tu || p.tov

/-- The parameter with an ID. -/
def paramOf (id : Nat) : Option Param := paramTable.find? fun p => p.id = id

/-- The value of a parameter in force. -/
def Dev.param (d : Dev) (id : Nat) : Nat := d.prog.params.at (((paramOf id).map Param.dflt).getD 0) id

/-- The value a parameter will have once every accepted change is in force. -/
def Dev.paramNext (d : Dev) (id : Nat) : Nat :=
  d.prog.changes.foldl (fun v c => match c.2 with
    | .param i x => if i = id then x else v
    | .table _ _ => v) (d.param id)

/-- A binary32 value that is an integer, as that integer (toward zero). -/
def fpInt (b : Nat) : Int := toSigned 64 (fpToInt false b).1

/-! ### Arithmetic and times -/

def fAdd (a b : Nat) : Nat := (fpAdd a b).1
def fSub (a b : Nat) : Nat := (fpSub a b).1
def fMul (a b : Nat) : Nat := (fpMul a b).1
def fDiv (a b : Nat) : Nat := (fpDiv a b).1
def fFma (a b c : Nat) : Nat := (fpFma a b c).1
def fSqrt (a : Nat) : Nat := (fpSqrt a).1
def fMin (a b : Nat) : Nat := (fpMin a b).1
def fMax (a b : Nat) : Nat := (fpMax a b).1
def fClamp (x lo hi : Nat) : Nat := (fpClamp x lo hi).1

/-- The binary32 number nearest to `a / b`. -/
def fpRat (a b : Nat) : Nat :=
  let q := a * 2 ^ 64 / b
  (fpRound false (2 * q + (if a * 2 ^ 64 % b = 0 then 0 else 1)) (-65)).1

/-- +infinity. -/
def fInf : Nat := 0x7F800000

/-- `n` frames in seconds: n × P × 2.5 ns. -/
def Dev.seconds (d : Dev) (n : Nat) : Nat := fpRat (n * d.rd .TIDE_PERIOD_ACT * 25) (10 ^ 10)

/-- The time since the frame with tide count `n`. -/
def Dev.since (d : Dev) (n : Nat) : Nat := d.seconds (d.tide - n)

/-- At least `t` seconds (binary32) have passed since the frame that `o` names. -/
def Dev.lasted (d : Dev) (o : Option Nat) (t : Nat) : Bool :=
  match o with
  | some n => fpLe t (d.since n)
  | none => false

/-- Since when a condition has held without a break. -/
def sinceWhen (now : Nat) (t : Option Nat) (holds : Bool) : Option Nat := if holds then some (t.getD now) else none

/-- A parameter that switches is on. -/
def Dev.paramOn (d : Dev) (id : Nat) : Bool := fpEq (d.param id) 0x3F800000

/-- The whole number that a parameter carries. -/
def Dev.paramNat (d : Dev) (id : Nat) : Nat := (fpInt (d.param id)).toNat

def Dev.prated (d : Dev) : Nat := d.param 0x01

/-- The rated peak current, sys.irated × √2 (R169). -/
def Dev.ratedPeak (d : Dev) : Nat := fMul (d.param 0x03) 0x3FB504F3

/-- The rated phase peak voltage, sys.urated × √2 ÷ √3 (R192). -/
def Dev.phasePeak (d : Dev) : Nat := fMul (d.param 0x02) 0x3F5105EC

/-- A first-order lag of time constant `tau` after a step of `t`: the manual gives the constant and not the difference equation; this is the
backward one, y + (x - y) × t ÷ (tau + t) (log entry 146). -/
def lagStep (y x t tau : Nat) : Nat := fFma (fSub x y) (fDiv t (fAdd tau t)) y

/-- The time constant of a lag that a parameter gives by its response time: the parameter ÷ ln 10 (R181, R182, R196, R198). -/
def Dev.lagOf (d : Dev) (id : Nat) : Nat := fDiv (d.param id) 0x40135D8E

def Dev.onComp (d : Dev) (f : Compete → Compete) : Dev := d.onProg fun p => { p with comp := f p.comp }
def Dev.onCur (d : Dev) (f : CurCtl → CurCtl) : Dev := d.onProg fun p => { p with cur := f p.cur }
def Dev.onPll (d : Dev) (f : Pll → Pll) : Dev := d.onProg fun p => { p with pll := f p.pll }
def Dev.onWatch (d : Dev) (f : Watch → Watch) : Dev := d.onProg fun p => { p with watch := f p.watch }
def Dev.onMod (d : Dev) (f : Modul → Modul) : Dev := d.onProg fun p => { p with mod := f p.mod }
def Dev.onPub (d : Dev) (f : Exchange → Exchange) : Dev := d.onProg fun p => { p with pub := f p.pub }

/-! ### Exchange nodes (R166) -/

/-- The node number in force of the exchange node that the manual names 262,080 + i (R166). -/
def Dev.exchangeNode (d : Dev) (i : Nat) : Nat := d.nodeCount - 64 + i

/-- Bytes that a shipped task stores into a node's live line; they take effect with its frame's stores (R96). -/
def Dev.lineStore (d : Dev) (n off : Nat) (bytes : List Byte) : Dev :=
  d.onTt fun t => { t with endedStores := t.endedStores ++ (List.range bytes.length).map fun k =>
    (⟨n, off + k, bytes.getD k 0⟩ : LineByte) }

/-- The live line of the exchange node that the manual names 262,080 + i, from its first byte on. -/
def Dev.publish (d : Dev) (i : Nat) (bytes : List Byte) : Dev := d.lineStore (d.exchangeNode i) 0 bytes

/-- A candidate as binary32: none is +infinity. -/
def fOpt (o : Option Nat) : Nat := o.getD fInf

/-! ### Tables (R168, R170, R178, R182, R204) -/

/-- The shipped default of a table; that of table 5 is not given (log entry 40). -/
def tableDefault : Nat → List (Nat × Nat)
  | 0 => [(0x42960000, 0x3F800000), (0x42BE0000, 0x00000000)]
  | 1 => [(0x3F87AE14, 0x3F800000), (0x3F8CCCCD, 0x3E4CCCCD)]
  | 2 => [(0x00000000, 0x3F800000), (0x40000000, 0x3F800000)]
  | 3 => [(0x00000000, 0x3F800000), (0x40000000, 0x3F800000)]
  | 4 => [(0x00000000, 0x00000000), (0x3FFFDF3B, 0x00000000), (0x40000000, 0x3F000000), (0x41A7FDF4, 0x3F000000),
          (0x41A80000, 0x3F6147AE)]
  | 6 => [(0x00000000, 0x40000000), (0x3E22D0E5, 0x40000000), (0x3E23D70A, 0x3F99999A), (0x414FFBE7, 0x3F99999A),
          (0x41500000, 0x3F8CCCCD)]
  | 7 => [(0x3DCCCCCD, 0x00000000), (0x3F19999A, 0x3F800000)]
  | _ => []

/-- The slopes between neighbouring points (Table 3-12). -/
def slopesOf : List (Nat × Nat) → List Nat
  | a :: b :: t => (fpDiv (fpSub b.2 a.2).1 (fpSub b.1 a.1).1).1 :: slopesOf (b :: t)
  | _ => []

/-- A table of points, with its slopes. -/
def tableOf (l : List (Nat × Nat)) : CtlTable := { pts := l, slopes := slopesOf l }

/-- Table `n` in force. -/
def Dev.ctlTable (d : Dev) (n : Nat) : CtlTable := (d.prog.tables.at none n).getD (tableOf (tableDefault n))

/-- Breakpoint `k` of table `n` as OP 0x02 left it; before, the default's. -/
def Dev.tabX (d : Dev) (n k : Nat) : Nat := (d.prog.xs.at none (32 * n + k)).getD ((tableDefault n).getD k (0, 0)).1

/-- Value `k` of table `n` as OP 0x03 left it; before, the default's. -/
def Dev.tabY (d : Dev) (n k : Nat) : Nat := (d.prog.ys.at none (32 * n + k)).getD ((tableDefault n).getD k (0, 0)).2

/-- Each number is less than the next. -/
def ascending : List Nat → Bool
  | a :: b :: t => fpLt a b && ascending (b :: t)
  | _ => true

/-! ### Commands (R167, R168) -/

/-- The OP, ID and VALUE of a payload (Table 7-3). -/
def HostCmd.op (c : HostCmd) : Nat := bitsOf c.payload 47 40
def HostCmd.ident (c : HostCmd) : Nat := bitsOf c.payload 39 32
def HostCmd.value (c : HostCmd) : Nat := bitsOf c.payload 31 0

/-- A payload of OP, ID and VALUE. -/
def payloadOf (op ident value : Nat) : Nat := 2 ^ 40 * op + 2 ^ 32 * ident + value

/-- A task consumes the command at the front of queue `q` when its OP is one of `ops`; nothing when it is not. -/
def Dev.consume (d : Dev) (q : Nat) (ops : Nat → Bool) (f : HostCmd → Dev → Dev) : Dev :=
  d.ctl fun x => match (x.queue q).items with
    | c :: t => if ops c.op then f c (x.setQueue q { x.queue q with items := t }) else x
    | [] => x

/-- The outcome of a command enters exchange node 262,085 with its SEQ (R168): SEQ at 0x00, the code at 0x04 (log entry 147). -/
def Dev.outcome (d : Dev) (c : HostCmd) (code : Nat) : Dev :=
  (d.onProg fun p => { p with outcome := some (c.seq, code) }).publish 5 (leBytes 4 c.seq ++ leBytes 4 code)

/-- What exchange node 262,084 distributes of an accepted change (R166, R168): its frame at 0x00, then a parameter's ID and value; a table's line beyond
its number and count of points, which one line cannot hold, is a free value (log entry 147). -/
def Dev.distribute (d : Dev) (frame : Nat) : CtlChange → Dev
  | .param id v => d.publish 4 (leBytes 8 frame ++ leBytes 4 id ++ leBytes 4 v)
  | .table n t =>
    let r := d.draw (2 ^ 1920)
    r.2.publish 4 (leBytes 8 frame ++ leBytes 4 (0x100 + n) ++ leBytes 4 t.pts.length ++ leBytes 240 r.1)

/-- An accepted change is in force from frame N + 8 (R168); a later commit of the same table replaces the earlier one (Table 7-10). -/
def Dev.accept (d : Dev) (c : HostCmd) (ch : CtlChange) : Dev :=
  let keep (e : Nat × CtlChange) : Bool := match ch, e.2 with
    | .table n _, .table k _ => decide (n ≠ k)
    | _, _ => true
  ((d.outcome c 0).onProg fun p => { p with changes := p.changes.filter keep ++ [(d.tide + 8, ch)] }).distribute (d.tide + 8) ch

/-- The converter is in the stop state: a stop is latched (R188). -/
def Dev.stopped (d : Dev) : Bool := !d.prog.stop.causes.isEmpty

/-- Parameter `id` would be `v` and the others as they will be: one of the pairs of R191, R214 and R239 is refused. -/
def Dev.pairBad (d : Dev) (id v : Nat) : Bool :=
  let g (k : Nat) : Nat := if k = id then v else d.paramNext k
  let pair (a b : Nat) : Bool := (id == a || id == b) && !fpLt (g a) (g b)
  pair 0x22 0x23 || pair 0x43 0x44 || pair 0xD8 0xD4 || pair 0xD5 0xDA || pair 0xE4 0xE6 || pair 0xE8 0xEA
    || pair 0x23 0x61 || pair 0x61 0x24 || pair 0x69 0x6A
    || ((id == 0xF5 || id == 0xF1) && fpLt 0x44ED8000 (fpMul (fpAdd (g 0xF5) 0x3F800000).1 (g 0xF1)).1)

/-- The outcome of OP 0x01 (Table 7-5). -/
def Dev.paramCheck (d : Dev) (id v : Nat) : Nat :=
  match paramOf id with
  | none => 0x1
  | some p =>
    if !(p.ranges.any fun r => fpLe r.1 v && fpLe v r.2) || d.pairBad id v then 0x2
    else if p.stopped && !d.stopped then 0x3
    else 0x0

/-- OP 0x01 (R168). -/
def Dev.setParam (d : Dev) (c : HostCmd) : Dev :=
  let code := d.paramCheck c.ident c.value
  if code = 0 then d.accept c (.param c.ident c.value) else d.outcome c code

/-- SET_PARAMETER (R168). -/
def execSetParameter (s : State) : Host.Outcome State Fault Refusal :=
  s.upd fun d => d.consume 0 (· == 0x01) fun c x => x.setParam c

/-- SET_BREAKPOINT (R168): the breakpoint waits for the table's commit. -/
def execSetBreakpoint (s : State) : Host.Outcome State Fault Refusal :=
  s.upd fun d => d.consume 0 (· == 0x02) fun c x =>
    (x.outcome c 0).onProg fun p => { p with xs := p.xs.set none c.ident (some c.value) }

/-- OP 0x03: a value of tables 2 and 3 must lie from 0 to 4 (R170). -/
def Dev.setValue (d : Dev) (c : HostCmd) : Dev :=
  let n := c.ident / 32
  if (n == 2 || n == 3) && !(fpLe 0 c.value && fpLe c.value 0x40800000) then d.outcome c 0x2
  else (d.outcome c 0).onProg fun p => { p with ys := p.ys.set none c.ident (some c.value) }

/-- SET_TABLE_VALUE (R168). -/
def execSetTableValue (s : State) : Host.Outcome State Fault Refusal :=
  s.upd fun d => d.consume 0 (· == 0x03) fun c x => x.setValue c

/-- OP 0x04 (R168): NPTS from 2 to 32, breakpoints strictly ascending. -/
def Dev.commitTable (d : Dev) (c : HostCmd) : Dev :=
  let n := c.ident / 32
  let k := fpInt c.value
  if !(fpLe 0x40000000 c.value && fpLe c.value 0x42000000) then d.outcome c 0x5
  else
    let l := (List.range k.toNat).map fun j => (d.tabX n j, d.tabY n j)
    if !ascending (l.map Prod.fst) then d.outcome c 0x4
    else d.accept c (.table n (tableOf l))

/-- COMMIT_TABLE (R168). -/
def execCommitTable (s : State) : Host.Outcome State Fault Refusal :=
  s.upd fun d => d.consume 0 (· == 0x04) fun c x => x.commitTable c

/-- A change comes into force. -/
def Ctl.apply (p : Ctl) : CtlChange → Ctl
  | .param i v => { p with params := Store.set p.params (((paramOf i).map Param.dflt).getD 0) i v }
  | .table n t => { p with tables := p.tables.set none n (some t) }

/-- The OPs of queues 0, 14 and 15 (Table 7-4). -/
def knownOp (q op : Nat) : Bool :=
  if q = 0 then decide (1 ≤ op) && decide (op ≤ 7) else if q = 14 then op == 0x11 else op == 0x10

/-- UNKNOWN_COMMAND (R167): on queue 0, 14 or 15. -/
def execUnknownCommand (q : Fin 3) (s : State) : Host.Outcome State Fault Refusal :=
  s.upd fun d =>
    let n := if q.val = 0 then 0 else 13 + q.val
    d.consume n (fun op => !knownOp n op) fun c x => x.outcome c 0x1

/-! ### Stops (R188, R189) -/

/-- The kind of a cause of Table 7-9 is immediate. -/
def immediateCause (c : Nat) : Bool := c == 0x06 || c == 0x09 || c == 0x0A

/-- The legs and the cells that the modulation task owns: those of its output set. -/
def Dev.ownedItems (d : Dev) (cls : Nat) : List Nat :=
  match d.prog.mod.task.bind d.taskOf with
  | some t => t.outs.flatMap fun e => if e.cls = cls then (List.range e.count).map fun k => e.first + k else []
  | none => []

/-- RUN of every leg that the modulation task owns, with the other bits of its word 3 as they are, staged for the next edge. -/
def Dev.stageRun (d : Dev) (run : Bool) : Dev :=
  d.onTt fun t => { t with ended := t.ended ++ (d.ownedItems 8).map fun m =>
    (⟨8, m, 3, BitVec.ofNat 64 (2 * bitsOf (d.shadow m 3) 2 1 + bit01 run)⟩ : OutItem) }

/-- fb.cellfb as the command of the cells given. -/
def Dev.stageCells (d : Dev) (cells : List Nat) : Dev :=
  let fb := BitVec.ofInt 64 (fpInt (d.param 0xA3))
  d.onTt fun t => { t with ended := t.ended ++ cells.map fun c => (⟨3, c, 0, fb⟩ : OutItem) }

/-- The modulation task stops the converter (R188, R206): RUN = 0 on every leg it owns and fb.cellfb on every cell. -/
def Dev.stageStop (d : Dev) : Dev :=
  ((d.stageRun false).stageCells (d.ownedItems 3)).onMod fun m => { m with service := false, running := false }

/-- A stop cause (R188, Table 7-10): the first one latches the stop; an immediate one during a ramp ends the ramp and is recorded second. Exchange node
262,080 shows it to the other tasks from the next frame on (R166); the modulation task stages the stop in its next activation. -/
def Dev.stopFor (d : Dev) (cause : Nat) : Dev :=
  let st := d.prog.stop
  let imm := immediateCause cause
  let next : StopState :=
    if st.causes.isEmpty then { causes := [cause], ramp := !imm, staged := false }
    else if st.ramp && imm then { causes := st.causes ++ [cause], ramp := false, staged := false }
    else st
  d.onProg fun p => { p with stop := next, pub := { p.pub with stop := next } }

/-- The cause that a VALUE carries; one that is no code of Table 7-9 is recorded as a free value (log entry 41). -/
def Dev.stopValue (d : Dev) (v : Nat) : Nat × Dev :=
  let c := fpInt v
  if fpEq v (fpOfInt c).1 && decide (0 ≤ c) && decide (c ≤ 0x0A) then (max c.toNat 1, d) else d.draw 256

/-- STOP (R188). -/
def execStop (s : State) : Host.Outcome State Fault Refusal :=
  s.upd fun d => d.consume 0 (· == 0x06) fun c x =>
    let r := x.stopValue c.value
    r.2.stopFor r.1

/-- TRIP clears and the converter enters service (R212), unless a stop is latched (Table 8-6): the modulation task starts the legs and cells. -/
def Dev.enterService (d : Dev) : Dev :=
  let go := !d.stopped
  (d.onProg fun p => { p with
    trip := 0, starting := p.starting && !go, enter := go || p.enter, pll := { p.pll with rcFrom := none, enterAt := if go then d.tide else p.pll.enterAt }
    }).onMod fun m => { m with service := go || m.service }

/-- The conditions of R212 other than rc.auto hold at the grid record as the grid synchronisation task formed it last. -/
def Dev.gridGood (d : Dev) : Bool :=
  let g := d.prog.grid
  let fnom := d.param 0xC0
  d.prog.valid && fpLe (d.param 0xB2) g.vmin && fpLe g.vmax (d.param 0xB3) && fpLe (fAdd fnom (d.param 0xB4)) g.f
    && fpLe g.f (fAdd fnom (d.param 0xB5)) && d.prog.watch.tripping.isEmpty && d.prog.watch.causes.isEmpty

/-- A cause of Table 7-9 is present now, as the tasks found it in their latest activations; a host command (0x01) is never present. -/
def Dev.causePresent (d : Dev) : Bool :=
  let p := d.prog
  !d.tt.missRaised.isEmpty || p.coolTerm.isSome || p.comp.nan || p.comp.curtail || p.losses.contains .phaseCurrents
    || p.losses.contains .dcLink || p.losses.contains .gridVoltage || decide (fpInt (d.param 0xA2) < (p.mod.out.length : Int))

/-- CLEAR_STOP (R188, R189, R212): accepted only when no cause remains present; the converter then waits for R212 as after arming (R479). With rc.auto = 0
it also clears a grid trip, and starts a converter that waits, while the conditions of R212 hold. -/
def execClearStop (s : State) : Host.Outcome State Fault Refusal :=
  s.upd fun d => d.consume 0 (· == 0x07) fun _ x =>
    let y := if x.causePresent then x else x.onProg fun p => { p with
      stop := {}, pub := { p.pub with stop := {} }, rearm := false, starting := p.starting || !p.stop.causes.isEmpty }
    if (decide (y.prog.trip ≠ 0) || y.prog.starting) && !y.paramOn 0xB7 && y.gridGood then y.enterService else y

/-- The ramp of a controlled stop has lasted stp.t since the current-control task began it (R188). -/
def Dev.rampOver (d : Dev) : Bool := d.prog.stop.ramp && d.lasted d.prog.cur.rampFrom (d.param 0xB0)

/-- The ramp ends: the modulation task stages the stop. -/
def Dev.rampEnd (d : Dev) : Dev :=
  if d.rampOver then
    (d.onProg fun p => { p with stop := { p.stop with ramp := false, staged := true }, pub := { p.pub with stop := { p.stop with ramp := false, staged := true } } }).stageStop
  else d

/-- STOP_RAMP_END (R188). -/
def execStopRampEnd (s : State) : Host.Outcome State Fault Refusal := s.upd fun d => d.ctl Dev.rampEnd

/-- The status code of a push into host command queue `q` (Table 18-2, in the order of R403). -/
def Dev.pushCode (d : Dev) (q : Nat) : Nat :=
  if d.sys.cdReset then 0x5
  else if d.boardsPaired && !d.on .PWM_STAT_LEAD then 0x4
  else if q = 13 then 0x3
  else if 16 ≤ (d.queue q).items.length then 0x2
  else 0x1

/-- A push (R403): the SEQ assigned, 0 when it is refused. -/
def Dev.push (d : Dev) (q payload : Nat) : Nat × Dev :=
  if d.pushCode q = 0x1 then
    match d.queuePush q payload with
    | some r => (r.2, r.1)
    | none => (0, d)
  else (0, d)

/-- The management firmware posts a command. -/
def Dev.post (d : Dev) (q op ident value : Nat) : Dev := d.firmware fun x => (x.push q (payloadOf op ident value)).2

/-- A task is the competition task: it writes exchange node 262,080 (Table 7-2). -/
def Dev.isCompetition (d : Dev) (t : Task) : Bool :=
  let n := d.exchangeNode 0
  t.outs.any fun e => e.cls == 0x0A && decide (e.first ≤ n) && decide (n < e.first + e.count)

/-- PERSISTENT_MISS_HANDLING (R189): the firmware disarms and blocks the links for a task with leg or cell outputs and for the competition task;
it posts a stop for every task. The log entry's SRC and LVL are the firmware's own (log entry 42). -/
def execPersistentMissHandling (task : Fin 512) (s : State) : Host.Outcome State Fault Refusal :=
  s.upd fun d => d.ctl fun w => w.firmware fun x => match x.taskOf task.val with
    | none => x
    | some t =>
      if x.isCompetition t || t.outs.any fun e => e.cls == 8 || e.cls == 3 then
        let y := x.disarm.each 32 fun z l => if z.onAt .CLINK_STAT_RUNNING l then z.blockLink l else z
        let r := y.draw 256
        let q := r.2.draw 16
        ((q.2.onProg fun p => { p with rearm := true }).post 0 0x06 0 0x41200000).logAsk { src := 0x200 + r.1, lvl := q.1, fw := true, data := 0x0A }
      else x.post 0 0x06 0 0x40000000

/-! ### Candidates -/

/-- A committed table as lut.b reads it (Table 3-12). -/
def CtlTable.cell (t : CtlTable) (a : Nat) : Nat :=
  let n := t.pts.length
  let j := (a - 8) / 4
  if a = 0 then n
  else if j < n then (t.pts.getD j (0, 0)).1
  else if j < 2 * n then (t.pts.getD (j - n) (0, 0)).2
  else t.slopes.getD (j - 2 * n) 0

/-- lut_b of a table (R83). -/
def CtlTable.look (t : CtlTable) (x : Nat) : Nat := (fpLutB (fun _ a => t.cell a) x 0).1

/-- lut_b over table `n` in force. -/
def Dev.look (d : Dev) (n x : Nat) : Nat := (d.ctlTable n).look x

/-- The thermal candidate of R178 at a temperature. -/
def Dev.thermalAt (d : Dev) (tHot : Nat) : Nat := fMul d.prated (d.look 0 tHot)


/-- HOST_SET_POINT (R183): VALUE clamped to cmp.pmin × prated to prated; +infinity withdraws the set-point. -/
def execHostSetPoint (s : State) : Host.Outcome State Fault Refusal :=
  s.upd fun d => d.consume 0 (· == 0x05) fun c x =>
    let v := if c.value = 0x7F800000 then none else some (fClamp c.value (fMul (x.param 0x30) x.prated) x.prated)
    x.onProg fun p => { p with host := v, hostAt := x.tide }

/-- Without a set-point for hst.to the host candidate takes hst.fb × prated (R183). -/
def Dev.hostLate (d : Dev) : Dev :=
  match d.prog.host with
  | some _ =>
    if d.lasted (some d.prog.hostAt) (d.param 0x90) then d.onProg fun p => { p with host := some (fMul (d.param 0x91) d.prated) } else d
  | none => d

/-- HOST_SETPOINT_TIMEOUT (R183). -/
def execHostSetpointTimeout (s : State) : Host.Outcome State Fault Refusal := s.upd fun d => d.ctl Dev.hostLate

/-- The permit is in range and its candidate is `v` (R175 to R177). -/
def Dev.permitIn (d : Dev) (v : Nat) : Dev := d.onProg fun p => { p with permit := some v, permitOut := false, permitFault := false }

/-- The permit is out of range, from this frame on when it was in range (R177). -/
def Dev.permitLost (d : Dev) : Dev :=
  d.onProg fun p => { p with permitOut := true, permitFrom := if p.permitOut then p.permitFrom else d.tide }

/-- The permit at a measured PRM_F frequency (R176). -/
def Dev.permitAt (d : Dev) (f : Nat) : Dev :=
  let f0 := d.param 0x43
  let f100 := d.param 0x44
  let x := d.onProg fun p => { p with permitAt := d.tide }
  if fpLe (fDiv f0 0x40000000) f && fpLe f (fMul f100 0x3F866666) then
    x.permitIn (fMul (d.param 0x41) (fClamp (fDiv (fSub f f0) (fSub f100 f0)) 0 0x3F800000))
  else x.permitLost

/-- PRM_F is the permit's source (R176). -/
def Dev.permitByFrequency (d : Dev) : Bool := fpEq (d.param 0x40) 0x40000000

/-- PRM_F_FREQUENCY (R176): the export permit task consumes the measured frequency. -/
def execPrmFFrequency (s : State) : Host.Outcome State Fault Refusal :=
  s.upd fun d => d.consume 15 (· == 0x10) fun c x => if x.permitByFrequency then x.permitAt c.value else x

/-- PRM_F_WINDOW_END (R176): the firmware posts (n − 1) ÷ (t_last − t_first) Hz, at most 10 kHz; the span of the edges is in ns. -/
def execPrmFWindowEnd (n span : Nat) (s : State) : Host.Outcome State Fault Refusal :=
  s.upd fun d =>
    let f := if n < 2 then 0
      else if 10000 * span ≤ (n - 1) * 10 ^ 9 then 0x461C4000
      else fpRat ((n - 1) * 10 ^ 9) span
    d.post 15 0x10 0 f

/-- No queue 15 command for 50 ms: out of range (R176). -/
def Dev.permitLate (d : Dev) : Dev :=
  if d.permitByFrequency && d.lasted (some d.prog.permitAt) 0x3D4CCCCD then d.permitLost else d

/-- PERMIT_QUEUE_TIMEOUT (R176). -/
def execPermitQueueTimeout (s : State) : Host.Outcome State Fault Refusal := s.upd fun d => d.ctl Dev.permitLate

/-- Out of range for prm.flt_t (R177): the candidate takes prm.fault, and the permit-fault flag is set. Until then it keeps its last in-range value; where
no reading has ever been in range there is none, and it stays +infinity (log entry 148). -/
def Dev.permitTimeout (d : Dev) : Dev :=
  if d.prog.permitOut && !fpEq (d.param 0x40) 0 && d.lasted (some d.prog.permitFrom) (d.param 0x46) then
    d.onProg fun p => { p with permit := some (d.param 0x45), permitFault := true }
  else d

/-- PERMIT_FAULT_TIMEOUT (R177). -/
def execPermitFaultTimeout (s : State) : Host.Outcome State Fault Refusal := s.upd fun d => d.ctl Dev.permitTimeout

/-- Coolant, or a temperature feedback (Table 7-7), is found lost (R179): the coolant term starts at the R178 value of the thermal task's temperature, or at
the floor when that lies at or below it. -/
def Dev.coolantLost (d : Dev) : Dev :=
  match d.prog.coolTerm with
  | some _ => d
  | none =>
    let thermal := d.thermalAt d.prog.pub.tHot
    let floor := fMul (d.param 0x50) d.prated
    d.onProg fun p => { p with coolTerm := some (if fpLe thermal floor then floor else thermal, d.tide), coolFrom := d.tide }

/-- Coolant and every temperature feedback are good again (R179): the coolant term is +infinity. -/
def Dev.coolantBack (d : Dev) : Dev := if d.prog.coolLost || d.prog.tempLost then d else d.onProg fun p => { p with coolTerm := none }

/-- COOLANT_STATUS (R179): VALUE 1.0 flow good, 0.0 flow lost. -/
def execCoolantStatus (s : State) : Host.Outcome State Fault Refusal :=
  s.upd fun d => d.consume 14 (· == 0x11) fun c x =>
    let y := x.onProg fun p => { p with coolAt := x.tide }
    if fpEq c.value 0 then (y.onProg fun p => { p with coolLost := true }).coolantLost
    else if fpEq c.value 0x3F800000 then (y.onProg fun p => { p with coolLost := false }).coolantBack
    else y

/-- No coolant status for 10 ms: coolant is lost (R179). -/
def Dev.coolantLate (d : Dev) : Dev :=
  if d.lasted (some d.prog.coolAt) 0x3C23D70A then (d.onProg fun p => { p with coolLost := true }).coolantLost else d

/-- COOLANT_STATUS_TIMEOUT (R179). -/
def execCoolantStatusTimeout (s : State) : Host.Outcome State Fault Refusal := s.upd fun d => d.ctl Dev.coolantLate

/-- Coolant lost for th.coolt: a controlled stop with cause 0x03 (R179, Table 7-7). -/
def Dev.coolantStop (d : Dev) : Dev :=
  if d.prog.coolTerm.isSome && d.lasted (some d.prog.coolFrom) (d.param 0x52) then d.stopFor 0x03 else d

/-- COOLANT_LOSS_STOP (R179). -/
def execCoolantLossStop (s : State) : Host.Outcome State Fault Refusal := s.upd fun d => d.ctl Dev.coolantStop

/-- Udc above dc.ovp for more than fb.holdslow activations of the competition: a controlled stop with cause 0x05 (R184). -/
def Dev.overvoltageStop (d : Dev) : Dev :=
  if d.prog.comp.curtail && decide (d.paramNat 0xA1 < d.prog.comp.ovpN) then d.stopFor 0x05 else d

/-- DC_LINK_OVERVOLTAGE_STOP (R184). -/
def execDcLinkOvervoltageStop (s : State) : Host.Outcome State Fault Refusal := s.upd fun d => d.ctl Dev.overvoltageStop

/-! ### Feedback (R185 to R187) -/

/-- The converter is modulating and not in the stop state (R185). -/
def Dev.loopClosed (d : Dev) : Bool :=
  !d.stopped && d.drive && ((List.range 24).any fun m => d.legState m == 1)
    || (!d.stopped && d.drive && ((List.range 32).any fun l => d.onAt .CLINK_STAT_RUNNING l && !d.onAt .CLINK_STAT_BLKD l))

/-- The number that stands for a task in what the programs keep by task. -/
def roleIndex : Role → Nat
  | .current => 0
  | .modulation => 1
  | .dcLink => 2
  | .competition => 3
  | .cells => 4
  | .sync => 5
  | .supervision => 6
  | .detectors => 7
  | .thermal => 8
  | .support => 9

/-- The shipped default timetable (Table 7-1): the engine and the RATE of each task. -/
def defaultPlacement : Role → Nat × Nat
  | .current => (0, 0)
  | .modulation => (0, 0)
  | .dcLink => (0, 0)
  | .competition => (0, 4)
  | .cells => (1, 0)
  | .sync => (1, 0)
  | .supervision => (1, 2)
  | .detectors => (1, 3)
  | .thermal => (1, 6)
  | .support => (3, 4)

/-- The RATE that a task had at its latest activation; before one, its default. -/
def Dev.roleRate (d : Dev) (r : Role) : Nat := d.prog.rates.at (defaultPlacement r).2 (roleIndex r)

/-- The period of a task, in seconds. -/
def Dev.rolePeriod (d : Dev) (r : Role) : Nat := d.seconds (2 ^ d.roleRate r)

/-- The hold limit: fb.hold for the tasks at RATE 0, fb.holdslow activations for the others (R186). -/
def Dev.holdLimit (d : Dev) (r : Role) : Nat := d.paramNat (if d.roleRate r = 0 then 0xA0 else 0xA1)

/-- Item `k` of a task's input entry `e`: its class and index. -/
def Task.input (t : Task) (e k : Nat) : Option (Nat × Nat) :=
  match t.ins[e]? with
  | some x => if k < x.count then some (x.cls, x.first + k) else none
  | none => none

/-- Every item of class `c` in a task's input set. -/
def Task.inputsOf (t : Task) (c : Nat) : List (Nat × Nat) :=
  t.ins.flatMap fun e => if e.cls = c then (List.range e.count).map fun k => (c, e.first + k) else []

/-- What is boarded as an item (Table 4-2). -/
def Dev.itemWord (d : Dev) (i : Nat × Nat) : Nat := (d.vcs.boarded.at 0 (boardKey i.1 i.2)).toNat

/-- The key under which a task keeps the SEQ of an item. -/
def seqKey (r : Role) (i : Nat × Nat) : Nat := 2 ^ 32 * roleIndex r + boardKey i.1 i.2

/-- A boarded item is fresh for a task (R185): STALE = 0, for class 0x01 FROZEN = 0, and a SEQ other than that of its previous activation; at its first
one every SEQ counts as another (log entry 149). -/
def Dev.itemFresh (d : Dev) (r : Role) (i : Nat × Nat) : Bool :=
  let w := d.itemWord i
  !bitOf w 48 && !(decide (i.1 = 1) && bitOf w 49) && decide (d.prog.seqs.at 0 (seqKey r i) ≠ 1 + bitsOf w 47 32)

/-- An input of a task: its bits 31:0, and whether it is fresh; an input that its set does not name is not. -/
def Dev.input (d : Dev) (r : Role) (o : Option (Nat × Nat)) : Nat × Bool :=
  match o with
  | some i => (d.itemWord i % 2 ^ 32, d.itemFresh r i)
  | none => (0, false)

/-- The SEQs of an activation, kept for the next one. -/
def Dev.noteSeqs (d : Dev) (r : Role) (l : List (Nat × Nat)) : Dev :=
  d.onProg fun p => { p with seqs := l.foldl (fun s i => s.set 0 (seqKey r i) (1 + bitsOf (d.itemWord i) 47 32)) p.seqs }

/-- What a task does with its required feedback (R186): acts on it, ends with hold, or acts on the fallbacks. -/
inductive Feed where
  | act | hold | fallback
deriving DecidableEq, Repr

/-- The task that requires a feedback. -/
def lossRole : FeedbackLoss → Role
  | .phaseCurrent => .current
  | .phaseCurrents => .current
  | .dcLink => .current
  | .gridVoltage => .current
  | .permit => .support
  | .temperature => .thermal
  | .cells => .modulation

/-- A fallback of Table 7-7 that changes what the programs hold. A phase current that is derived and the second DC-link channel are flagged; the values
that they give enter the loops with the activation. -/
def Dev.fallback (d : Dev) : FeedbackLoss → Dev
  | .phaseCurrent => d.onProg fun p => { p with derived := true }
  | .phaseCurrents => d.stopFor 0x06
  | .dcLink =>
    let c := d.paramNat 0xA4
    if decide (c ≠ 255) && d.itemFresh .current (1, c) then d.onProg fun p => { p with second := true } else d.stopFor 0x07
  | .gridVoltage => d.stopFor 0x08
  | .permit => d.permitLost
  | .temperature => (d.onProg fun p => { p with tempLost := true }).coolantLost
  | .cells => if d.paramNat 0xA2 < d.prog.mod.out.length then d.stopFor 0x09 else d

/-- The losses a task's activation found, in place of those that it found before; the task is among those with a stale feedback while it found one. -/
def Dev.noteLosses (d : Dev) (r : Role) (l : List FeedbackLoss) : Dev :=
  d.onProg fun p => { p with
    losses := p.losses.filter (fun x => lossRole x ≠ r) ++ l
    staleIn := p.staleIn.filter (fun n => n ≠ roleIndex r) ++ (if l.isEmpty then [] else [roleIndex r]) }

/-- A task judges its required feedback (R186, Table 7-10), with the losses it found: with none the hold count returns to zero. While the loop is open a
stale feedback blocks arming and nothing else; a hold that a stop meets goes on to its limit. -/
def Dev.feed (d : Dev) (r : Role) (l : List FeedbackLoss) : Feed × Dev :=
  let k := roleIndex r
  let x := d.noteLosses r l
  let n := d.prog.holds.at 0 k
  if l.isEmpty then
    (.act, x.onProg fun p => { p with
      holds := p.holds.set 0 k 0
      derived := p.derived && !(decide (r = .current)), second := p.second && !(decide (r = .current))
      tempLost := p.tempLost && !(decide (r = .thermal)) })
  else if !(d.loopClosed || (decide (0 < n) && d.stopped)) then (.act, x)
  else
    let y := x.onProg fun p => { p with holds := p.holds.set 0 k (satAdd (2 ^ 16) n 1) }
    if n + 1 ≤ d.holdLimit r then (.hold, y) else (.fallback, l.foldl Dev.fallback y)

/-- FEEDBACK_HOLD_LIMIT (R186, R187, Table 7-7): the fallback for a feedback that its task has found not fresh beyond the hold limit, while the loop is
closed. -/
def execFeedbackHoldLimit (item : FeedbackLoss) (s : State) : Host.Outcome State Fault Refusal :=
  s.upd fun d => d.ctl fun x =>
    let r := lossRole item
    let late := decide (r = .modulation) || (x.prog.losses.contains item && decide (x.holdLimit r < x.prog.holds.at 0 (roleIndex r)))
    if x.loopClosed && late then x.fallback item else x

end Sys2Proof.Machine
end

