-- ==== Sys2Proof/Machine/Pager.lean ====
section
/-!
DEFINITION. Machine/Pager.lean: berths, residency, write-backs, history (R242 to R257).
-/
namespace Sys2Proof.Machine

/-! ### Node sets (R247) -/

/-- The positions of node `n` in a task's node list. -/
def Task.positions (t : Task) (n : Nat) : List Nat :=
  (t.nodes.foldl (fun (acc : List Nat × Nat) e =>
    (if e.first ≤ n ∧ n < e.first + e.count then acc.1 ++ [acc.2 + (n - e.first)] else acc.1, acc.2 + e.count)) ([], 0)).1

/-- The activation whose segment 0 runs in frame `n0` has node `n` in its node set. -/
def Task.touches (t : Task) (n0 n : Nat) : Bool :=
  if t.win = 0 then !(t.positions n).isEmpty
  else
    let s := t.nodeCount
    let w := n0 / 2 ^ t.rate % ceilDiv s t.win
    (t.positions n).any fun p => decide (w * t.win ≤ p) && decide (p < min ((w + 1) * t.win) s)

/-- Some node set of a timetable names node `n`. -/
def Timetable.names (x : Timetable) (n : Nat) : Bool := x.tasks.any fun t => !(t.positions n).isEmpty

/-! ### Residency (R248) -/

/-- The frame of segment 0 of the present activation of task `t`. -/
def Dev.windowStart (d : Dev) (t : Task) : Nat := d.tide - (d.tide + 2 ^ t.rate - t.phase) % 2 ^ t.rate

/-- The present activation of task `t` holds the window with node `n`: from the edge that opens its frame until the landing phase of its last segment's
frame closes, or, abandoned, until the frame of abandonment ends (R248, Table 10-4). -/
def Dev.windowRuns (d : Dev) (t : Task) (n : Nat) : Bool :=
  let now := d.tide
  let cur := d.windowStart t
  let gone := (d.tt.acts.at {} t.id).abandonedAt
  decide (t.phase ≤ now) && t.touches cur n && !(decide (cur < gone) && decide (gone ≤ now))
    && (decide (now + 1 < cur + t.segs) || (decide (now + 1 = cur + t.segs) && !d.tt.landed))

/-- The window residency of node `n` under task `t` of the active timetable in the present frame. -/
def Dev.windowHolds (d : Dev) (t : Task) (n : Nat) : Bool :=
  let per := 2 ^ t.rate
  let next := if t.phase ≤ d.tide then d.windowStart t + per else t.phase
  d.windowRuns t n || (t.touches next n && decide (next ≤ d.tide + min (d.rd .BERTH_CFG_HOR) per))

/-- The first activation of a task of the pending timetable wants node `n` now. -/
def Dev.windowComing (d : Dev) (t : Task) (n : Nat) : Bool :=
  let n0 := d.tt.actAt + t.phase
  t.touches n0 n && decide (n0 ≤ d.tide + min (d.rd .BERTH_CFG_HOR) (2 ^ t.rate))

/-- Node `n` belongs to a residency interval now. -/
def Dev.residency (d : Dev) (n : Nat) : Bool :=
  let act := (d.tt.active.map Timetable.tasks).getD []
  let pend := (d.tt.pending.map Timetable.tasks).getD []
  (decide (n < 1536) && d.timetabled)
    || (act ++ pend).any (fun t => decide (t.win = 0) && !(t.positions n).isEmpty)
    || act.any (fun t => decide (t.win ≠ 0) && d.windowHolds t n)
    || pend.any (fun t => decide (t.win ≠ 0) && d.windowComing t n)

/-- The deadline of node `n`'s bring-in has come: its line must be resident in the present frame (R248, R250). -/
def Dev.residentDue (d : Dev) (n : Nat) : Bool :=
  match d.tt.active with
  | none => false
  | some x => decide (n < 1536) || x.tasks.any fun t => if t.win = 0 then !(t.positions n).isEmpty else d.windowRuns t n

/-- The line of node `n`, when it is resident or coming in. -/
def Dev.line (d : Dev) (n : Nat) : Option Line := (d.pager.lines.find? fun e => e.1 = n).map Prod.snd

/-- Sets the line of node `n`. -/
def Dev.setLine (d : Dev) (n : Nat) (l : Line) : Dev :=
  d.onPager fun p => { p with lines := Store.insert natLt n l p.lines }

/-- USED and USEDMAX follow the resident lines (Tables 10-7 and 10-9). -/
def Dev.usedNote (d : Dev) : Dev :=
  let u := (d.pager.lines.filter fun e => e.2.res).length
  (d.wr .BERTH_STAT_USED u).wr .BERTH_PEAK_USEDMAX (max u (d.rd .BERTH_PEAK_USEDMAX))

/-- The controller is in normal operation (R250, R357). -/
def Dev.ddrOn (d : Dev) : Bool := !d.sys.cdReset && decide (d.rd .DDR_STAT_STATE = ddrNormal)

/-- The bring-in of node `n`'s line starts: a pinned line's berth is its own number, another's is a free one among the free pageable berths (log
entry 1). -/
def Dev.bringIn (d : Dev) (n : Nat) : Dev :=
  if n < d.nodeCount ∧ d.residency n ∧ (d.line n).isNone then
    if n < 1536 then d.setLine n { berth := n }
    else
      let free := (List.range 31232).filter fun k => !(d.pager.lines.any fun e => e.2.berth = 1536 + k)
      let r := d.draw (max 1 free.length)
      match free[r.1]? with
      | some k => r.2.setLine n { berth := 1536 + k }
      | none => d
  else d

/-- LINE_BRING_IN (R248). -/
def execLineBringIn (node : BitVec 18) (s : State) : Host.Outcome State Fault Refusal :=
  s.upd fun d => if d.ddrOn then d.bringIn node.toNat else d

/-- An error met in reading the words of a record (R253, R365): corrected, or the line damaged. -/
def Dev.lineRead (d : Dev) (n a len : Nat) : Dev :=
  match d.spanState a len with
  | 0 => d
  | 1 => d.corrected a
  | _ => (d.uncorrectable a).damage n

/-- The words that a bring-in from `src` read bad stand bad in the berth at `dst`, but for those that the writes of the NODE block replace whole. -/
def Dev.badWords (d : Dev) (src dst : Nat) (queued : List (Nat × List Byte)) : Dev :=
  d.each 32 fun x k =>
    if decide (2 ≤ d.wordState (src + 8 * k)) && !(queued.any fun q => decide (q.1 ≤ 8 * k) && decide (8 * k + 8 ≤ q.1 + q.2.length)) then
      x.setWord (dst + 8 * k) 3
    else x

/-- A bring-in completes (R250): the line is resident, with the NODE block's waiting writes applied and their sectors dirty. -/
def Dev.bringDone (m : List Host.Cell) (d : Dev) (n : Nat) : List (Nat × List Byte) × Dev :=
  match d.line n with
  | none => ([], d)
  | some l =>
    if l.res then ([], d)
    else
      let a := d.nodeRecord n
      let dirty := l.queued.foldl (fun k q => (List.range ((q.1 % 32 + q.2.length + 31) / 32)).foldl (fun k s =>
        setBit k (q.1 / 32 + s) true) k) l.dirty
      let d1 := (((d.setLine n { l with res := true, dirty := dirty, queued := [] }).goodWords (l.addr 0) (l.addr 256)).lineRead n a 256).badWords a
        (l.addr 0) l.queued
      let d2 := (d1.bump .BERTH_FETCHCNT (2 ^ 32 - 1)).signal 0x290 1
      ((l.addr 0, memBytes m a 256) :: l.queued.map fun q => (l.addr q.1, q.2), d2.usedNote)

/-- LINE_BRING_IN_COMPLETE (R250). -/
def execLineBringInComplete (node : BitVec 18) (s : State) : Host.Outcome State Fault Refusal :=
  s.updP fun m d => if d.ddrOn then d.bringDone m node.toNat else ([], d)

/-- A bring-in has not completed by its deadline, whether it has begun or not: it is counted once, and still completes (R250). -/
def Dev.bringLate (d : Dev) (n : Nat) : Dev :=
  let x := d.bringIn n
  match x.line n with
  | some l =>
    if l.res || l.late || !x.residentDue n then d
    else ((((((x.setLine n { l with late := true }).bump .BERTH_LATECNT (2 ^ 32 - 1)).flag .BERTH_STAT_LATE true).lerr 2).dryNote 2).signal 0x293 1).raise 52
  | none => d

/-- BRING_IN_LATE (R250). -/
def execBringInLate (node : BitVec 18) (s : State) : Host.Outcome State Fault Refusal :=
  s.upd fun d => d.ctl fun x => x.bringLate node.toNat

/-! ### Write-back (R251, R253) -/

/-- What a write-back of sector `s` writes: the sector, or poison where it holds a bad word, which damages the line (R253). -/
def Dev.sectorBack (m : List Host.Cell) (d : Dev) (n : Nat) (l : Line) (s : Nat) : List (Nat × List Byte) × Dev :=
  let src := l.addr (32 * s)
  let dst := d.nodeRecord n + 32 * s
  let d1 := d.lineRead n src 32
  match (List.range 4).filter fun k => decide (2 ≤ d.wordState (src + 8 * k)) with
  | [] => ([(dst, memBytes m src 32)], d1.goodWords dst (dst + 32))
  | bad => bad.foldl (fun acc k =>
      let p := acc.2.poison (dst + 8 * k)
      (acc.1 ++ [p.1], p.2)) ([], d1)

/-- The line of node `n` is written back, and released when no residency holds it, which rewrites its translation entry (R248, R251, R367). -/
def Dev.writeBack (m : List Host.Cell) (d : Dev) (n : Nat) : List (Nat × List Byte) × Dev :=
  match d.line n with
  | none => ([], d)
  | some l =>
    if !l.res then ([], d)
    else
      let r := ((List.range 8).filter fun s => bitOf l.dirty s).foldl (fun acc s =>
        let x := acc.2.sectorBack m n l s
        (acc.1 ++ x.1, x.2)) (([] : List (Nat × List Byte)), d)
      let d1 := if l.dirty = 0 then r.2 else ((r.2.setLine n { (r.2.line n).getD l with dirty := 0 }).bump .BERTH_WBCNT (2 ^ 32 - 1)).signal 0x291 1
      let d2 := if d1.residency n then d1
        else ((d1.onPager fun p => { p with lines := Store.erase n p.lines }).setWord (translationTable + 4 * n) 0).usedNote
      (r.1, d2)

/-- LINE_WRITE_BACK (R251). -/
def execLineWriteBack (node : BitVec 18) (s : State) : Host.Outcome State Fault Refusal :=
  s.updP fun m d => if d.ddrOn then d.writeBack m node.toNat else ([], d)

/-! ### The NODE block's accesses (R246) -/

/-- Where the bytes of node `n`'s line are: in its berth while it is resident, else in DRAM. -/
def Dev.lineAt (d : Dev) (n off : Nat) : Nat :=
  match d.line n with
  | some l => if l.res then l.addr off else d.nodeRecord n + off
  | none => d.nodeRecord n + off

/-- Bytes overlaid with the writes that wait for a bring-in, oldest first. -/
def overlaid (q : List (Nat × List Byte)) (off : Nat) (l : List Byte) : List Byte :=
  q.foldl (fun bs w => (List.range bs.length).map fun k =>
    if w.1 ≤ off + k ∧ off + k < w.1 + w.2.length then w.2.getD (off + k - w.1) 0 else bs.getD k 0) l

/-- Bytes of node `n`'s line as they stand, with the NODE block's writes that wait for its bring-in (R246). -/
def Dev.lineBytes (m : List Host.Cell) (d : Dev) (n off len : Nat) : List Byte :=
  let bs := memBytes m (d.lineAt n off) len
  match d.line n with
  | some l => if l.res then bs else overlaid l.queued off bs
  | none => bs

/-- The NODE block writes bytes of node `n`'s line. -/
def Dev.lineWrite (d : Dev) (n off : Nat) (bytes : List Byte) : List (Nat × List Byte) × Dev :=
  let sectors := List.range ((off % 32 + bytes.length + 31) / 32)
  match d.line n with
  | some l =>
    if l.res then
      ([(l.addr off, bytes)], d.setLine n { l with dirty := sectors.foldl (fun k s => setBit k (off / 32 + s) true) l.dirty })
    else ([], d.setLine n { l with queued := l.queued ++ [(off, bytes)] })
  | none =>
    let r := d.store (d.nodeRecord n + off) bytes
    (r.1, r.2.2)

/-! ### History (R252) -/

/-- A history sample of node `n` with the given stamp and line offset. -/
def Dev.history (m : List Host.Cell) (d : Dev) (n stamp off : Nat) : List (Nat × List Byte) × Dev :=
  let a := d.nodeRecord n + 0x1000 + 16 * (stamp % 256)
  let bytes := leBytes 4 stamp ++ d.lineBytes m n off 12
  ([(a, bytes)], ((d.goodWords a (a + 16)).bump .BERTH_HAPPCNT (2 ^ 32 - 1)).signal 0x292 1)

/-- HISTORY_APPEND (R252): for a cell at an edge with N mod 64 = 0; for a field node at the edge at which its report entered. -/
def execHistoryAppend (node : BitVec 18) (s : State) : Host.Outcome State Fault Refusal :=
  s.updP fun m d =>
    let n := node.toNat
    if !d.ddrOn then ([], d)
    else if n < 1536 then
      (match d.line n with
      | some l =>
        if l.usable && d.on .BERTH_CFG_CHEN && decide (d.tide % 64 = 0) then d.history m n (d.tide / 64 % 2 ^ 32) (d.rd .BERTH_HOFF_HOFFC)
        else ([], d)
      | none => ([], d))
    else if d.node.sample.contains n then
      let d1 := { d with node := { d.node with sample := d.node.sample.filter fun k => k ≠ n } }
      if d.on .BERTH_CFG_FHEN then d1.history m n (d.node.entered.at 0 n) (d.rd .BERTH_HOFF_HOFFF) else ([], d1)
    else ([], d)

/-! ### Reinitialisation, counters (R255, R257) -/

/-- A write of BERTH.REINIT with GO = 1; none while one runs. -/
def Dev.berthReinit (d : Dev) (n : Nat) : Dev :=
  let named := (d.tt.active.toList ++ d.tt.pending.toList).any fun x => x.names n
  if d.pager.reinit.isSome then d
  else if d.nodeCount ≤ n then d.wr .BERTH_STAT_RESTAT 4
  else if (d.line n).isSome then d.wr .BERTH_STAT_RESTAT 2
  else if named then d.wr .BERTH_STAT_RESTAT 3
  else ((d.onPager fun p => { p with reinit := some n }).flag .BERTH_STAT_REBUSY true).wr .BERTH_STAT_RESTAT 0

/-- BERTH_REINIT (R255). -/
def execBerthReinit (req : Requester) (node : BitVec 18) (s : State) : Host.Outcome State Fault Refusal :=
  s.upd fun d => d.ctlWrite req fun x => x.berthReinit node.toNat

/-- BERTH_REINIT_DONE (R255). -/
def execBerthReinitDone (s : State) : Host.Outcome State Fault Refusal :=
  s.updP fun _ d =>
    match d.pager.reinit with
    | none => ([], d)
    | some n =>
      let a := d.nodeRecord n
      let d1 := ((d.onPager fun p => { p with reinit := none }).goodWords a (a + 256)).goodWords (a + 0x1000) (a + 0x2000)
      ([(a, List.replicate 256 0), (a + 0x1000, List.replicate 4096 0)],
        (d1.flag .BERTH_STAT_REBUSY false).wr .BERTH_STAT_RESTAT 1)

/-- A write of 1 to BERTH.CLR. -/
def Dev.berthClear (d : Dev) : Dev :=
  [.BERTH_FETCHCNT, .BERTH_WBCNT, .BERTH_LATECNT, .BERTH_DMGCNT, .BERTH_HAPPCNT, .BERTH_PEAK_USEDMAX].foldl (fun x f => x.wr f 0) d

/-- BERTH_COUNTER_CLEAR (R257). -/
def execBerthCounterClear (req : Requester) (s : State) : Host.Outcome State Fault Refusal := s.upd fun d => d.ctlWrite req Dev.berthClear

end Sys2Proof.Machine
end

