-- ==== Sys2Proof/Machine/NodeNet.lean ====
section
/-!
DEFINITION. Machine/NodeNet.lean: landings, the node round, Nalzia messages (R217 to R233, R240).
-/
namespace Sys2Proof.Machine

/-! ### Landings (R219, R220) -/

def Dev.landBase (d : Dev) (l : Nat) : Nat := d.rdAt .NODE_LBASE_BASE l
def Dev.landCount (d : Dev) (l : Nat) : Nat := d.rdAt .NODE_LCFG_COUNT l

/-- Landing `l` is one that R219 refuses: its range, an overlap with another enabled landing, its port. -/
def Dev.landingBad (d : Dev) (l : Nat) : Bool :=
  let b := d.landBase l
  let n := d.landCount l
  decide (b < 1536) || decide (262143 < b + n - 1) || !d.bit .NODE_PORTS_ETH (d.rdAt .NODE_LCFG_PORT l)
    || (List.range 512).any fun k => decide (k ≠ l) && d.onAt .NODE_LCFG_EN k && overlaps b n (d.landBase k) (d.landCount k)

/-- Some enabled landing is one that R219 refuses. -/
def Dev.landingsBad (d : Dev) : Bool := (List.range 512).any fun l => d.onAt .NODE_LCFG_EN l && d.landingBad l

/-- A configuration is refused: CFGE. -/
def Dev.nodeCfge (d : Dev) : Dev := d.flag .NODE_STAT_CFGE true

/-- The fields of NODE.LCFGn other than EN and STATE take the values of a word. -/
def Dev.lcfgFields (d : Dev) (l v : Nat) : Dev :=
  ((((d.wrAt .NODE_LCFG_TAG l (bitsOf v 28 28)).wrAt .NODE_LCFG_PORT l (bitsOf v 27 26)).wrAt .NODE_LCFG_PCP l (bitsOf v 25 23)).wrAt
    .NODE_LCFG_COUNT l (clampNat 1 1024 (bitsOf v 22 12))).wrAt .NODE_LCFG_VID l (bitsOf v 11 0)

/-- A write of NODE.LCFGn (R219): kept while EN = 1; with EN = 1 in the word every enabled landing is checked, and the landing starts down. -/
def Dev.lcfgWrite (d : Dev) (l v : Nat) : Dev :=
  if d.onAt .NODE_LCFG_EN l then d.nodeCfge
  else
    let d1 := d.lcfgFields l v
    if !bitOf v 31 then d1
    else
      let d2 := (d1.flagAt .NODE_LCFG_EN l true).wrAt .NODE_LCFG_STATE l 0
      if d2.landingsBad then d1.nodeCfge
      else d2.onNode fun n => { n with silent := n.silent.set 0 l 0, states := n.states.filter fun e => e.2.1 ≠ l }

/-- LANDING_ENABLE (R219): a write of NODE.LCFGn. -/
def execLandingEnable (req : Requester) (landing : Fin 512) (value : BitVec 32) (s : State) : Host.Outcome State Fault Refusal :=
  s.upd fun d => d.ctlWrite req fun x => x.lcfgWrite landing.val value.toNat

/-- A write of NODE.CTRL.RUN (R219, R226): RUN stays 0 when a check fails; written 0, the rounds stop. -/
def Dev.nodeRun (d : Dev) (run : Bool) : Dev :=
  if !run then ((d.flag .NODE_CTRL_RUN false).flag .NODE_STAT_RUNNING false).onNode fun n => { n with visits := [] }
  else if d.landingsBad || decide (d.rd .NODE_ROUND_MS ≤ (d.rd .NODE_CFG_RETRY + 1) * d.rd .NODE_CFG_RWIN) then d.nodeCfge
  else d.flag .NODE_CTRL_RUN true

/-- NODE_RUN (R226). -/
def execNodeRun (req : Requester) (run : Bool) (s : State) : Host.Outcome State Fault Refusal :=
  s.upd fun d => d.ctlWrite req fun x => x.nodeRun run

/-- A round begins (R226): the first at a hyperperiod boundary, each later one at the edge that ends the one before. -/
def Dev.roundStart (d : Dev) : Dev :=
  let running := d.on .NODE_STAT_RUNNING
  let due := if running then decide (d.node.start + d.rd .NODE_RNDFR ≤ d.tide) else d.tt.opened && decide (d.tide % 4096 = 0)
  if d.on .NODE_CTRL_RUN && due then
    let n := d.rd64 .NODE_RNDLO .NODE_RNDHI + 1
    let d1 := ((d.wr64 .NODE_RNDLO .NODE_RNDHI n).wr .NODE_RNDFR (d.rd .NODE_ROUND_MS * 400000 / d.rd .TIDE_PERIOD_ACT)).flag
      .NODE_STAT_RUNNING true
    d1.onNode fun x => { x with
      start := d.tide
      silent := (List.range 512).foldl (fun s l => if d.rdAt .NODE_LCFG_STATE l = 2 then s.set 0 l (s.at 0 l + 1) else s) x.silent }
  else d

/-- NODE_ROUND_START (R226). -/
def execNodeRoundStart (s : State) : Host.Outcome State Fault Refusal := s.upd fun d => d.ctl Dev.roundStart

/-- The trailing twin takes its landing states and records from the leading twin (R232). -/
def Dev.takesMirrored (d : Dev) : Bool := d.boardsPaired && !d.on .PWM_STAT_LEAD

/-- The STATE of landing `l` once every change on its way has come to its edge. -/
def Dev.landNext (d : Dev) (l : Nat) : Nat :=
  match (d.node.states.filter fun e => decide (e.2.1 = l)).getLast? with
  | some e => e.2.2
  | none => d.rdAt .NODE_LCFG_STATE l

/-- Landing `l` goes to a state (R220): up from the next Tide edge, down or pending at once. In a pair the leading twin names an edge two frames ahead
for every change and mirrors it (R232, R333, Table 14-2). -/
def Dev.landTo (d : Dev) (l st : Nat) : Dev :=
  let at' := fun (e : Nat) => d.onNode fun n => { n with states := n.states ++ [(e, l, st)] }
  if d.boardsPaired then (at' (d.tide + 2)).hawserSend 5 (leBytes 8 (d.tide + 2) ++ leBytes 4 (Config.landingEntry l st))
  else if st = 2 then at' (d.tide + 1)
  else d.landEnter l st

/-- LANDING_DOWN (R220): no accepted REPORT for LOSTR whole rounds. -/
def execLandingDown (landing : Fin 512) (s : State) : Host.Outcome State Fault Refusal :=
  s.upd fun d => d.ctl fun x =>
    let l := landing.val
    if x.rdAt .NODE_LCFG_STATE l = 2 ∧ x.landNext l = 2 ∧ x.rd .NODE_CFG_LOSTR < x.node.silent.at 0 l ∧ x.takesMirrored = false then x.landTo l 0
    else x

/-! ### Messages (R222 to R225) -/

/-- The low 32 bits of the round count. -/
def Dev.round32 (d : Dev) : Nat := d.rd .NODE_RNDLO

/-- A Nalzia message: header, body, CRC-32 (R222). -/
def nalzia (typ land seq round block count : Nat) (body : List Byte) : List Byte :=
  let h := leBytes 1 1 ++ leBytes 1 typ ++ leBytes 2 land ++ leBytes 4 seq ++ leBytes 4 round ++ leBytes 1 block ++ leBytes 1 count
    ++ leBytes 2 body.length
  h ++ body ++ leBytes 4 (crc32 (h ++ body))

/-- Where a message goes (R221, R231): MAC address, IPv4 address, the tag of its frame. Landing 0xFFFF stands for all. -/
def Dev.nalziaTo (d : Dev) (l : Nat) : Nat × Nat × Option (Nat × Nat) :=
  if l = 0xFFFF then
    (d.rd .NODE_MCMACLO + 2 ^ 32 * d.rd .NODE_MCMACHI, d.rd .NODE_MCIP,
      if d.on .NODE_BCVLAN_TAG then some (d.rd .NODE_BCVLAN_PCP, d.rd .NODE_BCVLAN_VID) else none)
  else
    (d.rdAt .NODE_LMACLO l + 2 ^ 32 * d.rdAt .NODE_LMACHI l, d.rdAt .NODE_LIP l,
      if d.onAt .NODE_LCFG_TAG l then some (d.rdAt .NODE_LCFG_PCP l, d.rdAt .NODE_LCFG_VID l) else none)

/-- The frame that carries a message to landing `l`, or to all, through port `p` (R221): UDP over IPv4, or the message straight after the Ethernet header.
`id`: the IPv4 identification, which the manual leaves open. -/
def Dev.nalziaFrame (d : Dev) (id l p : Nat) (m : List Byte) : List Byte :=
  let dest := d.nalziaTo l
  let tag := dest.2.2.or (d.queueTag p (d.rd .NODE_PORTS_QUEUE))
  if d.on .NODE_CFG_TRANS then etherFrame dest.1 (d.portMac p) tag (d.rd .NODE_PROTO_ETYPE) m
  else etherFrame dest.1 (d.portMac p) tag 0x0800 (udpPacket id (d.rdAt .ETH_IP p) dest.2.1 (d.rd .NODE_PROTO_UDPPORT) m)

/-- The device sends a message to landing `l`, or to all (0xFFFF), through some ports: it waits in queue NODE.PORTS.QUEUE of each. Only the part that leads
sends (R232). -/
def Dev.nalziaSend (d : Dev) (typ l round block count : Nat) (body : List Byte) (ports : List Nat) : Dev :=
  let q := d.node.txSeq.at 0 l
  let d1 := d.onNode fun n => { n with txSeq := n.txSeq.set 0 l ((q + 1) % 2 ^ 32) }
  if d.on .PWM_STAT_LEAD then
    let m := nalzia typ l q round block count body
    let r := (d1.onNode fun n => { n with sent := n.sent.set [] l m }).draw (2 ^ 16)
    ports.foldl (fun x p => x.enqueue p (d.rd .NODE_PORTS_QUEUE) (d.nalziaFrame r.1 l p m)) r.2
  else d1

/-- A frame comes from landing `l` (R221): from its MAC address, and under UDP from its IPv4 address. -/
def Dev.fromLanding (d : Dev) (l : Nat) (f : NetFrame) : Bool :=
  d.onAt .NODE_LCFG_EN l && decide (f.mac = d.rdAt .NODE_LMACLO l + 2 ^ 32 * d.rdAt .NODE_LMACHI l)
    && (d.on .NODE_CFG_TRANS || decide (f.ip = some (d.rdAt .NODE_LIP l)))

/-- A frame carries a Nalzia message (R221): EtherType ETYPE, or UDP from and to UDPPORT. -/
def Dev.isNalzia (d : Dev) (f : NetFrame) : Bool :=
  if d.on .NODE_CFG_TRANS then decide (f.etype = d.rd .NODE_PROTO_ETYPE)
  else decide (f.udp = some (d.rd .NODE_PROTO_UDPPORT, d.rd .NODE_PROTO_UDPPORT))

/-- The outcome of the header and CRC checks of R221 and R225: 0 accepted, 1 counted in ERRHDR, 2 in ERRCRC, 3 no Nalzia message. -/
def Dev.nalziaCheck (d : Dev) (f : NetFrame) : Nat :=
  let m := f.body
  let typ := msgNat m 1 1
  let l := msgNat m 2 2
  let count := msgNat m 0xD 1
  let len := msgNat m 0xE 2
  let shape := (decide (typ = 2) && decide (1 ≤ count) && decide (count ≤ 20) && decide (len = 72 * count))
    || (decide (typ = 3) && decide (count = 1) && decide (len = 32))
  if f.frag then 1
  else if !d.isNalzia f then 3
  else if decide (m.length < 16) || decide (msgNat m 0 1 ≠ 1) || !shape || decide (512 ≤ l) || !d.fromLanding l f then 1
  else if m.length < 20 + len ∨ msgNat m (16 + len) 4 ≠ crc32 (m.take (16 + len)) then 2
  else 0

/-- A received message (R225): counted at its header or CRC, or given to `f` with its landing. -/
def Dev.received (d : Dev) (fr : NetFrame) (f : Nat → List Byte → Dev) : Dev :=
  match d.nalziaCheck fr with
  | 0 => f (msgNat fr.body 2 2) fr.body
  | 1 => d.bump .NODE_ERRHDR (2 ^ 32 - 1)
  | 2 => d.bump .NODE_ERRCRC (2 ^ 32 - 1)
  | _ => d

/-- A received HELLO (R220, R225). -/
def Dev.hello (d : Dev) (fr : NetFrame) : Dev :=
  d.received fr fun l m =>
    if msgNat m 1 1 ≠ 3 then d
    else
      let d1 := d.onNode fun n => { n with ackDue := n.ackDue.set 0 l (d.tide + 1) }
      if d1.landNext l = 0 then d1.landTo l 1 else d1

/-- HELLO (R220): the frame from its destination address on. -/
def execHello (frame : List (BitVec 8)) (s : State) : Host.Outcome State Fault Refusal :=
  s.upd fun d => d.ctl fun x => if x.takesMirrored then x else x.hello (netFrame frame)

/-- HELLOACK is sent to landing `l` (R220, Table 9-7): a pending landing is up from the next Tide edge. -/
def Dev.helloAck (d : Dev) (l : Nat) : Dev :=
  let due := d.node.ackDue.at 0 l
  if due = 0 then d
  else
    let body := leBytes 2 (d.rd .NODE_ROUND_MS) ++ leBytes 1 (d.rd .NODE_CFG_RWIN) ++ leBytes 1 (d.rd .NODE_CFG_RETRY) ++ leBytes 4 (d.landBase l)
      ++ leBytes 2 (d.landCount l) ++ leBytes 6 0 ++ leBytes 8 (due - 1) ++ leBytes 8 0
    let d1 := (d.onNode fun n => { n with ackDue := n.ackDue.set 0 l 0 }).nalziaSend 4 l d.round32 0 1 body [d.rdAt .NODE_LCFG_PORT l]
    if d1.landNext l = 1 then d1.landTo l 2 else d1

/-- HELLOACK_SEND (R220). -/
def execHelloackSend (landing : Fin 512) (s : State) : Host.Outcome State Fault Refusal :=
  s.upd fun d => d.ctl fun x => x.helloAck landing.val

/-! ### Visits (R227 to R229) -/

/-- The frame in which block `b` of landing `l` is visited in the round in progress. -/
def Dev.visitFrame (d : Dev) (l b : Nat) : Nat := d.node.start + (512 * b + l) * d.rd .NODE_RNDFR / 16384

/-- The local indices of block `b` of landing `l`. -/
def Dev.blockLocals (d : Dev) (l b : Nat) : List Nat := (List.range 32).map (32 * b + ·) |>.filter fun i => decide (i < d.landCount l)

/-- The NODE block writes the word 0x28 of node `n`'s line, whole (R246), with `bytes` from offset `off` of it on. -/
def Dev.statusWrite (m : List Host.Cell) (d : Dev) (n off : Nat) (bytes : List Byte) : List (Nat × List Byte) × Dev :=
  let w := d.lineBytes m n 0x28 8
  d.lineWrite n 0x28 (w.take off ++ bytes ++ w.drop (off + bytes.length))

/-- MISS of node `n` rises, saturating at 255 (Table 9-2). -/
def Dev.missUp (m : List Host.Cell) (d : Dev) (n : Nat) : List (Nat × List Byte) × Dev :=
  d.statusWrite m n 5 (leBytes 1 (min 255 (msgNat (d.lineBytes m n 0x2D 1) 0 1 + 1)))

/-- Runs `f` over a list of nodes, gathering the bytes it stores; memory is read as it stood before. -/
def gather {α : Type} (l : List α) (d : Dev) (f : Dev → α → List (Nat × List Byte) × Dev) : List (Nat × List Byte) × Dev :=
  l.foldl (fun acc x => let r := f acc.2 x; (acc.1 ++ r.1, r.2)) ([], d)

/-- The down area `down` of node `n` differs from the content last sent with WRITE = 1 (R229). A part that joined a pair has no record of what the other
part sent last (R232, log entry 156). -/
def Dev.downDiffers (d : Dev) (n : Nat) (down : List Byte) : Bool × Dev :=
  if d.node.joined && (d.node.sentDown.at [] n).isEmpty then
    let r := d.draw 2
    (decide (r.1 = 1), r.2)
  else (decide (d.node.sentDown.at [] n ≠ down), d)

/-- The visit of node `n`, local index `i` (R227, R229): its VSEQ rises, and the record is formed. -/
def Dev.visitRecord (m : List Host.Cell) (d : Dev) (n i : Nat) : List Byte × List (Nat × List Byte) × Dev :=
  let at' (o : Nat) : Nat := msgNat (d.lineBytes m n o 1) 0 1
  let down := d.lineBytes m n 0 32
  let vseq := (at' 0x28 + 1) % 256
  let differ := d.downDiffers n down
  let wseq := if differ.1 then (at' 0x29 + 1) % 256 else at' 0x29
  let write := differ.1 || decide (at' 0x2A ≠ wseq)
  let rec_ := leBytes 2 i ++ leBytes 1 (bit01 write) ++ leBytes 1 vseq ++ leBytes 1 wseq ++ leBytes 3 0 ++ down
  let r := differ.2.statusWrite m n 0 (leBytes 1 vseq ++ leBytes 1 wseq)
  (rec_, r.1, r.2.onNode fun x => { x with sentDown := x.sentDown.set [] n down })

/-- The NODE block reads the down area of node `n` for its visit, local index `i`: a bad word leaves the record out, and the visit counts as a miss for the
node (R365, Table 15-6). -/
def Dev.visitNode (m : List Host.Cell) (d : Dev) (n i : Nat) : List (Nat × List Byte) × List (Nat × List Byte) × Dev :=
  let a := d.lineAt n 0
  match d.spanState a 32 with
  | 0 => let r := d.visitRecord m n i; ([(i, r.1)], r.2.1, r.2.2)
  | 1 => let r := (d.corrected a).visitRecord m n i; ([(i, r.1)], r.2.1, r.2.2)
  | _ => let r := (d.uncorrectable a).missUp m n; ([], r.1, r.2)

/-- Replaces the visit of its block. -/
def Dev.putVisit (d : Dev) (v : Visit) : Dev :=
  d.onNode fun n => { n with visits := v :: n.visits.filter fun x => !(decide (x.landing = v.landing) && decide (x.block = v.block)) }

/-- The visit of block `b` of landing `l` falls due in the present frame (R227): sent to a landing that is up, else counted as a miss of each node
(R220). -/
def Dev.visitSend (m : List Host.Cell) (d : Dev) (l b : Nat) : List (Nat × List Byte) × Dev :=
  let ls := d.blockLocals l b
  if !d.on .NODE_STAT_RUNNING || !d.onAt .NODE_LCFG_EN l || ls.isEmpty || decide (d.visitFrame l b ≠ d.tide) then ([], d)
  else if d.rdAt .NODE_LCFG_STATE l ≠ 2 then gather ls d fun x i => x.missUp m (x.landBase l + i)
  else
    let r := ls.foldl (fun (acc : List (Nat × List Byte) × List (Nat × List Byte) × Dev) i =>
      let x := acc.2.2.visitNode m (d.landBase l + i) i
      (acc.1 ++ x.1, acc.2.1 ++ x.2.1, x.2.2)) (([] : List (Nat × List Byte)), ([] : List (Nat × List Byte)), d)
    let v : Visit := { landing := l, block := b, frame := d.tide, round := d.round32, waiting := r.1 }
    let d1 := r.2.2.putVisit v
    (r.2.1, if r.1.isEmpty then d1 else d1.nalziaSend 1 l d.round32 b r.1.length (r.1.flatMap Prod.snd) [d.rdAt .NODE_LCFG_PORT l])

/-- VISIT_SEND (R227). -/
def execVisitSend (landing : Fin 512) (block : Fin 32) (s : State) : Host.Outcome State Fault Refusal :=
  s.updP fun m d => if d.sys.cdReset then ([], d) else d.visitSend m landing.val block.val

/-- The visit of a block whose answers may be awaited. -/
def Dev.visitOf (d : Dev) (l b : Nat) : Option Visit := d.node.visits.find? fun v => decide (v.landing = l) && decide (v.block = b)

/-- The present edge lies at least RWIN after the last transmission of a visit. -/
def Dev.rwinPast (d : Dev) (v : Visit) : Bool :=
  decide (d.rd .NODE_CFG_RWIN * 400000 ≤ (d.tide - v.frame) * d.rd .TIDE_PERIOD_ACT)

/-- VISIT_RETRY (R228): the unanswered records go again with RETRY = 1. -/
def execVisitRetry (landing : Fin 512) (block : Fin 32) (s : State) : Host.Outcome State Fault Refusal :=
  s.upd fun d => d.ctl fun x =>
    let l := landing.val
    match x.visitOf l block.val with
    | none => x
    | some v =>
      if v.waiting.isEmpty || v.expired || decide (x.rd .NODE_CFG_RETRY ≤ v.retries) || !x.rwinPast v || decide (x.rdAt .NODE_LCFG_STATE l ≠ 2) then x
      else
        let x1 := x.putVisit { v with frame := x.tide, retries := v.retries + 1 }
        (x1.nalziaSend 1 l v.round (v.block + 128) v.waiting.length (v.waiting.flatMap Prod.snd) [x.rdAt .NODE_LCFG_PORT l]).when
          (x.on .PWM_STAT_LEAD) fun y => y.bump .NODE_RETRYCNT (2 ^ 32 - 1)

/-- VISIT_ANSWER_TIMEOUT (R228): RWIN after the last transmission, with no retry to come, each node still unanswered has MISS incremented. A landing
that is not up gets no retry (R220). -/
def execVisitAnswerTimeout (landing : Fin 512) (block : Fin 32) (s : State) : Host.Outcome State Fault Refusal :=
  s.updP fun m d =>
    if d.sys.cdReset then ([], d)
    else match d.visitOf landing.val block.val with
      | none => ([], d)
      | some v =>
        if v.expired || (decide (v.retries < d.rd .NODE_CFG_RETRY) && decide (d.rdAt .NODE_LCFG_STATE v.landing = 2)) || !d.rwinPast v then ([], d)
        else gather v.waiting (d.putVisit { v with expired := true }) fun x w => x.missUp m (x.landBase v.landing + w.1)

/-! ### Reports (R225, R228) -/

/-- The classes that a report may carry (Table 9-1; log entry 33). -/
def reportClass (c : Nat) : Bool :=
  c == 0x00 || c == 0x10 || c == 0x11 || c == 0x12 || c == 0x7F || (0x80 ≤ c && c ≤ 0xFE)

/-- One REPORT record of landing `l`, block `b` (R225): entered at edge `edge`, or counted. -/
def Dev.reportRecord (d : Dev) (l b round edge : Nat) (r : List Byte) : Dev :=
  let i := msgNat r 0 2
  let bad := d.bump .NODE_ERRREC (2 ^ 32 - 1)
  if !(decide (32 * b ≤ i) && decide (i ≤ 32 * b + 31) && decide (i < d.landCount l)) || !reportClass (msgNat r 4 1) then bad
  else match d.visitOf l b with
    | none => bad
    | some v =>
      let same := fun (w : Nat × List Byte) => decide (w.1 = i) && decide (msgNat w.2 3 1 = msgNat r 3 1)
      if v.answered.any same then d.bump .NODE_DUP (2 ^ 32 - 1)
      else match v.waiting.find? same with
        | none => bad
        | some w =>
          if v.expired then d.bump .NODE_LATE (2 ^ 32 - 1)
          else
            let d1 := d.putVisit { v with waiting := v.waiting.filter (fun k => k.1 ≠ i), answered := w :: v.answered }
            (d1.onNode fun n => { n with entries := n.entries ++ [{ edge := edge, node := d.landBase l + i, round := round, during := d.round32, body := r }] }).bumpAt
              .NODE_LRX l (2 ^ 32 - 1)

/-- The leading twin of a pair mirrors the records of landing `l` that it has accepted since `old` of them waited (R232, Table 14-4). -/
def Dev.mirrorRecords (d : Dev) (l edge old : Nat) : Dev :=
  let l' := d.node.entries.drop old
  if d.boardsPaired && !l'.isEmpty then d.hawserSend 5 (leBytes 8 edge ++ l'.flatMap fun e => leBytes 2 l ++ e.body) else d

/-- A received REPORT (R222, R225): its BLOCK holds b in bits 4:0 and RETRY in bit 7; bits 6:5 are zero. -/
def Dev.report (d : Dev) (fr : NetFrame) : Dev :=
  d.received fr fun l m =>
    let round := msgNat m 8 4
    let b := msgNat m 0xC 1 % 128
    if msgNat m 1 1 ≠ 2 then d
    else if d.rdAt .NODE_LCFG_STATE l ≠ 2 ∨ (round ≠ d.round32 ∧ (round + 1) % 2 ^ 32 ≠ d.round32) ∨ 32 ≤ b then d.bump .NODE_ERRHDR (2 ^ 32 - 1)
    else
      let edge := if d.boardsPaired then d.tide + 2 else d.tide + 1
      let d1 := d.onNode fun n => { n with silent := n.silent.set 0 l 0 }
      ((List.range (msgNat m 0xD 1)).foldl (fun x k => x.reportRecord l b round edge ((m.drop (16 + 72 * k)).take 72)) d1).mirrorRecords l edge
        d.node.entries.length

/-- REPORT (R225): the frame from its destination address on. -/
def execReport (frame : List (BitVec 8)) (s : State) : Host.Outcome State Fault Refusal :=
  s.upd fun d => d.ctl fun x => if x.takesMirrored then x else x.report (netFrame frame)

/-- An accepted record enters its node's live line at the present edge (R228, R246, Table 9-2): bytes 0x20 to 0x2F, of which VSEQ and WSEQ stay, and 0x40 to
0x7F. -/
def Dev.enter (m : List Host.Cell) (d : Dev) (e : Entry) : List (Nat × List Byte) × Dev :=
  let status := leBytes 1 (msgNat e.body 5 1) ++ leBytes 1 (msgNat e.body 4 1) ++ leBytes 1 (msgNat e.body 2 1) ++ leBytes 1 0
    ++ leBytes 2 (msgNat e.body 6 2)
  let r1 := d.lineWrite e.node 0x20 (leBytes 8 d.tide ++ d.lineBytes m e.node 0x28 2 ++ status)
  let r2 := r1.2.lineWrite e.node 0x40 (e.body.drop 8)
  (r1.1 ++ r2.1, r2.2.onNode fun n => { n with
    entered := n.entered.set 0 e.node e.round, accepted := n.accepted.set 0 e.node e.during
    sample := e.node :: n.sample.filter fun k => k ≠ e.node })

/-- The nodes of a landing that has come up are absent until a report of theirs enters (R217, Table 9-1). -/
def Dev.absent (m : List Host.Cell) (d : Dev) (l : Nat) : List (Nat × List Byte) × Dev :=
  gather (List.range (d.landCount l)) d fun x i => x.statusWrite m (d.landBase l + i) 3 (leBytes 1 0)

/-- REPORT_ENTRY (R217, R228): the nodes of the landings that came up at this edge, and the records whose entry edge has come. -/
def execReportEntry (s : State) : Host.Outcome State Fault Refusal :=
  s.updP fun m d =>
    if d.sys.cdReset then ([], d)
    else
      let due := d.node.entries.filter fun e => decide (e.edge ≤ d.tide)
      let r := gather d.node.raised (d.onNode fun n => { n with
        entries := n.entries.filter (fun e => decide (d.tide < e.edge)), raised := [] }) (Dev.absent m)
      let r2 := gather due r.2 (Dev.enter m)
      (r.1 ++ r2.1, r2.2)

/-! ### Broadcasts (R231) -/

/-- The broadcast source is read at an edge with N mod 2^BCK = 0 (R231). -/
def Dev.broadcastRead (m : List Host.Cell) (d : Dev) : Dev :=
  if decide (d.tide % 2 ^ d.rd .NODE_CFG_BCK = 0) then
    d.onNode fun n => { n with bcRead := some (d.lineBytes m (d.rd .NODE_BCNODE) 0 32, d.tide) }
  else d

/-- What was read last is due to be sent (R231): its bytes 0x00 to 0x0F differ from those sent last, or 100 ms have passed since. -/
def Dev.broadcastDue (d : Dev) (body : List Byte) : Bool :=
  match d.node.bcLast with
  | none => true
  | some (b, t) => decide (b ≠ body.take 16) || decide (100 * 400000 ≤ (d.tide - t) * d.rd .TIDE_PERIOD_ACT)

/-- BROADCAST_SEND (R231). -/
def execBroadcastSend (s : State) : Host.Outcome State Fault Refusal :=
  s.updR fun m d => d.ctl fun x =>
    if !x.on .NODE_CTRL_BCEN then x
    else
      let y := x.broadcastRead m
      match y.node.bcRead with
      | none => y
      | some (body, t) =>
        if y.broadcastDue body then
          (y.onNode fun n => { n with bcLast := some (body.take 16, y.tide) }).nalziaSend 5 0xFFFF y.round32 0 1 (leBytes 8 t ++ body)
            ((List.range 4).filter fun p => y.bit .NODE_PORTS_ETH p)
        else y

/-- A write of 1 to NODE.CLR. -/
def Dev.nodeClear (d : Dev) : Dev :=
  [.NODE_ERRHDR, .NODE_ERRCRC, .NODE_ERRREC, .NODE_DUP, .NODE_LATE, .NODE_RETRYCNT].foldl (fun x f => x.wr f 0) d

/-- NODE_COUNTER_CLEAR (R240). -/
def execNodeCounterClear (req : Requester) (s : State) : Host.Outcome State Fault Refusal := s.upd fun d => d.ctlWrite req Dev.nodeClear

end Sys2Proof.Machine
end

