-- ==== Sys2Proof/Machine/Ethernet.lean ====
section
/-!
DEFINITION. Machine/Ethernet.lean: the Ethernet ports, their queues and stamps, the IEEE 1588 clock (R221, R234, R235, R241).
-/
namespace Sys2Proof.Machine

/-- The VID a frame counts under: an untagged one takes PVID. -/
def Dev.frameVid (d : Dev) (p : Nat) (f : NetFrame) : Nat := f.vid.getD (d.rdAt .ETH_VLAN_PVID p)

/-- The VLAN filter drops the frame (R234). -/
def Dev.vlanDrops (d : Dev) (p : Nat) (f : NetFrame) : Bool :=
  (f.vid.isNone && d.onAt .ETH_VLAN_TAGIN p)
    || (d.onAt .ETH_VLAN_FILT p && !((List.range 16).any fun v => d.onAt .ETH_VID_EN (16 * p + v)
        && decide (d.rdAt .ETH_VID_VID (16 * p + v) = d.frameVid p f)))

/-- Receive queue `q` of port `p` is in use and matches the frame (R234, Table 9-19). -/
def Dev.queueMatches (d : Dev) (p q : Nat) (f : NetFrame) : Bool :=
  let i := 8 * p + q
  let v := d.rdAt .ETH_QMAT_VALUE i
  d.onAt .ETH_QCFG_EN i && d.queueUsed p q && (decide (d.rdAt .ETH_QCFG_VID i = 0) || decide (d.rdAt .ETH_QCFG_VID i = d.frameVid p f))
    && (match d.rdAt .ETH_QCFG_KIND i with
      | 1 => decide (f.etype = v)
      | 2 => decide (f.udp.map Prod.snd = some v)
      | 3 => f.ptp.isSome
      | _ => false)

/-- The queue a frame goes to: the highest-numbered enabled match, else queue 0. -/
def Dev.rxQueue (d : Dev) (p : Nat) (f : NetFrame) : Nat :=
  (List.range 8).foldl (fun b q => if d.queueMatches p q f then q else b) 0

/-- A received frame (R234). `full`: its queue is full; `ns`: nanoseconds since the last Tide edge. -/
def Dev.ethReceive (d : Dev) (p : Nat) (bytes : List Byte) (full : Bool) (ns : Nat) : Dev :=
  let f := netFrame bytes
  if !d.onAt .ETH_CTRL_EN p then d
  else if !frameGood bytes then (d.bumpAt .ETH_RXERR p (2 ^ 32 - 1)).flagAt .ETH_STAT_RXERR p true
  else
    let d1 := d.bumpAt .ETH_RXFR p (2 ^ 32 - 1)
    let d2 := match f.ptp with
      | some (typ, seq, true) => d1.stamp p false typ (seq % 2 ^ 16) ns
      | _ => d1
    let q := 8 * p + d2.rxQueue p f
    if d2.vlanDrops p f || full then d2.bumpAt .ETH_DROP p (2 ^ 32 - 1)
    else d2.onEth fun e => { e with rx := e.rx.set [] q (e.rx.at [] q ++ [{ bytes := bytes }]) }

/-- ETH_FRAME_RECEIVE (R234): the frame from its destination address to its FCS. -/
def execEthFrameReceive (port : Fin 4) (bytes : List (BitVec 8)) (full : Bool) (ns : BitVec 17) (s : State) : Host.Outcome State Fault Refusal :=
  s.upd fun d => d.ctl fun x => x.ethReceive port.val bytes full ns.toNat

/-- The answer to an ARP request of a sender: MAC and IPv4 address. -/
def Dev.arpAnswer (d : Dev) (p mac sender : Nat) : List Byte :=
  etherFrame mac (d.portMac p) (d.queueTag p 0) 0x0806
    (beBytes 2 1 ++ beBytes 2 0x0800 ++ beBytes 1 6 ++ beBytes 1 4 ++ beBytes 2 2 ++ beBytes 6 (d.portMac p) ++ beBytes 4 (d.rdAt .ETH_IP p)
      ++ beBytes 6 mac ++ beBytes 4 sender)

/-- ARP_REQUEST (R221): the device answers a request for its own IPv4 address on the port, to the sender's MAC and IPv4 address, by queue 0. -/
def execArpRequest (port : Fin 4) (ip : BitVec 32) (mac : BitVec 48) (sender : BitVec 32) (s : State) : Host.Outcome State Fault Refusal :=
  s.upd fun d => d.ctl fun x =>
    let p := port.val
    if x.onAt .ETH_CTRL_EN p && decide (x.rdAt .ETH_IP p = ip.toNat) then
      (x.onEth fun e => { e with arp := some (p, ip.toNat) }).enqueue p 0 (x.arpAnswer p mac.toNat sender.toNat)
    else x

/-- ETH_LINK_CHANGE (R241): a port stays down while it is disabled or its fare is not granted (R437). -/
def execEthLinkChange (port : Fin 4) (up : Bool) (anDone : Bool) (s : State) : Host.Outcome State Fault Refusal :=
  s.upd fun d => d.ctl fun x =>
    let p := port.val
    let up := up && x.onAt .ETH_CTRL_EN p && x.onAt .CAP_CLS_HELD (16 + p)
    let y := x.flagAt .ETH_STAT_ANDONE p (anDone && x.onAt .ETH_CTRL_EN p)
    if x.onAt .ETH_STAT_LINK p = up then y
    else ((y.flagAt .ETH_STAT_LINK p up).flagAt .ETH_STAT_LCHG p true).raise (425 + p)

/-- A write of 1 to ETH.PTPCTL.LOAD: the clock takes the values last written. -/
def Dev.ptpLoad (d : Dev) : Dev :=
  d.onEth fun e => { e with sec := d.rd .ETH_PTPSEC0 + 2 ^ 32 * d.rd .ETH_PTPSEC1, ns := d.rd .ETH_PTPNS, frac := 0 }

/-- PTP_CLOCK_LOAD (R241). -/
def execPtpClockLoad (req : Requester) (s : State) : Host.Outcome State Fault Refusal := s.upd fun d => d.ctlWrite req Dev.ptpLoad

/-- A write of ETH.PTPADJ: signed nanoseconds for the next tick. -/
def Dev.ptpAdjust (d : Dev) (v : Nat) : Dev := d.onEth fun e => { e with adj := some (e.adj.getD 0 + toSigned 32 v) }

/-- PTP_ADJUST (R241). -/
def execPtpAdjust (req : Requester) (ns : BitVec 32) (s : State) : Host.Outcome State Fault Refusal :=
  s.upd fun d => d.ctlWrite req fun x => x.ptpAdjust ns.toNat

/-- A read of ETH.PTPSEC0 latches SEC1 and NS for the reader. -/
def Dev.ptpRead (d : Dev) (q : Requester) : Dev :=
  { d with lat := { d.lat with
      ptpSec1 := d.lat.ptpSec1.set 0 q.id (d.ethn.sec / 2 ^ 32), ptpNs := d.lat.ptpNs.set 0 q.id d.ethn.ns } }.answer (d.ethn.sec % 2 ^ 32)

/-- PTP_CLOCK_READ (R241). -/
def execPtpClockRead (req : Requester) (s : State) : Host.Outcome State Fault Refusal :=
  s.upd fun d => d.ptpRead req

/-- The word of ETH.TSDAT2p. -/
def Dev.stampWord (d : Dev) (p : Nat) : Nat :=
  2 ^ 31 * d.rdAt .ETH_TSDAT2_DIR p + 2 ^ 16 * d.rdAt .ETH_TSDAT2_TYPE p + d.rdAt .ETH_TSDAT2_SEQ p

/-- A read of ETH.TSDAT2p removes the oldest stamp. -/
def Dev.stampPop (d : Dev) (p : Nat) : Dev :=
  let w := d.stampWord p
  ((d.onEth fun e => { e with stamps := e.stamps.set [] p ((e.stamps.at [] p).drop 1) }).stampSync p).answer w

/-- TIMESTAMP_POP (R241). -/
def execTimestampPop (port : Fin 4) (s : State) : Host.Outcome State Fault Refusal :=
  s.upd fun d => d.stampPop port.val

/-- A read of ETH.TSSTATp clears OVF. -/
def Dev.stampStatus (d : Dev) (p : Nat) : Dev :=
  (d.flagAt .ETH_TSSTAT_OVF p false).answer (2 ^ 31 * d.rdAt .ETH_TSSTAT_OVF p + d.rdAt .ETH_TSSTAT_COUNT p)

/-- TIMESTAMP_STATUS_READ (R241). -/
def execTimestampStatusRead (port : Fin 4) (s : State) : Host.Outcome State Fault Refusal :=
  s.upd fun d => d.stampStatus port.val

end Sys2Proof.Machine
end

