-- ==== Sys2Proof/Machine/Grid.lean ====
section
/-!
DEFINITION. Machine/Grid.lean: the transitions of the shipped grid programs (R194, R199 to R212): the synchronisation states, ride-through, trips,
islanding detection, reconnection. Each is one operation on what the programs hold, made by the activation that finds its condition; the command of the
same name makes it under the same condition.
-/
namespace Sys2Proof.Machine

/-! ### Synchronisation (R194) -/

/-- The voltage that locks: V1 at or above sy.vmin + 0.05. -/
def Dev.lockVoltage (d : Dev) : Bool := fpLe (fAdd (d.param 0xC2) 0x3D4CCCCD) d.prog.grid.v1

/-- The conditions of the first row of Table 8-3 at the record as the task formed it last. -/
def Dev.lockReady (d : Dev) : Bool :=
  let g := d.prog.grid
  d.lockVoltage && fpLe (fpAbs (fDiv g.uq d.phasePeak)) (fMul 0x3CA3D70A g.v1)
    && fpLe (fpAbs (fSub (d.prog.pll.fe.getD (d.param 0xC0)) (d.param 0xC0))) 0x40A00000

/-- A transition of Table 8-3, under its condition. -/
def Dev.syncMove (d : Dev) (e : SyncEvent) : Dev :=
  let p := d.prog
  match e, p.sync with
  | .lock, .searching => if d.lasted p.pll.lockFrom (d.param 0xC3) then d.onProg fun q => { q with sync := .locked } else d
  | .lost, .locked =>
    if fpLt p.grid.v1 (d.param 0xC2) || p.pll.lost then
      (d.onProg fun q => { q with sync := .free }).onPll fun x => { x with freeFrom := some d.tide }
    else d
  | .regained, .free =>
    if d.lockVoltage && !p.pll.lost then (d.onProg fun q => { q with sync := .locked }).onPll fun x => { x with freeFrom := none } else d
  | _, _ => d

/-- SYNC_LOCK (R194): the transitions of Table 8-3 to and from Locked. -/
def execSyncLock (event : SyncEvent) (s : State) : Host.Outcome State Fault Refusal := s.upd fun d => d.ctl fun x => x.syncMove event

/-- 2 s in Free: the loop searches again (R194). -/
def Dev.freeEnd (d : Dev) : Dev :=
  if d.prog.free && d.lasted d.prog.pll.freeFrom 0x40000000 then
    (d.onProg fun p => { p with sync := .searching }).onPll fun x => { x with freeFrom := none, lockFrom := none }
  else d

/-- SYNC_FREE_TIMEOUT (R194). -/
def execSyncFreeTimeout (s : State) : Host.Outcome State Fault Refusal := s.upd fun d => d.ctl Dev.freeEnd

/-! ### Ride-through and the profile timers (R199, R203) -/

/-- Ride-through is entered: an open perturbation window closes at once and counts as neither (Table 8-6). -/
def Dev.rideEnter (d : Dev) : Dev := d.onProg fun p => { p with ride := true, pwin := false }

/-- The condition of R199 stands: Vfast outside the continuous band for rt.entn activations in a row. -/
def Dev.rideDue (d : Dev) : Bool := decide (d.paramNat 0xD6 ≤ d.prog.cur.entN)

/-- RIDE_THROUGH_ENTRY (R199): the current-control task enters ride-through. -/
def execRideThroughEntry (s : State) : Host.Outcome State Fault Refusal :=
  s.upd fun d => d.ctl fun x => if x.rideDue && !x.prog.ride then x.rideEnter else x

/-- A profile timer, the overvoltage one with `high`, stops and resets to zero once its condition has been absent for rt.trst; where it was the last one RT
clears (R203, R211). -/
def Dev.timerReset (d : Dev) (high : Bool) : Dev :=
  let off := if high then d.prog.watch.tovOff else d.prog.watch.tuOff
  let on := if high then d.prog.tov else d.prog.tu
  if on && fpLe (d.param 0xD7) (d.seconds off) then
    let x := d.onProg fun p => if high then { p with tov := false, tovT := 0 } else { p with tu := false, tuT := 0 }
    x.onWatch fun w => { w with
      tuOff := if high then w.tuOff else 0, tovOff := if high then 0 else w.tovOff, rtEnd := if x.prog.rt then w.rtEnd else some d.tide }
  else d

/-- RT_TIMER_RESET (R203). -/
def execRtTimerReset (exceed : Bool) (s : State) : Host.Outcome State Fault Refusal := s.upd fun d => d.ctl fun x => x.timerReset exceed

/-! ### Trips (R205, R206) -/

/-- A trip cause is recorded; the grid synchronisation task sets TRIP in its next activation (R206). -/
def Dev.tripNote (d : Dev) (cause : Nat) : Dev := d.onWatch fun w => { w with causes := w.causes ++ [cause] }

/-- The distances and clearing times of the frequency elements OF2, UF2, OF1, UF1: their parameters, and whether the element looks above (R205). -/
def freqElement : Nat → Nat × Nat × Bool
  | 0 => (0xE6, 0xE7, true)
  | 1 => (0xEA, 0xEB, false)
  | 2 => (0xE4, 0xE5, true)
  | _ => (0xE8, 0xE9, false)

/-- A frequency element's timer has reached its clearing time (R205). -/
def Dev.freqDue (d : Dev) (k : Nat) : Bool :=
  let t := d.prog.watch.freqT.at 0 k
  decide (t ≠ 0) && fpLe (d.param (freqElement k).2.1) (d.seconds (t - 1))

/-- FREQUENCY_TRIP (R205, Table 8-4): elements OF2, UF2, OF1, UF1 as 0 to 3. -/
def execFrequencyTrip (element : Fin 4) (s : State) : Host.Outcome State Fault Refusal :=
  s.upd fun d => d.ctl fun x => if x.freqDue element.val then x.tripNote (0x3 + element.val) else x

/-- TRIP latches the lowest cause recorded since the grid synchronisation task last looked (R206). -/
def Dev.tripTake (d : Dev) : Dev :=
  match d.prog.watch.causes with
  | [] => d
  | c :: t =>
    (d.onProg fun p => if p.trip = 0 then { p with trip := t.foldl min c, enter := false } else p).onWatch fun w => { w with causes := [] }

/-! ### Perturbation windows (R208, R210) -/

/-- A perturbation window may open (R208, Table 8-6): detection enabled, grid-following, no ride-through. -/
def Dev.mayPerturb (d : Dev) : Bool :=
  d.paramOn 0xF0 && fpEq (d.param 0xB8) 0 && !d.prog.rt && !d.prog.ride

/-- A time in ms as whole frames of the active period. -/
def Dev.framesOf (d : Dev) (ms : Nat) : Nat := ms * 400000 / d.rd .TIDE_PERIOD_ACT

/-- A window is due (R208): the tide count modulo 2^24 equals is.next, or, with is.sync = 0, a whole number of is.per has passed since the latest opened. -/
def Dev.perturbDue (d : Dev) : Bool :=
  decide ((d.tide % 2 ^ 24 : Nat) = d.paramNat 0xF8)
    || (fpEq (d.param 0xF9) 0 && (match d.prog.pll.winAt with
        | some t0 => decide (t0 < d.tide) && decide ((d.tide - t0) % max 1 (d.framesOf (d.paramNat 0xF1)) = 0)
        | none => false))

/-- A window that is due opens; one that ride-through meets does not, and its count stays (Table 8-6). -/
def Dev.perturbOpen (d : Dev) : Dev :=
  if d.mayPerturb && d.perturbDue && !d.prog.pwin then
    (d.onProg fun p => { p with pwin := true }).onPll fun x => { x with winAt := some d.tide }
  else d

/-- PERTURBATION_WINDOW_OPEN (R208). -/
def execPerturbationWindowOpen (s : State) : Host.Outcome State Fault Refusal := s.upd fun d => d.ctl Dev.perturbOpen

/-- The mean of some values of f. -/
def fMean (l : List Nat) : Nat := fDiv (l.foldl fAdd 0) (fpOfInt l.length).1

/-- The window is positive (R210): the mean of f over its second half differs by is.dfth from the mean over the is.dur before it. -/
def Dev.perturbPositive (d : Dev) : Bool :=
  let n := max 2 (d.framesOf (d.paramNat 0xF2) / 2 ^ d.roleRate .sync)
  let past := d.prog.pll.past
  fpLe (d.param 0xF4) (fpAbs (fSub (fMean (past.take (n / 2))) (fMean ((past.drop n).take n))))

/-- An open window closes after is.dur and is judged (R210): is.nwin positive ones in a row record cause 0x7. -/
def Dev.perturbClose (d : Dev) : Dev :=
  if d.prog.pwin && d.lasted d.prog.pll.winAt (fDiv (d.param 0xF2) 0x447A0000) then
    let good := d.perturbPositive
    let n := if good then satAdd 15 d.prog.isln 1 else 0
    let y := d.onProg fun p => { p with pwin := false, isln := n }
    if good && decide (d.paramNat 0xF5 ≤ n) then y.tripNote 0x7 else y
  else d

/-- PERTURBATION_WINDOW_CLOSE (R210). -/
def execPerturbationWindowClose (s : State) : Host.Outcome State Fault Refusal := s.upd fun d => d.ctl Dev.perturbClose

/-- The tide count of the window start that the firmware can announce now (R209): the next IEEE 1588 time that is a whole multiple of is.per, when it lies
20 ms to 30 ms ahead, as the first edge at or after it by the capture at the last hyperperiod boundary and the active period; none otherwise. -/
def Dev.nextWindow (d : Dev) : Option Nat :=
  let base := d.tide - d.tide % 4096
  let period := d.rd .TIDE_PERIOD_ACT
  let cap := (d.rd .TIDE_PTPS0 + 2 ^ 32 * d.rd .TIDE_PTPS1) * 10 ^ 9 + d.rd .TIDE_PTPNS
  let now := cap + (d.tide - base) * period * 5 / 2
  let per := ((fpVal (d.param 0xF1)).getD 0).toNat * 10 ^ 6 / 2 ^ 149
  if per = 0 ∨ period = 0 then none
  else
    let start := (now / per + 1) * per
    if 20 * 10 ^ 6 ≤ start - now ∧ start - now ≤ 30 * 10 ^ 6 then some (base + ((start - cap) * 2 + 5 * period - 1) / (5 * period)) else none

/-- ISLANDING_NEXT_POST (R209): with is.sync = 1 and a locked IEEE 1588 clock the firmware posts the low 24 bits of the tide count at which the next window
starts, as is.next; a window that it cannot post in time is skipped. -/
def execIslandingNextPost (s : State) : Host.Outcome State Fault Refusal :=
  s.upd fun d =>
    match d.nextWindow with
    | some n => if d.paramOn 0xF9 && d.on .ETH_PTPCTL_LOCKED then d.post 0 0x01 0xF8 (fpOfInt (n % 2 ^ 24 : Nat)).1 else d
    | none => d

/-! ### Reconnection (R212) -/

/-- The conditions of R212 have held without a break for rc.delay after a trip, or since arming (R479): the converter enters service. -/
def Dev.reconnect (d : Dev) : Dev :=
  if (decide (d.prog.trip ≠ 0) || d.prog.starting) && d.paramOn 0xB7 && d.gridGood && d.lasted d.prog.pll.rcFrom (d.param 0xB1) then d.enterService
  else d

/-- RECONNECTION_DELAY_EXPIRY (R212, R479). -/
def execReconnectionDelayExpiry (s : State) : Host.Outcome State Fault Refusal := s.upd fun d => d.ctl Dev.reconnect

/-- ENTER is 1 for rc.tramp (R212). -/
def Dev.enterEnd (d : Dev) : Dev :=
  if d.prog.enter && d.lasted (some d.prog.pll.enterAt) (d.param 0xB6) then d.onProg fun p => { p with enter := false } else d

/-- ENTER_SERVICE_RAMP_END (R212). -/
def execEnterServiceRampEnd (s : State) : Host.Outcome State Fault Refusal := s.upd fun d => d.ctl Dev.enterEnd

/-- The grid state word (Table 8-2). -/
def Ctl.gridWord (p : Ctl) (ufr : Bool) : Nat :=
  2 ^ 31 * bit01 p.valid + 2 ^ 30 * bit01 p.free + 2 ^ 29 * bit01 p.rt + 2 ^ 28 * bit01 p.pll.mc
    + 2 ^ 27 * bit01 (decide (p.trip ≠ 0)) + 2 ^ 26 * bit01 p.enter + 2 ^ 25 * bit01 ufr + 2 ^ 24 * bit01 p.pwin
    + 2 ^ 20 * p.trip + 2 ^ 16 * p.isln

end Sys2Proof.Machine
end

