-- ==== Sys2Proof/Machine/Pump.lean ====
section
/-!
DEFINITION. Machine/Pump.lean: the coolant pump drive (R386 to R398).
-/
namespace Sys2Proof.Machine

/-- Applies `f` to the drive's state. -/
def Dev.onPump (d : Dev) (f : Pump → Pump) : Dev := { d with pump := f d.pump }

/-- The drive's STATE: 0 stopped, 1 starting, 2 running, 3 faulted. -/
def Dev.pumpState (d : Dev) : Nat := d.rd .COOL_STAT_STATE

/-- The modulated high side's phase and the phase whose low side is held on (Table 17-2), for DIR = 0. -/
def hallPhases : Nat → Option (Nat × Nat)
  | 0b001 => some (0, 1)
  | 0b011 => some (0, 2)
  | 0b010 => some (1, 2)
  | 0b110 => some (1, 0)
  | 0b100 => some (2, 0)
  | 0b101 => some (2, 1)
  | _ => none

/-- The Hall codes in the order of Table 17-2. -/
def hallOrder : List Nat := [0b001, 0b011, 0b010, 0b110, 0b100, 0b101]

/-- Two codes of the table stand next to each other in its order, which is a ring. -/
def hallAdjacent (a b : Nat) : Bool :=
  let i := hallOrder.idxOf a
  let j := hallOrder.idxOf b
  decide ((i + 1) % 6 = j) || decide ((j + 1) % 6 = i)

/-- The gates that the Hall code, DIR and the part of the carrier period ask for (R387, R388); a set of gate bits. -/
def Dev.pumpTarget (d : Dev) : Nat :=
  match d.pump.step with
  | .precharge => 0b101010
  | .running =>
    match (d.pump.hall).bind hallPhases with
    | none => 0
    | some (a, b) =>
      let h := if d.on .COOL_CTRL_DIR then b else a
      let l := if d.on .COOL_CTRL_DIR then a else b
      2 ^ (2 * l + 1) + (if d.pump.high then 2 ^ (2 * h) else 2 ^ (2 * h + 1))
  | _ => 0

/-- The drive steers the gates to their target: leaving gates turn off at once, joining gates wait for the handshake (R389). -/
def Dev.pumpSteer (d : Dev) : Dev :=
  let t := d.pumpTarget
  d.onPump fun p =>
    { p with
      on := (List.range 6).foldl (fun a g => setBit a g (bitOf p.on g && bitOf t g)) 0
      wait := (List.range 6).foldl (fun a g => setBit a g (bitOf t g && !bitOf p.on g)) 0
      refresh := none }

/-- Every gate is off, and no turn-on waits. -/
def Dev.pumpOff (d : Dev) : Dev :=
  d.onPump fun p => { p with on := 0, wait := 0, step := .off, stopping := false, high := false, refresh := none }

/-- A fault (R394). -/
def Dev.pumpFault (d : Dev) (f : Fld) : Dev :=
  let d1 := ((((d.pumpOff.wr .COOL_STAT_STATE 3).flag f true).bump .COOL_CNT_FLT 0xFFFF).flag .COOL_CTRL_RUN false)
  (((d1.flag .COOL_STAT_DIAGOK false).flag .COOL_STAT_FLOW false).fareDrop 9).raise 454

/-- A fault that records its switch: FSW holds that of the first GTO or VDS fault. -/
def Dev.pumpSwitchFault (d : Dev) (f : Fld) (g : Nat) : Dev :=
  ((d.when (!d.on .COOL_STAT_GTO && !d.on .COOL_STAT_VDS) fun x => x.wr .COOL_STAT_FSW g).pumpFault f)

/-- COOL.SPD.T6: the mean of the last six intervals, rounded one way or the other where it is no whole number (log entry 44); 0xFFFF before. -/
def Dev.pumpSpeed (d : Dev) : Dev :=
  let l := d.pump.spans
  if l.length < 6 then d.wr .COOL_SPD_T6 0xFFFF
  else
    let sum := l.foldl (· + ·) 0
    let r := if sum % 6 = 0 then (0, d) else d.draw 2
    r.2.wr .COOL_SPD_T6 (min 0xFFFF (sum / 6 + r.1))

/-- HALL_CHANGE (R387, R395): the filtered Hall code, `span` µs after the transition before. -/
def execHallChange (code : BitVec 3) (span : Nat) (s : State) : Host.Outcome State Fault Refusal :=
  s.upd fun d =>
    let c := code.toNat
    let old := d.pump.hall
    let d1 := (d.onPump fun p => { p with hall := some c, spans := (span :: p.spans).take 6 }).wr .COOL_SPD_HALL c
    let d2 := if d1.pump.step = .off then d1 else d1.pumpSpeed
    let jump := match old with
      | some o => (hallPhases o).isSome && (hallPhases c).isSome && !hallAdjacent o c
      | none => false
    if old = some c then d
    else if (hallPhases c).isNone || jump then d2.pumpFault .COOL_STAT_HALLE
    else if d2.pump.step = .running then d2.pumpSteer
    else d2

/-- The stop that a write of RUN = 0 asked for (R393). -/
def Dev.pumpStopEnd (d : Dev) : Dev :=
  (((d.pumpOff.wr .COOL_STAT_STATE 0).flag .COOL_STAT_DIAGOK false).fareDrop 9)

/-- PUMP_CARRIER_PERIOD (R388, R393): a period starts (`mid = false`), the DUTY last written applies, a stop takes effect and a start that
has precharged begins to commutate; or the high part of the period in progress ends (`mid = true`). -/
def execPumpCarrierPeriod (mid : Bool) (s : State) : Host.Outcome State Fault Refusal :=
  s.upd fun d =>
    if mid then
      if d.pump.step = .running && decide (d.pump.duty < 1024) then (d.onPump fun p => { p with high := false }).pumpSteer else d
    else if d.pump.stopping then d.pumpStopEnd
    else
      let u := d.rd .COOL_DUTY
      match d.pump.step with
      | .precharge =>
        ((d.onPump fun p => { p with step := .running, duty := u, high := decide (0 < u) }).flag .COOL_STAT_FLOW true).pumpSteer
      | .running =>
        let d1 := d.onPump fun p => { p with duty := u, high := decide (0 < u) }
        if d1.pump.refresh.isSome then d1 else d1.pumpSteer
      | _ => d

/-- PUMP_GATE_TURN_ON (R389). -/
def execPumpGateTurnOn (g : Fin 6) (s : State) : Host.Outcome State Fault Refusal :=
  s.upd fun d =>
    if bitOf d.pump.wait g.val then
      d.onPump fun p => { p with wait := setBit p.wait g.val false, on := setBit p.on g.val true }
    else d

/-- PUMP_HANDSHAKE_TIMEOUT (R389). -/
def execPumpHandshakeTimeout (g : Fin 6) (s : State) : Host.Outcome State Fault Refusal :=
  s.upd fun d => if bitOf d.pump.wait g.val then d.pumpSwitchFault .COOL_STAT_GTO g.val else d

/-- VDS_FAULT (R390): a conducting switch's drain-to-source voltage above the threshold for 250 ns. -/
def execVdsFault (g : Fin 6) (s : State) : Host.Outcome State Fault Refusal :=
  s.upd fun d => if bitOf d.pump.on g.val then d.pumpSwitchFault .COOL_STAT_VDS g.val else d

/-- BOOTSTRAP_REFRESH (R391): at full duty one refresh, at most one per phase per 100 µs (`since`, µs since the phase's last one); with
`exceed` the 1 µs of a refresh has passed. -/
def execBootstrapRefresh (phase : Fin 3) (since : Option Nat) (exceed : Bool) (s : State) : Host.Outcome State Fault Refusal :=
  s.upd fun d =>
    let k := phase.val
    if exceed then if d.pump.refresh = some k then d.pumpSteer else d
    else if bitOf d.pump.on (2 * k) && decide (d.pump.duty = 1024) && d.pump.refresh.isNone && since.all fun t => decide (100 ≤ t) then
      ((d.onPump fun p => { p with on := setBit p.on (2 * k) false, wait := setBit p.wait (2 * k + 1) true, refresh := some k }).flag
        .COOL_STAT_BSREF true).bump .COOL_CNT_REF 0xFFFF
    else d

/-- BOOTSTRAP_UNDERVOLTAGE (R391). -/
def execBootstrapUndervoltage (phase : Fin 3) (s : State) : Host.Outcome State Fault Refusal :=
  s.upd fun d => if bitOf d.pump.on (2 * phase.val) then d.pumpFault .COOL_STAT_BSUV else d

/-- A write of DIAG (R392). -/
def Dev.pumpDiag (d : Dev) : Dev :=
  if d.pumpState = 0 && decide (8000 < d.rd .COOL_VBUS) then d.flag .COOL_STAT_DBUSY true else d.flag .COOL_STAT_DIAGF true

/-- PUMP_DIAG (R392), with the voltage at CVBUS in mV. -/
def execPumpDiag (req : Requester) (vbus : BitVec 16) (s : State) : Host.Outcome State Fault Refusal :=
  s.upd fun d => d.powerWrite req fun x => (x.wr .COOL_VBUS vbus.toNat).pumpDiag

/-- The code of one measurement, X and Y in mV (Table 17-3, its rows from the bottom up); none where no row applies. -/
def diagCode (x y : Nat) : Option Nat :=
  if 8000 < x ∧ y < 500 then some 0b100
  else if 6500 < x ∨ 6500 < y then some 0b011
  else if x < 500 ∨ y < 500 then some 0b010
  else if 3500 ≤ x ∧ x ≤ 6000 ∧ 3500 ≤ y ∧ y ≤ 6000 ∧ x < y + 200 ∧ y < x + 200 then some 0b001
  else none

/-- The code stored; where no row of the table applies it is a free value (log entry 45). -/
def Dev.diagStore (d : Dev) (f : Fld) (c : Option Nat) : Dev :=
  match c with
  | some k => d.wr f k
  | none => let r := d.draw 8; r.2.wr f r.1

/-- PUMP_DIAG_COMPLETE (R392): the voltages of the sourced and the biased phase in measurements 1, 2 and 3, in mV. -/
def execPumpDiagComplete (x1 y1 x2 y2 x3 y3 : Nat) (s : State) : Host.Outcome State Fault Refusal :=
  s.upd fun d =>
    if !d.on .COOL_STAT_DBUSY then d
    else
      let c1 := diagCode x1 y1
      let c2 := diagCode x2 y2
      let c3 := diagCode x3 y3
      let d1 := ((d.diagStore .COOL_DIAGR_M1 c1).diagStore .COOL_DIAGR_M2 c2).diagStore .COOL_DIAGR_M3 c3
      let pass := decide (c1 = some 1) && decide (c2 = some 1) && decide (c3 = some 1)
      ((d1.flag .COOL_STAT_DBUSY false).flag .COOL_STAT_DIAGOK pass).when (!pass) fun x => x.flag .COOL_STAT_DIAGF true

/-- The fare is granted: the three low sides turn on for the precharge (R393). -/
def Dev.pumpFare (d : Dev) : Dev :=
  if d.pump.step = .fare && d.onAt .CAP_CLS_HELD 9 then (d.onPump fun p => { p with step := .precharge }).pumpSteer else d

/-- A write of RUN = 1 (R393, Table 17-4). -/
def Dev.pumpRun (d : Dev) : Dev :=
  if d.pumpState ≠ 0 then d
  else if d.on .COOL_STAT_DIAGOK && !d.on .COOL_STAT_DBUSY then
    ((((d.onPump fun p => { p with step := .fare, spans := [] }).flag .COOL_CTRL_RUN true).wr .COOL_STAT_STATE 1).wr .COOL_SPD_T6
      0xFFFF |>.fareAsk 9 (d.fareOf 9)).pumpFare
  else d.flag .COOL_STAT_DIAGF true

/-- PUMP_RUN (R393). -/
def execPumpRun (req : Requester) (s : State) : Host.Outcome State Fault Refusal := s.upd fun d => d.powerWrite req Dev.pumpRun

/-- A write of RUN = 0 (R393, R396). -/
def Dev.pumpHalt (d : Dev) : Dev :=
  let d1 := (d.flag .COOL_CTRL_RUN false).flag .COOL_STAT_FLOW false
  match d1.pump.step with
  | .off => d1.when (decide (d1.pumpState = 1) || decide (d1.pumpState = 2)) Dev.pumpStopEnd
  | .fare => d1.pumpStopEnd
  | _ => d1.onPump fun p => { p with stopping := true }

/-- PUMP_STOP (R393): the gates turn off at the end of the carrier period. -/
def execPumpStop (req : Requester) (s : State) : Host.Outcome State Fault Refusal := s.upd fun d => d.powerWrite req Dev.pumpHalt

/-- PUMP_FARE_TIMEOUT (R393). -/
def execPumpFareTimeout (s : State) : Host.Outcome State Fault Refusal :=
  s.upd fun d => if d.pump.step = .fare then d.pumpFault .COOL_STAT_FARE else d

/-- PUMP_START_END (R393). -/
def execPumpStartEnd (s : State) : Host.Outcome State Fault Refusal :=
  s.upd fun d =>
    if d.pumpState = 1 && decide (d.pump.step = .running) && !d.pump.stopping then
      (d.wr .COOL_STAT_STATE 2).flag .COOL_STAT_FLOW true
    else d

/-- A fault condition is still present: an invalid Hall code, VDRV low (R394). -/
def Dev.pumpFaultPresent (d : Dev) : Bool := d.pump.drvLow || (d.pump.hall.any fun c => (hallPhases c).isNone)

/-- A write of FCLR (R394). -/
def Dev.pumpClear (d : Dev) : Dev :=
  if d.pumpState = 3 && !d.pumpFaultPresent then d.wr .COOL_STAT_STATE 0 else d

/-- PUMP_FAULT_CLEAR (R394). -/
def execPumpFaultClear (req : Requester) (s : State) : Host.Outcome State Fault Refusal := s.upd fun d => d.powerWrite req Dev.pumpClear

/-- PUMP_STALL (R395): the time since the last transition exceeds 6 × TMAX. -/
def execPumpStall (s : State) : Host.Outcome State Fault Refusal :=
  s.upd fun d => if d.pumpState = 2 && decide (0 < d.pump.duty) then d.pumpFault .COOL_STAT_STALL else d

/-- The speed can be low (R395): T6 exceeds TMAX, or DUTY is 0 and no transition need come (with DUTY > 0 that long a pause is STALL at once); it can be not low. -/
def Dev.speedMay (d : Dev) (low : Bool) : Bool :=
  let slow := decide (d.rd .COOL_FLOW_TMAX < d.rd .COOL_SPD_T6)
  if low then slow || decide (d.pump.duty = 0) else !slow

/-- FLOW_TIMEOUT (R396): the speed has been low (`low`), or not low, for FLOWT. -/
def execFlowTimeout (low : Bool) (s : State) : Host.Outcome State Fault Refusal :=
  s.upd fun d => if d.pumpState = 2 && d.on .COOL_CTRL_RUN && d.speedMay low then d.flag .COOL_STAT_FLOW (!low) else d

/-- COOLANT_STATUS_POST (R396); nothing is posted while the SP link is failed (Table 17-4). -/
def execCoolantStatusPost (s : State) : Host.Outcome State Fault Refusal :=
  s.upd fun d => if d.sys.spFailed then d else d.post 14 0x11 0 (if d.on .COOL_STAT_FLOW then 0x3F800000 else 0)

/-- VDRV crosses 10.0 V (R394). -/
def Dev.pumpDriver (d : Dev) (low : Bool) : Dev :=
  (d.onPump fun p => { p with drvLow := low }).when low fun x => x.pumpFault .COOL_STAT_DRVUV

/-- Load shedding of a last crossing (Tables 12-3 and 17-4): every gate is off, and stays off until the pump has been stopped and started anew, since its
fare is gone (DESIGN CHOICE, log entry 168). -/
def Dev.pumpShed (d : Dev) : Dev := d.pumpOff

end Sys2Proof.Machine
end

