-- ==== Sys2Proof/Machine/Resets.lean ====
section
/-!
DEFINITION. Machine/Resets.lean: reset domains and kinds, the control domain's start, inter-die links, claims and their opening, the dry
crossing, arming (R11 to R30, R434, R472 to R482).
-/
namespace Sys2Proof.Machine

/-- The address lies in SRAM of the control die: engine, SE and berth windows, the translation table. -/
def inControlSram (a : Nat) : Bool := inSram a && decide (a < ferrymanSram)

/-! ### Supply outputs (R428, R433, R434) -/

/-- Output `k` of CAP.OUTEN (0 VDRV, 1 AUX3, 2 AUX5, 3 VDDQ) asks for its fare, and is on once it holds it; one that its current limit turned
off stays off. -/
def Dev.supplyOn (d : Dev) (k : Nat) : Dev :=
  if d.sys.ocOff.contains k then d
  else
    let d1 := d.fareAsk (15 - k) (d.fareOf (15 - k))
    d1.when (d1.onAt .CAP_CLS_HELD (15 - k)) fun x => x.wrBit .CAP_OUTSTAT_PG k true

/-- Output `k` is off. -/
def Dev.supplyOff (d : Dev) (k : Nat) : Dev := (d.wrBit .CAP_OUTSTAT_PG k false).fareDrop (15 - k)

/-- The outputs whose fares have been granted are on. -/
def Dev.supplySync (d : Dev) : Dev :=
  d.each 4 fun x k => x.when (x.bit .CAP_OUTEN k && x.onAt .CAP_CLS_HELD (15 - k) && !x.sys.ocOff.contains k) fun y => y.wrBit .CAP_OUTSTAT_PG k true

/-- The enabled outputs start, VDDQ first, then AUX5, AUX3 and VDRV. -/
def Dev.supplyStart (d : Dev) : Dev :=
  [3, 2, 1, 0].foldl (fun x k => x.when (x.bit .CAP_OUTEN k) fun y => y.supplyOn k) d

/-! ### The control domain (R14 to R16, R473) -/

/-- The fares that the control domain's loads hold are released, and those of pull-ins, whose close requests are gone (Table 19-4). -/
def Dev.controlFares (d : Dev) : Dev := [1, 2, 3, 4, 5, 6, 7, 8, 10, 11, 16, 17, 18, 19, 20, 21].foldl Dev.fareDrop d

/-- Sources of the control domain read 0 while it is in reset (R452). -/
def Dev.controlLevels (d : Dev) : Dev :=
  { d with regs := d.regs.filter fun e => !(decide (e.1.1 = .EVT_RT_LEVEL) && controlSource e.1.2) }

/-- What the power die and the non-volatile array keep of the twin's state (R350, R353, R473); TWR_OUT stands at its last level (Table 22-3). -/
def Twin.kept (t : Twin) : Twin := { dflt := t.dflt, mirrorArea := t.mirrorArea, twrOut := t.twrOut }

/-- The analog node that GWY.ASELk routes (Table 20-6, R464), with its comparator: GWY.ADAC's for a DAC; none: no route. -/
def Dev.gwaRoute (d : Dev) (k : Nat) : Option (Nat × Option Nat) :=
  let n := d.rdAt .GWY_ASEL_SEL k
  if d.onAt .GWY_ASEL_EN k && (decide (n < 0x2E) || (decide (0x30 ≤ n) && decide (n < 0x3F))) then
    some (n, if n < 0x20 then some n else if 0x22 ≤ n ∧ n ≤ 0x25 then some (d.rd .GWY_ADAC) else none)
  else none

/-- The kind of resource lies on the control die (Table 1-12). -/
def controlResource : Resource → Bool
  | .leg | .cellLink | .filter | .ethQueue | .counter | .gangway => true
  | _ => false

/-- The claim registers of the control die forget their requesters' status codes (Table 1-11: no attempt since the block's reset). -/
def Dev.statusClear (d : Dev) : Dev :=
  { d with sys := (allResources.filter controlResource).foldl (fun s r =>
      s.setClaims (((s.claims r).map fun e => (e.1, { e.2 with status := [] })).filter fun e => e.2 ≠ {}) r) d.sys }

/-- No claim of ranks 3 to 6 on a leg outlasts a control-domain reset: the legs' seal clears with it (R125). -/
def Dev.legClaimsClear (d : Dev) : Dev :=
  d.onSys fun s => s.setClaims (releaseWhere (fun q => decide (3 ≤ Requester.rank q)) (s.claims .leg)) .leg

/-- PWM.GOKLO, PWM.GOKHI and PWM.FLT show the balls' levels through every reset (R127, Table 5-9). -/
def Dev.ballsKept (d e : Dev) : Dev := ((d.wr .PWM_GOKLO (e.rd .PWM_GOKLO)).wr .PWM_GOKHI (e.rd .PWM_GOKHI)).wr .PWM_FLT (e.rd .PWM_FLT)

/-- The instruction drives balls. -/
def drivesBalls : JtagOp → Bool
  | .extest | .clamp | .highz | .extestPulse | .extestTrain => true
  | .bypass | .idcode | .sample => false

/-- The TAP's instructions after bench mode has ended: one that drives balls acts as BYPASS (R465 to R467). -/
def tapKept (t : Store Nat JtagOp) : Store Nat JtagOp := t.map fun e => (e.1, if drivesBalls e.2 then .bypass else e.2)

/-- Every element of the control domain takes its reset state (Table 1-3); the gates are off and switches P open. -/
def Dev.controlClear (d : Dev) : Dev :=
  let d1 := (((d.resetBlks controlBlks).releaseAll Requester.onControlDie).legClaimsClear.statusClear.controlLevels).ballsKept d
  let d2 := { d1 with
    tt := { opened := d.tt.opened, captureHeld := d.tt.captureHeld, ptpNext := d.tt.ptpNext, almAt := d.tt.almAt }
    node := {}
    pager := {}
    ethn := {}
    prog := {}
    vcs := { ferry := d.vcs.ferry, engines := d.vcs.engines.filter fun e => e.1 = 10 }
    conv := { cmps := d.conv.cmps, rbStart := d.conv.rbStart }
    eccm := { d.eccm with fill := none, laneErrs := [], halts := [], bad := d.eccm.bad.filter fun e => !inControlSram (8 * e.1), bad1 := [], diff1 := [] }
    met := { d.met with filters := [] }
    evt := { tap := tapKept d.evt.tap }
    lat := { d.lat with ctHi := [], ptpSec1 := [], ptpNs := [] }
    fm := { d.fm with ctrl := [], safe := {}, ctrlBank := [] }
    twin := d.twin.kept
    saf := { d.saf with
      rxP := { fbk := d.saf.rxP.fbk, srst := d.saf.rxP.srst }
      cmdP := 0
      permit := 0
      gridP := false
      pgV := none
      pgF := none
      pg := [{}, {}, {}]
      fxpWatch := false }
    sys := { d1.sys with
      cdReset := true
      cdWant := false
      gwa := if d.sys.cdReset then d.sys.gwa else [d.gwaRoute 0, d.gwaRoute 1]
      cdLosses := d.sys.cdLosses + 1
      selfRefresh := if d.sys.cdReset then d.sys.selfRefresh else .entering
      dryPassed := false
      dryAttempts := 0
      dryFault := 0
      dryEnd := none } }
  -- the close requests are gone with the safety program that held them: contactors close on new ones (R474)
  (((d2.each 8 fun x n => x.flagAt .SAF_SOSTAT_REQ n false).outputs.controlFares).wr .TIDE_PERIOD_PEND 0).wr .TIDE_OFFSET_PEND 0

/-- A reset of the control domain alone (R16, R472), of kind 0x5 or 0x6. -/
def Dev.controlReset (d : Dev) (kind : Nat) : Dev :=
  ((d.controlClear.onSys fun s => { s with cdResets := 0 :: s.cdResets }).life 0x010).wr .FM_RSTCAUSE_KIND kind

/-- The control domain starts (R402, R434, R473): DDR.STAT.UNREL is loaded from the DRAM-lost flag, CDLY from its copy, the straps and the
double-fault latch show; TWIN.STAT.STATE is SEEK with a twin installed and ALONE without. -/
def Dev.controlStart (d : Dev) : Dev :=
  let d1 := d.onSys fun s => { s with cdReset := false, cdWant := false, selfRefresh := .idle, csFailed := false }
  let d2 := ((d1.flag .DDR_STAT_UNREL d1.sys.dramLost).wr .TWIN_ALIGN_CDLY d1.sys.cdlyCopy).flag .TWIN_STAT_DFLT d1.twin.dflt
  let d3 := (d2.flag .TWIN_STAT_INST d2.straps.twinst).flag .TWIN_STAT_SIDE d2.straps.twside
  let d4 := (d3.wr .TWIN_STAT_STATE (if d3.twin.dflt then 8 else if d3.twin.resync then 2 else if d3.straps.twinst then 1 else 0)).flag .PWM_STAT_LEAD
    (!d3.twin.dflt && !d3.straps.twinst)
  let d5 := (d4.onTwin fun t => { t with resync := false }).when d4.straps.twinst fun x => x.fareAsk 20 (x.fareOf 20)
  let d6 := { d5 with conv := { d5.conv with gok := d5.rd .PWM_GOKLO + 2 ^ 32 * d5.rd .PWM_GOKHI } }
  let d7 := d6.when (d6.on .SAF_STAT_INH) fun x => x.each 32 Dev.blockLink
  (d7.flag .GWY_BENCH_STRAP d7.straps.bench).each 48 fun x n => (x.flagAt .SDF_STAT_LOSS n (x.sdLoss n)).flagAt .SDF_STAT_FROZEN n (x.sdLoss n)

/-- A release that holds the fare of class 10 takes place. -/
def Dev.controlGo (d : Dev) : Dev := if d.sys.cdWant && d.onAt .CAP_CLS_HELD 10 then d.controlStart else d

/-- HOLD is cleared: the control domain starts when it holds the fare of class 10 (R402, R437). -/
def Dev.controlRelease (d : Dev) : Dev :=
  let d1 := d.flag .FM_CDCTL_HOLD false
  if !d1.sys.cdReset then d1
  else ((d1.onSys fun s => { s with cdWant := true }).fareAsk 10 (d1.fareOf 10)).controlGo

/-! ### The Ferryman domain, the supervisor fabric and the power domain -/

/-- A reset of the Ferryman domain (R14, R473): the processor and its SRAM; the claims that Ferryman holds are released. -/
def Dev.ferrymanReset (d : Dev) : Dev :=
  let d1 := d.releaseAll fun q => decide (q = .ferryman)
  let d2 := { d1 with
    vcs := { d1.vcs with ferry := {}, engines := d1.vcs.engines.set {} 10 { pc := bootRom } }
    fm := { d1.fm with booted := false, flashBusy := [], ckptBusy := false }
    sys := { d1.sys with fmResets := d1.sys.fmResets + 1 } }
  (d2.flag .ADC_DMACFG_EN false).wr .FM_RSTCAUSE_KIND 0x4

/-- What is kept of custody through a reset of the supervisor fabric: the non-volatile array (R285, R293, R298). -/
def Custody.kept (c : Custody) : Custody :=
  { slotA := c.slotA, slotB := c.slotB, marker := c.marker, slot := c.slot, ring := c.ring, head := c.head, land := c.land
    isSealed := c.isSealed, sealDigest := c.sealDigest, sealConfig := c.sealConfig, sbcnt := c.sbcnt, jumperKept := c.jumperKept
    confirmed := c.confirmed, nonce := c.nonce }

/-- What is kept of Ferryman's surroundings: the log, the calendar, lifetime, anti-rollback, storage. -/
def Fm.kept (f : Fm) : Fm :=
  { log := f.log, logLost := f.logLost || !f.logPend.isEmpty, cal := f.cal, calFrac := f.calFrac, calStopped := f.calStopped
    rollback := f.rollback, confirmed := f.confirmed, life := f.life, residue := f.residue, slots := f.slots }

/-- What is kept of the safety channels: the safety configuration partition. A latched SF-B starts latched, SF-C always (R478). -/
def Saf.kept (s : Saf) : Saf :=
  { cfgPart := s.cfgPart, partLockH := s.partLockH, partLockP := s.partLockP, partSfB := s.partSfB
    latchH := if s.partSfB then 6 else 4, latchP := if s.partSfB then 6 else 4 }

/-- Fields of the supervisor fabric that its reset keeps: FM.ACTSEL and CLK.CFG.PRE (R473), the lock count of the power domain, what shows the
calendar's and the log's own state. -/
def fabricKept : List Fld := [.FM_ACTSEL, .CLK_CFG_PRE, .CLK_LOCKCNT, .FM_CALSTAT_CALV, .FM_CALSTAT_END, .FM_LOGHEAD]

/-- SAF.FLTH and SAF.FLTP show the lockouts that the partition holds (R325). -/
def Dev.faultsShown (d : Dev) : Dev :=
  let d1 := match d.saf.partLockH with
    | some (c, i) => ((d.flag .SAF_FLTH_VALID true).wr .SAF_FLTH_CODE c).wr .SAF_FLTH_ITEM i
    | none => d
  match d1.saf.partLockP with
  | some (c, i) => ((d1.flag .SAF_FLTP_VALID true).wr .SAF_FLTP_CODE c).wr .SAF_FLTP_ITEM i
  | none => d1

/-- The supervisor fabric takes its reset state, with the Ferryman and control domains (R14, Table 1-3). -/
def Dev.fabricClear (d : Dev) : Dev :=
  let d1 := { d.controlClear with evt := { tap := tapKept d.evt.tap } }
  let d2 := { d1 with
    regs := d1.regs.filter fun e => !supervisorBlks.contains e.1.1.blk || fabricKept.contains e.1.1
    lat := {}
    tt := {}
    vcs := {}
    adc := {}
    met := {}
    conv := {}
    saf := d.saf.kept
    cus := d.cus.kept
    fm := d.fm.kept
    eccm := { bad := d1.eccm.bad.filter fun e => decide (8 * e.1 < 0x1000000000), deadLanes := d1.eccm.deadLanes }
    sys := { d1.sys with
      csAttempts := 0
      spAttempts := 0
      csFailed := false
      loaded := false
      claimsOpen := false
      legClaims := []
      clinkClaims := []
      filterClaims := []
      comparatorClaims := []
      analogClaims := []
      converterClaims := []
      pulseClaims := []
      safetyClaims := []
      ethClaims := []
      captureClaims := []
      counterClaims := []
      gangwayClaims := []
      sfPending := none
      gwa := []
      cdResets := []
      selfTestPassed := false
      fmResets := d1.sys.fmResets + 1 } }
  let d3 := ((d2.wr .CLK_STAT_CKSEL d2.straps.cksel).wr .SAF_LATCH d2.saf.latchH).faultsShown.outputs
  ((List.range 8).foldl (fun x n => x.fareDrop (1 + n)) d3).newNonce.manSync

/-- A reset of the supervisor fabric, of kind 0x2 or 0x3. When VIN is valid the shed outputs return (R434). -/
def Dev.fabricReset (d : Dev) (kind : Nat) (vin : Bool) : Dev :=
  ((d.fabricClear.wr .FM_RSTCAUSE_KIND kind).onSys fun s => { s with warning := s.warning && !vin }).when vin Dev.supplyStart

/-- A reset of the power domain (R14): every domain but the battery domain; DRAM loses its contents. -/
def Dev.powerReset (d : Dev) (kind : Nat) : Dev :=
  let d1 := (d.fabricClear.onTwin fun t => { t with dflt := false, twrOut := false }).onEcc fun e => { e with deadLanes := [] }
  let d2 := { (d1.resetBlks powerBlks).wr .CLK_LOCKCNT 0 with pump := {} }
  (d2.onSys fun s => { s with
    spFailed := false
    warning := false
    ocOff := []
    dramLost := false
    devFailed := false
    dramLosses := s.dramLosses + 1
    pdPending := none }).wr .FM_RSTCAUSE_KIND kind

/-- The kind of a power-domain reset (Table 21-1). -/
def pdKind : PdCause → Nat
  | .powerOn => 0x1
  | .brownOut => 0x2
  | .resetPin => 0x3
  | .supply => 0x7

/-- The kind of a supervisor-fabric reset (Table 21-1). -/
def sfKind : SfCause → Nat
  | .brownOut => 0x2
  | .resetPin => 0x3

/-! ### Memories across resets and starts -/

/-- The memories that a step loses: SRAM of a control domain that enters reset, Ferryman's SRAM, DRAM. -/
def lostRanges (d d' : Dev) : List (Nat × Nat) :=
  (if d'.sys.cdLosses ≠ d.sys.cdLosses then
      [(0x1000000000, 0x1000240000), (berthSram, berthSram + 0x800000), (translationTable, translationTable + 0x100000)] else [])
    ++ (if d'.sys.fmResets ≠ d.sys.fmResets then [(ferrymanSram, ferrymanSram + ferrymanSramSize)] else [])
    ++ (if d'.sys.dramLosses ≠ d.sys.dramLosses then [(0, d.dramEnd)] else [])

/-- The SE parameter block that the loader writes at a start of the control domain (R307, Table 21-5). -/
def startWrites (d d' : Dev) : List (Nat × List Byte) :=
  if d.sys.cdReset && !d'.sys.cdReset && d'.on .SAF_STAT_CFGOK then
    ((d'.saf.cfgPart.map Scfg.seBlock).getD []).map fun e => (dataSram 8 + e.1 % 0x20000, [e.2])
  else []

/-- A command that may reset or start a domain, and stores bytes: what the memories lose or gain follows. -/
def State.updAll (s : State) (f : List Host.Cell → Dev → List (Nat × List Byte) × Dev) : Host.Outcome State Fault Refusal :=
  let r := f s.mem s.dev
  let m := (lostRanges s.dev r.2).foldl (fun m x => memClear m x.1 x.2) s.mem
  .next { s with mem := (startWrites s.dev r.2 ++ r.1).foldl (fun m x => memPut m x.1 x.2) m, dev := r.2 }

/-- A command that may reset or start a domain. -/
def State.updRst (s : State) (f : Dev → Dev) : Host.Outcome State Fault Refusal := s.updAll fun _ d => ([], f d)

/-! ### Reset commands -/

/-- CONTROL_DOMAIN_RESET (R16). -/
def execControlDomainReset (cause : CdCause) (s : State) : Host.Outcome State Fault Refusal :=
  s.updRst fun d =>
    (d.controlReset (if cause = .twinResync then 0x6 else 0x5)).onSys fun x => { x with csFailed := decide (cause = .csLink) }

/-- SELF_REFRESH_TIMEOUT (R16): DRAM contents are unreliable. -/
def execSelfRefreshTimeout (s : State) : Host.Outcome State Fault Refusal :=
  s.updRst fun d =>
    if d.sys.selfRefresh = .entering then
      d.onSys fun x => { x with selfRefresh := .failed, dramLost := true, dramLosses := x.dramLosses + 1 }
    else d

/-- SUPERVISOR_FABRIC_RESET (R17): it begins 2 ms after its request at the latest; `vin`: VIN is valid at its end. -/
def execSupervisorFabricReset (cause : SfCause) (vin : Bool) (s : State) : Host.Outcome State Fault Refusal :=
  s.updRst fun d => d.fabricReset (sfKind (d.sys.sfPending.getD cause)) vin

/-- POWER_DOMAIN_RESET (R14). -/
def execPowerDomainReset (cause : PdCause) (s : State) : Host.Outcome State Fault Refusal :=
  s.updRst fun d => d.powerReset (pdKind cause)

/-- FERRYMAN_DOMAIN_RESET (R14). -/
def execFerrymanDomainReset (s : State) : Host.Outcome State Fault Refusal := s.updRst Dev.ferrymanReset

/-- RESET_PIN_LONG_HOLD (R472): RESET_N has been low for 100 ms; one last crossing for the pulse, then the power-domain reset. -/
def execResetPinLongHold (s : State) : Host.Outcome State Fault Refusal :=
  s.upd fun d => d.onSys fun x => { x with pinLong := true, pdPending := some (x.pdPending.getD .resetPin) }

/-- LAST_CROSSING_SAVE_COMPLETE (R288, R289): the snapshot is checked and the marker cleared; the reset that waited starts. -/
def execLastCrossingSaveComplete (pass vin : Bool) (s : State) : Host.Outcome State Fault Refusal :=
  s.updRst fun d =>
    if d.counting && (d.sys.sfPending.isSome || d.sys.pdPending.isSome) then d else
    let rst := decide (d.sys.sfPending = some .resetPin) || decide (d.sys.pdPending = some .resetPin)
    let d1 := (d.lastSave rst pass).when (pass && d.cus.frozen) fun x => x.life 0x0D8
    match d1.sys.pdPending, d1.sys.sfPending with
    | some c, _ => d1.powerReset (pdKind c)
    | none, some c => d1.fabricReset (sfKind c) vin
    | none, none => d1

/-- CONTROL_DIE_HOLD (R402). -/
def execControlDieHold (req : Requester) (s : State) : Host.Outcome State Fault Refusal :=
  s.updRst fun d => d.byFerryman req fun x =>
    if x.on .PWM_CTRL_ARM then x.flag .FM_STAT_CDREF true else (x.controlReset 0x5).flag .FM_CDCTL_HOLD true

/-- CONTROL_DIE_RELEASE (R402): HOLD is written 0, or AUTOWAKE clears it at a wake request (`req` none). -/
def execControlDieRelease (req : Option Requester) (s : State) : Host.Outcome State Fault Refusal :=
  s.updRst fun d => match req with
    | some q => d.byFerryman q Dev.controlRelease
    | none => if d.on .FM_CDCTL_HOLD && d.on .FM_CDCTL_AUTOWAKE && d.on .FM_CDCTL_WAKEP then d.controlRelease else d

/-- CONTROL_DOMAIN_AUTO_RELEASE (R480): the firmware's act 100 ms after a CS link failure, once it runs (Table 21-7); the third control-domain reset within 600 s keeps HOLD = 1. -/
def execControlDomainAutoRelease (s : State) : Host.Outcome State Fault Refusal :=
  s.updRst fun d =>
    if !(d.sys.cdReset && d.sys.csFailed && d.fm.booted) then d
    else if 3 ≤ d.sys.cdResets.length then (d.flag .FM_CDCTL_HOLD true).stageLog 1 2
    else d.controlRelease

/-- ECC_SELF_TEST (R370, Tables 21-3 and 21-4): `failed` is the first failing checker. A control-die checker fails while its domain runs, which is then
held; a failure stays shown until the block's reset (log entry 171). -/
def execEccSelfTest (failed : Option (Fin 64)) (s : State) : Host.Outcome State Fault Refusal :=
  s.updRst fun d => match failed with
    | some c =>
      let d1 := d.when (!d.on .ECC_STAT_STF) fun x => (x.flag .ECC_STAT_STF true).wr .ECC_STAT_STFID c.val
      if d1.sys.cdReset then d1 else (d1.controlReset 0x5).flag .FM_CDCTL_HOLD true
    | none => d

/-! ### Inter-die links (R13) -/

/-- The CS link is declared failed. -/
def Dev.csFail (d : Dev) : Dev := ((d.raise 3).controlReset 0x5).onSys fun x => { x with csFailed := true, csAttempts := 0 }

/-- The SP link is declared failed: no new fare, channel H locks out. -/
def Dev.spFail (d : Dev) : Dev :=
  if d.sys.spFailed then d else ((d.onSys fun x => { x with spFailed := true, spAttempts := 0 }).raise 4).lockout true 0x05 0

/-- CS_LINK_RETRANSMIT (R13): a transfer arrives with a CRC error and is sent again; `first`: it is the transfer's first attempt. The
fourth failed attempt declares the link failed. -/
def execCsLinkRetransmit (link : DieLink) (first : Bool) (s : State) : Host.Outcome State Fault Refusal :=
  s.updRst fun d => match link with
    | .cs =>
      let n := if first then 1 else d.sys.csAttempts + 1
      if 4 ≤ n then d.csFail else d.onSys fun x => { x with csAttempts := n }
    | .sp =>
      let n := if first then 1 else d.sys.spAttempts + 1
      if 4 ≤ n then d.spFail else d.onSys fun x => { x with spAttempts := n }

/-- CS_LINK_FAILURE (R13). -/
def execCsLinkFailure (s : State) : Host.Outcome State Fault Refusal := s.updRst Dev.csFail

/-- SP_LINK_FAILURE (R13). -/
def execSpLinkFailure (s : State) : Host.Outcome State Fault Refusal := s.upd Dev.spFail

/-! ### Claims (R22 to R28) -/

/-- An access to claim register `n` of a kind: there are only as many as Table 1-12 gives, and a control die in reset takes no write. -/
def Dev.claimAccess (d : Dev) (r : Resource) (n : Nat) (f : Dev → Dev) : Dev :=
  if r.count ≤ n then d.addressError
  else if controlResource r && d.sys.cdReset then d.answer
  else f d.answer

/-- CLAIM (R22, R23, R28): `reqs`, the requesters that claim the resource in one clock cycle. -/
def execClaim (reqs : List Requester) (res : Resource) (n : Nat) (s : State) : Host.Outcome State Fault Refusal :=
  s.upd fun d => d.claimAccess res n fun x => x.claims (reqs.map fun q => claimant q res) res n

/-- RELEASE (R26, R28): a leg whose claim ends stops (R119). -/
def execRelease (req : Requester) (res : Resource) (n : Nat) (s : State) : Host.Outcome State Fault Refusal :=
  s.upd fun d => d.claimAccess res n fun x =>
    let q := claimant req res
    let y := x.releaseClaim q res n
    y.when (decide (res = .leg) && x.mayRelease q res n) fun z => z.legUnclaim n

/-- CLAIMS_OPEN (R24, R298): not before channel H's loader has acted on the safety configuration. A sealed metering configuration is restored
and applied, and its reservations of rank 2 are made; then claims of ranks 3 to 6 open. -/
def execClaimsOpen (s : State) : Host.Outcome State Fault Refusal :=
  s.upd fun d =>
    if d.sys.claimsOpen || !d.sys.loaded then d
    else
      let d1 := if d.cus.isSealed then
          let a := d.cus.sealConfig.foldl (fun x e => x.wrAt e.1.1 e.1.2 e.2) d
          let b := (a.applyConfig d.cus.sealConfig).onMet fun m => { m with loadOk := true }
          ((b.meteringNames.foldl (fun x r => x.reserve r.1 r.2 2) b).onCus fun c => { c with
            sealRsv := b.meteringNames.filter fun r => (b.cell r.1 r.2).rsv.isNone }).manSync
        else d
      d1.onSys fun x => { x with claimsOpen := true }

/-! ### The Capstan's grants (R436 to R438) -/

/-- CAPSTAN_GRANT (R438): the arbiter's pass; loads that waited for a grant start: the pump, supply outputs, cell links, the control
domain. -/
def execCapstanGrant (s : State) : Host.Outcome State Fault Refusal :=
  s.updRst fun d =>
    let d1 := d.fareArbitrate.pumpFare.supplySync
    let d2 := d1.when (!d.onAt .CAP_CLS_HELD 21 && d1.onAt .CAP_CLS_HELD 21) fun x => x.each 32 fun y l =>
      y.when (y.onAt .CLINK_CTRL_RUN l && !y.onAt .CLINK_STAT_RUNNING l) fun z => z.linkStart l
    d2.controlGo

/-! ### The dry crossing and arming (R477, R479) -/

/-- DRY_CROSSING_END (R477): the end of the hyperperiod; a third failure is logged with the first failing condition. -/
def execDryCrossingEnd (s : State) : Host.Outcome State Fault Refusal :=
  s.upd fun d => d.ctl fun w => w.firmware fun x =>
    match x.sys.dryEnd with
    | none => x
    | some f =>
      if f = 0 then (x.onSys fun y => { y with dryPassed := true, dryEnd := none }).stageLog 8 0
      else
        let z := x.onSys fun y => { y with dryAttempts := y.dryAttempts + 1, dryEnd := none }
        if z.sys.dryAttempts = 3 then z.stageLog 8 f else z

/-- Ratings and gains whose default is 0 and that the integrator must have set (R191, R214). -/
def armParams : List Nat := [0x01, 0x02, 0x03, 0x04, 0x10, 0x11, 0x16, 0x20, 0x21]

/-- The conditions under which the firmware arms (R186, R189, R191, R479), apart from the host's request: no stale feedback, no latched stop, and none that
still waits in queue 0 for an OP 0x07 to clear it. -/
def Dev.mayArm (d : Dev) : Bool :=
  d.sys.dryPassed && d.prog.valid && !d.locked true && !d.locked false && !d.on .SAF_STAT_INH && d.on .COOL_STAT_FLOW
    && !d.on .DDR_STAT_UNREL && [0, 3, 4, 5].contains (d.rd .TWIN_STAT_STATE) && !d.stopped
    && d.prog.staleIn.isEmpty && !d.prog.rearm && !((d.queue 0).items.any fun c => c.op == 0x06)
    && armParams.all fun i => !fpEq (d.param i) 0

/-- ARMING (R479); `host`: the host has requested operation. The programs then enter service as after a trip. -/
def execArming (host : Bool) (s : State) : Host.Outcome State Fault Refusal :=
  s.upd fun d => d.ctl fun x =>
    if host && x.fm.booted && x.mayArm then (x.arm.onProg fun p => { p with starting := true }).stageLog 10 0 else x

end Sys2Proof.Machine
end

