-- ==== Sys2Proof/Machine/Events.lean ====
section
/-!
DEFINITION. Machine/Events.lean: event sources, capture units, performance counters, tags, bandwidth windows, Gangway, bench mode, boundary scan
(R451 to R471), and the processors' debug and clear registers (R114 to R116).
-/
namespace Sys2Proof.Machine

/-- Applies `f` to the events' state. -/
def Dev.onEvt (d : Dev) (f : Evt → Evt) : Dev := { d with evt := f d.evt }

/-! ### Sources (R451 to R453) -/

/-- EVENT_RISE (R453): source `n` rises, with the DATA of its log entry. A loss of the system PLL's lock shows in CLK.STAT. -/
def execEventRise (n : Fin 512) (data : BitVec 64) (s : State) : Host.Outcome State Fault Refusal :=
  s.upd fun d => (d.when (decide (n.val = 453)) fun x => (x.flag .CLK_STAT_LOCK false).flag .CLK_STAT_LOLS true).raiseWith n.val data.toNat

/-- A write of EVT.SWSET: each bit written 1 raises its software event. -/
def Dev.softwareEvents (d : Dev) (v : Nat) : Dev := d.each 16 fun x i => x.when (bitOf v i) fun y => y.raise (496 + i)

/-- SOFTWARE_EVENT (R451). -/
def execSoftwareEvent (req : Requester) (bits : BitVec 16) (s : State) : Host.Outcome State Fault Refusal :=
  s.upd fun d => d.byFerryman req fun x => x.softwareEvents bits.toNat

/-- Source `n` is high now (R451): a source whose cause is a condition that the state shows, while it holds (log entry 13). Every other cause is momentary:
high for one tick, and low again when its command is over. -/
def Dev.sourceHigh (d : Dev) (n : Nat) : Bool :=
  if reservedSource n || (controlSource n && d.sys.cdReset) then false
  else if n = 3 then d.sys.csFailed
  else if n = 4 then d.sys.spFailed
  else if 64 ≤ n ∧ n < 88 then decide (d.legState (n - 64) = 2)
  else if 256 ≤ n ∧ n < 304 then (if n < 288 then d.bit .MTR_SDLOSS0 (n - 256) else d.bit .MTR_SDLOSS1 (n - 288))
  else if 304 ≤ n ∧ n < 308 then d.onAt .MTR_MPSTAT_ZCTO (n - 304)
  else if n = 317 then d.on .FM_CALSTAT_END
  else if 320 ≤ n ∧ n < 384 then d.onAt .ADC_STAT_OPEN (n - 320)
  else if n = 392 then d.on .SAF_STAT_LOCKH
  else if n = 393 then d.on .SAF_STAT_LOCKP
  else if 394 ≤ n ∧ n < 398 then d.onAt .EVT_RT_LEVEL n
  else if n = 412 then d.twin.dflt
  else if n = 450 then d.sys.warning
  else if n = 451 then decide (d.fm.overRun = 3)
  else if n = 452 then d.on .CLK_STAT_HOLD
  else if n = 456 then d.on .FM_STAT_BOOTF
  else decide (n = 458) && d.sys.thermalHold

/-! ### Capture units (R457) -/

/-- A read of EVT.CAPTLOu latches CAPTHIu and CAPTICKu for the reader. -/
def Dev.captureRead (d : Dev) (q : Requester) (u : Nat) : Dev :=
  let k := 256 * q.id + u
  let tick := d.rdAt .EVT_CAPTICK_TICK u + 2 ^ 31 * d.rdAt .EVT_CAPTICK_VALID u
  ({ d with lat := { d.lat with
    capHi := d.lat.capHi.set 0 k (d.rdAt .EVT_CAPTHI u)
    capTick := d.lat.capTick.set 0 k tick } }).answer (d.rdAt .EVT_CAPTLO u)

/-- CAPTURE_READ (R457). -/
def execCaptureRead (req : Requester) (u : Fin 16) (s : State) : Host.Outcome State Fault Refusal := s.upd fun d => d.captureRead req u.val

/-! ### Counters (R458 to R460) -/

/-- CTn runs now. -/
def Dev.ctRuns (d : Dev) (n : Nat) : Bool := d.on .PCNT_CTRL_EN && !d.on .PCNT_CTRL_FRZ && d.onAt .PCNT_CFG_EN n

/-- COUNTER_FREEZE (R460). -/
def execCounterFreeze (req : Requester) (frozen : Bool) (s : State) : Host.Outcome State Fault Refusal :=
  s.upd fun d => d.ctlWrite req fun x => x.flag .PCNT_CTRL_FRZ frozen

/-- What counter `n` counts is a matter of time (the cycles in which a source is high) or of DRAM traffic that no command gives (read bursts,
write bursts, read-modify-writes). -/
def Dev.ctOpen (d : Dev) (n : Nat) : Bool :=
  (d.onAt .PCNT_CFG_LVLM n && decide (d.rdAt .PCNT_CFG_SRC n < 0x200))
    || (decide (0x294 ≤ d.rdAt .PCNT_CFG_SRC n) && decide (d.rdAt .PCNT_CFG_SRC n ≤ 0x296))

/-- COUNTER_OVERFLOW (R459): a running counter whose count is a matter of time or traffic carries out of bit 47; the others carry with the event that they count. -/
def execCounterOverflow (n : Fin 64) (s : State) : Host.Outcome State Fault Refusal :=
  s.upd fun d => d.ctl fun x =>
    if x.ctRuns n.val && x.ctOpen n.val && !x.ctChained n.val then
      let r := x.ctAdd n.val (2 ^ 48 - x.ct n.val)
      Dev.rises 64 r.2 r.1
    else x

/-- How far such a counter has come is a free value at each read (log entry 51). -/
def Dev.ctFree (d : Dev) (n : Nat) : Dev :=
  if d.ctRuns n && !d.ctChained n && d.ctOpen n then
    let r := d.draw (2 ^ 48)
    r.2.setCt n r.1
  else d

/-- A read of PCNT.CTLOn latches CTHIn for the reader. -/
def Dev.counterRead (d : Dev) (q : Requester) (n : Nat) : Dev :=
  let x := d.ctFree n
  ({ x with lat := { x.lat with ctHi := x.lat.ctHi.set 0 (256 * q.id + n) (x.rdAt .PCNT_CTHI n) } }).answer (x.rdAt .PCNT_CTLO n)

/-- COUNTER_READ (R460). -/
def execCounterRead (req : Requester) (n : Fin 64) (s : State) : Host.Outcome State Fault Refusal :=
  s.upd fun d => d.counterRead req n.val

/-! ### Tags (R461) -/

/-- TAG_RECORD (R461): the oldest tagged instruction's result lands or its segment ends; `ovr`: the activation overran or trapped before. A record that
finds 16 queued is dropped. -/
def execTagRecord (ovr : Bool) (s : State) : Host.Outcome State Fault Refusal :=
  s.upd fun d => d.ctl fun x => match x.evt.tagPend with
    | [] => x
    | r :: t =>
      let y := x.onEvt fun e => { e with tagPend := t }
      if 16 ≤ y.evt.tags.length then y.bump .PCNT_TAGSTAT_DROP 65535
      else
        let z := y.onEvt fun e => { e with tags := e.tags ++ [{ r with b := setBit r.b 1 (ovr || bitOf r.b 1) }] }
        z.wr .PCNT_TAGSTAT_QUEUED z.evt.tags.length

/-- A read of PCNT.TAGRECB returns and removes the oldest record; 0 with none. -/
def Dev.tagRead (d : Dev) : Dev :=
  match d.evt.tags with
  | [] => d.answer
  | r :: t => ((d.onEvt fun e => { e with tags := t }).wr .PCNT_TAGSTAT_QUEUED t.length).answer r.b

/-- TAG_RECORD_READ (R461). -/
def execTagRecordRead (s : State) : Host.Outcome State Fault Refusal := s.upd Dev.tagRead

/-! ### Bandwidth windows (R462) -/

/-- BANDWIDTH_WINDOW_END (R462): `bytes` moved through port `p` in the window. -/
def execBandwidthWindowEnd (p : Fin 16) (bytes : Nat) (s : State) : Host.Outcome State Fault Refusal :=
  s.upd fun d => d.ctl fun x =>
    if x.onAt .PCNT_BWCFG_EN p.val then
      let v := min (2 ^ 32 - 1) (bytes / 8)
      (x.wrAt .PCNT_BWLAST p.val v).wrAt .PCNT_BWPEAK p.val (max (x.rdAt .PCNT_BWPEAK p.val) v)
    else x

/-! ### Gangway (R463, R464) -/

/-- The clock of engine `e` runs (R114, R116). -/
def Dev.clockOn (d : Dev) (e : Nat) : Bool := decide ((if e < 8 then d.rdAt .CE_STAT_STATE e else d.rd .SE_STAT_STATE) = 1)

/-- The level of a Gangway signal (Table 20-5); none for a clock, a pulse of a tick or two, or a sampled bit, whose level at an instant the state does
not hold. Numbers that the table does not give are low. -/
def Dev.gwSignal (d : Dev) (sel : Nat) : Option Bool :=
  if sel < 0x200 then some (d.sourceHigh sel)
  else if sel < 0x230 then some ((d.leg ((sel - 0x200) / 2)).out (decide (sel % 2 = 0))).on
  else if sel < 0x248 then some (d.tripWire (sel - 0x230))
  else if 0x24B ≤ sel ∧ sel < 0x251 ∧ d.clockBall (sel - 0x24B) = .low then some false
  else if sel < 0x251 then none
  else if sel = 0x251 then some d.sys.warning
  else if sel = 0x252 then some (d.on .TWIN_STAT_CROSS)
  else if sel = 0x253 then some d.twin.twrOut
  else if 0x260 ≤ sel ∧ sel < 0x290 then none
  else if 0x290 ≤ sel ∧ sel < 0x2F0 then
    let n := (sel - 0x290) / 3
    match (sel - 0x290) % 3 with
    | 0 => some (d.conv.cmps.at {} n).bBelow
    | 1 => some (d.conv.cmps.at {} n).bAbove
    | _ => some (d.onAt .WCMP_STAT_L2 n)
  else some (decide (0x2F0 ≤ sel) && decide (sel ≤ 0x2F8) && d.clockOn (sel - 0x2F0))

/-- Ball GWk: its signal while EN = 1, low otherwise (R463). -/
def Dev.gwOut (d : Dev) (k : Nat) : Option Bool := if d.onAt .GWY_DSEL_EN k then d.gwSignal (d.rdAt .GWY_DSEL_SEL k) else some false

/-- What ball GWAk shows (R464, Table 22-3): a reset of the control domain leaves the ball unaffected; with the metrology seal it is high impedance (none). -/
def Dev.gwaNode (d : Dev) (k : Nat) : Option (Nat × Option Nat) :=
  if d.cus.isSealed then none else if d.sys.cdReset then d.sys.gwa.getD k none else d.gwaRoute k

/-! ### Bench mode (R465, R466) -/

/-- The first condition of bench mode that does not hold; 0 when all do. -/
def Dev.benchRefusal (d : Dev) : Nat :=
  if !d.on .GWY_BENCH_STRAP then 0x1
  else if d.on .PWM_CTRL_ARM then 0x2
  else if (List.range 32).any fun l => d.onAt .CLINK_STAT_RUNNING l && !d.onAt .CLINK_STAT_BLKD l then 0x3
  else if d.rd .SAF_STAT_ON ≠ 0 then 0x4
  else if [2, 3, 4, 6].contains (d.rd .TWIN_STAT_STATE) then 0x5
  else 0

/-- A write of 1 to GWY.BENCH.ENTER. -/
def Dev.benchEnter (d : Dev) : Dev :=
  let c := d.benchRefusal
  (d.wr .GWY_BENCH_REF c).when (decide (c = 0)) fun x => x.flag .GWY_BENCH_ON true

/-- BENCH_ENTER (R465). -/
def execBenchEnter (req : Requester) (s : State) : Host.Outcome State Fault Refusal := s.upd fun d => d.ctlWrite req Dev.benchEnter

/-- Bench mode ends with a control-domain reset. -/
def Dev.benchEnd (d : Dev) : Dev := if d.on .GWY_BENCH_ON then d.controlReset 0x5 else d

/-- BENCH_EXIT (R465): EXIT is written 1, or (`req` none) a condition has stopped holding. -/
def execBenchExit (req : Option Requester) (s : State) : Host.Outcome State Fault Refusal :=
  s.updRst fun d => match req with
    | some q => d.ctlWrite q Dev.benchEnd
    | none => d.ctl fun x => if x.benchRefusal ≠ 0 then x.benchEnd else x

/-! ### Boundary scan (R467) -/

/-- JTAG_INSTRUCTION (R467): outside bench mode an instruction that drives balls acts as BYPASS and sets JREF. -/
def execJtagInstruction (die : Fin 3) (op : JtagOp) (s : State) : Host.Outcome State Fault Refusal :=
  s.upd fun d =>
    let refused := drivesBalls op && !d.on .GWY_BENCH_ON
    let d1 := d.onEvt fun e => { e with tap := e.tap.set .idcode die.val (if refused then .bypass else op) }
    if refused && !d1.sys.cdReset then d1.flag .GWY_STAT_JREF true else d1

/-- IDCODE of a die (R467), 0 the control die: revision, part number, manufacturer, 1. -/
def idcode (die : Nat) : BitVec 32 :=
  BitVec.ofNat 32 (2 ^ 28 * (Config.dieRevision die).toNat + 2 ^ 12 * (0x9624 + die) + 2 * Config.maker.toNat + 1)

/-- What a die's TAP has selected to shift out, the first bit first: BYPASS's one bit or the 32 of IDCODE; none for a boundary-scan register. -/
def Dev.tapBits (d : Dev) (die : Nat) : Option (List Bool) :=
  match d.evt.tap.at .idcode die with
  | .bypass => some [false]
  | .idcode => some ((List.range 32).map (idcode die).getLsbD)
  | _ => none

/-! ### CE and SE registers (R114 to R116) -/

/-- A write of 1 to CE.TRAPn.VALID clears the record's VALID and COUNT. -/
def Dev.ceTrapClear (d : Dev) (n : Nat) : Dev := (d.flagAt .CE_TRAP_VALID n false).wrAt .CE_TRAP_COUNT n 0

/-- CE_TRAP_CLEAR (R114). -/
def execCeTrapClear (req : Requester) (n : Fin 8) (s : State) : Host.Outcome State Fault Refusal :=
  s.upd fun d => d.ctlWrite req fun x => x.ceTrapClear n.val

/-- A write of 1 to SE.TRAP.VALID. -/
def Dev.seTrapClear (d : Dev) : Dev := (d.flag .SE_TRAP_VALID false).wr .SE_TRAP_COUNT 0

/-- A write of `v` to CE.CLRn. -/
def Dev.ceClear (d : Dev) (n v : Nat) : Dev :=
  ((d.when (bitOf v 2) fun x => (x.wrAt .CE_ECC_DCOR n 0).wrAt .CE_ECC_ICOR n 0).when (bitOf v 1) fun x => x.wrAt .CE_HOLDCNT n 0).when
    (bitOf v 0) fun x => x.wrAt .CE_NFCNT n 0

/-- CE_CLEAR_ECC (R114). -/
def execCeClearEcc (req : Requester) (n : Fin 8) (s : State) : Host.Outcome State Fault Refusal :=
  s.upd fun d => d.ctlWrite req fun x => x.ceClear n.val 4

/-- CE_CLEAR_HOLD (R114). -/
def execCeClearHold (req : Requester) (n : Fin 8) (s : State) : Host.Outcome State Fault Refusal :=
  s.upd fun d => d.ctlWrite req fun x => x.ceClear n.val 2

/-- CE_CLEAR_NFCNT (R114). -/
def execCeClearNfcnt (req : Requester) (n : Fin 8) (s : State) : Host.Outcome State Fault Refusal :=
  s.upd fun d => d.ctlWrite req fun x => x.ceClear n.val 1

/-- A write of CE.DBGn.HALT (R115): ignored outside bench mode; the engine halts at its next issue cycle, or goes on. -/
def Dev.ceHalt (d : Dev) (n : Nat) (halt : Bool) : Dev :=
  if !d.on .GWY_BENCH_ON then d
  else
    let x := d.engine n
    let d1 := ((d.setEngine n { x with halted := halt, step := false }).flagAt .CE_DBG_HALT n halt).flagAt .CE_DBG_HALTED n halt
    d1.when x.running fun y => y.wrAt .CE_STAT_STATE n (if halt then 2 else 1)

/-- CE_HALT (R115). -/
def execCeHalt (req : Requester) (n : Fin 8) (halt : Bool) (s : State) : Host.Outcome State Fault Refusal :=
  s.upd fun d => d.ctlWrite req fun x => x.ceHalt n.val halt

/-- A write of 1 to CE.DBGn.STEP (R115). -/
def Dev.ceStep (d : Dev) (n : Nat) : Dev :=
  if d.on .GWY_BENCH_ON && (d.engine n).halted then d.setEngine n { d.engine n with step := true, stepCycle := none } else d

/-- CE_STEP (R115). -/
def execCeStep (req : Requester) (n : Fin 8) (s : State) : Host.Outcome State Fault Refusal := s.upd fun d => d.ctlWrite req fun x => x.ceStep n.val

/-- A write of 1 to bit 0 of SE.CLR. -/
def Dev.seClear (d : Dev) : Dev := (d.wr .SE_ECC_DCOR 0).wr .SE_ECC_ICOR 0

/-- SE_CLEAR_ECC (R116). -/
def execSeClearEcc (req : Requester) (s : State) : Host.Outcome State Fault Refusal := s.upd fun d => d.ctlWrite req Dev.seClear

end Sys2Proof.Machine
end

