-- ==== Sys2Proof/Machine/Supply.lean ====
section
/-!
DEFINITION. Machine/Supply.lean: input, supply outputs and monitors, early warning and hold-up, the system PLL, temperature limits (R427 to R435,
R440 to R447).
-/
namespace Sys2Proof.Machine

/-! ### Input (R427) -/

/-- The calendar has lost its count (R411): at the start it is loaded from TIME of the committed Tally slot, if there is one (log entry 170). -/
def Dev.calRestart (d : Dev) : Dev :=
  match d.on .FM_CALSTAT_CALV, d.cus.latest with
  | false, some (_, x) => (d.onFm fun f => { f with cal := x.time, calFrac := 0, calStopped := false }).flag .FM_CALSTAT_CALV true
  | _, _ => d

/-- The power die starts (R427, Table 21-2): soft start of the outputs, the hold-up charger; a start after a power-domain reset counts as a
power cycle (R408). Nothing starts while RESET_N or a thermal shutdown holds the part. -/
def Dev.powerStart (d : Dev) : Dev :=
  if d.sys.pinLong || d.sys.thermalHold || d.on .CAP_STAT_VINV then d
  else
    let d1 := ((d.flag .CAP_STAT_VINV true).life 0x000).when (d.on .CAP_HUP_EN) fun x => x.fareAsk 0 (x.fareOf 0)
    d1.calRestart.supplyStart

/-- VIN_VALID (R427). -/
def execVinValid (s : State) : Host.Outcome State Fault Refusal := s.upd Dev.powerStart

/-- VIN_LOW_RESET (R427): only while the early-warning comparator is not armed. -/
def execVinLowReset (s : State) : Host.Outcome State Fault Refusal :=
  s.updRst fun d => if d.on .CAP_STAT_ARMED then d else d.powerReset 0x7

/-- RESET_PIN (R472): the rising edge of RESET_N. A short pulse asks for a supervisor-fabric reset, behind a last crossing, unless one is under
way; the edge of a long one ends the power-domain reset it started. -/
def execResetPin (long : Bool) (s : State) : Host.Outcome State Fault Refusal :=
  s.upd fun d =>
    if long then (d.onSys fun x => { x with pinLong := false }).powerStart
    else if d.sys.sfPending.isSome || d.sys.pdPending.isSome then d
    else d.onSys fun x => { x with sfPending := some .resetPin }

/-! ### Outputs and monitors (R428, R429) -/

/-- DRAM has lost its contents (R428, R434). -/
def Dev.dramLose (d : Dev) : Dev := d.onSys fun x => { x with dramLost := true, dramLosses := x.dramLosses + 1 }

/-- SUPPLY_OUTPUT_OVERCURRENT (R428): output `out` (0 VDRV, 1 AUX3, 2 AUX5, 3 VDDQ) has been at its limit for 1 ms. -/
def execSupplyOutputOvercurrent (out : Fin 4) (s : State) : Host.Outcome State Fault Refusal :=
  s.updRst fun d =>
    if !d.bit .CAP_OUTSTAT_PG out.val then d
    else
      let d1 := if out.val = 3 then (d.controlReset 0x5).dramLose else d
      let d2 := d1.onSys fun x => { x with ocOff := out.val :: x.ocOff.erase out.val }
      ((d2.wrBit .CAP_OUTSTAT_OC out.val true).supplyOff out.val).raise 448

/-- SUPPLY_WINDOW_FAULT (R429, Table 19-3, R306): supply `n` has been outside its window for 10 µs; `low`: VDRV below 10.0 V. -/
def execSupplyWindowFault (n : Fin 16) (low : Bool) (s : State) : Host.Outcome State Fault Refusal :=
  s.updRst fun d => match n.val with
    | 1 => (d.flag .CAP_STAT_HUPRDY false).raise 448
    | 2 => (d.lockoutBoth 0x04 2).powerReset (if d.sys.warning then 0x2 else 0x7)
    | 3 => (d.lockoutBoth 0x04 3).controlReset 0x5
    | 4 => (d.lockoutBoth 0x04 4).controlReset 0x5
    | 5 => (d.lockoutBoth 0x04 5).controlReset 0x5
    | 6 => (d.lockoutBoth 0x04 6).controlReset 0x5
    | 7 => (d.lockoutBoth 0x04 7).powerReset 0x7
    | 8 => (d.lockoutBoth 0x04 8).powerReset 0x7
    | 9 => (d.lockoutBoth 0x04 9).powerReset 0x7
    | 14 => (d.raise 448).when low fun x => x.pumpDriver true
    | 15 => (d.raise 448).lockoutBoth 0x04 15
    | _ => d.raise 448

/-! ### Early warning and hold-up (R430 to R435) -/

/-- HOLD_UP_READY (R430, R432): HUP has reached 0.95 × VSET; the early-warning comparator is armed from the first time on. -/
def execHoldUpReady (s : State) : Host.Outcome State Fault Refusal :=
  s.upd fun d => (d.flag .CAP_STAT_HUPRDY true).when (d.on .CAP_STAT_VINV) fun x => x.flag .CAP_STAT_ARMED true

/-- HOLD_UP_READY_LOSS (R430). -/
def execHoldUpReadyLoss (s : State) : Host.Outcome State Fault Refusal := s.upd fun d => d.flag .CAP_STAT_HUPRDY false

/-- Every load but AUX5 is shed (R433, Table 12-3): fares of shed loads are released, pending requests refused, the control-domain reset
sequence starts, DRAM loses its contents, a hold-up measurement is abandoned. -/
def Dev.shed (d : Dev) : Dev :=
  let d1 := (d.pumpShed.flag .CAP_STAT_HBUSY false).dramLose.controlClear
  let d2 := [3, 1, 0].foldl Dev.supplyOff d1
  d2.each 23 fun x c => if (c = 13 ∨ c = 22) ∧ !x.onAt .CAP_CLS_PEND c then x else x.fareDrop c

/-- EARLY_WARNING (R432): VIN has fallen below LEVEL while the comparator is armed. The last crossing starts, unless one is under way. -/
def execEarlyWarning (s : State) : Host.Outcome State Fault Refusal :=
  s.updRst fun d =>
    if !d.on .CAP_STAT_ARMED then d
    else
      let d1 := (d.flag .CAP_STAT_PFW true).onSys fun x => { x with
        warning := true, sfPending := some (x.sfPending.getD .brownOut) }
      (d1.raise 450).shed

/-- EARLY_WARNING_RELEASE (R432): VIN has risen above LEVEL + HYS. Before the freeze the crossing stops and the shed outputs return; after it
the sequence runs on (R288). -/
def execEarlyWarningRelease (s : State) : Host.Outcome State Fault Refusal :=
  s.upd fun d =>
    let d1 := d.onSys fun x => { x with warning := false }
    if d1.sys.sfPending = some .brownOut ∧ d1.sys.pdPending = none ∧ !d1.cus.frozen then
      (d1.onSys fun x => { x with sfPending := none }).supplyStart
    else d1

/-- A measurement of the hold-up capacitor starts (R435): the charger pauses. None during an early warning. -/
def Dev.holdUpMeasure (d : Dev) : Dev := if d.on .CAP_STAT_HUPRDY && !d.sys.warning then (d.flag .CAP_STAT_HBUSY true).fareDrop 0 else d

/-- HOLD_UP_MEASURE (R435): at start-up and every 24 h (`req` none), or on CAP.CTRL.HTEST. -/
def execHoldUpMeasure (req : Option Requester) (s : State) : Host.Outcome State Fault Refusal :=
  s.upd fun d => match req with
    | some q => d.powerWrite q Dev.holdUpMeasure
    | none => d.holdUpMeasure

/-- The whole number nearest to `a / b`. -/
def nearest (a b : Nat) : Nat := (2 * a + b) / (2 * b)

/-- Stores a 16-bit result; a value that the field cannot hold is free (log entry 46). -/
def Dev.fit16 (d : Dev) (f : Fld) (v : Option Nat) : Dev :=
  match v with
  | some k => if k < 65536 then d.wr f k else let r := d.draw 65536; r.2.wr f r.1
  | none => let r := d.draw 65536; r.2.wr f r.1

/-- HOLD_UP_MEASURE_COMPLETE (R435): HUP fell by `dv` µV. C = 20 µC ÷ ΔV in 0.1 µF, E = ½ × C × (VSET² − 36 V²) in 0.1 mJ; VSET counts
0.5 V. HUPLOW: E below 18.75 mJ. -/
def execHoldUpMeasureComplete (dv : Nat) (s : State) : Host.Outcome State Fault Refusal :=
  s.upd fun d =>
    if !d.on .CAP_STAT_HBUSY then d
    else
      let v := d.rd .CAP_HUP_VSET
      let e := 25000 * (v * v - 144)
      let low := decide (dv = 0) || decide (v ≤ 12) || decide (2 * e < 375 * dv)
      let d1 := (d.fit16 .CAP_HUPC_C (if dv = 0 then none else some (nearest 200000000 dv))).fit16 .CAP_HUPC_E
        (if dv = 0 ∨ v < 12 then none else some (nearest e dv))
      let d2 := ((d1.flag .CAP_STAT_HBUSY false).flag .CAP_STAT_HUPLOW low).when (d1.on .CAP_HUP_EN) fun x => x.fareAsk 0 (x.fareOf 0)
      d2.when low fun x => x.raise 449

/-- VBAT_LOW (R446). While VIN is absent too the calendar's oscillator may stop, and CALV clears (R411): whether it stops is a free value (log entry
170). -/
def execVbatLow (s : State) : Host.Outcome State Fault Refusal :=
  s.upd fun d =>
    let d1 := d.flag .CAP_STAT_VBATL true
    if d.on .CAP_STAT_VINV then d1
    else
      let r := d1.draw 2
      r.2.when (decide (r.1 = 1)) fun x => x.flag .FM_CALSTAT_CALV false

/-! ### Clocks (R440 to R444) -/

/-- The reference frequency that CKSEL selects, in MHz (Table 19-5); none where reserved. -/
def refMHz : Nat → Option Nat
  | 0 => some 25
  | 1 => some 10
  | 2 => some 20
  | 3 => some 25
  | 4 => some 40
  | 5 => some 50
  | _ => none

/-- N = 3,200 MHz ÷ fPD, with the pre-stage at ×1, ×2 or ÷2 (R440). -/
def pllN (f pre : Nat) : Nat := if pre = 1 then 1600 / f else if pre = 2 then 6400 / f else 3200 / f

/-- CLKOUTk (R445): its frequency as a fraction of kHz; none while it does not run or CKSEL is reserved. The Tide comes once a period of ticks of
2.5 ns. -/
def Dev.clkout (d : Dev) (k : Nat) : Option (Nat × Nat) :=
  let n := d.rdAt .CLK_COUT_DIV k
  if !d.onAt .CLK_COUT_EN k then none
  else match d.rdAt .CLK_COUT_SRC k with
    | 0 => some (400000, n)
    | 1 => some (100000, n)
    | 2 => (refMHz d.straps.cksel).map fun f => (1000 * f, n)
    | _ => some (400000, d.rd .TIDE_PERIOD_ACT * n)

/-- PLL_LOCK (R442): the first lock after a reset of the supervisor fabric releases the dividers and fixes the Tide phase. -/
def execPllLock (s : State) : Host.Outcome State Fault Refusal :=
  s.upd fun d => match refMHz d.straps.cksel with
    | none => d
    | some f =>
      let d1 := (d.flag .CLK_STAT_LOCK true).bump .CLK_LOCKCNT 65535
      if d1.rd .CLK_NDIV = 0 then (d1.wr .CLK_NDIV (pllN f (d1.rd .CLK_CFG_PRE))).flag .CLK_STAT_PHFIX true else d1

/-- REFERENCE_LOSS (R443). -/
def execReferenceLoss (s : State) : Host.Outcome State Fault Refusal :=
  s.upd fun d => (((d.flag .CLK_STAT_REFL true).flag .CLK_STAT_HOLD true).flag .CLK_STAT_PHFIX false).raise 452

/-- REFERENCE_RETURN (R443). -/
def execReferenceReturn (s : State) : Host.Outcome State Fault Refusal := s.upd fun d => d.flag .CLK_STAT_HOLD false

/-- TIDE_SLIP (R444): a wrap of the twin-alignment DLL is counted. -/
def execTideSlip (s : State) : Host.Outcome State Fault Refusal := s.upd fun d => d.bump .CLK_SLIP (2 ^ 32 - 1)

/-! ### Temperature (R447, Table 19-7) -/

/-- THERMAL_SHUTDOWN: a junction at 150 °C; the early-warning path and the last crossing, then a power-domain reset. -/
def execThermalShutdown (s : State) : Host.Outcome State Fault Refusal :=
  s.updRst fun d =>
    let d1 := ((d.flag .CAP_STAT_TSD true).raise 458).onSys fun x => { x with
      thermalHold := true, pdPending := some (x.pdPending.getD .supply) }
    if d1.sys.sfPending.isSome then d1 else d1.shed

/-- THERMAL_SHUTDOWN_RESTART: every sensor reads below 130 °C. -/
def execThermalShutdownRestart (s : State) : Host.Outcome State Fault Refusal :=
  s.upd fun d => (d.onSys fun x => { x with thermalHold := false }).powerStart

/-- The hottest of a die's four sensors, in 1/16 °C (die 0 control, 1 supervisor, 2 power). -/
def Dev.hottest (d : Dev) (die : Nat) : Int :=
  (List.range 4).foldl (fun m k => max m (toSigned 20 (d.rdAt .FM_SEN_VALUE (4 * die + k)))) (-(2 ^ 19))

/-- The firmware acts on a temperature difference: log source 0x0210, fares of unused ports released, no Gangway output; scrubbing and
checkpoints wait. DATA and LVL of the entry are the firmware's own (log entry 42). -/
def Dev.diffAct (d : Dev) : Dev :=
  let r := d.draw 16
  let q := r.2.draw (2 ^ 64)
  let d1 := (q.2.onFm fun f => { f with diffAct := true, diffIn := 0 }).logAsk { src := 0x210, lvl := r.1, fw := true, data := q.1 }
  let d2 := d1.each 4 fun x p => x.when (!x.onAt .ETH_CTRL_EN p) fun y => y.fareDrop (16 + p)
  (d2.each 8 fun x k => x.flagAt .GWY_DSEL_EN k false).each 2 fun x k => x.flagAt .GWY_ASEL_EN k false

/-- TEMPERATURE_DIFFERENCE_CHECK: once per second. -/
def execTemperatureDifferenceCheck (s : State) : Host.Outcome State Fault Refusal :=
  s.upd fun w => w.firmware fun d =>
    let p := d.hottest 2
    let lo := min (d.hottest 0) (d.hottest 1)
    let hi := max (d.hottest 0) (d.hottest 1)
    let exceed := decide (560 < p - lo)
    let other := decide (80 ≤ hi - p)
    let inside := decide (p - lo ≤ 480) && !other
    if d.fm.diffAct then
      let n := if inside then d.fm.diffIn + 1 else 0
      d.onFm fun f => if 60 ≤ n then { f with diffAct := false, diffIn := 0, diffOver := 0 } else { f with diffIn := n }
    else
      let n := if exceed then d.fm.diffOver + 1 else 0
      let d1 := d.onFm fun f => { f with diffOver := min n 10 }
      if 10 ≤ n || other then d1.diffAct else d1

end Sys2Proof.Machine
end

