-- ==== Sys2Proof/Machine/Ferryman.lean ====
section
/-!
DEFINITION. Machine/Ferryman.lean: boot and watchdog, host queues, sensors, event log, lifetime counters, calendar, storage, images and
attestation (R399 to R426).
-/
namespace Sys2Proof.Machine

/-! ### Images (R417 to R419) -/

/-- Offset and size of an image class's region in a bank (Table 18-9). -/
def imageRegion : Nat → Nat × Nat
  | 0 => (0, 0x400000)
  | 1 => (0x400000, 0x1000000)
  | 2 => (0x1400000, 0x200000)
  | 3 => (0x1600000, 0x400000)
  | _ => (0x1A00000, 0x10000)

/-- Address of the image of class `c` in bank `b` (R413, R418). -/
def imageAt (c b : Nat) : Nat := flashBase + 0x2000000 * b + (imageRegion c).1

/-- Payload length, anti-rollback index and value of the image header at `a` (Table 18-8). -/
def imageLen (m : List Host.Cell) (a : Nat) : Nat := memNat m (a + 0x18) 4
def imageIdx (m : List Host.Cell) (a : Nat) : Nat := memNat m (a + 0x10) 1
def imageVal (m : List Host.Cell) (a : Nat) : Nat := memNat m (a + 0x14) 4

/-- IMGD: the first 32 bytes of HD (R417). -/
def imageDigest (m : List Host.Cell) (a : Nat) : List Byte := (shake256 64 (memBytes m a 256)).take 32

/-- The fused digest number `k` (0 GROOT, 1 OROOT, 2 SAUTH, 3 MAUTH; R416). -/
def fuseDigest (k : Nat) : List Byte := (List.range 8).flatMap fun i => leBytes 4 (Config.keyDigest (8 * k + i)).toNat

/-- Anti-rollback counter `i` of class `c` (R421). -/
def Dev.rollback (d : Dev) (c i : Nat) : Nat := d.fm.rollback.at 0 (64 * c + i)

/-- ARVAL of the image at `a` reaches its class's counter. -/
def Dev.rollbackOk (d : Dev) (m : List Host.Cell) (c a : Nat) : Bool := decide (d.rollback c (imageIdx m a % 64) ≤ imageVal m a)

/-- The active bank of class `c`. -/
def Dev.activeBank (d : Dev) (c : Nat) : Nat := bit01 (d.bit .FM_ACTSEL c)

/-- The result of a verification (R419, Table 18-11): the first of its conditions that fails; `sigOk`: SIG verifies under the class's key
(log entry 4). A MGMT payload is at most 448 KiB (R399). -/
def Dev.imageCode (d : Dev) (m : List Host.Cell) (c b : Nat) (sigOk : Bool) : Nat :=
  let a := imageAt c b
  let n := imageLen m a
  if memNat m a 4 ≠ 0x4D495653 ∨ memNat m (a + 4) 2 ≠ 1 ∨ memNat m (a + 6) 1 ≠ c then 0x01
  else if n % 64 ≠ 0 ∨ (imageRegion c).2 < 0x200 + n ∨ (c = 0 ∧ 458752 < n) then 0x02
  else if !sigOk then 0x03
  else if shake256 32 (memBytes m (a + 0x200) n) ≠ memBytes m (a + 0x28) 32 then 0x04
  else if !d.rollbackOk m c a || decide (64 ≤ imageIdx m a) then 0x05
  else if c = 0 ∧ (shake256 32 (memBytes m (a + 0x48) 57) ≠ fuseDigest 2 ∨ shake256 32 (memBytes m (a + 0x81) 57) ≠ fuseDigest 3) then 0x06
  else 0x00

/-! ### Boot and watchdog (R399 to R401) -/

/-- The bank that the boot ROM tries first, and TRIES after it (R400): the third boot of an unconfirmed image changes FM.ACTSEL when the other
bank's image passes its anti-rollback check. -/
def Dev.bootChoice (d : Dev) (m : List Host.Cell) : Nat × Nat :=
  let b := d.activeBank 0
  if d.fm.confirmed.at false b then (b, d.rd .FM_STAT_TRIES)
  else
    let n := min 3 (d.rd .FM_STAT_TRIES + 1)
    if n = 3 ∧ d.rollbackOk m 0 (imageAt 0 (1 - b)) then (1 - b, bit01 !(d.fm.confirmed.at false (1 - b))) else (b, n)

/-- The boot ROM hands over to the payload of bank `b`. -/
def Dev.bootFrom (d : Dev) (m : List Host.Cell) (b : Nat) : List (Nat × List Byte) × Dev :=
  let n := imageLen m (imageAt 0 b)
  let d1 := ((d.onFm fun f => { f with booted := true }).flag .FM_STAT_BOOTB (b = 1)).goodWords ferrymanSram (ferrymanSram + n)
  ([(ferrymanSram, memBytes m (imageAt 0 b + 0x200) n)], d1.setEngine 10 { pc := ferrymanSram })

/-- BOOT (R399, R400): the first good MGMT image of the chosen bank and the other one; `sigA`, `sigB`: the signatures verify. With both bad, BOOTF,
the event, and the control domain is held. -/
def execBoot (sigA sigB : Bool) (s : State) : Host.Outcome State Fault Refusal :=
  s.updAll fun m d =>
    if d.fm.booted || d.vcs.ferry.halted then ([], d)
    else
      let c := d.bootChoice m
      let d1 := ((((d.wr .FM_STAT_TRIES c.2).wrBit .FM_ACTSEL 0 (c.1 = 1)).flag .FM_WDTCFG_EN true).wr .FM_WDTCFG_PER 100)
      let ok := fun b => decide (d1.imageCode m 0 b (if b = 0 then sigA else sigB) = 0)
      if ok c.1 then d1.bootFrom m c.1
      else if ok (1 - c.1) then d1.bootFrom m (1 - c.1)
      else
        let d2 := { d1 with vcs := { d1.vcs with ferry := { d1.vcs.ferry with halted := true } } }
        let d3 := ((d2.flag .FM_STAT_BOOTF true).raise 456).flag .FM_CDCTL_HOLD true
        ([], if d3.sys.cdReset then d3 else (d3.controlReset 0x5).flag .FM_CDCTL_HOLD true)

/-- The watchdog expires (R401): the event, the lifetime count, a reset of the Ferryman domain of kind 0x4. -/
def Dev.watchdog (d : Dev) : Dev := if d.on .FM_WDTCFG_EN then ((d.raise 457).life 0x018).ferrymanReset else d

/-- WATCHDOG_KICK (R401): any value but 0x0000_C35A makes it expire at once. -/
def execWatchdogKick (req : Requester) (value : BitVec 32) (s : State) : Host.Outcome State Fault Refusal :=
  s.updRst fun d => d.byFerryman req fun x => if value = 0xC35A then x else x.watchdog

/-- WATCHDOG_EXPIRY (R401). -/
def execWatchdogExpiry (s : State) : Host.Outcome State Fault Refusal := s.updRst Dev.watchdog

/-! ### Host command queues (R403) -/

/-- A write of `v` to FM.HQCTL. -/
def Dev.hostPush (d : Dev) (v : Nat) : Dev :=
  if !bitOf v 31 then d
  else
    let q := v % 16
    let r := d.push q (d.rd .FM_HQLO + 2 ^ 32 * d.rd .FM_HQHI)
    (r.2.wr .FM_HQSTAT_STATUS (d.pushCode q)).wr .FM_HQSTAT_SEQ r.1

/-- HOST_QUEUE_PUSH (R403). -/
def execHostQueuePush (req : Requester) (value : BitVec 32) (s : State) : Host.Outcome State Fault Refusal :=
  s.upd fun d => d.byFerryman req fun x => x.hostPush value.toNat

/-! ### Sensors (R404, R405) -/

/-- Sensor `n` measures a temperature (Table 18-3). -/
def tempSensor (n : Nat) : Bool := decide (n < 12) || n == 29 || n == 30

/-- A sensor's value from its 20 bits (R404). -/
def sensorValue (n v : Nat) : Int := if tempSensor n then toSigned 20 v else (v % 2 ^ 20 : Nat)

/-- The alarm limits of a sensor in its own units (R405). -/
def Dev.sensorLimits (d : Dev) (n : Nat) : Int × Int :=
  let lim := fun v => if tempSensor n then 4 * toSigned 16 v else ((4 * v : Nat) : Int)
  (lim (d.rdAt .FM_SLIM_HI n), lim (d.rdAt .FM_SLIM_LO n))

/-- An alarm rises after 3 consecutive samples beyond its limit and clears after 3 at least 8 units inside (R405). -/
def alarmNext (old : Bool) (beyond inside : Nat) : Bool := if 3 ≤ beyond then true else if 3 ≤ inside then false else old

/-- One sample of sensor `n`. -/
def Dev.sample (d : Dev) (n v : Nat) : Dev :=
  if n = 31 then d
  else
    let x := sensorValue n v
    let l := d.sensorLimits n
    let r := d.fm.sensors.at {} n
    let count := fun (c : Bool) k => if c then min 3 (k + 1) else 0
    let r1 : SensorRun := {
      hi := count (decide (l.1 < x)) r.hi
      lo := count (decide (x < l.2)) r.lo
      hiOk := count (decide (x ≤ l.1 - 8)) r.hiOk
      loOk := count (decide (l.2 + 8 ≤ x)) r.loOk }
    let hi := alarmNext (d.onAt .FM_SEN_HIAL n) r1.hi r1.hiOk
    let lo := alarmNext (d.onAt .FM_SEN_LOAL n) r1.lo r1.loOk
    let rises := bit01 (hi && !d.onAt .FM_SEN_HIAL n) + bit01 (lo && !d.onAt .FM_SEN_LOAL n)
    let d1 := (d.onFm fun f => { f with sensors := f.sensors.set {} n r1 }).wrAt .FM_SEN_VALUE n (v % 2 ^ 20)
    let d2 := ((d1.flagAt .FM_SEN_VALID n true).flagAt .FM_SEN_HIAL n hi).flagAt .FM_SEN_LOAL n lo
    let d3 := d2.each rises fun y _ => y.raise 455
    -- the firmware stops the converter for a junction temperature (Table 19-7); the command's VALUE is its own (log entry 42)
    d3.when (decide (n < 12) && hi && !d.onAt .FM_SEN_HIAL n) fun z => z.firmware fun y =>
      let q := y.draw (2 ^ 32)
      q.2.post 0 0x06 0 q.1

/-- What else the samples feed: HUP (Table 19-9), the pump's driver supply (R386), the budget check (R439). -/
def Dev.sampled (d : Dev) : Dev :=
  let d1 := d.wr .CAP_HUPV (min 65535 (d.rdAt .FM_SEN_VALUE 13))
  let d2 := d1.when (decide (10000 ≤ d1.rdAt .FM_SEN_VALUE 26)) fun x => x.pumpDriver false
  let exceed := decide (25 * d2.rd .CAP_BUDGET_FARES < d2.rdAt .FM_SEN_VALUE 28)
  let n := if exceed then min 3 (d2.fm.overRun + 1) else 0
  let d3 := d2.onFm fun f => { f with overRun := n }
  d3.when (decide (n = 3) && decide (d2.fm.overRun ≠ 3)) fun x => ((x.flag .CAP_STAT_OVB true).bump .CAP_CNT_OVB 65535).raise 451

/-- SENSOR_SAMPLE (R404): the samples of sensors 0, 1, … of one millisecond. -/
def execSensorSample (values : List (BitVec 20)) (s : State) : Host.Outcome State Fault Refusal :=
  s.upd fun d => (((values.take 32).foldl (fun (x : Nat × Dev) v => (x.1 + 1, x.2.sample x.1 v.toNat)) (0, d)).2).sampled

/-! ### Event log (R406, R407) -/

/-- A write of 1 to FM.LOGWCTL.GO: a firmware entry from the LOGW registers. -/
def Dev.logAskFirmware (d : Dev) : Dev :=
  d.logAsk { src := d.rd .FM_LOGWSRC_SRC, lvl := d.rd .FM_LOGWSRC_LVL, fw := true, data := d.rd64 .FM_LOGWD0 .FM_LOGWD1 }

/-- LOG_WRITE (R406): a firmware entry. -/
def execLogWrite (req : Requester) (s : State) : Host.Outcome State Fault Refusal :=
  s.upd fun d => d.byFerryman req Dev.logAskFirmware

/-- Entries that stand against the limits of R407 for source `src`: one of that source in the last 1 ms, or 2,000 in the last second, among those that
`p` names. -/
def Dev.logLimited (d : Dev) (src : Nat) (p : LogEntry → Bool) : Bool :=
  let recent := fun us => d.fm.log.filter fun e => p e.2 && decide (e.2.time ≤ d.now) && decide (d.now - e.2.time < us)
  ((recent 1000).any fun e => decide (e.2.src = src)) || decide (2000 ≤ (recent 1000000).length)

/-- The cause of a pending entry exceeds a rate limit (R407): certainly, where the frames counted since show it; by the command's word `beyond`, where the
calendar allows it (log entry 169). -/
def Dev.logExceeds (d : Dev) (src : Nat) (beyond : Bool) : Bool :=
  let frames := fun (e : LogEntry) => !d.sys.cdReset && decide (e.tide ≤ d.tide) && decide ((d.tide - e.tide + 1) * d.rd .TIDE_PERIOD_ACT ≤ 400000)
  d.logLimited src frames || (beyond && d.logLimited src fun _ => true)

/-- LOG_ENTRY (R406, R407): the writer takes the oldest pending cause; one beyond a rate limit is counted as lost and marks the next entry. -/
def execLogEntry (beyond : Bool) (s : State) : Host.Outcome State Fault Refusal :=
  s.upd fun d => match d.fm.logPend with
    | [] => d
    | r :: t =>
      if d.logExceeds r.src beyond then (d.onFm fun f => { f with logPend := t, logLost := true }).bump .FM_LOGLOST (2 ^ 32 - 1)
      else
        let n := d.rd .FM_LOGHEAD
        let e : LogEntry := { time := d.now, tide := d.tide, seq := n, src := r.src, lvl := r.lvl
                              flags := bit01 d.fm.logLost + 2 * bit01 r.fw, data := r.data }
        (d.onFm fun f => { f with logPend := t, logLost := false, log := f.log.set {} (n % 16384) e }).wr .FM_LOGHEAD ((n + 1) % 2 ^ 32) |>.nvWrote

/-! ### Lifetime counters (R408 to R410) -/

/-- Adds to a 4-byte rainflow count, which saturates (R408, R410). -/
def Dev.life32 (d : Dev) (off a : Nat) : Dev :=
  d.onFm fun f => { f with life := f.life.set 0 off (satAdd (2 ^ 32 - 1) (f.life.at 0 off) a) }

/-- The bin of a temperature in 1/16 °C (R409). -/
def tempBin (t : Int) : Nat := if t < -320 then 0 else if 1920 ≤ t then 15 else (1 + (t + 320) / 160).toNat

/-- The histogram offset of a cycle between two reversals of die `k` (R410). -/
def rainOffset (k : Nat) (a b : Int) : Nat :=
  let r := min 15 ((a - b).natAbs / 64)
  let m := (min 7 (max 0 ((a + b + 1280) / 800))).toNat
  0x280 + 512 * k + 4 * (8 * r + m)

/-- Four-point counting on the residue's end (R410): closed cycles leave it; each counts two half-cycles at the offset listed. -/
def rainClose (k : Nat) : Nat → List Int → List Nat → List Int × List Nat
  | 0, l, o => (l, o)
  | n + 1, d :: c :: b :: a :: t, o =>
    if (b - c).natAbs ≤ (a - b).natAbs ∧ (b - c).natAbs ≤ (c - d).natAbs then rainClose k n (d :: a :: t) (rainOffset k b c :: o)
    else (d :: c :: b :: a :: t, o)
  | _ + 1, l, o => (l, o)

/-- A reversal `v` of die `k`: with 32 held, the two oldest go first, each counted as a half-cycle. -/
def Dev.reversal (d : Dev) (k : Nat) (v : Int) : Dev :=
  let l := d.fm.residue.at [] k
  let d1 := if 32 ≤ l.length then
      (d.life32 (rainOffset k (l.getD 0 0) (l.getD 1 0)) 1).life32 (rainOffset k (l.getD 1 0) (l.getD 2 0)) 1 else d
  let l1 := if 32 ≤ l.length then l.drop 2 else l
  let r := rainClose k 32 (v :: l1.reverse) []
  r.2.foldl (fun x o => x.life32 o 2) (d1.onFm fun f => { f with residue := f.residue.set [] k r.1.reverse })

/-- The hottest sensor of die `k` reads `t` this second (R410): a turn of at least 1 K from the extreme is a reversal. -/
def Dev.rainflow (d : Dev) (k : Nat) (t : Int) : Dev :=
  let r := d.fm.rain.at {} k
  let set := fun (x : Dev) (y : Rain) => x.onFm fun f => { f with rain := f.rain.set {} k y }
  if !r.seen then set d { hi := t, lo := t, seen := true }
  else if r.up ≠ some false ∧ t ≤ r.hi - 16 then set (d.reversal k r.hi) { hi := t, lo := t, up := some false, seen := true }
  else if r.up ≠ some true ∧ r.lo + 16 ≤ t then set (d.reversal k r.lo) { hi := t, lo := t, up := some true, seen := true }
  else set d { r with hi := max r.hi t, lo := min r.lo t }

/-- LIFETIME_SECOND (R408 to R410, R480): the seconds, the bin and the rainflow state of each die; the ages of the control-domain resets. -/
def execLifetimeSecond (s : State) : Host.Outcome State Fault Refusal :=
  s.upd fun d =>
    let d1 := (d.nvWrote.life 0x008).onSys fun x => { x with cdResets := (x.cdResets.map (· + 1)).filter (· < 600) }
    d1.each 3 fun x k => (x.life (0x100 + 128 * k + 8 * tempBin (x.hottest k))).rainflow k (x.hottest k)

/-- The lifetime partition's bytes (Table 18-5): 16 pages of 4 KiB. -/
def Dev.lifeBytes (d : Dev) (page : Nat) : List Byte :=
  if page ≠ 0 then List.replicate 4096 0
  else
    ((List.range 80).flatMap fun i => leBytes 8 (d.fm.life.at 0 (8 * i)))
      ++ ((List.range 384).flatMap fun i => leBytes 4 (d.fm.life.at 0 (0x280 + 4 * i)))
      ++ ((List.range 3).flatMap fun k => (List.range 32).flatMap fun i => leBytes 2 (ofSigned 16 ((d.fm.residue.at [] k).getD i 0)))
      ++ List.replicate 1728 0

/-! ### Calendar (R411, R412) -/

/-- 2200-01-01 00:00:00 in µs since 2000-01-01. -/
def calendarEnd : Nat := 73049 * 86400 * 1000000

/-- The calendar reaches its end: it stops (R411). -/
def Dev.calEnd (d : Dev) : Dev :=
  ((d.onFm fun f => { f with cal := calendarEnd, calFrac := 0, calStopped := true }).flag .FM_CALSTAT_END true).raise 317

/-- Loads the calendar (R412): a move of 1 s or more sets STEP here and in the open interval, and raises the event. -/
def Dev.calLoad (d : Dev) (v : Nat) : Dev :=
  let step := decide (1000000 ≤ ((v : Int) - d.fm.cal).natAbs)
  let d1 := d.onFm fun f => { f with cal := v, calFrac := 0, calStopped := false }
  let d2 := d1.when step fun x => ((x.flag .FM_CALSTAT_STEP true).raise 316).ivFlagAll 7
  if calendarEnd ≤ v then d2.calEnd else d2

/-- CALENDAR_SET (R412). -/
def execCalendarSet (req : Requester) (s : State) : Host.Outcome State Fault Refusal :=
  s.upd fun d => d.byFerryman req fun x => x.calLoad (x.rd64 .FM_CALSETLO .FM_CALSETHI)

/-- CALENDAR_END (R411): the calendar reaches 2200 in the frame that is open; while the control domain is in reset no frame shows the time (log entry
169). -/
def execCalendarEnd (s : State) : Host.Outcome State Fault Refusal :=
  s.upd fun d =>
    let soon := d.sys.cdReset || decide (calendarEnd ≤ d.now + d.rd .TIDE_PERIOD_ACT / 400 + 1)
    if d.fm.calStopped || !soon then d else d.calEnd

/-- A read of FM.CALLO latches CALHI for the reader (R426). -/
def Dev.calRead (d : Dev) (q : Requester) : Dev :=
  { d with lat := { d.lat with calHi := d.lat.calHi.set 0 q.id (d.now / 2 ^ 32 % 2 ^ 32) } }.answer (d.now % 2 ^ 32)

/-- CALENDAR_READ (R426). -/
def execCalendarRead (req : Requester) (s : State) : Host.Outcome State Fault Refusal := s.upd fun d => d.calRead req

/-- CALENDAR_DISCIPLINE (R412): the firmware's once a second, with UTC in µs since 2000: a step for an offset of 1 s or more, else a slew. The trim
that the firmware chooses is free within its range and sign (log entry 47). -/
def execCalendarDiscipline (utc : BitVec 64) (s : State) : Host.Outcome State Fault Refusal :=
  s.upd fun w => w.firmware fun d =>
    if !d.on .ETH_PTPCTL_LOCKED then d
    else
      let off := (utc.toNat : Int) - d.fm.cal
      let d1 :=
        if 1000000 ≤ off.natAbs then d.calLoad utc.toNat
        else if off = 0 then d
        else
          let r := d.draw 5001
          r.2.wr .FM_CALTRIM (ofSigned 16 (if 0 < off then (r.1 : Int) else -(r.1 : Int)))
      d1.flag .FM_CALSTAT_DISC true

/-! ### Storage (R413 to R415) -/

/-- The images of the flash range are new: not confirmed (R421). -/
def Dev.flashChanged (d : Dev) (off n : Nat) : Dev :=
  d.each 10 fun x k =>
    let a := 0x2000000 * (k % 2) + (imageRegion (k / 2)).1
    if overlaps off n a (imageRegion (k / 2)).2 then x.onFm fun f => { f with confirmed := f.confirmed.set false k false } else x

/-- The banks that a program or erase of `n` bytes at `off` keeps busy. -/
def Dev.flashStart (d : Dev) (off n : Nat) : Dev :=
  (d.each 2 fun x b => if overlaps off n (0x2000000 * b) 0x2000000 then
    x.onFm fun f => { f with flashBusy := f.flashBusy.set false b true } else x).flashChanged off n

/-- XSPI_COMMAND (R413): FM.XSCMD takes the command; a program or erase changes the 64 MiB of flash. What an erased byte reads is not said: a free
value (log entry 48). -/
def execXspiCommand (req : Requester) (value : BitVec 32) (op : FlashOp) (s : State) : Host.Outcome State Fault Refusal :=
  s.updM fun _ d =>
    if req ≠ .ferryman then ([], d.busError)
    else
      let d1 := d.answer.wr .FM_XSCMD value.toNat
      match op with
      | .other => ([], d1)
      | .program off data =>
        let l := data.take (0x4000000 - off)
        ([(flashBase + off, l)], d1.flashStart off l.length)
      | .erase off len =>
        let n := min len (0x4000000 - off)
        ([(flashBase + off, (List.range n).map fun k => Config.freeBits 8 (d1.fresh + k))],
          { d1 with fresh := d1.fresh + n }.flashStart off n)

/-- XSPI_OPERATION_COMPLETE (R413). -/
def execXspiOperationComplete (bank : Fin 2) (s : State) : Host.Outcome State Fault Refusal :=
  s.upd fun d => d.onFm fun f => { f with flashBusy := f.flashBusy.set false bank.val false }

/-- The bytes 0x0100 to 0x04FF of every node record that are not zero (R415). -/
def Dev.checkpointData (m : List Host.Cell) (d : Dev) : Store Nat (BitVec 8) :=
  m.foldl (fun t c =>
    let o := c.1 - d.nodeBase
    if d.nodeBase ≤ c.1 ∧ o < 0x4000 * d.nodeCount ∧ 0x100 ≤ o % 0x4000 ∧ o % 0x4000 < 0x500 then
      Store.set t 0 (1024 * (o / 0x4000) + (o % 0x4000 - 0x100)) c.2 else t) []

/-- The word at `a` is part of a checkpoint (R415). -/
def Dev.inCheckpoint (d : Dev) (a : Nat) : Bool :=
  let o := a - d.nodeBase
  decide (d.nodeBase ≤ a) && decide (o < 0x4000 * d.nodeCount) && decide (0x100 ≤ o % 0x4000) && decide (o % 0x4000 < 0x500)

/-- The checkpoint of the day is due (R415): it is HOUR:MIN UTC. -/
def Dev.checkpointDue (d : Dev) : Bool :=
  d.on .FM_CKPCFG_EN && decide (d.now / 60000000 % 1440 = 60 * d.rd .FM_CKPCFG_HOUR + d.rd .FM_CKPCFG_MIN)
    && decide (d.fm.ckptDay ≠ d.now / 86400000000 + 1)

/-- CHECKPOINT (R415): at HOUR:MIN each day the firmware writes the slot that does not hold the newer valid checkpoint; not `whole`: power is cut while it
writes, and the slot is invalid (R425). None while a temperature difference holds them back (R447). A bad word halts the eMMC's channel (R365). -/
def execCheckpoint (whole : Bool) (s : State) : Host.Outcome State Fault Refusal :=
  s.updR fun m d0 =>
    if !d0.fm.booted || !d0.checkpointDue || d0.fm.diffAct || d0.sys.cdReset then d0
    else
      let r := (d0.onFm fun f => { f with ckptDay := d0.now / 86400000000 + 1 }).dmaReads 7 d0.inCheckpoint
      let d := r.2
      let whole := whole && r.1
      let newest := d.newestCheckpoint
      let k := match newest with
        | some (i, _) => 1 - i
        | none => 0
      let c : Checkpoint := if whole then
          { valid := true, ntsize := d.rd .BERTH_CFG_NTSIZE, ckseq := ((newest.map fun x => x.2.ckseq).getD 0) + 1, time := d.now
            data := d.checkpointData m } else {}
      let d1 := (d.onFm fun f => { f with slots := f.slots.set {} k c }).when whole fun x =>
        x.wr .FM_CKPSTAT_COUNT ((x.rd .FM_CKPSTAT_COUNT + 1) % 65536)
      d1.flag .FM_CKPSTAT_SLOT (decide (k = 1))

/-! ### Updates (R419 to R423) -/

/-- UPDSTAT.PEND: a verified image awaits ACT. -/
def Dev.pendSync (d : Dev) : Dev := d.flag .FM_UPDSTAT_PEND ((List.range 5).any fun c => (d.fm.pendBank.at none c).isSome)

/-- A write of 1 to FM.UPDCTL.VERIFY; none while a verification or a copy runs (R423). -/
def Dev.imageVerify (d : Dev) : Dev :=
  if d.on .FM_UPDSTAT_BUSY then d
  else (d.onFm fun f => { f with verifying := some (d.rd .FM_UPDCFG_CLS, d.rd .FM_UPDCFG_BANK) }).flag .FM_UPDSTAT_BUSY true

/-- IMAGE_VERIFY (R419). -/
def execImageVerify (req : Requester) (s : State) : Host.Outcome State Fault Refusal := s.upd fun d => d.byFerryman req Dev.imageVerify

/-- The entry records of engine `e` in a section table at `p` (Tables 4-8 and 18-8, R417). -/
def sectionEntries (m : List Host.Cell) (p k e : Nat) : List EntryRec :=
  let t := p + 16 * k
  (List.range (memNat m (t + 12) 2)).map fun i =>
    let a := p + memNat m (t + 8) 4 + 72 * i
    { engine := e, entry := memNat m a 4, nseg := memNat m (a + 4) 1, profile := memNat m (a + 5) 1
      counts := (List.range 16).map fun j => memNat m (a + 8 + 4 * j) 4 }

/-- The code of section `k` in a section table at `p`: at most 32 KiB. -/
def sectionCode (m : List Host.Cell) (p k : Nat) : List Byte :=
  memBytes m (p + memNat m (p + 16 * k) 4) (min 0x8000 (memNat m (p + 16 * k + 4) 4))

/-- HALF of a CTRL image (Table 18-8). -/
def imageHalf (m : List Host.Cell) (a : Nat) : Nat := memNat m (a + 7) 1 % 2

/-- Copies the sections of the CTRL image in bank `b` into instruction SRAM (R420). -/
def Dev.loadCtrl (m : List Host.Cell) (d : Dev) (b : Nat) : List (Nat × List Byte) × Dev :=
  let a := imageAt 1 b
  let h := imageHalf m a
  let w := (List.range 8).map fun e => (instrSram e + 0x8000 * h, sectionCode m (a + 0x200) e)
  let x : LoadedImage := { imgd := imageDigest m a, entries := (List.range 8).flatMap fun e => sectionEntries m (a + 0x200) e e }
  let d1 := w.foldl (fun y c => y.goodWords c.1 (c.1 + c.2.length)) d
  (w, d1.onFm fun f => { f with ctrl := f.ctrl.set {} h x, ctrlBank := f.ctrlBank.set 0 h b })

/-- Copies the section of the SAFE image in bank `b` into the SE pair's instruction SRAM (R417, Table 21-2). -/
def Dev.loadSafe (m : List Host.Cell) (d : Dev) (b : Nat) : List (Nat × List Byte) × Dev :=
  let a := imageAt 2 b
  let c := sectionCode m (a + 0x200) 0
  ([(instrSram 8, c)], (d.goodWords (instrSram 8) (instrSram 8 + c.length)).onFm fun f => { f with
    safe := { imgd := imageDigest m a, entries := sectionEntries m (a + 0x200) 0 8 } })

/-- IMAGE_VERIFY_COMPLETE (R419): the code; a passing image is pending. At start-up, with no timetable, the active CTRL and SAFE images are loaded
instead (Table 21-2). -/
def execImageVerifyComplete (sigOk : Bool) (s : State) : Host.Outcome State Fault Refusal :=
  s.updM fun m d => match d.fm.verifying with
    | none => ([], d)
    | some (c, b) =>
      let code := d.imageCode m c b sigOk
      let d1 := ((d.onFm fun f => { f with verifying := none }).flag .FM_UPDSTAT_BUSY false).wr .FM_UPDSTAT_CODE code
      if code ≠ 0 then
        ([], (d1.onFm fun f => if f.pendBank.at none c = some b then { f with pendBank := f.pendBank.set none c none } else f).pendSync)
      else if (c = 1 ∨ c = 2) ∧ b = d.activeBank c ∧ !d.timetabled ∧ !d.sys.cdReset then
        if c = 1 then d1.loadCtrl m b else d1.loadSafe m b
      else ([], (d1.onFm fun f => { f with pendBank := f.pendBank.set none c (some b) }).pendSync)

/-- The half of instruction SRAM that the active or the pending timetable enters (R420). -/
def Dev.halfInUse (d : Dev) (h : Nat) : Bool :=
  [d.tt.active, d.tt.pending].any fun x => match x with
    | some t => t.tasks.any fun u => decide (u.engine < 8) && decide (u.entry / 0x8000 = h)
    | none => false

/-- A write of 1 to FM.UPDCTL.ACT (R420). -/
def Dev.imageActivate (m : List Host.Cell) (d : Dev) : Dev :=
  let c := d.rd .FM_UPDCFG_CLS
  if d.on .FM_UPDSTAT_BUSY then d
  else match d.fm.pendBank.at none c with
    | none => d.wr .FM_UPDSTAT_CODE 0x07
    | some b =>
      if c = 1 ∧ d.halfInUse (imageHalf m (imageAt 1 b)) then d.wr .FM_UPDSTAT_CODE 0x08
      else
        let d1 := ((d.onFm fun f => { f with pendBank := f.pendBank.set none c none }).pendSync).wr .FM_UPDSTAT_CODE 0
        if c = 1 ∨ c = 4 then (d1.onFm fun f => { f with copying := some (c, b) }).flag .FM_UPDSTAT_BUSY true
        else (d1.wrBit .FM_ACTSEL c (b = 1)).when (decide (c = 0)) fun x => x.wr .FM_STAT_TRIES 0

/-- IMAGE_ACTIVATE (R420). -/
def execImageActivate (req : Requester) (s : State) : Host.Outcome State Fault Refusal :=
  s.updR fun m d => d.byFerryman req fun x => x.imageActivate m

/-- The safety configuration that an SCFG payload spells (R307). -/
def scfgOf (i : ScfgImage) (digest : List Byte) : Scfg :=
  let words := i.words.flatMap fun w => match blkAt w.1.toNat with
    | some b => (fieldsAt b (w.1.toNat - b.base)).map fun r => (r.1.fld, r.2, bitsOf w.2.toNat (r.1.lsb + r.1.width - 1) r.1.lsb)
    | none => []
  { fields := words.filter fun f => f.1.blk ≠ .WCMP
    comparators := i.comparators.map fun c =>
      { n := c.1.val, rank := c.2
        fields := (words.filter fun f => decide (f.1.blk = .WCMP) && decide (f.2.1 = c.1.val)).map fun f => (f.1, f.2.2) }
    seBlock := i.seBlock, claims := i.claims, digest := digest }

/-- IMAGE_COPY_COMPLETE (R420): `scfg`: what the SCFG payload holds, whose byte layout the manual does not give (log entry 5). -/
def execImageCopyComplete (scfg : ScfgImage) (s : State) : Host.Outcome State Fault Refusal :=
  s.updM fun m d => match d.fm.copying with
    | none => ([], d)
    | some (c, b) =>
      let d1 := (d.onFm fun f => { f with copying := none }).flag .FM_UPDSTAT_BUSY false
      if c = 1 then (if d.sys.cdReset then ([], d1) else d1.loadCtrl m b)
      else ([], (d1.onSaf fun x => { x with cfgPart := some (scfgOf scfg (memBytes m (imageAt 4 b + 0x28) 32)) }).wrBit .FM_ACTSEL 4 (b = 1))

/-- A write of 1 to FM.UPDCTL.CONFIRM for the active image of the class (R421). -/
def Dev.imageConfirm (m : List Host.Cell) (d : Dev) : Dev :=
  let c := d.rd .FM_UPDCFG_CLS
  let b := d.rd .FM_UPDCFG_BANK
  if b ≠ d.activeBank c then d
  else
    let a := imageAt c b
    let k := 64 * c + imageIdx m a % 64
    ((d.onFm fun f => { f with
      rollback := f.rollback.set 0 k (max (f.rollback.at 0 k) (imageVal m a))
      confirmed := f.confirmed.set false (2 * c + b) true }).wr .FM_STAT_TRIES 0).life (0x0B0 + 8 * c)

/-- IMAGE_CONFIRM (R421). -/
def execImageConfirm (req : Requester) (s : State) : Host.Outcome State Fault Refusal :=
  s.updR fun m d => d.byFerryman req fun x => x.imageConfirm m

/-- A write of `v` to FM.UPDCTL: CONFIRM, ACT and VERIFY act in this order. -/
def Dev.updCtl (m : List Host.Cell) (d : Dev) (v : Nat) : Dev :=
  ((d.when (bitOf v 2) (Dev.imageConfirm m)).when (bitOf v 1) (Dev.imageActivate m)).when (bitOf v 0) Dev.imageVerify

/-! ### Attestation (R424) -/

/-- A write of 1 to FM.ATTCTL.GO. -/
def Dev.attest (d : Dev) : Dev :=
  ((d.onFm fun f => { f with attesting := true }).flag .FM_ATTSTAT_BUSY true).flag .FM_ATTSTAT_DONE false

/-- ATTEST (R424). -/
def execAttest (req : Requester) (s : State) : Host.Outcome State Fault Refusal := s.upd fun d => d.byFerryman req Dev.attest

/-- The digest of a pending image, or of a loaded CTRL image that is not active; zero where none. -/
def Dev.pendingDigest (m : List Host.Cell) (d : Dev) (c : Nat) : List Byte :=
  match d.fm.pendBank.at none c with
  | some b => imageDigest m (imageAt c b)
  | none =>
    let waits := d.fm.ctrl.find? fun e => !(d.tt.active.any fun t => t.tasks.any fun u => decide (u.engine < 8) && decide (u.entry / 0x8000 = e.1))
    match waits with
    | some e => if c = 1 then e.2.imgd else List.replicate 32 0
    | none => List.replicate 32 0

/-- The report without its signature (Table 18-10). -/
def Dev.reportBody (m : List Host.Cell) (d : Dev) : List Byte :=
  let words := fun (f : Fld) n => (List.range n).flatMap fun i => leBytes 4 (d.rdAt f i)
  let pend := (List.range 5).foldl (fun a c => if (d.fm.pendBank.at none c).isSome then a + 2 ^ (8 + c) else a) 0
  let state := bit01 d.cus.isSealed + 2 * bit01 (d.cus.jumper.getD d.cus.jumperKept) + 4 * bit01 (d.on .SAF_STAT_CFGOK)
    + 8 * bit01 (d.locked true) + 16 * bit01 (d.locked false) + 256 * d.rd .TWIN_STAT_STATE
  layOut 0x2E0
    [(0x000, leBytes 4 0x54535441 ++ leBytes 2 1 ++ leBytes 2 864 ++ leBytes 8 Config.serial.toNat), (0x010, words .FM_ATTNONCE 4),
     (0x020, leBytes 8 d.tide ++ leBytes 8 d.now),
     (0x030, (List.range 5).flatMap fun c => imageDigest m (imageAt c (d.activeBank c))),
     (0x0D0, (List.range 5).flatMap fun c => d.pendingDigest m c),
     (0x170, leBytes 4 (d.rd .FM_ACTSEL + pend) ++ leBytes 4 state ++ leBytes 8 d.cus.sbcnt),
     (0x180, words .MTR_DGST 8 ++ words .SAF_CFGDG 8),
     (0x1C0, shake256 32 ((List.range 16).flatMap d.lifeBytes)),
     (0x1E0, (d.lifeBytes 0).take 256)]

/-- ATTEST_COMPLETE (R424): the report, signed with the attestation key (log entry 5). -/
def execAttestComplete (s : State) : Host.Outcome State Fault Refusal :=
  s.updR fun m d =>
    if !d.fm.attesting then d
    else
      let r := d.reportBody m
      let full := r ++ ((List.range 114).map fun i => Config.signByte 0 r i) ++ List.replicate 14 0
      ((d.onFm fun f => { f with attesting := false, report := full }).flag .FM_ATTSTAT_BUSY false).flag .FM_ATTSTAT_DONE true

end Sys2Proof.Machine
end

