-- ==== Sys2Proof/Machine/RegRead.lean ====
section
/-!
DEFINITION. Machine/RegRead.lean: a read of a register (R2, R3, R5, R27, R28 and each block's map): the word that its fields hold or that the
state behind them gives, and what the read itself does.
-/
namespace Sys2Proof.Machine

/-- The address lies in a register region of Table 0-3. -/
def inRegisters (a : Nat) : Bool := decide (0x2000000000 ≤ a) && decide (a < 0x2300000000)

/-- The resource whose claim register lies at offset `o` of a block (R27). -/
def claimAt (b : Blk) (o : Nat) : Option (Resource × Nat) :=
  let pick (base : Nat) (r : Resource) : Option (Resource × Nat) :=
    if base ≤ o ∧ o < base + 4 * r.count ∧ o % 4 = 0 then some (r, (o - base) / 4) else none
  match b with
  | .LEG => pick 0x800 .leg
  | .CLINK => pick 0x800 .cellLink
  | .WCMP => pick 0x800 .comparator
  | .ETH => pick 0x9000 .ethQueue
  | .SDF => pick 0xC00 .filter
  | .TALLY => pick 0x5000 .pulseInput
  | .SAF => pick 0x800 .safetyInput
  | .ADC => (pick 0x800 .analogInput).orElse fun _ => pick 0x900 .converter
  | .EVT => pick 0x2000 .capture
  | .PCNT => pick 0xF00 .counter
  | .GWY => pick 0x800 .gangway
  | _ => none

/-- A block's map places a register or a claim register at the word of `a` (R2, R21). -/
def registerAt (a : Nat) : Bool :=
  match blkAt a with
  | none => false
  | some b =>
    let o := (a - b.base) / 4 * 4
    (claimAt b o).isSome || !(fieldsAt b o).isEmpty

/-- The word that a register's stored fields spell: a wo field reads zero, and so does every bit that no field covers (R4, R5). -/
def Dev.fieldsWord (d : Dev) (fs : List (FieldRow × Nat)) : Nat :=
  fs.foldl (fun w r => if r.1.acc = .wo then w else w + d.rdAt r.1.fld r.2 % 2 ^ r.1.width * 2 ^ r.1.lsb) 0

/-- Word `i` of a list of bytes. -/
def wordAt (l : List Byte) (i : Nat) : Nat := leNat ((l.drop (4 * i)).take 4)

/-- The bytes of a log entry (Table 18-4). -/
def LogEntry.bytes (e : LogEntry) : List Byte :=
  leBytes 8 e.time ++ leBytes 8 e.tide ++ leBytes 4 e.seq ++ leBytes 2 e.src ++ leBytes 1 e.lvl ++ leBytes 1 e.flags ++ leBytes 8 e.data

/-- EVT.NEXT (R454): the lowest-numbered pending source of the lowest pending level. -/
def Dev.nextEvent (d : Dev) : Nat :=
  match (List.range 16).find? (bitOf d.mpend) with
  | none => 0
  | some l =>
    let n := ((List.range 512).find? fun n =>
      d.onAt .EVT_RT_PEND n && d.onAt .EVT_RT_FM n && decide (d.rdAt .EVT_RT_LVL n = l)).getD 0
    2 ^ 31 + 2 ^ 16 * l + n

/-- The bits `f 0 … f (n - 1)` as a word. -/
def bitsWord (n : Nat) (f : Nat → Bool) : Nat := (List.range n).foldl (fun w i => if f i then w + 2 ^ i else w) 0

/-- A result word of metering point `m` as the requester's latest read of MPSTATm latched it (R274): the current one before its first. -/
def Dev.mtrWord (d : Dev) (q : Requester) (m k : Nat) : Nat :=
  match d.lat.mtr.at [] (256 * q.id + m) with
  | [] => (d.resultWords m).getD k 0
  | l => l.getD k 0

/-- A read of word 0 of TLn or CTLn latches the rest (R302). -/
def Dev.tallyLatch (d : Dev) (q : Requester) (committed : Bool) (n : Nat) : Dev :=
  let v := if committed then d.cus.ctl.at 0 n else d.cus.tl.at 0 n
  ({ d with lat := { d.lat with tally := d.lat.tally.set 0 (65536 * q.id + 0x1000 * bit01 committed + n) v } }).answer (v / 2 ^ 32 % 2 ^ 32)

/-- What word `w` of TLn or CTLn (1, 2; 3 FRAC) reads. -/
def Dev.tallyWord (d : Dev) (q : Requester) (committed : Bool) (n w : Nat) : Nat :=
  let v := d.lat.tally.at 0 (65536 * q.id + 0x1000 * bit01 committed + n)
  if w = 3 then v % 2 ^ 32 else v / 2 ^ (32 * (w + 1)) % 2 ^ 32

/-- What a read of a register is, beyond the word of its stored fields; `f`, `i`: the first field of its map row and the register's number. `none`:
the stored fields are all there is. -/
def Dev.readSpecial (d : Dev) (q : Requester) (f : Fld) (i : Nat) : Option Dev :=
  match f with
  | .TIDE_CNTLO => some ({ d with lat := { d.lat with tideHi := d.lat.tideHi.set 0 q.id (d.rd .TIDE_CNTHI) } }.answer (d.rd .TIDE_CNTLO))
  | .TIDE_CNTHI => some (d.answer (d.lat.tideHi.at 0 q.id))
  | .TIDE_PTPS0 => some d.captureHold
  | .PWM_STAT_DLLF => some (d.answer (8 * d.rd .PWM_STAT_DLLF + 4 * d.rd .PWM_STAT_DLLLK + 2 * d.rd .PWM_STAT_LEAD + bit01 d.drive))
  | .PWM_OUTLO => some (d.answer (bitsWord 32 d.pw))
  | .PWM_OUTHI => some (d.answer (bitsWord 16 fun n => d.pw (32 + n)))
  | .LEG_STAT_STATE => some (d.answer (d.fieldsWord (fieldsAt .LEG (64 * i + 0xC)) + 2 ^ 28 * bit01 (d.tripWire i)))
  | .WCMP_THR2_HI2 => if i < 16 then none else some (d.answer 0)
  | .WCMP_TRIPW => some (d.answer (bitsWord 24 d.tripWire))
  | .ETH_PTPSEC0 => some (d.ptpRead q)
  | .ETH_PTPSEC1 => some (d.answer (d.lat.ptpSec1.at 0 q.id))
  | .ETH_PTPNS => some (d.answer (d.lat.ptpNs.at 0 q.id))
  | .ETH_TSDAT2_DIR => some (d.stampPop i)
  | .ETH_TSSTAT_OVF => some (d.stampStatus i)
  | .MTR_MPSTAT_VALID =>
    some (({ d with lat := { d.lat with mtr := d.lat.mtr.set [] (256 * q.id + i) (d.resultWords i) } }).answer (d.mpstatWord i))
  | .MTR_FREQ => some (d.answer (d.mtrWord q i 0))
  | .MTR_WCNT => some (d.answer (d.mtrWord q i 1))
  | .MTR_VRMS => some (d.answer (d.mtrWord q (i / 3) (2 + i % 3)))
  | .MTR_IRMS => some (d.answer (d.mtrWord q (i / 4) (5 + i % 4)))
  | .MTR_P => some (d.answer (d.mtrWord q (i / 4) (9 + i % 4)))
  | .MTR_Q => some (d.answer (d.mtrWord q (i / 4) (13 + i % 4)))
  | .MTR_S => some (d.answer (d.mtrWord q (i / 4) (17 + i % 4)))
  | .MTR_PF => some (d.answer (d.mtrWord q (i / 4) (21 + i % 4)))
  | .MTR_ANGVV_CA => some (d.answer (d.mtrWord q i 25))
  | .MTR_ANGVI => some (d.answer (d.mtrWord q (i / 3) (26 + i % 3)))
  | .TALLY_TLW0 => some (d.tallyLatch q false i)
  | .TALLY_TLW1 => some (d.answer (d.tallyWord q false i 1))
  | .TALLY_TLW2 => some (d.answer (d.tallyWord q false i 2))
  | .TALLY_TLFRAC => some (d.answer (d.tallyWord q false i 3))
  | .TALLY_CTLW0 => some (d.tallyLatch q true i)
  | .TALLY_CTLW1 => some (d.answer (d.tallyWord q true i 1))
  | .TALLY_CTLW2 => some (d.answer (d.tallyWord q true i 2))
  | .TALLY_CTLFRAC => some (d.answer (d.tallyWord q true i 3))
  | .MAN_RDWIN => some (d.answer (wordAt d.cus.rdwin i))
  | .ECC_PRDLO => some (d.answer (d.eccm.list.getD (d.rd .ECC_PRDIDX) 0 * 8 % 2 ^ 32))
  | .ECC_PRDHI => some (d.answer (d.eccm.list.getD (d.rd .ECC_PRDIDX) 0 * 8 / 2 ^ 32))
  | .ECC_INJ_ARM => some (d.answer (2 ^ 31 * bit01 (d.on .GWY_BENCH_ON && d.on .ECC_INJ_ARM) + d.rd .ECC_INJ_MASK))
  | .ECC_SPARE_ROWS =>
    let v := (Config.spare i).toNat
    some (d.answer (4 * min 4 (v / 4) + min 2 (v % 4)))
  | .ADC_CFG_EN =>
    some (d.answer (if d.adcOddHalf i then d.fieldsWord (fieldsAt .ADC (4 * i)) % 2 ^ 31 else d.fieldsWord (fieldsAt .ADC (4 * i))))
  | .FM_CALLO => some (d.calRead q)
  | .FM_CALHI => some (d.answer (d.lat.calHi.at 0 q.id))
  | .FM_HQLVL => some (d.answer (d.queue i).items.length)
  | .FM_CKPSTAT_BUSY =>
    some (d.answer (2 ^ 31 * bit01 d.fm.ckptBusy + 2 ^ 30 * d.rd .FM_CKPSTAT_SLOT + d.rd .FM_CKPSTAT_COUNT))
  | .FM_ARVAL => some (d.answer (d.rollback (d.rd .FM_ARIDX_CLS) (d.rd .FM_ARIDX_CTR)))
  | .FM_KEYDG => some (d.answer (Config.keyDigest i).toNat)
  | .FM_SERLO => some (d.answer (Config.serial.toNat % 2 ^ 32))
  | .FM_SERHI => some (d.answer (Config.serial.toNat / 2 ^ 32))
  | .FM_ATTWIN => some (d.answer (wordAt d.fm.report i))
  | .FM_CERTWIN => some (d.answer (leNat ((List.range 4).map fun k => Config.certByte (4 * i + k))))
  | .FM_LTWIN => some (d.answer (wordAt (d.lifeBytes (d.rd .FM_LTPAGE)) i))
  | .FM_LOGWIN => some (d.answer (wordAt (d.fm.log.at {} (d.rd .FM_LOGIDX)).bytes i))
  | .CAP_COMMIT_PEAK => some (d.answer (2 ^ 16 * d.rd .CAP_COMMIT_PEAK + d.faresCommitted))
  | .CAP_CLFARE => some (d.answer (if i < 10 ∨ i = 22 then d.fareOf i else d.rdAt .CAP_CLFARE i))
  | .CLK_COUT_EN =>
    some (d.answer (2 ^ 31 * d.rdAt .CLK_COUT_EN i + 2 ^ 26 * d.rdAt .CLK_COUT_SRC i + d.rdAt .CLK_COUT_DIV i % 2 ^ 12))
  | .EVT_RT_PEND =>
    some (d.answer (d.fieldsWord ((fieldsAt .EVT (4 * i)).filter fun r => decide (r.1.fld ≠ .EVT_RT_LEVEL)) + 2 ^ 17 * bit01 (d.sourceHigh i)))
  | .EVT_NEXT_VALID => some (d.answer d.nextEvent)
  | .EVT_PEND => some (d.answer (bitsWord 32 fun k => d.onAt .EVT_RT_PEND (32 * i + k)))
  | .EVT_CAPTLO => some (d.captureRead q i)
  | .EVT_CAPTHI => some (d.answer (d.lat.capHi.at 0 (256 * q.id + i)))
  | .EVT_CAPTICK_VALID => some (d.answer (d.lat.capTick.at 0 (256 * q.id + i)))
  | .PCNT_CTLO => some (d.counterRead q i)
  | .PCNT_CTHI => some (d.answer (d.lat.ctHi.at 0 (256 * q.id + i)))
  | .PCNT_TAGRECA => some (d.answer ((d.evt.tags.map TagRec.a).headD 0))
  | .PCNT_TAGRECB => some d.tagRead
  | _ => none

/-- A read of the aligned register at `a` by a requester (R3, R5). -/
def Dev.regRead (d : Dev) (q : Requester) (a : Nat) : Dev :=
  match blkAt a with
  | none => d.addressError
  | some b =>
    let o := a - b.base
    match claimAt b o with
    | some (r, n) => d.answer (d.claimWord (claimant q r) r n)
    | none =>
      match fieldsAt b o with
      | [] => d.addressError
      | (r, i) :: t => (d.readSpecial q r.fld i).getD (d.answer (d.fieldsWord ((r, i) :: t)))

/-- A read of `n` bytes at `a` in a register region: where no register lies, an address error (R2); of anything but one aligned word, a bus
error (R3). -/
def Dev.registerRead (d : Dev) (q : Requester) (a n : Nat) : Dev :=
  if !registerAt a then d.addressError
  else if n ≠ 4 ∨ a % 4 ≠ 0 then d.busError else d.regRead q a

end Sys2Proof.Machine
end

