-- ==== Sys2Proof/Machine/Issue.lean ====
section
/-!
DEFINITION. Machine/Issue.lean: how an engine fetches and issues an instruction (R46, R64 to R72, R88, R89, R99, R100, R107, R108, R110).
-/
namespace Sys2Proof.Machine

/-- Applies `f` to Ferryman's special registers. -/
def Dev.onFerry (d : Dev) (f : Ferry → Ferry) : Dev := { d with vcs := { d.vcs with ferry := f d.vcs.ferry } }

/-! ### Interrupts of Ferryman (R108) -/

/-- The level that Ferryman takes before its next issue (R108). -/
def Dev.mtakes (d : Dev) : Option Nat := if d.vcs.ferry.mie && !d.vcs.ferry.halted then d.mlowest else none

/-- Ferryman enters the interrupt of level `l` (R108). -/
def Dev.mEnter (d : Dev) (l : Nat) : Dev :=
  let x := d.engine 10
  let d1 := d.onFerry fun f => { f with
    mepc := x.pc, mcause := 2 ^ 63 + l, pmie := f.mie, ppriv := f.priv, plevel := f.mlevel
    mie := false, priv := true, mlevel := l, entries := true :: f.entries, waiting := false }
  d1.setEngine 10 { x with pc := d.vcs.ferry.mvec + 0x40 * (l + 1) }

/-! ### The instruction fetch (R75, R88, R89, R107) -/

/-- The system address of the word that engine `e` fetches at `pc`. -/
def fetchAt (e pc : Nat) : Nat := if e = 10 then pc else instrSram e + pc

/-- A corrected error in the fetch at `a` (R88). -/
def Dev.fetchCorrected (d : Dev) (e a : Nat) : Dev :=
  let d1 := if e < 8 then d.bumpAt .CE_ECC_ICOR e 65535 else if e = 8 then d.bump .SE_ECC_ICOR 65535 else d
  d1.corrected a

/-- A fetch by Ferryman (R2, R89): the bus-error trap where no memory and no register answers. -/
def Dev.ferryFetch (d : Dev) (pc : Nat) : Option (Nat × Nat) × Dev :=
  if pc + 4 ≤ d.dramEnd ∨ inOneWindow pc 4 ∨ (inFlash pc ∧ inFlash (pc + 3)) then (none, d)
  else
    let x := if inRegisters pc then d.registerRead .ferryman pc 4 else d.addressError
    (if x.resp.error then some (0x8, pc) else none, x)

/-- The trap that stands before the word is there: Ferryman's data-ECC trap for an earlier store (R364), the protection of the fetch (R107), its bus
error (R89), the instruction address (R75). -/
def Dev.fetchTrap (d : Dev) (e pc : Nat) : Option (Nat × Nat) × Dev :=
  if e = 10 then
    match d.vcs.ferry.dataEcc with
    | some a => (some (0x5, a), d.onFerry fun f => { f with dataEcc := none })
    | none => if !d.vcs.ferry.permits pc 4 2 then (some (0x7, pc), d) else d.ferryFetch pc
  else (if 0xFFFC < pc then some (0x2, pc) else none, d)

/-- A correctable word is corrected in the delivery, and counted (R88). -/
def Dev.fetched (d : Dev) (e a : Nat) : Dev := if d.wordState a = 1 then d.fetchCorrected e a else d

/-- The decoder refuses the command's word (R65), or the profile does not hold the instruction (R103, R104). -/
def illegalWord (i : Issue) (o : Op) : Bool := !o.allowed i.eng || (decodeVcs i.eng i.word).isNone

/-! ### SE1's side (R110) -/

/-- SE1 runs the instruction on its own registers and memories. -/
def Dev.se1Runs (d : Dev) (m : List Host.Cell) (body : Body) (i : Issue) (c fa : Nat) : Ran :=
  if 2 ≤ d.wordState (se1At fa) then .error (0x4, (d.engine 8).pc)
  else if (d.engine 9).pr i.pr.val != i.pn then body (d.se1View m) c d.asSe1
  else .ok ({}, d.asSe1)

/-- The errors that SE1's fetch met are counted (R88, R116). -/
def Dev.se1Fetched (d : Dev) (fa : Nat) : Dev :=
  match d.wordState (se1At fa) with
  | 0 => d
  | 1 => d.fetchCorrected 8 (se1At fa)
  | _ => d.uncorrectable (se1At fa)

/-! ### Issue -/

/-- The next instruction does not fit the budget: nothing more of the segment issues (R46, R48). -/
def Dev.exceeds (d : Dev) (e : Nat) : Dev := d.setEngine e { d.engine e with exceed := true }

/-- What the issue of instruction `i` does (R64 to R72, R88, R99, R100, R108, R110): nothing while the engine cannot issue; on Ferryman the entry of
an interrupt that it takes before the issue; the trap of the fetch, or the illegal-instruction trap, in the first cycle that program order allows;
the instruction-ECC trap when the word is uncorrectable; nothing more once the cycle reaches the budget; otherwise the body when the predicate holds,
and the scoreboard. -/
def Dev.issueVcs (d : Dev) (mem : List Host.Cell) (i : Issue) (o : Op) (body : Body) : List (Nat × List Byte) × Dev :=
  let e := Eng.index i.eng
  let x := d.engine e
  let c := x.cycle o i.pr.val
  let spent (t : Nat) : Bool := e ≠ 10 && decide (x.budget ≤ t)
  let fa := fetchAt e x.pc
  if !d.canIssue e c then ([], d)
  else match (if e = 10 then d.mtakes else none) with
  | some l => ([], d.mEnter l)
  | none =>
  match d.fetchTrap e x.pc with
  | (some (code, value), d1) => if spent x.earliest then ([], d.exceeds e) else ([], d1.trapOf e code value)
  | (none, dt) =>
  let pair (d0 after : Dev) (res : Ran) : Dev :=
    if e = 8 then (d0.lockstep after mem c.1 res (d0.se1Runs mem body i c.1 fa)).se1Fetched fa else after
  if 2 ≤ dt.wordState fa then
    if spent c.1 then ([], dt.exceeds e) else ([], pair dt ((dt.uncorrectable fa).trapOf e 0x4 x.pc) (.error (0x4, x.pc)))
  else if illegalWord i o then
    if spent x.earliest then ([], dt.exceeds e) else ([], (dt.fetched e fa).trapOf e 0x1 i.word.toNat)
  else if spent c.1 then ([], dt.exceeds e)
  else
    let stall := if x.issued then c.1 - x.last else c.1
    let df := dt.fetched e fa
    let d0 := if e = 10 then df.onFerry fun f => { f with waiting := false }
      else if x.halted then df.setEngine e { x with step := false, stepCycle := some c.1 } else df
    let active := x.pr i.pr.val != i.pn
    let res : Ran := if active then body mem c.1 d0 else .ok ({}, d0)
    match res with
    | .error (code, value) => ([], pair d0 ((d0.tag e x.task x.pc c.1 stall 0 c.2 false true).trapOf e code value) res)
    | .ok (fx, d1) =>
      match fx.trap with
      | some (code, value) => (fx.mem, pair d0 ((d1.tag e x.task x.pc c.1 stall 0 c.2 false true).trapOf e code value) res)
      | none =>
      -- the instruction has reset the processor that runs it
      if e = 10 ∧ d1.sys.fmResets ≠ d.sys.fmResets then (fx.mem, d1)
      else
        let y := fx.ws.foldl Engine.put (d1.engine e)
        let z := { y.issue o c.1 c.2 fx.target.isSome with
          flags := Nat.lor y.flags fx.flags
          pc := fx.target.getD (x.pc + 4) }
        let d2 := (d1.setEngine e z).tag e x.task x.pc c.1 stall o.lat c.2 (!active) false
        let d3 := if e < 8 then d2.wrAt .CE_STAT_PC e (x.pc % 2 ^ 16) else if e = 8 then d2.wr .SE_STAT_PC (x.pc % 2 ^ 16) else d2
        let d4 := ((d3.engineSignal e 1 1).engineSignal e 2 (bit01 c.2)).engineSignal e 4 (bit01 (o.branch && fx.target.isSome))
        let d5 := (d4.engineSignal e 5 o.port).engineSignal e 3 (if c.2 then 0 else stall - 1)
        (fx.mem, pair d0 d5 res)

/-- A VCS instruction as a command. -/
def State.vcs (s : State) (i : Issue) (o : Op) (body : Body) : Host.Outcome State Fault Refusal :=
  s.updM fun m d => d.issueVcs m i o body

/-- An instruction that only computes: register writes and flags from the engine's registers. -/
def State.compute (s : State) (i : Issue) (o : Op) (f : Engine → List RegW × Nat) : Host.Outcome State Fault Refusal :=
  s.vcs i o fun _ _ d =>
    let r := f (d.engine (Eng.index i.eng))
    .ok ({ ws := r.1, flags := r.2 }, d)

end Sys2Proof.Machine
end

