-- ==== Sys2Proof/Machine/VcsFloat.lean ====
section
/-!
DEFINITION. Machine/VcsFloat.lean: the scalar floating-point, vector and transform instructions (R77 to R81).
-/
namespace Sys2Proof.Machine

/-- The binary32 operand in bits 31:0 of a general register (R55). -/
def Engine.fr (x : Engine) (n : Nat) : Nat := (x.gr n).toNat % 2 ^ 32

/-- A class F instruction with result rd: bits 31:0 the binary32 result, bits 63:32 zero unless its row says otherwise. -/
def State.fp (s : State) (i : Issue) (rd : Fin 32) (reads : List Nat) (lat : Nat) (f : Engine → Nat × Nat) (div : Bool := false) :
    Host.Outcome State Fault Refusal :=
  s.compute i { cls := 1, lat := lat, reads := reads, writes := [regG rd], div := div } fun x =>
    let r := f x
    ([.g rd (BitVec.ofNat 64 r.1)], r.2)

/-- fcmp: pd := f, with flags. -/
def State.fcmp (s : State) (i : Issue) (pd : Fin 8) (ra rb : Fin 32) (f : Nat → Nat → Bool × Nat) :
    Host.Outcome State Fault Refusal :=
  s.compute i { cls := 1, lat := 2, reads := [regG ra, regG rb], writes := [regP pd] } fun x =>
    let r := f (x.fr ra) (x.fr rb)
    ([.p pd r.1], r.2)

/-- Lane `k` of a vector (R56). -/
def laneOf (v : BitVec 128) (k : Nat) : Nat := v.toNat / 2 ^ (32 * k) % 2 ^ 32

/-- The vector with these four lanes. -/
def ofLanes (l : List Nat) : BitVec 128 :=
  BitVec.ofNat 128 ((List.range 4).foldl (fun n k => n + l.getD k 0 % 2 ^ 32 * 2 ^ (32 * k)) 0)

/-- The four lanes of vector register `n`. -/
def Engine.lanes (x : Engine) (n : Nat) : List Nat := (List.range 4).map (laneOf (x.vr n))

/-- The vector and the OR of the flags of four lane results (R62). -/
def joinLanes (vd : Nat) (l : List (Nat × Nat)) : List RegW × Nat :=
  ([.v vd (ofLanes (l.map (·.1)))], l.foldl (fun f r => Nat.lor f r.2) 0)

/-- A lane-wise vector instruction. -/
def State.vec (s : State) (i : Issue) (vd : Fin 16) (reads : List Nat) (lat : Nat) (f : Engine → Nat → Nat × Nat) :
    Host.Outcome State Fault Refusal :=
  s.compute i { cls := 1, lat := lat, reads := reads, writes := [regV vd] } fun x => joinLanes vd ((List.range 4).map (f x))

/-- A vector instruction that answers all four lanes at once. -/
def State.xform (s : State) (i : Issue) (vd : Fin 16) (reads : List Nat) (lat : Nat) (f : Engine → Lanes) :
    Host.Outcome State Fault Refusal :=
  s.compute i { cls := 1, lat := lat, reads := reads, writes := [regV vd] } fun x =>
    let r := f x
    ([.v vd (ofLanes r.1)], r.2)

/-- A zero result of vsincos: its sign is a free value (log entry 6). -/
def sincosZero (a : BitVec 32) (k : Nat) : Nat := fpSign (Config.sincosMinusZero a k)

/-- The cosine (k = 0) or sine (k = 1) of the angle 2π × a / 2^32 (R81): exact at every quarter turn; elsewhere any binary32 value within 2^-23, a free
value (log entry 6). -/
def sincosValue (a : BitVec 32) (k : Nat) : Nat :=
  if a = 0 then (if k = 1 then sincosZero a k else 0x3F800000)
  else if a = 0x40000000 then (if k = 1 then 0x3F800000 else sincosZero a k)
  else if a = 0x80000000 then (if k = 1 then sincosZero a k else 0xBF800000)
  else if a = 0xC0000000 then (if k = 1 then 0xBF800000 else sincosZero a k)
  else trigLane (Config.sincosLane a k).toNat (if k = 1 then (trigTurn a.toNat).2 else (trigTurn a.toNat).1)

/-- Lane `k` of vsincos (R81): cos, sin, −sin, cos. -/
def sincos (a : BitVec 32) (k : Nat) : Nat :=
  if k = 1 then sincosValue a 1
  else if k = 2 then fpNeg (sincosValue a 1)
  else sincosValue a 0


/-- FADD_S (Table 3-9). -/
def execVcsFaddS (i : Issue) (rd ra rb : Fin 32) (s : State) : Host.Outcome State Fault Refusal :=
  s.fp i rd [regG ra, regG rb] 4 (fun x => fpAdd (x.fr ra) (x.fr rb))

/-- FSUB_S (Table 3-9). -/
def execVcsFsubS (i : Issue) (rd ra rb : Fin 32) (s : State) : Host.Outcome State Fault Refusal :=
  s.fp i rd [regG ra, regG rb] 4 (fun x => fpSub (x.fr ra) (x.fr rb))

/-- FMUL_S (Table 3-9). -/
def execVcsFmulS (i : Issue) (rd ra rb : Fin 32) (s : State) : Host.Outcome State Fault Refusal :=
  s.fp i rd [regG ra, regG rb] 4 (fun x => fpMul (x.fr ra) (x.fr rb))

/-- FMIN_S (Table 3-9). -/
def execVcsFminS (i : Issue) (rd ra rb : Fin 32) (s : State) : Host.Outcome State Fault Refusal :=
  s.fp i rd [regG ra, regG rb] 2 (fun x => fpMin (x.fr ra) (x.fr rb))

/-- FMAX_S (Table 3-9). -/
def execVcsFmaxS (i : Issue) (rd ra rb : Fin 32) (s : State) : Host.Outcome State Fault Refusal :=
  s.fp i rd [regG ra, regG rb] 2 (fun x => fpMax (x.fr ra) (x.fr rb))

/-- FABS_S (Table 3-9). -/
def execVcsFabsS (i : Issue) (rd ra : Fin 32) (s : State) : Host.Outcome State Fault Refusal :=
  s.fp i rd [regG ra] 2 (fun x => (fpAbs (x.fr ra), 0))

/-- FNEG_S (Table 3-9). -/
def execVcsFnegS (i : Issue) (rd ra : Fin 32) (s : State) : Host.Outcome State Fault Refusal :=
  s.fp i rd [regG ra] 2 (fun x => (fpNeg (x.fr ra), 0))

/-- FCLAMP_S (R78): lo in rb[31:0], hi in rb[63:32]. -/
def execVcsFclampS (i : Issue) (rd ra rb : Fin 32) (s : State) : Host.Outcome State Fault Refusal :=
  s.fp i rd [regG ra, regG rb] 2 (fun x => fpClamp (x.fr ra) (x.fr rb) ((x.gr rb).toNat / 2 ^ 32))

/-- MINSEL (R78): values in bits 31:0, tags in bits 63:32. -/
def execVcsMinsel (i : Issue) (rd ra rb : Fin 32) (s : State) : Host.Outcome State Fault Refusal :=
  s.fp i rd [regG ra, regG rb] 2 (fun x => fpMinsel (x.gr ra).toNat (x.gr rb).toNat)

/-- FCVT_S_L (Table 3-9). -/
def execVcsFcvtSL (i : Issue) (rd ra : Fin 32) (s : State) : Host.Outcome State Fault Refusal :=
  s.fp i rd [regG ra] 4 (fun x => fpOfInt (x.gr ra).toInt)

/-- FCVT_L_S (Table 3-9): toward zero. -/
def execVcsFcvtLS (i : Issue) (rd ra : Fin 32) (s : State) : Host.Outcome State Fault Refusal :=
  s.fp i rd [regG ra] 4 (fun x => fpToInt false (x.fr ra))

/-- FCVT_L_S_RN (Table 3-9): to nearest, ties to even. -/
def execVcsFcvtLSRn (i : Issue) (rd ra : Fin 32) (s : State) : Host.Outcome State Fault Refusal :=
  s.fp i rd [regG ra] 4 (fun x => fpToInt true (x.fr ra))

/-- FMA_S (Table 3-9). -/
def execVcsFmaS (i : Issue) (rd ra rb rc : Fin 32) (s : State) : Host.Outcome State Fault Refusal :=
  s.fp i rd [regG ra, regG rb, regG rc] 4 fun x => fpFma (x.fr ra) (x.fr rb) (x.fr rc)

/-- FMS_S (Table 3-9). -/
def execVcsFmsS (i : Issue) (rd ra rb rc : Fin 32) (s : State) : Host.Outcome State Fault Refusal :=
  s.fp i rd [regG ra, regG rb, regG rc] 4 fun x => fpFma (x.fr ra) (x.fr rb) (fpNeg (x.fr rc))

/-- FNMA_S (Table 3-9). -/
def execVcsFnmaS (i : Issue) (rd ra rb rc : Fin 32) (s : State) : Host.Outcome State Fault Refusal :=
  s.fp i rd [regG ra, regG rb, regG rc] 4 fun x => fpFma (fpNeg (x.fr ra)) (x.fr rb) (x.fr rc)

/-- FNMS_S (Table 3-9). -/
def execVcsFnmsS (i : Issue) (rd ra rb rc : Fin 32) (s : State) : Host.Outcome State Fault Refusal :=
  s.fp i rd [regG ra, regG rb, regG rc] 4 fun x => fpFma (fpNeg (x.fr ra)) (x.fr rb) (fpNeg (x.fr rc))

/-- FDIV_S (Table 3-9). -/
def execVcsFdivS (i : Issue) (rd ra rb : Fin 32) (s : State) : Host.Outcome State Fault Refusal :=
  s.fp i rd [regG ra, regG rb] 18 (fun x => fpDiv (x.fr ra) (x.fr rb)) true

/-- FSQRT_S (Table 3-9). -/
def execVcsFsqrtS (i : Issue) (rd ra : Fin 32) (s : State) : Host.Outcome State Fault Refusal :=
  s.fp i rd [regG ra] 20 (fun x => fpSqrt (x.fr ra)) true

/-- FCMP_EQ_S (Table 3-9). -/
def execVcsFcmpEqS (i : Issue) (pd : Fin 8) (ra rb : Fin 32) (s : State) : Host.Outcome State Fault Refusal :=
  s.fcmp i pd ra rb fun a b => (fpEq a b, fpSNaNFlag a b)

/-- FCMP_LT_S (Table 3-9). -/
def execVcsFcmpLtS (i : Issue) (pd : Fin 8) (ra rb : Fin 32) (s : State) : Host.Outcome State Fault Refusal :=
  s.fcmp i pd ra rb fun a b => (fpLt a b, flagIf (fpIsNaN a || fpIsNaN b) flagNV)

/-- FCMP_LE_S (Table 3-9). -/
def execVcsFcmpLeS (i : Issue) (pd : Fin 8) (ra rb : Fin 32) (s : State) : Host.Outcome State Fault Refusal :=
  s.fcmp i pd ra rb fun a b => (fpLe a b, flagIf (fpIsNaN a || fpIsNaN b) flagNV)

/-- FCMP_UN_S (Table 3-9). -/
def execVcsFcmpUnS (i : Issue) (pd : Fin 8) (ra rb : Fin 32) (s : State) : Host.Outcome State Fault Refusal :=
  s.fcmp i pd ra rb fun a b => (fpIsNaN a || fpIsNaN b, fpSNaNFlag a b)

/-! ### Vectors (R79) -/

/-- VADD (Table 3-10). -/
def execVcsVadd (i : Issue) (vd va vb : Fin 16) (s : State) : Host.Outcome State Fault Refusal :=
  s.vec i vd [regV va, regV vb] 4 fun x k => fpAdd (laneOf (x.vr va) k) (laneOf (x.vr vb) k)

/-- VSUB (Table 3-10). -/
def execVcsVsub (i : Issue) (vd va vb : Fin 16) (s : State) : Host.Outcome State Fault Refusal :=
  s.vec i vd [regV va, regV vb] 4 fun x k => fpSub (laneOf (x.vr va) k) (laneOf (x.vr vb) k)

/-- VMUL (Table 3-10). -/
def execVcsVmul (i : Issue) (vd va vb : Fin 16) (s : State) : Host.Outcome State Fault Refusal :=
  s.vec i vd [regV va, regV vb] 4 fun x k => fpMul (laneOf (x.vr va) k) (laneOf (x.vr vb) k)

/-- VFMA (Table 3-10). -/
def execVcsVfma (i : Issue) (vd va vb vc : Fin 16) (s : State) : Host.Outcome State Fault Refusal :=
  s.vec i vd [regV va, regV vb, regV vc] 4 fun x k => fpFma (laneOf (x.vr va) k) (laneOf (x.vr vb) k) (laneOf (x.vr vc) k)

/-- VMAC (Table 3-10). -/
def execVcsVmac (i : Issue) (vd va vb : Fin 16) (s : State) : Host.Outcome State Fault Refusal :=
  s.vec i vd [regV va, regV vb, regV vd] 4 fun x k => fpFma (laneOf (x.vr va) k) (laneOf (x.vr vb) k) (laneOf (x.vr vd) k)

/-- VMIN (Table 3-10). -/
def execVcsVmin (i : Issue) (vd va vb : Fin 16) (s : State) : Host.Outcome State Fault Refusal :=
  s.vec i vd [regV va, regV vb] 2 fun x k => fpMin (laneOf (x.vr va) k) (laneOf (x.vr vb) k)

/-- VMAX (Table 3-10). -/
def execVcsVmax (i : Issue) (vd va vb : Fin 16) (s : State) : Host.Outcome State Fault Refusal :=
  s.vec i vd [regV va, regV vb] 2 fun x k => fpMax (laneOf (x.vr va) k) (laneOf (x.vr vb) k)

/-- VABS (Table 3-10). -/
def execVcsVabs (i : Issue) (vd va : Fin 16) (s : State) : Host.Outcome State Fault Refusal :=
  s.vec i vd [regV va] 2 fun x k => (fpAbs (laneOf (x.vr va) k), 0)

/-- VNEG (Table 3-10). -/
def execVcsVneg (i : Issue) (vd va : Fin 16) (s : State) : Host.Outcome State Fault Refusal :=
  s.vec i vd [regV va] 2 fun x k => (fpNeg (laneOf (x.vr va) k), 0)

/-- VCLAMP (Table 3-10). -/
def execVcsVclamp (i : Issue) (vd va vb vc : Fin 16) (s : State) : Host.Outcome State Fault Refusal :=
  s.vec i vd [regV va, regV vb, regV vc] 2 fun x k => fpClamp (laneOf (x.vr va) k) (laneOf (x.vr vb) k) (laneOf (x.vr vc) k)

/-- VPERM (Table 3-10). -/
def execVcsVperm (i : Issue) (vd va : Fin 16) (imm : BitVec 8) (s : State) : Host.Outcome State Fault Refusal :=
  s.vec i vd [regV va] 2 fun x k => (laneOf (x.vr va) (bitsOf imm.toNat (2 * k + 1) (2 * k)), 0)

/-- VSPLAT (Table 3-10). -/
def execVcsVsplat (i : Issue) (vd : Fin 16) (ga : Fin 32) (s : State) : Host.Outcome State Fault Refusal :=
  s.vec i vd [regG ga] 2 fun x _ => (x.fr ga, 0)

/-- VINS (Table 3-10). -/
def execVcsVins (i : Issue) (vd : Fin 16) (ga : Fin 32) (lane : Fin 4) (s : State) : Host.Outcome State Fault Refusal :=
  s.vec i vd [regV vd, regG ga] 2 fun x k => (if k = lane.val then x.fr ga else laneOf (x.vr vd) k, 0)

/-- VEXT (Table 3-10). -/
def execVcsVext (i : Issue) (rd : Fin 32) (va : Fin 16) (lane : Fin 4) (s : State) : Host.Outcome State Fault Refusal :=
  s.fp i rd [regV va] 2 fun x => (laneOf (x.vr va) lane.val, 0)

/-- VMINH (Table 3-10). -/
def execVcsVminh (i : Issue) (rd : Fin 32) (va : Fin 16) (s : State) : Host.Outcome State Fault Refusal :=
  s.fp i rd [regV va] 2 fun x => fpVminh (x.lanes va)

/-- VSINCOS (R81). -/
def execVcsVsincos (i : Issue) (vd : Fin 16) (ga : Fin 32) (s : State) : Host.Outcome State Fault Refusal :=
  s.vec i vd [regG ga] 6 fun x k => (sincos ((x.gr ga).setWidth 32) k, 0)

/-- VCLARKE (R80). -/
def execVcsVclarke (i : Issue) (vd va : Fin 16) (s : State) : Host.Outcome State Fault Refusal :=
  s.xform i vd [regV va] 6 fun x => fpClarke (laneOf (x.vr va) 0) (laneOf (x.vr va) 1) (laneOf (x.vr va) 2)

/-- VICLARKE (R80). -/
def execVcsViclarke (i : Issue) (vd va : Fin 16) (s : State) : Host.Outcome State Fault Refusal :=
  s.xform i vd [regV va] 6 fun x => fpIclarke (laneOf (x.vr va) 0) (laneOf (x.vr va) 1) (laneOf (x.vr va) 2)

/-- VPARK (R80). -/
def execVcsVpark (i : Issue) (vd va vb : Fin 16) (s : State) : Host.Outcome State Fault Refusal :=
  s.xform i vd [regV va, regV vb] 6 fun x =>
    fpPark (laneOf (x.vr va) 0) (laneOf (x.vr va) 1) (laneOf (x.vr vb) 0) (laneOf (x.vr vb) 1)

/-- VIPARK (R80). -/
def execVcsVipark (i : Issue) (vd va vb : Fin 16) (s : State) : Host.Outcome State Fault Refusal :=
  s.xform i vd [regV va, regV vb] 6 fun x =>
    fpIpark (laneOf (x.vr va) 2) (laneOf (x.vr va) 3) (laneOf (x.vr vb) 0) (laneOf (x.vr vb) 1)


end Sys2Proof.Machine
end

