-- ==== Sys2Proof/Machine/Current.lean ====
section
/-!
DEFINITION. Machine/Current.lean: the current-control and the modulation task (R169, R170, R187, R188, R195, R197, R199 to R202).
-/
namespace Sys2Proof.Machine

/-! ### Vectors and filters -/

/-- A quadrature filter of gain √2 after a step of `wt` = ω × T (R193): in-phase and quadrature value. The manual names the integrator and not its difference
equation; this one is semi-implicit (log entry 146). -/
def sogiStep (x : Nat × Nat) (v wt : Nat) : Nat × Nat :=
  let a := fFma wt (fSub (fMul 0x3FB504F3 (fSub v x.1)) x.2) x.1
  (a, fFma wt a x.2)

/-- The vector (α, β) of three phase values (R80). -/
def clarkeOf (a b c : Nat) : Nat × Nat :=
  let l := (fpClarke a b c).1
  (l.getD 0 0, l.getD 1 0)

/-- A vector in the frame of an angle in fractions of a turn (R80, R81). -/
def parkOf (v : Nat × Nat) (angle : Nat) : Nat × Nat :=
  let a := BitVec.ofNat 32 angle
  let l := (fpPark v.1 v.2 (sincos a 0) (sincos a 1)).1
  (l.getD 2 0, l.getD 3 0)

/-- The inverse. -/
def iparkOf (v : Nat × Nat) (angle : Nat) : Nat × Nat :=
  let a := BitVec.ofNat 32 angle
  let l := (fpIpark v.1 v.2 (sincos a 0) (sincos a 1)).1
  (l.getD 0 0, l.getD 1 0)

/-- The length of a vector. -/
def lengthOf (v : Nat × Nat) : Nat := fSqrt (fFma v.1 v.1 (fMul v.2 v.2))

/-- The phases' quadrature filters after three samples. -/
def sogiAll (l : List (Nat × Nat)) (vs : List Nat) (wt : Nat) : List (Nat × Nat) :=
  (List.range vs.length).map fun k => sogiStep (l.getD k (0, 0)) (vs.getD k 0) wt

/-- The positive- and the negative-sequence vector of three pairs of in-phase and quadrature values (R193). -/
def sequences (l : List (Nat × Nat)) : (Nat × Nat) × (Nat × Nat) :=
  let at_ := fun k => l.getD k (0, 0)
  let v := clarkeOf (at_ 0).1 (at_ 1).1 (at_ 2).1
  let q := clarkeOf (at_ 0).2 (at_ 1).2 (at_ 2).2
  let half := fMul 0x3F000000
  ((half (fSub v.1 q.2), half (fAdd q.1 v.2)), (half (fAdd v.1 q.2), half (fSub v.2 q.1)))

/-- Turns as whole units of 2^-32 (R81). -/
def turnsOf (x : Nat) : Nat := (fpToInt true (fMul x 0x4F800000)).1 % 2 ^ 32

/-- ω × T at a frequency. -/
def omegaT (f t : Nat) : Nat := fMul (fMul 0x40C90FDB f) t

/-! ### Ride-through as the current-control task finds it (R199 to R202) -/

/-- RT, TRIP and VALID as exchange node 262,081 shows them (Table 8-2). -/
def Dev.seenBit (d : Dev) (i : Nat) : Bool := bitOf d.prog.seen.word i

/-- Vfast (R199): the length of the voltage vector over the rated phase peak. -/
def Dev.vfast (d : Dev) (v : Nat × Nat) : Nat := fDiv (lengthOf v) d.phasePeak

/-- Entry, momentary cessation and exit (R199, R201, R202). An activation in which the condition of R199 still stands does not end ride-through
(log entry 150). -/
def Dev.rideNext (d : Dev) (vfast power : Nat) : Dev :=
  let p := d.prog
  let c := p.cur
  let g := p.seen.grid
  let n := if fpLt vfast (d.param 0xD4) || fpLt (d.param 0xD5) vfast then satAdd 255 c.entN 1 else 0
  let rt := d.seenBit 29
  let x0 := d.onCur fun y => { y with entN := n, rtRead := rt }
  let enter := x0.rideDue || (rt && !c.rtRead)
  let start := fpLt g.vmin (d.param 0xD8) || fpLt (d.param 0xDA) g.vmax
  let past := fpLe (fAdd (d.param 0xD8) 0x3CA3D70A) g.vmin && fpLe g.vmax (fSub (d.param 0xDA) 0x3CA3D70A)
  let mc := start || (p.mc && !past)
  let x := if enter && !p.ride then x0.rideEnter else x0
  let leave := x.prog.ride && !enter && !mc && fpLe (d.param 0xD4) g.vmin && fpLe g.vmax (d.param 0xD5)
  let ride := x.prog.ride && !leave
  x.onProg fun q => { q with
    ride := ride
    mc := mc
    cur := { q.cur with
      rode := ride
      iqHold := if ride && !c.rode then c.iqRef else c.iqHold
      exit := if leave then some (power, d.tide) else if ride then none else c.exit
      mcEnd := if mc then none else if p.mc then some d.tide else c.mcEnd } }

/-- The power that the references follow (R202): after an exit P* limited to P_exit + rt.prec × prated × t. -/
def Dev.powerRef (d : Dev) : Nat :=
  let p := d.prog.seen.pstar
  match d.prog.cur.exit with
  | some (pe, t0) => fMin p (fFma (fMul (d.param 0xDB) d.prated) (d.since t0) pe)
  | none => p

/-- The current limit in force (R169, R200, R201): after cessation it rises over rt.mcrest to its ride-through value, and outside ride-through stays at or
below the value of R169. -/
def Dev.currentLimit (d : Dev) : Nat :=
  let rideLim := fMul (d.param 0xDF) d.ratedPeak
  let lim := if d.prog.ride then rideLim else fMul (d.param 0x12) d.ratedPeak
  match d.prog.cur.mcEnd with
  | some t0 => fMin lim (fMul rideLim (fMin (fDiv (d.since t0) (d.param 0xD9)) 0x3F800000))
  | none => lim

/-- iq* in ride-through (R200). -/
def Dev.rideReactive (d : Dev) : Nat :=
  let v1 := d.prog.seen.grid.v1
  if d.paramOn 0xDC then
    if fpLt v1 0x3F800000 then fpNeg (fMul (d.look 7 (fSub 0x3F800000 v1)) d.ratedPeak)
    else if fpLt 0x3F800000 v1 then fMul (d.look 7 (fSub v1 0x3F800000)) d.ratedPeak
    else 0
  else d.prog.cur.iqHold

/-- The references before the limit in grid following, and in ride-through (R169, R200). -/
def Dev.rawRefs (d : Dev) : Nat × Nat :=
  let g := d.prog.seen.grid
  let ud := fMax g.ud (fMul 0x3D4CCCCD d.phasePeak)
  let k := fMul 0x3FC00000 ud
  (fDiv d.powerRef k, if d.prog.ride then d.rideReactive else fpNeg (fDiv g.qstar k))

/-- The references before the limit in grid forming (R197): `v` is the grid voltage in the frame of the virtual machine, `q` the measured reactive power. -/
def Dev.formingRefs (d : Dev) (v : Nat × Nat) (q : Nat) : Nat × Nat :=
  let xv := fDiv (fMul (d.param 0xBC) (fMul (d.param 0x02) (d.param 0x02))) d.prated
  let e := fFma (d.param 0xBB) (fDiv (fSub d.prog.seen.grid.qstar q) d.prated) 0x3F800000
  (fpNeg (fDiv v.2 xv), fDiv (fSub v.1 (fMul e d.phasePeak)) xv)

/-- Step 2 of R169: the vector is limited, the quantity with priority first. -/
def limitRefs (lim idr iqr : Nat) (q : Bool) : Nat × Nat :=
  let rest (x : Nat) : Nat := fSqrt (fMax (fSub (fMul lim lim) (fMul x x)) 0)
  if q then
    let iq := fClamp iqr (fpNeg lim) lim
    let r := rest iq
    (fClamp idr (fpNeg r) r, iq)
  else
    let i := fClamp idr (fpNeg lim) lim
    let r := rest i
    (i, fClamp iqr (fpNeg r) r)

/-- The virtual machine of grid forming (R197): with `sat`, the vector limited or ride-through, dw is zero and w := wg (Table 8-6). -/
def Dev.virtualMachine (d : Dev) (sat : Bool) (p : Nat) : Dev :=
  let t := d.rolePeriod .current
  let c := d.prog.cur
  let wg := fDiv d.prog.seen.grid.f (d.param 0xC0)
  let dw := fDiv (fSub (fDiv (fSub d.prog.seen.pstar p) d.prated) (fMul (d.param 0xBA) (fSub c.w wg))) (fMul 0x40000000 (d.param 0xB9))
  let w := if sat then wg else fFma dw t c.w
  d.onCur fun x => { x with w := w, thf := (x.thf + turnsOf (fMul (fMul w (d.param 0xC0)) t)) % 2 ^ 32 }

/-! ### The controllers (R169, R170, R195) -/

/-- One PI controller (Table 3-13): the output and the next integrator, each within the voltage limits. -/
def piStep (kp kit e x lim : Nat) : Nat × Nat :=
  (fClamp (fFma kp e x) (fpNeg lim) lim, fClamp (fFma kit e x) (fpNeg lim) lim)

/-- A resonant term of gain `krt` = hc.kr × T at `wt` = ω × T, after a step with the error `e` (R195, log entry 146): its output and its quadrature state. -/
def resStep (x : Nat × Nat) (e krt wt : Nat) : Nat × Nat :=
  let a := fFma krt e (fSub x.1 (fMul wt x.2))
  (a, fFma wt a x.2)

/-- The gain table of the current loops (R170, R200). -/
def Dev.gainTable (d : Dev) : CtlTable :=
  if d.prog.ride then tableOf [(0, 0x3F800000), (d.param 0xE0, d.param 0xE1), (0x40000000, d.param 0xE1)] else d.ctlTable 2

/-- The proportional gain of an axis with error `e` (R170). -/
def Dev.axisGain (d : Dev) (e : Nat) : Nat := fMul (d.param 0x10) (d.gainTable.look (fDiv (fpAbs e) d.ratedPeak))

/-- The resonant terms after an activation with the axis currents `i` (R195): 6 f on d and q, 12 f on d and q; one that hc.mask leaves out rests at zero. -/
def Dev.resonant (d : Dev) (i : Nat × Nat) : List (Nat × Nat) :=
  let t := d.rolePeriod .current
  let krt := fMul (d.param 0x16) t
  let mask := d.paramNat 0x15
  (List.range 4).map fun k =>
    if bitOf mask (k / 2) then
      resStep (d.prog.cur.res.getD k (0, 0)) (fpNeg (if k % 2 = 0 then i.1 else i.2)) krt
        (fMul (if k < 2 then 0x40C00000 else 0x41400000) (omegaT d.prog.seen.grid.f t))
    else (0, 0)

/-- The negative-sequence reference in the frame at minus the angle (R195, R200): with rt.nsmode = 1 in ride-through of magnitude rt.k2 × V2 × Î, 90° behind
the negative-sequence voltage `v2`, scaled down so that the two references together do not exceed the limit. -/
def Dev.negativeRef (d : Dev) (lim i1 : Nat) (v2 : Nat × Nat) : Nat × Nat :=
  let len := lengthOf v2
  if d.prog.ride && d.paramOn 0xDD && fpLt 0 len then
    let want := fMul (fMul (d.param 0xDE) d.prog.seen.grid.v2) d.ratedPeak
    let m := fDiv (fMin want (fMax (fSub lim i1) 0)) len
    (fpNeg (fMul v2.2 m), fMul v2.1 m)
  else (0, 0)

/-- How far the ramp of a controlled stop has come down: 1 to 0 (R188). -/
def Dev.stopScale (d : Dev) : Nat :=
  match d.prog.cur.rampFrom with
  | some t0 => fClamp (fSub 0x3F800000 (fDiv (d.since t0) (d.param 0xB0))) 0 0x3F800000
  | none => 0x3F800000

/-- The references in force (R188, R194, R201, R206): zero in cessation, under a grid trip, without VALID and once a stop's ramp has ended; in a controlled stop
the references that the ramp starts from come down linearly, whatever else changes (Table 7-10). -/
def Dev.refsInForce (d : Dev) (r : Nat × Nat) : Nat × Nat :=
  let st := d.prog.seen.stop
  if d.prog.mc || d.seenBit 27 || !d.seenBit 31 then (0, 0)
  else if st.causes.isEmpty then r
  else if st.ramp then
    let k := d.stopScale
    (fMul d.prog.cur.rampRef.1 k, fMul d.prog.cur.rampRef.2 k)
  else (0, 0)

/-! ### The task -/

/-- What the task boards, by input entry (log entry 145): 0 the phase currents, 1 the DC-link voltage, 2 the phase voltages. -/
def currentInputs (t : Task) : List (Option (Nat × Nat)) :=
  [t.input 0 0, t.input 0 1, t.input 0 2, t.input 1 0, t.input 2 0, t.input 2 1, t.input 2 2]

/-- The losses of Table 7-7 among the freshness bits of those items. -/
def currentLosses (ok : List Bool) : List FeedbackLoss :=
  let stale := (ok.take 3).countP (! ·)
  (if stale = 1 then [.phaseCurrent] else if 1 < stale then [.phaseCurrents] else [])
    ++ (if ok.getD 3 true then [] else [.dcLink]) ++ (if (ok.drop 4).all id then [] else [.gridVoltage])

/-- The phase currents, with one that is not fresh beyond the hold limit derived as minus the sum of the others (Table 7-7). -/
def derivedCurrents (v : List Nat) (ok : List Bool) (derive : Bool) : Nat × Nat × Nat :=
  let a := v.getD 0 0
  let b := v.getD 1 0
  let c := v.getD 2 0
  let minus (x y : Nat) : Nat := fpNeg (fAdd x y)
  if !derive then (a, b, c)
  else if !ok.getD 0 true then (minus b c, b, c)
  else if !ok.getD 1 true then (a, minus a c, c)
  else (a, b, minus a b)

/-- Udc as a task acts on it (Table 7-7): a fresh item; on the fallback the second channel, else the last fresh value. -/
def Dev.udcNow (d : Dev) (r : Role) (u : Nat × Bool) : Nat :=
  let c := (1, d.paramNat 0xA4)
  if u.2 then u.1 else if d.prog.second && d.itemFresh r c then d.itemWord c % 2 ^ 32 else d.prog.udc

/-- The angle of the current loops (R166, R195, R197, Table 8-6): in grid following and in ride-through the grid angle, advanced by one frame, with the drift
angle; in grid forming that of the virtual machine. -/
def Dev.loopAngle (d : Dev) : Nat :=
  let g := d.prog.seen.grid
  if d.paramOn 0xB8 && !d.prog.ride then d.prog.cur.thf
  else (g.theta + turnsOf (fMul g.f (d.seconds 1)) + (if d.paramOn 0xB8 then 0 else g.thd)) % 2 ^ 32

/-- An activation of current control that acts (R166, R169, R170, R195 to R202): `i`, `v` the boarded currents and voltages, `udc` the DC-link voltage. The
phase references that it leaves are normalised by Udc ÷ 2. -/
def Dev.currentAct (d : Dev) (i : Nat × Nat × Nat) (v : List Nat) (udc : Nat) : Dev :=
  let t := d.rolePeriod .current
  let va := clarkeOf (v.getD 0 0) (v.getD 1 0) (v.getD 2 0)
  let ia := clarkeOf i.1 i.2.1 i.2.2
  let power := fMul 0x3FC00000 (fFma va.1 ia.1 (fMul va.2 ia.2))
  let react := fMul 0x3FC00000 (fSub (fMul va.2 ia.1) (fMul va.1 ia.2))
  let sogi := sogiAll d.prog.cur.sogi (v ++ [i.1, i.2.1, i.2.2]) (omegaT d.prog.seen.grid.f t)
  let ramping := d.prog.seen.stop.ramp
  let x := (d.rideNext (d.vfast va) power).onCur fun c => { c with
    sogi := sogi, power := power
    rampFrom := if ramping then some (c.rampFrom.getD d.tide) else none
    rampRef := if ramping && c.rampFrom.isNone then (c.idRef, c.iqRef) else c.rampRef }
  let ang := x.loopAngle
  let neg := (2 ^ 32 - ang) % 2 ^ 32
  let i1 := parkOf ia ang
  let i2 := parkOf (sequences (sogi.drop 3)).2 neg
  let forming := x.paramOn 0xB8 && !x.prog.ride
  let raw := if forming then x.formingRefs (parkOf va ang) react else x.rawRefs
  let lim := x.currentLimit
  let lmt := limitRefs lim raw.1 raw.2 (x.prog.ride || x.paramOn 0x13)
  let r := x.refsInForce lmt
  let n0 := x.negativeRef lim (lengthOf r) (parkOf (sequences (sogi.take 3)).2 neg)
  let n := if r = (0, 0) then (0, 0) else n0
  let y := x.when (x.paramOn 0xB8) fun z => z.virtualMachine (z.prog.ride || decide (lmt ≠ raw)) power
  let vlim := fDiv (fMul (y.param 0x14) udc) 0x40000000
  let kit := fMul (y.param 0x11) t
  let c := y.prog.cur
  let pi (want is x0 : Nat) : Nat × Nat := piStep (y.axisGain (fSub want is)) kit (fSub want is) x0 vlim
  let npi (want is x0 : Nat) : Nat × Nat := piStep (y.param 0x10) kit (fSub want is) x0 vlim
  let pd := pi r.1 i1.1 c.xd
  let pq := pi r.2 i1.2 c.xq
  let nd := npi n.1 i2.1 c.xnd
  let nq := npi n.2 i2.2 c.xnq
  let res := y.resonant i1
  let add (a b : Nat) : Nat := fAdd (fAdd a (res.getD b (0, 0)).1) (res.getD (b + 2) (0, 0)).1
  let u1 := iparkOf (add pd.1 0, add pq.1 1) ang
  let u2 := iparkOf (nd.1, nq.1) neg
  let phases := (fpIclarke (fAdd u1.1 u2.1) (fAdd u1.2 u2.2) 0).1.take 3
  let half := fDiv udc 0x40000000
  let refs := phases.map fun u => fDiv (fClamp u (fpNeg vlim) vlim) half
  y.onCur fun k => { k with
    idRef := r.1, iqRef := r.2, xd := pd.2, xq := pq.2, xnd := nd.2, xnq := nq.2, res := res, refs := refs
    exit := if fpLe y.prog.seen.pstar y.powerRef then none else k.exit
    mcEnd := match k.mcEnd with
      | some t0 => if fpLe (y.param 0xD9) (y.since t0) then none else some t0
      | none => none }

/-- The current-control task (R169, R185, R186): a held activation changes nothing but its count. -/
def Dev.currentControl (d : Dev) (t : Task) : Dev :=
  let ins := currentInputs t
  let vals := ins.map (d.input .current)
  let ok := vals.map Prod.snd
  let v := vals.map Prod.fst
  let f := d.feed .current (currentLosses ok)
  let keys := ins.filterMap id ++ [(1, d.paramNat 0xA4)]
  let u := (v.getD 3 0, ok.getD 3 false)
  match f.1 with
  | .hold => f.2.noteSeqs .current keys
  | .act => (((f.2.onProg fun p => { p with udc := if u.2 then u.1 else p.udc }).currentAct (v.getD 0 0, v.getD 1 0, v.getD 2 0) (v.drop 4)
      (v.getD 3 0))).noteSeqs .current keys
  | .fallback =>
    let udc := f.2.udcNow .current u
    (((f.2.onProg fun p => { p with udc := udc }).currentAct (derivedCurrents v ok f.2.prog.derived) (v.drop 4) udc)).noteSeqs .current keys

/-! ### Modulation and cell commands (R187, R188, R206, R212) -/

/-- A cell after an activation in which its report is fresh or not (R187): it is left out once it has had no fresh report for more than fb.hold frames, and is
back after 2 fresh ones in a row. -/
def Dev.cellWatch (d : Dev) (c : Nat) (fresh : Bool) : Dev :=
  d.onMod fun m =>
    let stale := if fresh then 0 else satAdd (2 ^ 16) (m.stale.at 0 c) 1
    let back := if fresh then satAdd 2 (m.back.at 0 c) 1 else 0
    let out := if m.out.contains c then decide (back < 2) else decide (d.paramNat 0xA0 < stale)
    { m with
      stale := m.stale.set 0 c stale
      back := m.back.set 0 c (if out then back else 0)
      out := if out then (if m.out.contains c then m.out else m.out ++ [c]) else m.out.filter (· ≠ c) }

/-- The leg words and cell commands of a running converter. How they follow from the phase references is the modulation method, which the manual does not
give: the values of words 0 to 2 and of the cell commands are free ones (log entry 151). A cell that balancing leaves out takes fb.cellfb. -/
def Dev.modulate (d : Dev) : Dev :=
  let legs := d.ownedItems 8
  let x := legs.foldl (fun y m => (List.range 3).foldl (fun z w =>
    let r := z.draw (2 ^ 64)
    r.2.onTt fun t => { t with ended := t.ended ++ [(⟨8, m, w, BitVec.ofNat 64 r.1⟩ : OutItem)] }) y) d
  let y := ((d.ownedItems 3).filter fun c => !d.prog.mod.out.contains c).foldl (fun z c =>
    let r := z.draw (2 ^ 16)
    r.2.onTt fun t => { t with ended := t.ended ++ [(⟨3, c, 0, BitVec.ofNat 64 r.1⟩ : OutItem)] }) (x.stageRun true)
  (y.stageCells ((d.ownedItems 3).filter fun c => d.prog.mod.out.contains c)).onMod fun m => { m with running := true }

/-- The modulation task (R187, R188, R206, R212): an immediate stop or a grid trip is staged at once, a controlled stop at the end of its ramp; a start needs
VALID = 1 (R194). -/
def Dev.modulation (d : Dev) (id : Nat) (t : Task) : Dev :=
  let cells := t.inputsOf 3
  let x := (cells.foldl (fun y i => y.cellWatch i.2 (d.itemFresh .modulation i)) (d.onMod fun m => { m with task := some id })).noteSeqs .modulation cells
  let y := (x.noteLosses .modulation (if x.prog.mod.out.isEmpty then [] else [.cells])).rampEnd
  let z := if d.loopClosed then y.fallback .cells else y
  let st := z.prog.seen.stop
  if z.seenBit 27 || (!st.causes.isEmpty && !st.ramp) then
    (z.onProg fun p => { p with stop := { p.stop with staged := p.stop.staged || !p.stop.causes.isEmpty } }).stageStop
  else if z.prog.mod.running || (z.prog.mod.service && z.seenBit 31) then z.modulate
  else z

end Sys2Proof.Machine
end

