-- ==== Sys2Proof/Machine/Programs.lean ====
section
/-!
DEFINITION. Machine/Programs.lean: what the other shipped tasks do in an activation (R165, R166, R171 to R184, R192 to R196, R203 to R212, R238): the
candidates and the competition, the grid record, supervision and the detectors, cell reports, field tracking.
-/
namespace Sys2Proof.Machine

/-! ### The export permit and grid support task (R175 to R177, R181, R182) -/

/-- The voltage that a result word of a differential pair spells (R376): a signed code in bits 15:0, or in bits 31:16 with ALIGN = 1, of which 2^15 are
the reference of 3.000 V. -/
def Dev.pairVoltage (d : Dev) (n w : Nat) : Nat :=
  let code := toSigned 16 (if d.onAt .ADC_CFG_ALIGN n then w / 2 ^ 16 else w)
  fMul (fpOfInt code).1 0x38C00000

/-- The permit by loop current (R175): outside the mapped range but inside the wider one it keeps its state, in range or out of it. -/
def Dev.permitLoop (d : Dev) (u : Nat) : Dev :=
  let i := fDiv u (d.param 0x42)
  let mapped := fMul (d.param 0x41) (fClamp (fDiv (fSub i 0x3B83126F) 0x3C83126F) 0 0x3F800000)
  let inRange : Bool :=
    if fpLe 0x3B79096C i && fpLe i 0x3CA7EF9E then true
    else if fpLe 0x3B6BEDFA i && fpLe i 0x3CAC0831 then !d.prog.permitOut
    else false
  if inRange then d.permitIn mapped else d.permitLost

/-- The frequency-watt candidate (R181). On the way back to +infinity a first-order lag has no finite target; it heads for prated, which no other
candidate exceeds, and is +infinity once within 1 % of it (log entry 152). -/
def Dev.freqWatt (d : Dev) : Dev :=
  let f := d.prog.seen.grid.f
  let fnom := d.param 0xC0
  let edge := fAdd fnom (d.param 0x71)
  let c := d.prog.comp
  let t := d.rolePeriod .support
  if d.paramOn 0x70 && fpLt edge f then
    let pre := c.ppre.getD d.prog.seen.pstar
    let goal := fSub pre (fDiv (fMul d.prated (fSub f edge)) (fMul fnom (d.param 0x72)))
    d.onComp fun x => { x with ppre := some pre, fwY := some (lagStep (c.fwY.getD pre) goal t (d.lagOf 0x73)) }
  else
    d.onComp fun x => { x with
      ppre := none
      fwY := match c.fwY with
        | some y =>
          let z := lagStep y d.prated t (d.lagOf 0x73)
          if !d.paramOn 0x70 || fpLe (fMul 0x3F7D70A4 d.prated) z then none else some z
        | none => none }

/-- The volt-watt candidate (R182); its lag starts at the first value (log entry 146). -/
def Dev.voltWatt (d : Dev) : Dev :=
  if d.paramOn 0x80 then
    let goal := fMul d.prated (d.look 1 d.prog.seen.grid.vmax)
    d.onComp fun c => { c with vwY := some (lagStep (c.vwY.getD goal) goal (d.rolePeriod .support) (d.lagOf 0x81)) }
  else d.onComp fun c => { c with vwY := none }

/-- The permit candidate, +infinity while no source is selected. -/
def Dev.permitNow (d : Dev) : Option Nat := if fpEq (d.param 0x40) 0 then none else d.prog.permit

/-- Exchange node 262,083 (Table 7-2): the candidates at 0x00, 0x04 and 0x08, the permit fault in bit 0 at 0x0C (log entry 147). -/
def Dev.publishSupport (d : Dev) : Dev :=
  let c := d.prog.comp
  (d.onPub fun e => { e with permit := d.permitNow, fw := c.fwY, vw := c.vwY, permitFault := d.prog.permitFault }).publish 3
    (leBytes 4 (fOpt d.permitNow) ++ leBytes 4 (fOpt c.fwY) ++ leBytes 4 (fOpt c.vwY) ++ leBytes 4 (bit01 d.prog.permitFault))

/-- The export permit and grid support task: with prm.src = 1 it boards AN62/AN63, whose result stands in the even input's item (R374). -/
def Dev.gridSupport (d : Dev) (t : Task) : Dev :=
  let loop := d.paramOn 0x40
  let i := if (t.inputsOf 2).contains (2, 62) then some (2, 62) else none
  let v := d.input .support i
  let f := d.feed .support (if loop && !v.2 then [.permit] else [])
  if f.1 = .hold then f.2.noteSeqs .support [(2, 62)]
  else
    let x := if loop && v.2 then f.2.permitLoop (f.2.pairVoltage 62 v.1) else f.2
    ((x.permitLate.permitTimeout.freqWatt.voltWatt).publishSupport).noteSeqs .support [(2, 62)]

/-! ### Cell report processing and thermal derating (R178, R179) -/

/-- The temperature in a cell's report (R178). -/
def Dev.cellTemperature (d : Dev) (w : Nat) : Nat :=
  fMul (fpOfInt (toSigned 12 (w / 2 ^ d.paramNat 0x53))).1 (d.param 0x54)

/-- The cell report processing task (Table 7-1): exchange node 262,086 takes the hottest fresh cell's temperature at 0x00, and the number of stale cells
at 0x04 (log entry 147). -/
def Dev.cellReports (d : Dev) (t : Task) : Dev :=
  let cells := t.inputsOf 3
  let good := cells.filter (d.itemFresh .cells)
  let hot := good.foldl (fun (h : Option Nat) i =>
    let y := d.cellTemperature (d.itemWord i % 2 ^ 26)
    some (match h with
      | some x => fMax x y
      | none => y)) none
  let stale := cells.length - good.length
  (((d.onPub fun e => { e with cellHot := hot, cellStale := stale }).publish 6 (leBytes 4 (hot.getD fpNaN) ++ leBytes 4 stale))).noteSeqs .cells cells

/-- The coolant term (R179): it falls from its first value at th.coolr × prated per second to the floor. -/
def Dev.coolNow (d : Dev) : Nat :=
  match d.prog.coolTerm with
  | none => fInf
  | some (v, t0) =>
    let floor := fMul (d.param 0x50) d.prated
    fMax floor (fSub v (fMul (fMul (d.param 0x51) d.prated) (d.since t0)))

/-- An AN input's result as table 5 takes it: the code as binary32 (R376, log entry 40). -/
def Dev.tableInput (d : Dev) (n w : Nat) : Nat :=
  let v := if d.onAt .ADC_CFG_ALIGN n then w / 2 ^ 16 else w
  (fpOfInt (if d.onAt .ADC_CFG_DIFF n then toSigned 16 v else (v % 2 ^ 16 : Nat))).1

/-- T_hot (R178): the highest of the hottest cell and the task's AN inputs through table 5, whose default the manual does not give. -/
def Dev.hotNow (d : Dev) (ins : List (Nat × Nat)) : Nat × Dev :=
  let given := (d.prog.tables.at none 5).isSome
  ins.foldl (fun (acc : Nat × Dev) i =>
    let r := if given then (acc.2.look 5 (acc.2.tableInput i.2 (acc.2.itemWord i)), acc.2) else acc.2.draw (2 ^ 32)
    (fMax acc.1 r.1, r.2)) (d.prog.seen.cellHot.getD fpNaN, d)

/-- Exchange node 262,082 (Table 7-2): the thermal candidate at 0x00, T_hot at 0x04, coolant lost in bit 0 at 0x08 (log entry 147). -/
def Dev.publishThermal (d : Dev) (tHot : Nat) : Dev :=
  let v := fMin (d.thermalAt tHot) d.coolNow
  (d.onPub fun e => { e with therm := some v, coolLost := d.prog.coolTerm.isSome }).publish 2
    (leBytes 4 v ++ leBytes 4 tHot ++ leBytes 4 (bit01 d.prog.coolTerm.isSome))

/-- The thermal task (R178, R179): a stale temperature input, or no fresh cell where there are cells, counts as coolant loss beyond the hold limit. -/
def Dev.thermalTask (d : Dev) (t : Task) : Dev :=
  let ins := t.inputsOf 2
  let ok := ins.all (d.itemFresh .thermal) && (d.prog.seen.cellHot.isSome || decide (d.prog.seen.cellStale = 0))
  let f := d.feed .thermal (if ok then [] else [.temperature])
  if f.1 = .hold then f.2.noteSeqs .thermal ins
  else
    let r := f.2.hotNow ins
    let x := r.2.onPub fun e => { e with tHot := r.1 }
    ((x.coolantBack.coolantLate.coolantStop).publishThermal r.1).noteSeqs .thermal ins

/-! ### The competition and the DC-link loop (R170 to R174, R180, R183, R184, R198) -/

/-- The DC-link limit (R184). -/
def Dev.dcLimit (d : Dev) (udc : Nat) : Nat :=
  let lo := fMul (d.param 0x22) (d.param 0x04)
  let hi := fMul (d.param 0x23) (d.param 0x04)
  if fpLe hi udc then fInf
  else if fpLe udc lo then 0
  else fMul d.prated (fDiv (fSub udc lo) (fSub hi lo))

/-- The under-frequency response is active at a frequency (R198). -/
def Dev.ufrAt (d : Dev) (f : Nat) : Bool := d.paramOn 0xEC && fpLt f (fSub (d.param 0xC0) (d.param 0xED))

/-- The under-frequency response (R198): its power behind the lag, to which zero is the target once f has returned. -/
def Dev.underFreq (d : Dev) : Dev :=
  let f := d.prog.seen.grid.f
  let on := d.ufrAt f
  let edge := fSub (d.param 0xC0) (d.param 0xED)
  let goal := if on then fDiv (fMul d.prated (fSub edge f)) (fMul (d.param 0xC0) (d.param 0x72)) else 0
  d.onComp fun c => { c with ufr := on, duf := lagStep c.duf goal (d.rolePeriod .competition) (d.lagOf 0x73) }

/-- The ramp-rate candidate (R180): in the enter-service ramp the rate is min(rmp.up, 60 ÷ rc.tramp) pu/min (R212). -/
def Dev.rampLimit (d : Dev) (prev : Nat) : Nat :=
  let up := if d.seenBit 26 then fMin (d.param 0x60) (fDiv 0x42700000 (d.param 0xB6)) else d.param 0x60
  fAdd prev (fDiv (fMul (fMul up d.prated) (d.rolePeriod .competition)) 0x42700000)

/-- The candidates in the order of their tags (Table 7-6), those of other tasks as their exchange nodes show them. -/
def Dev.candidates (d : Dev) (prev udc : Nat) : List Nat :=
  let c := d.prog.comp
  let e := d.prog.seen
  [d.dcLimit udc, fOpt e.therm, fOpt e.permit, fOpt e.fw, fOpt e.vw, fAdd (fOpt d.prog.host) c.duf, fAdd (d.rampLimit prev) c.duf, fOpt c.trk]

/-- The chain of minsel over candidates with their tags (R172). -/
def minChain (l : List Nat) : Nat :=
  let tagged := (List.range l.length).map fun k => l.getD k fInf + 2 ^ 32 * k
  tagged.tail.foldl (fun a b => (fpMinsel a b).1) (tagged.headD 0)

/-- What exchange node 262,080 carries (R231): P*, the tag, the stop state word, cur.margin, the tide count. The layout of the stop state word, which shows
the stop and the command of R184 to the field, is not given: a free value while there is one to show. -/
def Dev.publishPower (d : Dev) : Dev :=
  let r := d.draw (2 ^ 32)
  let c := d.prog.comp
  let word := if d.stopped || c.curtail then r.1 else 0
  (r.2.onPub fun e => { e with pstar := c.pstar, tag := c.tag, curtail := c.curtail }).publish 0
    (leBytes 4 c.pstar ++ leBytes 4 c.tag ++ leBytes 4 word ++ leBytes 4 (d.param 0x31) ++ leBytes 8 d.tide)

/-- The competition acts (R172, R173, R180, R184): the least candidate, clamped to cmp.pmin × prated to prated, is P*; with every candidate NaN P* is 0 and
a controlled stop with cause 0x04 begins. P*prev is the measured power at the first activation and after a stop or a trip. -/
def Dev.compete (d : Dev) (udc : Nat) : Dev :=
  let x := d.hostLate.underFreq
  let out := x.stopped || x.seenBit 27
  let prev := if x.prog.comp.fromMeasured || out then x.prog.cur.power else x.prog.comp.pstar
  let w := minChain (x.candidates prev udc)
  let tag := w / 2 ^ 32
  let lost := decide (tag = 0xFFFFFFFF)
  let p := if lost then 0 else fClamp (w % 2 ^ 32) (fMul (x.param 0x30) x.prated) x.prated
  let high := fpLt (fMul (x.param 0x24) (x.param 0x04)) udc
  let y := x.onComp fun c => { c with
    pstar := p, tag := tag, fromMeasured := out, nan := lost, curtail := high, ovpN := if high then satAdd (2 ^ 16) c.ovpN 1 else 0 }
  (y.when lost fun z => z.stopFor 0x04).overvoltageStop.publishPower

/-- The DC-link voltage that a task boards (log entry 145): item 0 of its input entry 0, its freshness, and the keys of the items it looks at. -/
def Dev.udcInput (d : Dev) (r : Role) (t : Task) : (Nat × Bool) × List (Nat × Nat) :=
  (d.input r (t.input 0 0), (t.input 0 0).toList ++ [(1, d.paramNat 0xA4)])

/-- The competition task. The current-control task alone applies the fallback of a lost DC-link voltage; this one then takes the value that it applies. -/
def Dev.competition (d : Dev) (t : Task) : Dev :=
  let u := d.udcInput .competition t
  let f := d.feed .competition (if u.1.2 then [] else [.dcLink])
  if f.1 = .hold then f.2.noteSeqs .competition u.2
  else (f.2.compete (f.2.udcNow .competition u.1)).noteSeqs .competition u.2

/-- The DC-link loop acts (R170, R171): a PI controller with a scheduled proportional gain; while another candidate wins its integrator is clamped from above
to P* + cur.margin × prated. -/
def Dev.dcLinkLoop (d : Dev) (udc : Nat) : Dev :=
  let c := d.prog.comp
  let e := fSub udc (fMul (d.param 0x61) (d.param 0x04))
  let g := d.look 3 (fDiv (fpAbs e) (d.param 0x04))
  let top := if d.prog.seen.tag = 7 then fMul (d.param 0x12) d.prated else fFma (d.param 0x31) d.prated d.prog.seen.pstar
  let x := fClamp (fFma (fMul (d.param 0x21) (d.rolePeriod .dcLink)) e c.xTrk) (fMin 0 top) top
  d.onComp fun c => { c with trk := some (fFma (fMul (d.param 0x20) g) e x), xTrk := x }

/-- The DC-link task. -/
def Dev.dcLinkTask (d : Dev) (t : Task) : Dev :=
  let u := d.udcInput .dcLink t
  let f := d.feed .dcLink (if u.1.2 then [] else [.dcLink])
  if f.1 = .hold then f.2.noteSeqs .dcLink u.2
  else (f.2.dcLinkLoop (f.2.udcNow .dcLink u.1)).noteSeqs .dcLink u.2

/-! ### Grid synchronisation (R192 to R196, R206, R208, R212) -/

/-- qvv of the volt-var mode (R196). -/
def Dev.qvv (d : Dev) (v1 : Nat) : Nat :=
  let dev := fSub v1 (d.param 0xCB)
  let beyond := fSub (fpAbs dev) (d.param 0xCC)
  if fpLe beyond 0 then 0
  else
    let q := fMul (d.param 0xCE) (fMin (fDiv beyond (d.param 0xCD)) 0x3F800000)
    if fpLt 0 dev then fpNeg q else q

/-- Q* according to q.mode, without the islanding term (R196), at P* as exchange node 262,080 shows it. -/
def Dev.reactive (d : Dev) : Nat :=
  let p := d.prog.seen.pstar
  let mode := d.paramNat 0xC8
  if mode = 0 then
    let pf := d.param 0xC9
    let q := fDiv (fMul (fpAbs p) (fSqrt (fSub 0x3F800000 (fMul pf pf)))) (fpAbs pf)
    if fpLt pf 0 then fpNeg q else q
  else if mode = 1 then fMul (d.param 0xCA) d.prated
  else if mode = 2 then d.prog.pll.qLag
  else
    let w := fMul (d.param 0xD0) d.prated
    if fpLe p w then 0
    else fMul (fMul (d.param 0xD1) d.prated) (fMin (fDiv (fSub p w) (fSub d.prated w)) 0x3F800000)

/-- The volt-var lag after an activation (R196). -/
def Dev.voltVar (d : Dev) : Dev :=
  d.onPll fun x => { x with qLag := lagStep x.qLag (fMul d.prated (d.qvv d.prog.grid.v1)) (d.rolePeriod .sync) (d.lagOf 0xCF) }

/-- Active detection runs: is.en = 1 and gf.mode = 0 (R197, R208). -/
def Dev.activeDetection (d : Dev) : Bool := d.paramOn 0xF0 && fpEq (d.param 0xB8) 0

/-- The drift angle as a signed fraction of a turn, in 32 bits (R208). -/
def Dev.driftAngle (d : Dev) (f : Nat) : Nat :=
  let deg := fClamp (fFma (d.param 0xF6) (fSub f (d.param 0xC0)) (d.param 0xF7)) 0xC1200000 0x41200000
  turnsOf (fDiv deg 0x43B40000)

/-- The quantities of R193 after three voltages: the quadrature filters, the sequence vectors, the loop and the angle. In Free the integrator stands and the
angle advances at the last fe (R194). Before is.rocw has passed, RoCoF is 0 (log entry 146). -/
def Dev.pllStep (d : Dev) (v : List Nat) : Dev :=
  let x := d.prog.pll
  let t := d.rolePeriod .sync
  let fnom := d.param 0xC0
  let sogi := sogiAll x.sogi v (omegaT (x.f.getD fnom) t)
  let sq := sequences sogi
  let mags := sogi.map fun p => fDiv (lengthOf p) d.phasePeak
  let v1 := fDiv (lengthOf sq.1) d.phasePeak
  let uv := parkOf sq.1 x.theta
  let e := fDiv (fDiv uv.2 d.phasePeak) (fMax v1 (d.param 0xC2))
  let bw := d.param 0xC1
  let free := d.prog.free
  let xi := if free then x.x
    else fClamp (fFma (fMul (fMul 0x40C90FDB (fMul bw bw)) t) e x.x) (fSub 0x42200000 fnom) (fSub 0x428C0000 fnom)
  let fe := if free then x.fe.getD fnom else fClamp (fAdd fnom (fFma (fMul 0x3FB4FDF4 bw) e xi)) 0x42200000 0x428C0000
  let f := lagStep (x.f.getD fe) fe t (d.param 0xC4)
  let n := (fpInt (fDiv (d.param 0xFC) t)).toNat
  let roc := match x.past[n - 1]? with
    | some old => fDiv (fSub f old) (d.param 0xFC)
    | none => 0
  (d.onPll fun y => { y with
    sogi := sogi, x := xi, fe := some fe, theta := (y.theta + turnsOf (fMul fe t)) % 2 ^ 32, f := some f
    past := (f :: y.past).take (2 ^ 17) }).onProg fun p => { p with grid := { p.grid with
      theta := x.theta, f := f, rocof := roc, ud := uv.1, uq := uv.2, v1 := v1,
      v2 := fDiv (lengthOf sq.2) d.phasePeak, vmin := mags.foldl fMin fInf, vmax := mags.foldl fMax 0 } }

/-- Momentary cessation as the task reports it (R201), and since when the conditions of the lock and of the reconnection have held (R194, R212). -/
def Dev.syncTimes (d : Dev) : Dev :=
  let g := d.prog.grid
  let start := fpLt g.vmin (d.param 0xD8) || fpLt (d.param 0xDA) g.vmax
  let past := fpLe (fAdd (d.param 0xD8) 0x3CA3D70A) g.vmin && fpLe g.vmax (fSub (d.param 0xDA) 0x3CA3D70A)
  let good := d.gridGood && d.paramOn 0xB7
  d.onPll fun x => { x with
    mc := start || (x.mc && !past)
    lockFrom := sinceWhen d.tide x.lockFrom (decide (d.prog.sync = .searching) && d.lockReady)
    rcFrom := sinceWhen d.tide x.rcFrom good }

/-- The live line of exchange node 262,081 (Table 8-1); its other bits are zero. -/
def Dev.publishGrid (d : Dev) : Dev :=
  let g := d.prog.grid
  let word := d.prog.gridWord (d.ufrAt g.f)
  (d.onPub fun e => { e with grid := g, word := word }).publish 1 (leBytes 8 g.theta ++ leBytes 4 g.f ++ leBytes 4 g.rocof ++ leBytes 4 g.ud
    ++ leBytes 4 g.uq ++ leBytes 4 g.v1 ++ leBytes 4 g.v2 ++ leBytes 4 g.vmin ++ leBytes 4 g.vmax ++ leBytes 4 g.qstar ++ leBytes 4 g.thd
    ++ leBytes 8 word ++ leBytes 200 0)

/-- The grid synchronisation task (R192 to R196, R201, R206, R208, R212): the record from the three voltages of input entry 0, the transitions whose conditions
stand, Q* with the islanding term, and the drift angle, which ride-through keeps (Table 8-6). -/
def Dev.gridSync (d : Dev) (t : Task) : Dev :=
  let ins := [t.input 0 0, t.input 0 1, t.input 0 2]
  let vals := ins.map (d.input .sync)
  let lost := !(vals.all Prod.snd)
  let keys := ins.filterMap id
  let a := ((d.onPll fun x => { x with lost := lost }).pllStep (vals.map Prod.fst)).syncTimes
  let b := ((((a.syncMove .lock).syncMove .regained).syncMove .lost).freeEnd).tripTake
  let c := ((b.perturbClose.perturbOpen).reconnect.enterEnd).voltVar
  let q := if c.prog.pwin then fFma (c.param 0xF3) c.prated c.reactive else c.reactive
  let thd := if c.prog.ride || c.prog.rt then c.prog.grid.thd else if c.activeDetection then c.driftAngle c.prog.grid.f else 0
  ((c.onProg fun p => { p with grid := { p.grid with qstar := q, thd := thd } }).publishGrid).noteSeqs .sync keys

/-! ### Ride-through supervision and the passive detectors (R203 to R206, R211) -/

/-- A profile timer after an activation (R203): it starts at the first one with its condition and advances by the task's period. -/
def Dev.profileTimer (d : Dev) (high cond : Bool) : Dev :=
  let n := 2 ^ d.roleRate .supervision
  let p := d.prog
  let on := if high then p.tov else p.tu
  let d1 := if high then
      (d.onProg fun q => { q with tov := on || cond, tovT := if on then q.tovT + n else 0, pwin := q.pwin && !cond }).onWatch fun w =>
        { w with tovOff := if cond then 0 else w.tovOff + n }
    else
      (d.onProg fun q => { q with tu := on || cond, tuT := if on then q.tuT + n else 0, pwin := q.pwin && !cond }).onWatch fun w =>
        { w with tuOff := if cond then 0 else w.tuOff + n }
  d1.timerReset high

/-- The frequency elements after an activation (R205): each timer runs while its condition holds. -/
def Dev.freqTimers (d : Dev) : Dev :=
  let f := d.prog.grid.f
  let n := 2 ^ d.roleRate .supervision
  (List.range 4).foldl (fun x k =>
    let e := freqElement k
    let cond := if e.2.2 then fpLt (fAdd (x.param 0xC0) (x.param e.1)) f else fpLt f (fSub (x.param 0xC0) (x.param e.1))
    x.onWatch fun w => { w with freqT := w.freqT.set 0 k (if cond then (if w.freqT.at 0 k = 0 then 1 else w.freqT.at 0 k + n) else 0) }) d

/-- The trip conditions of supervision that stand (R204, R205), as codes of Table 8-4. -/
def Dev.supervisionTrips (d : Dev) : List Nat :=
  let p := d.prog
  (if p.tu && fpLt p.grid.vmin (d.look 4 (d.seconds p.tuT)) then [1] else [])
    ++ (if p.tov && fpLt (d.look 6 (d.seconds p.tovT)) p.grid.vmax then [2] else [])
    ++ ((List.range 4).filter d.freqDue).map fun k => 0x3 + k

/-- Trip conditions that stand, in place of those that the same task found before, are recorded (R206). -/
def Dev.noteTrips (d : Dev) (mine : Nat → Bool) (l : List Nat) : Dev :=
  l.foldl Dev.tripNote (d.onWatch fun w => { w with tripping := w.tripping.filter (fun c => !mine c) ++ l })

/-- The ride-through supervision task (R203 to R206). It shares an engine with grid synchronisation and sees its record of the same frame. -/
def Dev.supervise (d : Dev) : Dev :=
  let g := d.prog.grid
  let x := ((d.profileTimer false (fpLt g.vmin (d.param 0xD4))).profileTimer true (fpLt (d.param 0xD5) g.vmax)).freqTimers
  x.noteTrips (fun c => decide (c ≤ 6)) x.supervisionTrips

/-- The angle of a vector of whole numbers, in 2^-32 of a turn, for a vector in the upper half plane: bit `k` and those below it are found from `a` on. -/
def angleUp (x y : Int) : Nat → Nat → Nat
  | 0, a => a
  | k + 1, a =>
    let b := a + 2 ^ k
    let t := trigTurn b
    angleUp x y k (if 0 ≤ t.1 * y - t.2 * x then b else a)

/-- atan2 as a fraction of a turn in 32 bits (R211). -/
def atanTurn (y x : Nat) : Nat :=
  match fpVal y, fpVal x with
  | some v, some u => if 0 ≤ v then angleUp u v 31 0 else 2 ^ 31 + angleUp (-u) (-v) 31 0
  | _, _ => 0

/-- The passive detectors are blocked (R211). -/
def Dev.passiveBlocked (d : Dev) : Bool :=
  !d.prog.valid || d.prog.rt || d.prog.pll.mc || d.prog.pwin
    || (match d.prog.watch.rtEnd with
      | some n => fpLt (d.since n) 0x3E4CCCCD
      | none => false)

/-- The passive detectors (R211): RoCoF above is.rocof in 3 activations in a row; the angle of the voltage vector changed by more than is.vs degrees over
one nominal period. -/
def Dev.detect (d : Dev) : Dev :=
  let g := d.prog.grid
  let w := d.prog.watch
  let blocked := d.passiveBlocked
  let delta := atanTurn g.uq g.ud
  let n := if d.paramOn 0xFA && !blocked && fpLt (d.param 0xFB) (fpAbs g.rocof) then satAdd 3 w.rocN 1 else 0
  let k := (fpInt (fDiv (fDiv 0x3F800000 (d.param 0xC0)) (d.rolePeriod .detectors))).toNat
  let shift := match w.delta[k - 1]? with
    | some old => (toSigned 32 (delta + 2 ^ 32 - old)).natAbs
    | none => 0
  let jump := d.paramOn 0xFD && !blocked && fpLt (d.param 0xFE) (fMul (fpRat shift (2 ^ 32)) 0x43B40000)
  let x := d.onWatch fun y => { y with rocN := n, delta := (delta :: y.delta).take (2 ^ 13) }
  x.noteTrips (fun c => c == 8 || c == 9) ((if n = 3 then [8] else []) ++ (if jump then [9] else []))

/-! ### Field tracking (R236, R238) -/

/-- An optimiser: node class 0x10, a report accepted in this round, NODEOK = 1 (R238). -/
def Dev.optimiserFresh (m : List Host.Cell) (d : Dev) (n : Nat) : Bool :=
  decide (msgNat (d.lineBytes m n 0x2B 1) 0 1 = 0x10) && decide (d.node.accepted.at 0 n = d.round32)
    && bitOf (msgNat (d.lineBytes m n 0x2C 1) 0 1) 0

/-- A value of the up area of node `n`'s line (Table 9-12). -/
def Dev.upValue (m : List Host.Cell) (d : Dev) (n off k : Nat) : Nat := msgNat (d.lineBytes m n (0x40 + off) k) 0 k

/-- Sorted insertion of a value. -/
def fInsert (x : Nat) : List Nat → List Nat
  | [] => [x]
  | y :: t => if fpLe x y then x :: y :: t else y :: fInsert x t

/-- The median of some values; of an even number the mean of the middle two (log entry 153). -/
def fMedian (l : List Nat) : Nat :=
  let s := l.foldr fInsert []
  let k := s.length / 2
  if s.length % 2 = 1 then s.getD k 0 else fMul 0x3F000000 (fAdd (s.getD (k - 1) 0) (s.getD k 0))

/-- What the scan state of an optimiser becomes. -/
def Dev.setScan (d : Dev) (n : Nat) (s : Scan) : Dev := d.onProg fun p => { p with scans := p.scans.set {} n s }

/-- Each optimiser's next visit (R236, R238 step 1): its share of the cap, PSTEP and PLIM. While the DC link is above dc.ovp (R184) the share is 0 and the
optimiser is off, and after it tracks again (log entry 153). -/
def Dev.optimiserShare (m : List Host.Cell) (d : Dev) (pavl n : Nat) : Dev :=
  let off := d.prog.seen.curtail
  let share := if off then 0 else fDiv (d.upValue m n 0x14 4) pavl
  let x := ((d.lineStore n 0x02 (leBytes 2 (d.paramNat 0x68))).lineStore n 0x08 (leBytes 4 share)).lineStore n 0x0C (leBytes 4 (d.param 0x6B))
  let s := d.prog.scans.at {} n
  if off then (x.lineStore n 0x00 (leBytes 1 3)).setScan n { s with phase := 3 }
  else if s.phase = 3 then (x.lineStore n 0x00 (leBytes 1 0)).setScan n { s with phase := 0 }
  else x

/-- An optimiser that was ordered to scan, or holds a peak (R238 step 4). -/
def Dev.optimiserFollow (m : List Host.Cell) (d : Dev) (n : Nat) : Dev :=
  let s := d.prog.scans.at {} n
  if s.phase = 1 then
    let id := d.upValue m n 0x38 4
    if !(decide (s.round = some id) || decide (s.round.map (fun k => (k + 1) % 2 ^ 32) = some id)) then d
    else if fpLt (fMul (d.upValue m n 0x08 4) (fAdd 0x3F800000 (d.param 0x64))) (d.upValue m n 0x1C 4) then
      ((d.lineStore n 0x00 (leBytes 1 1)).lineStore n 0x04 (leBytes 4 (d.upValue m n 0x18 4))).setScan n { s with phase := 2 }
    else (d.lineStore n 0x00 (leBytes 1 0)).setScan n { s with phase := 0 }
  else if s.phase = 2 && decide (d.upValue m n 0x12 1 % 4 = 1) then (d.lineStore n 0x00 (leBytes 1 0)).setScan n { s with phase := 0 }
  else d

/-- A scan is ordered at the optimiser's next visit (R238 step 3), up to ft.smax in a round. -/
def Dev.orderScan (d : Dev) (n : Nat) : Dev :=
  if decide (d.prog.scanCount.2 < d.paramNat 0x66) && decide ((d.prog.scans.at {} n).phase = 0) then
    ((((d.lineStore n 0x00 (leBytes 1 2)).lineStore n 0x10 (leBytes 4 (d.param 0x69))).lineStore n 0x14 (leBytes 4 (d.param 0x6A))).setScan n
      { phase := 1, round := some d.round32 }).onProg fun p => { p with scanCount := (p.scanCount.1, p.scanCount.2 + 1) }
  else d

/-- The field nodes of landing `l`, as long as it is enabled. -/
def Dev.landingNodes (d : Dev) (l : Nat) : List Nat :=
  if d.onAt .NODE_LCFG_EN l then (List.range (d.rdAt .NODE_LCFG_COUNT l)).map fun k => d.rdAt .NODE_LBASE_BASE l + k else []

/-- The suspects of landing `l` (R238 step 2): below ft.shd of the median of its string's fresh members, and not scanned for ft.rescan rounds. -/
def Dev.suspects (m : List Host.Cell) (d : Dev) (l : Nat) : List Nat :=
  let fresh := (d.landingNodes l).filter (Dev.optimiserFresh m d)
  let string (n : Nat) : Nat := (n - d.rdAt .NODE_LBASE_BASE l) / max 1 (d.paramNat 0x63)
  fresh.filter fun n =>
    let median := fMedian ((fresh.filter fun k => decide (string k = string n)).map fun k => d.upValue m k 0x08 4)
    let rested := match (d.prog.scans.at {} n).round with
      | none => true
      | some k => decide (d.paramNat 0x67 ≤ (d.round32 + 2 ^ 32 - k) % 2 ^ 32)
    rested && fpLt (d.upValue m n 0x08 4) (fMul (d.param 0x62) median)

/-- The optimisers that the rotation reaches in this round: ft.rot of all, from where it stands (R238 step 3). -/
def Dev.rotation (d : Dev) (all : List Nat) : List Nat :=
  let want := fMul (d.param 0x65) (fpOfInt all.length).1
  let k := (fpInt want).toNat
  let n := if fpLt (fpOfInt (k : Nat)).1 want then k + 1 else k
  ((all.filter fun x => decide (d.prog.scanNext ≤ x)) ++ all.filter fun x => decide (x < d.prog.scanNext)).take n

/-- The field-tracking program (R174, R238), on the whole field, for every optimiser with a fresh report. The suspects come before the rotation, which
advances once in a round. -/
def Dev.fieldTracking (m : List Host.Cell) (d : Dev) : Dev :=
  let all := (List.range 512).flatMap d.landingNodes
  let fresh := all.filter (Dev.optimiserFresh m d)
  let pavl := fresh.foldl (fun a n => fAdd a (d.upValue m n 0x14 4)) 0
  let x := fresh.foldl (fun y n => y.optimiserShare m pavl n) d
  if d.prog.seen.tag ≠ 7 ∨ d.prog.seen.curtail then x
  else
    let first := decide (x.prog.scanCount.1 ≠ x.round32)
    let y := if first then x.onProg fun p => { p with scanCount := (x.round32, 0) } else x
    let z := ((List.range 512).flatMap (y.suspects m)).foldl Dev.orderScan (fresh.foldl (Dev.optimiserFollow m) y)
    let opt := all.filter fun n => decide (msgNat (d.lineBytes m n 0x2B 1) 0 1 = 0x10)
    let turn := if first then z.rotation opt else []
    let w := (turn.filter fresh.contains).foldl Dev.orderScan z
    match turn.getLast? with
    | some n => w.onProg fun p => { p with scanNext := n + 1 }
    | none => w

/-! ### Channel P's grid window (R315) -/

/-- A condition has held since the frame `t` for `ms` milliseconds, of 400,000 ticks each. -/
def Dev.lastedMs (d : Dev) (t : Option Nat) (ms : Nat) : Bool :=
  match t with
  | some t0 => decide (400000 * ms ≤ (d.tide - t0) * d.rd .TIDE_PERIOD_ACT)
  | none => false

/-- The sample of analog input `n` that the safety program's task boards (R315): a differential pair's is signed; a single-ended input is biased at
mid-scale (log entry 159). -/
def Dev.phaseSample (d : Dev) (n : Nat) : Int :=
  let w := d.itemWord (2, n) % 2 ^ 32
  let c := if d.onAt .ADC_CFG_ALIGN n then w / 2 ^ 16 else w
  if d.onAt .ADC_CFG_DIFF n then toSigned 16 (c % 2 ^ 16) else (c % 2 ^ 16 : Nat) - 2 ^ 15

/-- A phase takes its sample `x` of the instant `now`, in ticks, a frame of `p` ticks after the one before: a zero crossing ends a half cycle, and so do
12.5 ms without one (log entry 159); a positive-going one, interpolated, ends a period. -/
def PhaseWindow.next (w : PhaseWindow) (now p : Nat) (x : Int) : PhaseWindow :=
  let y := w.prev.getD x
  let rise := decide (y < 0) && decide (0 ≤ x)
  let ends := rise || (decide (0 ≤ y) && decide (x < 0))
  let late := decide (5000000 < w.count * p)
  let sq := x.natAbs * x.natAbs
  let t := now - p + (p * y.natAbs) / (x - y).natAbs
  { sum := if ends || late then sq else w.sum + sq
    count := if ends || late then 1 else w.count + 1
    rms := if ends || late then some (w.sum, w.count) else w.rms
    prev := some x
    cross := if rise then some t else if late then none else w.cross
    period := if rise then w.cross.map (fun c => t - c) else if late then none else w.period }

/-- The RMS of the last half cycle lies outside VLO to VHI: in 0.001 of 1 pu, whose peak is PGSC counts (R315). -/
def Dev.rmsOutside (d : Dev) (w : PhaseWindow) : Bool :=
  match w.rms with
  | some (s, n) =>
    let side := fun (v : Nat) => v * v * d.rd .SAF_PGSC * d.rd .SAF_PGSC * n
    decide (2000000 * s < side (d.rd .SAF_PGV_VLO)) || decide (side (d.rd .SAF_PGV_VHI) < 2000000 * s)
  | none => false

/-- The frequency of a phase lies outside FLO to FHI, in 0.01 Hz (R315). -/
def Dev.freqOutside (d : Dev) (w : PhaseWindow) : Bool :=
  match w.period with
  | some t => decide (40000000000 < d.rd .SAF_PGF_FLO * t) || decide (d.rd .SAF_PGF_FHI * t < 40000000000)
  | none => false

/-- The grid-window task of the safety program (R315), at RATE 0 on the SE pair: a phase voltage outside VLO to VHI for TV, or a frequency, phase a's,
outside FLO to FHI for TF, demands SF-A on channel P. -/
def Dev.safetyGrid (d : Dev) (t : Task) : Dev :=
  let an := [d.rd .SAF_PGCFG_ANA, d.rd .SAF_PGCFG_ANB, d.rd .SAF_PGCFG_ANC]
  if !d.on .SAF_PGCFG_EN || decide (t.engine ≠ 8) || decide (t.rate ≠ 0) || !an.all (fun n => (t.inputsOf 2).contains (2, n)) then d
  else
    let p := d.rd .TIDE_PERIOD_ACT
    let pg := List.zipWith (fun (w : PhaseWindow) n => w.next (d.tide * p) p (d.phaseSample n)) d.saf.pg an
    let tv := sinceWhen d.tide d.saf.pgV (pg.any d.rmsOutside)
    let tf := sinceWhen d.tide d.saf.pgF (d.freqOutside (pg.headD {}))
    let trip := d.lastedMs tv (d.rd .SAF_PGT_TV) || d.lastedMs tf (d.rd .SAF_PGT_TF)
    let d1 := d.onSaf fun s => { s with pgV := tv, pgF := tf, gridP := trip, pg := pg }
    d1.when (trip && !d.saf.gridP) fun x => x.demand false 0 true 0x22

/-! ### Activations -/

/-- Every accepted change whose frame has come is in force (R168). -/
def Dev.takeEffect (d : Dev) : Dev :=
  let due (e : Nat × CtlChange) : Bool := decide (e.1 ≤ d.tide)
  d.onProg fun p => { (p.changes.filter due).foldl (fun q e => q.apply e.2) p with changes := p.changes.filter fun e => !due e }

/-- A RATE at which the rules of this chapter hold for a task (R165). -/
def rateHolds (r : Role) (k : Nat) : Bool :=
  match r with
  | .current | .modulation | .dcLink => decide (k = 0)
  | .competition => decide (k ≤ 6)
  | _ => true

/-- A control task activates (Table 7-1), at the RATE of its descriptor. -/
def Dev.runTask (d : Dev) (r : Role) (id : Nat) (t : Task) : Dev :=
  let x := d.onProg fun p => { p with rates := p.rates.set (defaultPlacement r).2 (roleIndex r) t.rate }
  match r with
  | .current => x.currentControl t
  | .modulation => x.modulation id t
  | .dcLink => x.dcLinkTask t
  | .competition => x.competition t
  | .cells => x.cellReports t
  | .sync => x.gridSync t
  | .supervision => x.supervise
  | .detectors => x.detect
  | .thermal => x.thermalTask t
  | .support => x.gridSupport t

/-- A shipped task activates: one that the active timetable does not hold, or holds at a RATE that R165 forbids, does not. -/
def Dev.shipped (m : List Host.Cell) (d : Dev) : Activation → Dev
  | .task r id => match d.taskOf id.val with
    | some t => if rateHolds r t.rate then d.runTask r id.val t else d
    | none => d
  | .safetyGrid id => match d.taskOf id.val with
    | some t => d.safetyGrid t
    | none => d
  | .fieldTracking => d.fieldTracking m

/-- PARAMETER_TAKE_EFFECT (R168): from the activation of a shipped task at or after frame N + 8 the change is in force; that activation, where one is
given, then runs (R165). -/
def execParameterTakeEffect (act : Option Activation) (s : State) : Host.Outcome State Fault Refusal :=
  s.updR fun m d => d.ctl fun x =>
    match act with
    | none => x.takeEffect
    | some a => x.takeEffect.shipped m a

end Sys2Proof.Machine
end

