-- ==== Sys2Proof/Machine/Twin.lean ====
section
/-!
DEFINITION. Machine/Twin.lean: twin operation over the Hawser: states, messages, divergence, handover and takeover, resynchronisation, the
exposure window and the double-fault state (R329 to R355), and what else puts a twin out (R368, R447).
-/
namespace Sys2Proof.Machine

/-! ### States (Table 14-8) -/

def twAlone : Nat := 0
def twSeek : Nat := 1
def twJoin : Nat := 2
def twLeading : Nat := 3
def twTrailing : Nat := 4
def twSingle : Nat := 5
def twHost : Nat := 6
def twOut : Nat := 7
def twDflt : Nat := 8

/-- The state of the TWIN block. -/
def Dev.twinState (d : Dev) : Nat := d.rd .TWIN_STAT_STATE

/-- Enters a state. -/
def Dev.twinGo (d : Dev) (s : Nat) : Dev := d.wr .TWIN_STAT_STATE s

/-- The part takes the lead: it pulls CROSS low (R343); its switches P follow (R313). -/
def Dev.takeLead (d : Dev) : Dev := ((d.flag .PWM_STAT_LEAD true).flag .TWIN_STAT_CROSS false).outputs

/-- The part is no longer leading: it releases CROSS (R343). -/
def Dev.dropLead (d : Dev) : Dev := if d.on .PWM_STAT_LEAD then ((d.flag .PWM_STAT_LEAD false).flag .TWIN_STAT_CROSS true).outputs else d

/-- Enters OUT: neither leading nor in step. -/
def Dev.twinOut (d : Dev) : Dev := (d.dropLead.twinGo twOut).onTwin fun t => { t with handover := none, ttact := none }

/-! ### The exposure window and the double-fault state (R353) -/

/-- The exposure window opens. -/
def Dev.openWindow (d : Dev) : Dev :=
  if d.on .TWIN_STAT_EXP then d
  else ((d.flag .TWIN_STAT_EXP true).flag .TWIN_EXPO_OPEN true).onTwin fun t => { t with expoTicks := 0 }

/-- The window closes when both parts are in step, both lanes work and every DRAM device is sound. -/
def Dev.closeWindow (d : Dev) : Dev :=
  let p := d.rd .TWIN_STAT_PEER
  let inStep := (d.twinState = twLeading ∧ p = twTrailing) ∨ (d.twinState = twTrailing ∧ p = twLeading)
  if inStep ∧ d.on .TWIN_STAT_LN0 ∧ d.on .TWIN_STAT_LN1 ∧ !d.sys.devFailed then (d.flag .TWIN_STAT_EXP false).flag .TWIN_EXPO_OPEN false else d

/-- The part enters DFLT: ARM clears, every link is blocked, CROSS is released, the latch is set. -/
def Dev.doubleFault (d : Dev) : Dev :=
  let d1 := d.disarm.each 32 Dev.blockLink
  let d2 := ((d1.dropLead.twinGo twDflt).flag .TWIN_STAT_DFLT true).onTwin fun t => { t with dflt := true, handover := none, ttact := none }
  d2.raise 412

/-- DOUBLE_FAULT (R353): a second independent fault inside the window. -/
def execDoubleFault (s : State) : Host.Outcome State Fault Refusal :=
  s.upd fun d => d.ctl fun x => if x.on .TWIN_STAT_INST && x.on .TWIN_STAT_EXP then x.doubleFault else x

/-- TWIN_DFCLR (R353). -/
def Dev.dfClear (d : Dev) : Dev :=
  let d1 := (d.onTwin fun t => { t with dflt := false }).flag .TWIN_STAT_DFLT false
  if d1.twinState = twDflt then d1.twinGo twSeek else d1

/-- TWIN_DFCLR (R344, R353). -/
def execTwinDfclr (req : Requester) (s : State) : Host.Outcome State Fault Refusal := s.upd fun d => d.ctlWrite req Dev.dfClear

/-! ### Resynchronisation (R332, R348, R349) -/

/-- The attempt ends without success (Table 14-13). -/
def Dev.rsFail (d : Dev) (code : Nat) : Dev :=
  let d1 := (((d.flag .TWIN_STAT_RSF true).wr .TWIN_RSSTAT_CODE code).wr .TWIN_RSSTAT_PHASE 0).onTwin fun t => { t with copyFrom := none, cutAt := none }
  let d2 := if d1.twinState = twJoin then d1.twinOut else if d1.twinState = twHost then d1.twinGo twSingle else d1
  d2.raise 414

/-- A part begins to join; it is refused with the latch set, or when the other part is not SINGLE. -/
def Dev.startJoin (d : Dev) : Dev :=
  if d.twin.dflt then d.rsFail 0x08
  else if d.rd .TWIN_STAT_PEER ≠ twSingle then d.rsFail 0x06
  else
    let d1 := (((d.twinGo twJoin).wr .TWIN_RSSTAT_PHASE 1).wr .TWIN_RSSTAT_CODE 0).wr .TWIN_RSSTAT_PCT 0
    d1.onTwin fun t => { t with attempts := 0, bulk := 0, copyFrom := none, cutAt := none, parts := [], wrote := [] }

/-- A write of 1 to TWIN.CTRL.JOIN. -/
def Dev.twinJoin (d : Dev) : Dev := if d.twinState = twOut then d.startJoin else d

/-- TWIN_JOIN (R344). -/
def execTwinJoin (req : Requester) (s : State) : Host.Outcome State Fault Refusal := s.upd fun d => d.ctlWrite req Dev.twinJoin

/-- A write of 1 to TWIN.CTRL.LEAVE. -/
def Dev.twinLeave (d : Dev) : Dev := if d.twinState = twTrailing then d.twinOut else d

/-- TWIN_LEAVE (R344). -/
def execTwinLeave (req : Requester) (s : State) : Host.Outcome State Fault Refusal := s.upd fun d => d.ctlWrite req Dev.twinLeave

/-- A CTRL message (R337): command, PART, tide count and argument of its body. -/
def ctlCmd (b : List Byte) : Nat := hwNat b 0 1
def ctlPart (b : List Byte) : Nat := hwNat b 1 1
def ctlEdge (b : List Byte) : Nat := hwNat b 8 8
def ctlArg (b : List Byte) : List Byte := (b.drop 16).take 16

/-- The body of a CTRL message. -/
def ctlBody (cmd edge arg : Nat) : List Byte := leBytes 1 cmd ++ leBytes 7 0 ++ leBytes 8 edge ++ leBytes 16 arg

/-- A received PAIR part: parts of another tide count begin a new command. -/
def Dev.pairPart (d : Dev) (b : List Byte) : Dev :=
  if ctlCmd b ≠ 1 ∨ d.twinState ≠ twJoin ∨ 4 ≤ ctlPart b then d
  else d.onTwin fun t =>
    let parts := if t.pairAt = ctlEdge b then t.parts else []
    { t with pairAt := ctlEdge b, parts := parts.set [] (ctlPart b) (ctlArg b) }

/-- The arguments of the four parts of PAIR at the named edge (R337): the next commit edge, and the MCLK edge counts of the six domains. -/
def Dev.pairWords (d : Dev) (edge : Nat) : List Nat :=
  let c := fun k => d.mclkCount k ((edge - d.tide) * d.rd .TIDE_PERIOD_ACT)
  [d.nextCommit, c 0 + 2 ^ 64 * c 1, c 2 + 2 ^ 64 * c 3, c 4 + 2 ^ 64 * c 5]

/-- The HOST sends the four parts of PAIR. -/
def Dev.pairSend (d : Dev) (edge : Nat) : Dev :=
  ((List.range 4).foldl (fun x k => x.hawserSend 10 (leBytes 1 1 ++ leBytes 1 k ++ leBytes 6 0 ++ leBytes 8 edge ++ leBytes 16 ((d.pairWords edge).getD k 0))) d).wr
    .TWIN_RSSTAT_PHASE 1

/-- PAIR (R337): the HOST sends its four parts (`out`) with the edge that `msg` names, an edge to come, or the joining twin receives a part. -/
def execPair (out : Bool) (msg : List (BitVec 8)) (s : State) : Host.Outcome State Fault Refusal :=
  s.upd fun d =>
    if out then d.ctl fun x =>
      if x.twinState = twHost ∧ x.hawserUp ∧ x.tide < ctlEdge (hwBody msg) then
        (x.onTwin fun t => { t with pairAt := ctlEdge (hwBody msg) }).pairSend (ctlEdge (hwBody msg))
      else x
    else d.hawserUse 10 msg fun x => x.pairPart (hwBody msg)

/-- The two 8-byte numbers of a PAIR part. -/
def pairArgs (l : List Byte) : List Nat := [hwNat l 0 8, hwNat l 8 8]

/-- The MCLK edge counts of the six domains are loaded (R332). -/
def Dev.mclkLoad (d : Dev) (l : List Nat) : Dev :=
  d.onMet fun m => { m with mclkAge := (List.range 6).foldl (fun a k => a.set 0 k (l.getD k 0 * 2 * d.cfg .MTR_MCLK_DIV k)) m.mclkAge }

/-- TWIN_RESYNC_RESET (R332, R472): with all four parts of PAIR, the control domain is reset and the Tide generator restarts at the named count; the
TWIN block's state goes through the reset, MCLK counts and the next commit edge are loaded, the metering windows restart. -/
def execTwinResyncReset (s : State) : Host.Outcome State Fault Refusal :=
  s.updRst fun d =>
    let part := fun k => d.twin.parts.at [] k
    if d.sys.cdReset || decide (d.twinState ≠ twJoin) || !((List.range 4).all fun k => !(part k).isEmpty) then d
    else
      let d1 := d.controlReset 0x6
      let d2 := (d.regs.filter fun e => decide (e.1.1.blk = .TWIN)).foldl (fun x e => x.wrAt e.1.1 e.1.2 e.2) d1
      let d3 := d2.onTwin fun _ => { d.twin with
        resync := true, parts := []
        commitEdge := some (hwNat (part 0) 0 8) }
      let d4 := (d3.onTt fun t => { t with opened := false }).wr64 .TIDE_CNTLO .TIDE_CNTHI d.twin.pairAt
      let d5 := (d4.mclkLoad (pairArgs (part 1) ++ pairArgs (part 2) ++ pairArgs (part 3))).each 4 fun x m => (x.pointRestart m).onMet fun t => { t with firstW := t.firstW.set false m (x.cfgOn .MTR_MPCFG_EN m) }
      (d5.controlRelease).wr .TWIN_RSSTAT_PHASE 2

/-- A link that runs has HOLD below 6 (R345). -/
def Dev.holdShort (d : Dev) : Bool :=
  (List.range 32).any fun l => d.onAt .CLINK_STAT_RUNNING l && decide (d.rdAt .CLINK_CFG_HOLD l < 6)

/-- The NODE block of a joining twin runs with the other part's from the copy on (R232, Table 14-10): the round in progress there and its count come by no
message (free values, log entry 156). -/
def Dev.nodeJoin (d : Dev) : Dev :=
  let x := d.onNode fun n => { n with joined := true }
  if !x.on .NODE_CTRL_RUN then x
  else
    let rf := x.rd .NODE_ROUND_MS * 400000 / x.rd .TIDE_PERIOD_ACT
    let count := x.draw (2 ^ 64)
    let since := count.2.draw (max 1 rf)
    (((since.2.wr64 .NODE_RNDLO .NODE_RNDHI count.1).wr .NODE_RNDFR rf).flag .NODE_STAT_RUNNING true).onNode fun n => { n with start := x.tide - since.1 }

/-- Phase 2 of resynchronisation ends (Table 14-10): `code` is what the comparison of the parts' configurations found (0: they agree). -/
def Dev.phaseTwo (d : Dev) (code : Nat) : Dev :=
  if !(d.twinState = twJoin ∨ d.twinState = twHost) then d
  else if code ≠ 0 then d.rsFail code
  else if d.rd .TWIN_MIRB_LIMIT < d.rd .TWIN_MIRB_USED then d.rsFail 0x04
  else if d.holdShort then d.rsFail 0x07
  else ((d.onTwin fun t => { t with copyFrom := some ((d.tide / 4096 + 1) * 4096) }).wr .TWIN_RSSTAT_PHASE 3).when (d.twinState = twJoin) Dev.nodeJoin

/-- RESTART_RECORD_TIMEOUT (R350): the held restart records are appended when phase 2 ends (with its code) or CVTO expires (none). `cover`: the twin's
commit sequence number, when it holds a commit at or after TTO. -/
def execRestartRecordTimeout (phase2 : Option (Fin 10)) (cover : Option Nat) (s : State) : Host.Outcome State Fault Refusal :=
  s.upd fun d =>
    let d1 := d.releaseRestart cover
    match phase2 with
    | some c => d1.ctl fun x => x.phaseTwo c.val
    | none => d1

/-- RESYNC_RESTART (R349): more than 256 KiB of stores wait, and the attempt restarts at the next hyperperiod boundary; the third restart ends the resynchronisation. -/
def execResyncRestart (s : State) : Host.Outcome State Fault Refusal :=
  s.upd fun d => d.ctl fun x =>
    if !(x.twinState = twJoin ∨ (x.twinState = twHost ∧ 262144 < 20 * x.twin.stores.length)) then x
    else
      let y := (x.bump .TWIN_CNT2_RESTARTS 65535).onTwin fun t => { t with
        attempts := t.attempts + 1, bulk := 0, stores := [], cutAt := none, copyFrom := some ((x.tide / 4096 + 1) * 4096) }
      if 3 ≤ y.twin.attempts then y.rsFail 0x05 else y

/-- The 8-byte words of a transfer that a write of tide count `t` may change on the joining twin: no later write has reached them (R349). -/
def Dev.twinWords (d : Dev) (t a : Nat) (data : List Byte) : List (Nat × List Byte) :=
  (List.range (data.length / 8)).filterMap fun k =>
    if d.twin.wrote.at 0 (a / 8 + k) ≤ t + 1 then some (a + 8 * k, (data.drop (8 * k)).take 8) else none

/-- The bytes that the copy sends: the node table region, the berths, the data SRAM of CE0 to CE7 (Table 14-10). -/
def Dev.copySize (d : Dev) : Nat := 0x4000 * d.nodeCount + 0x800000 + 8 * 0x20000

/-- The 256 bytes from `a` are part of the copy: the node table, the berths, the data SRAM of CE0 to CE7. -/
def Dev.copyUnit (d : Dev) (a : Nat) : Bool :=
  (decide (d.nodeBase ≤ a) && decide (a + 256 ≤ d.nodeBase + 0x4000 * d.nodeCount))
    || (decide (berthSram ≤ a) && decide (a + 256 ≤ berthSram + 0x800000))
    || (List.range 8).any fun e => decide (dataSram e ≤ a) && decide (a + 256 ≤ dataSram e + 0x20000)

/-- The HOST sends the 256 bytes from `a` (R349), or a twin in step repairs the other's words with them (R367). A bad word halts the Hawser's channel (R365). -/
def Dev.bulkSend (d : Dev) (m : List Host.Cell) (a : Nat) : Dev :=
  let copy := decide (d.twinState = twHost) && d.copies
  if !d.hawserUp || decide (a % 256 ≠ 0) || !((copy && d.copyUnit a) || (d.paired && decide (a < 0x1000200000))) then d
  else
    let r := d.dmaReads 5 fun w => decide (a ≤ w) && decide (w < a + 256)
    if !r.1 then r.2
    else
      let x := r.2.hawserSend 8 (leBytes 8 d.tide ++ leBytes 8 a ++ memBytes m a 256)
      if !copy then x
      else
        let y := x.onTwin fun t => { t with bulk := t.bulk + 256 }
        y.wr .TWIN_RSSTAT_PCT (min 100 (100 * y.twin.bulk / y.copySize))

/-- The words of a repair that lie on words no read can use (R367): in step, BULK messages repair them. -/
def Dev.repairWords (d : Dev) (a : Nat) (data : List Byte) : List (Nat × List Byte) :=
  (List.range (data.length / 8)).filterMap fun k =>
    if 2 ≤ d.wordState (a + 8 * k) then some (a + 8 * k, (data.drop (8 * k)).take 8) else none

/-- BULK (R349, R367): `out`: the address of the unit that this part sends; else the message received. -/
def execBulk (out : Option (BitVec 40)) (msg : List (BitVec 8)) (s : State) : Host.Outcome State Fault Refusal :=
  s.updM fun m d => match out with
  | some a => ([], d.ctl fun x => x.bulkSend m a.toNat)
  | none =>
    let b := hwBody msg
    let a := hwNat b 8 8
    let ok := !d.sys.cdReset && d.hawserPasses 8 msg && decide (a % 8 = 0) && (decide (a + 256 ≤ d.dramEnd) || inControlSram a)
    let take := ok && decide (d.twinState = twJoin) && decide (d.rd .TWIN_RSSTAT_PHASE = 3)
    let ws := if take then d.twinWords (hwNat b 0 8) a ((b.drop 16).take 256)
      else if ok && d.paired then d.repairWords a ((b.drop 16).take 256) else []
    (ws, d.hawserUse 8 msg fun x =>
      if !take then ws.foldl (fun z w => z.goodWords w.1 (w.1 + 8)) x
      else
        let y := ws.foldl (fun z w => z.goodWords w.1 (w.1 + 8)) (x.onTwin fun t => { t with bulk := t.bulk + 256 })
        y.wr .TWIN_RSSTAT_PCT (min 100 (100 * y.twin.bulk / y.copySize)))

/-- The HOST sends the stores that wait, as many as a message holds (R337, R349). -/
def Dev.storeSend (d : Dev) : Dev :=
  let l := d.twin.stores.take 3276
  if !d.hawserUp || decide (d.twinState ≠ twHost) || l.isEmpty then d
  else (d.hawserSend 9 (l.flatMap fun x => leBytes 8 x.tide ++ leBytes 4 (Config.storePlace x.engine.val x.addr).toNat ++ leBytes 8 x.data.toNat)).onTwin fun t =>
    { t with stores := t.stores.drop 3276 }

/-- STORE (R349): the HOST sends its waiting stores (`out`), or the joining twin takes the stores that the message lists; the manual gives the layout of its
engine and address field no bits (log entry 50). -/
def execStore (out : Bool) (mseq : BitVec 32) (stores : List TwinStore) (s : State) : Host.Outcome State Fault Refusal :=
  s.updM fun _ d =>
    if out then ([], d.ctl Dev.storeSend)
    else if d.sys.cdReset || !d.on .TWIN_STAT_INST || decide (d.twin.rx.at 0 9 = mseq.toNat + 1) then ([], d)
    else
      let d1 := (d.onTwin fun t => { t with rx := t.rx.set 0 9 (mseq.toNat + 1) }).hawserSend 0xB (leBytes 1 9 ++ leBytes 3 0 ++ leBytes 4 mseq.toNat)
      if d1.twinState ≠ twJoin then ([], d1)
      else stores.foldl (fun (r : List (Nat × List Byte) × Dev) x =>
        let a := dataSram x.engine.val + x.addr % 0x20000 / 8 * 8
        let ws := r.2.twinWords x.tide a (leBytes 8 x.data.toNat)
        (r.1 ++ ws, ws.foldl (fun z w => (z.goodWords w.1 (w.1 + 8)).onTwin fun t => { t with wrote := t.wrote.set 0 (w.1 / 8) (x.tide + 1) }) r.2)) ([], d1)

/-- A received CUT, or one that the HOST sends: the boundary C. -/
def Dev.cutTo (d : Dev) (edge : Nat) (values : List (BitVec 128)) : Dev :=
  (d.onTwin fun t => { t with
    cutAt := some edge
    adopt := if d.cus.cover && !values.isEmpty then some (values.map BitVec.toNat) else none }).wr .TWIN_RSSTAT_PHASE 4

/-- CUT (R348): the HOST sends it (`out`) in the last frame before a hyperperiod boundary, the first with BULK complete and no store waiting, or the joining
twin receives it; `values`: the other part's registers at C (R350), which no message's
layout shows (log entry 50). -/
def execCut (out : Bool) (msg : List (BitVec 8)) (values : List (BitVec 128)) (s : State) : Host.Outcome State Fault Refusal :=
  s.upd fun d =>
    let b := hwBody msg
    if out then d.ctl fun x =>
      if x.twinState = twHost ∧ x.hawserUp ∧ x.rd .TWIN_RSSTAT_PHASE = 3 ∧ x.copySize ≤ x.twin.bulk ∧ x.twin.stores = [] ∧ (x.tide + 1) % 4096 = 0 then
        (x.cutTo (x.tide + 1) []).hawserSend 10 (ctlBody 5 (x.tide + 1) 0)
      else x
    else d.hawserUse 10 msg fun x =>
      if ctlCmd b = 5 ∧ x.twinState = twJoin ∧ x.rd .TWIN_RSSTAT_PHASE = 3 then x.cutTo (ctlEdge b) values else x

/-! ### Handover and yield (R342, R346) -/

/-- A leading twin names edge `e` for a change of leadership; with `yields` it goes OUT at it. -/
def Dev.handTo (d : Dev) (e : Nat) (yields : Bool) : Dev :=
  (d.onTwin fun t => { t with handover := some (e, yields) }).hawserSend 10 (ctlBody (if yields then 4 else 2) e 0)

/-- A write of 1 to TWIN.CTRL.HANDOVER: the edge 8 frames on. -/
def Dev.twinHandover (d : Dev) : Dev := if d.twinState = twLeading then d.handTo (d.tide + 8) false else d

/-- TWIN_HANDOVER (R346). -/
def execTwinHandover (req : Requester) (s : State) : Host.Outcome State Fault Refusal := s.upd fun d => d.ctlWrite req Dev.twinHandover

/-- A received HANDOVER or YIELD: the edge at which the trailing twin takes the lead. -/
def Dev.handFrom (d : Dev) (cmd : Nat) (b : List Byte) : Dev :=
  if ctlCmd b = cmd ∧ d.twinState = twTrailing then d.onTwin fun t => { t with handover := some (ctlEdge b, decide (cmd = 4)) } else d

/-- HANDOVER (R346). -/
def execHandover (msg : List (BitVec 8)) (s : State) : Host.Outcome State Fault Refusal :=
  s.upd fun d => d.hawserUse 10 msg fun x => x.handFrom 2 (hwBody msg)

/-- YIELD (R342). -/
def execYield (msg : List (BitVec 8)) (s : State) : Host.Outcome State Fault Refusal :=
  s.upd fun d => d.hawserUse 10 msg fun x => x.handFrom 4 (hwBody msg)

/-- HANDOVER_EDGE (R346): at the named edge the old leader clears LEAD and releases CROSS, the new one pulls CROSS low and sets LEAD. The legs follow LEAD from the edge (log entry 172, DEDUCED). -/
def execHandoverEdge (s : State) : Host.Outcome State Fault Refusal :=
  s.upd fun d => d.ctl fun x => match x.twin.handover with
    | some (e, yields) =>
      if e ≠ x.tide ∨ !(x.twinState = twLeading ∨ x.twinState = twTrailing) then x
      else
        let y := x.onTwin fun t => { t with handover := none }
        let z := if y.twinState = twLeading then
            ((if yields then y.twinOut else y.dropLead.twinGo twTrailing).flag .TWIN_STAT_CROSS false)
          else y.takeLead.twinGo twLeading
        ((z.bump .TWIN_CNT0_HANDOVERS 65535).life 0x090).raise 413
    | none => x

/-! ### HEART and divergence (R338, R342, R345) -/

/-- The digests of frame `n` differ (R342): who yields is decided by the local errors of frames `n` and `n - 1`. -/
def Dev.diverge (d : Dev) (n : Nat) : Dev :=
  let mine := decide (Nat.lor d.twin.lerr1 d.twin.lerr2 ≠ 0)
  let other := decide (Nat.lor d.twin.peerLerr d.twin.peerLerr1 ≠ 0)
  let leading := decide (d.twinState = twLeading)
  let d1 := (((d.wr64 .TWIN_DIVLO .TWIN_DIVHI n).flag .TWIN_STAT_DIVS true).bump .TWIN_CNT1_DIVERGENCES 65535).dryNote 5
  let d2 := ((d1.openWindow).onTwin fun t => { t with handover := none }).raise 408
  let yields := if mine != other then mine else !leading
  if yields then (if leading then d2.handTo (n + 2) true else d2.twinOut)
  else if leading then d2.twinGo twSingle else d2

/-- The digest comparison of a HEART of frame `n` (R342, Table 14-9): the frame before it. -/
def Dev.compareDigest (d : Dev) (n dg : Nat) : Dev :=
  if d.twin.dgstFrame + 1 ≠ n then d
  else
    let d1 := d.wr64 .TWIN_PDGSTLO .TWIN_PDGSTHI dg
    let equal := decide (d.twin.dgst = dg)
    if d1.twinState = twJoin then
      match d1.twin.cutAt with
      | some c =>
        if c ≠ n - 1 then d1
        else if equal then
          ((d1.twinGo twTrailing).wr .TWIN_RSSTAT_PHASE 0).onTwin fun t => { t with cutAt := none, copyFrom := none }
        else
          let x := d1.onTwin fun t => { t with attempts := t.attempts + 1, cutAt := none, bulk := 0, copyFrom := some ((d1.tide / 4096 + 1) * 4096) }
          if 3 ≤ x.twin.attempts then x.rsFail 0 else x.wr .TWIN_RSSTAT_PHASE 3
      | none => d1
    else if d1.paired && !equal then d1.diverge (n - 1) else d1

/-- What the other part's state brings about (Table 14-9). -/
def Dev.peerSays (d : Dev) (p : Nat) : Dev :=
  let gone := p = twOut ∨ p = twDflt ∨ p = twSeek
  let s := d.twinState
  if s = twSeek ∧ p = twSingle then d.startJoin
  else if s = twOut ∧ p = twSingle ∧ d.on .TWIN_CFG_AUTORS ∧ !d.sys.devFailed then d.startJoin
  else if s = twSingle ∧ p = twJoin then
    (d.twinGo twHost).onTwin fun t => { t with attempts := 0, bulk := 0, stores := [], copyFrom := none, cutAt := none }
  else if s = twHost ∧ p = twTrailing then ((d.twinGo twLeading).wr .TWIN_RSSTAT_PHASE 0).onTwin fun t => { t with cutAt := none, copyFrom := none }
  else if s = twHost ∧ gone then d.rsFail (d.rd .TWIN_RSSTAT_CODE)
  else if s = twLeading ∧ gone then (d.twinGo twSingle).openWindow
  else d

/-- HEART messages arrive, and TWR_IN did (not) toggle at the frame's edge (R345). -/
def Dev.twrSeen (d : Dev) (toggled : Bool) : Dev :=
  let n := if toggled then 0 else d.twin.twrLost + 1
  let d1 := (d.onTwin fun t => { t with twrLost := n }).flag .TWIN_STAT_TWROK toggled
  if n < 2 then d1
  else
    let d2 := if d1.paired then (d1.flag .TWIN_STAT_TWRF true).openWindow else d1
    if d2.twinState = twTrailing then d2.twinOut else if d2.twinState = twLeading then d2.twinGo twSingle else d2

/-- A HEART that passes. -/
def Dev.heart (d : Dev) (m : List Byte) (toggled : Bool) (pherr : Nat) : Dev :=
  let b := hwBody m
  let n := hwNat m 4 8
  let p := hwNat b 8 1
  let d1 := (d.wr .TWIN_STAT_PEER (p % 16)).onTwin fun t => { t with
    heart := n + 1, contact := true, peerLerr1 := t.peerLerr, peerLerr := hwNat b 9 1, peerCseq := hwNat b 0x10 8
    peerHead := hwNat b 0x18 8, peerTtAct := hwNat b 0x20 4, peerTtPend := hwNat b 0x24 4 }
  let d2 := if toggled then
      (d1.wr .TWIN_ALIGN_PHERR pherr).flag .TWIN_STAT_ALGN (d1.on .TWIN_STAT_ALGN || decide ((toSigned 16 pherr).natAbs ≤ 200))
    else d1
  let d3 := if d2.paired && decide (hwNat b 0xC 4 ≠ 0) && decide (hwNat b 0xC 4 = d2.twin.mirn) then d2.wr64 .TWIN_CONFLO .TWIN_CONFHI n else d2
  ((((d3.compareDigest n (hwNat b 0 8)).peerSays p).twrSeen toggled)).closeWindow

/-- HEART (R338, R342): the message, whether TWR_IN toggled at the edge, the Tide phase error in 10 ps (Table 14-16). -/
def execHeart (msg : List (BitVec 8)) (toggled : Bool) (pherr : BitVec 16) (s : State) : Host.Outcome State Fault Refusal :=
  s.upd fun d => d.hawserUse 1 msg fun x => x.heart msg toggled pherr.toNat

/-- The failure of the other part is declared (R345). -/
def Dev.declareFailure (d : Dev) : Dev :=
  let exposed := d.on .TWIN_STAT_EXP
  let d1 := d.openWindow.onTwin fun t => { t with handover := none }
  let s := d1.twinState
  if s = twTrailing then d1.onTwin fun t => { t with depose := true, declared := true }
  else if s = twLeading then d1.twinGo twSingle
  else if s = twHost then d1.rsFail (d1.rd .TWIN_RSSTAT_CODE)
  else if s = twJoin ∨ (s = twOut ∧ exposed) then d1.doubleFault
  else d1

/-- HEART messages have stopped while TWR_IN toggles: the parts are not in step (R345). -/
def Dev.hawserLost (d : Dev) : Dev :=
  let s := d.twinState
  if s = twLeading then (d.twinGo twSingle).openWindow
  else if s = twTrailing then d.openWindow.twinOut
  else if s = twHost ∨ s = twJoin then d.rsFail (d.rd .TWIN_RSSTAT_CODE)
  else d

/-- HEARTBEAT_MISS (R345): 0.75 × P after the edge of frame N no HEART of it has passed; `toggled`: TWR_IN toggled at that edge. -/
def execHeartbeatMiss (toggled : Bool) (s : State) : Host.Outcome State Fault Refusal :=
  s.upd fun d => d.ctl fun x =>
    let n := x.tide
    if x.twin.heart = n + 1 ∨ ([twJoin, twLeading, twTrailing, twHost, twOut].contains x.twinState) = false then x
    else
      let twice := decide (x.twin.missAt = n) && decide (0 < n)
      let y := (((x.onTwin fun t => { t with missAt := n + 1 }).flag .TWIN_STAT_HBM true).bump .TWIN_CNT2_MISSES 65535).raise 410
      let z := y.flag .TWIN_STAT_TWROK toggled
      if !twice then z
      else if toggled then z.hawserLost
      else if z.on .TWIN_STAT_LN0 || z.on .TWIN_STAT_LN1 then z.declareFailure
      else z

/-! ### Role lines (R343) -/

/-- DEPOSE (R343): CROSS is released and the control domain is reset. -/
def execDepose (s : State) : Host.Outcome State Fault Refusal :=
  s.updRst fun d => if d.straps.twinst && !d.sys.cdReset then d.dropLead.controlReset 0x5 else d

/-- TAKEOVER (R345): at the edge after the declaration; with CROSS still low the part enters DFLT. -/
def execTakeover (crossHigh : Bool) (s : State) : Host.Outcome State Fault Refusal :=
  s.upd fun d => d.ctl fun x =>
    if !x.twin.declared ∨ x.twinState ≠ twTrailing ∨ x.tide ≠ x.twin.missAt then x
    else
      let y := x.onTwin fun t => { t with declared := false, depose := false }
      if !crossHigh then y.doubleFault
      else (((((y.takeLead).twinGo twSingle).flag .TWIN_STAT_TKOV true).bump .TWIN_CNT0_TAKEOVERS 65535).life 0x088).raise 409

/-- LEADERSHIP_CLAIM (R343, Table 14-7): JOINT has passed without Hawser contact; `crossHigh`: CROSS was high throughout the waiting time. -/
def execLeadershipClaim (crossHigh : Bool) (s : State) : Host.Outcome State Fault Refusal :=
  s.upd fun d => d.ctl fun x =>
    if x.twinState ≠ twSeek ∨ x.twin.contact then x
    else if crossHigh then x.takeLead.twinGo twSingle else x.twinOut

/-! ### Lanes and alignment (R331, R336) -/

/-- LANE_FAILURE (R336): the lanes that fail now (bit 0 HW0, bit 1 HW1). The last lane's failure is a second fault inside the window (R353); outside it
the parts are no longer in step (R345). -/
def execLaneFailure (lanes : BitVec 2) (s : State) : Host.Outcome State Fault Refusal :=
  s.upd fun d => d.ctl fun x =>
    let f0 := bitOf lanes.toNat 0 && x.on .TWIN_STAT_LN0
    let f1 := bitOf lanes.toNat 1 && x.on .TWIN_STAT_LN1
    if !(f0 || f1) then x
    else
      let y := (x.when f0 fun z => z.flag .TWIN_STAT_LN0 false).when f1 fun z => z.flag .TWIN_STAT_LN1 false
      let z := ((y.flag .TWIN_STAT_LANEF true).bump .TWIN_CNT1_LANEFAILS 65535 (bit01 f0 + bit01 f1)).raise 411
      let w := z.when z.paired Dev.openWindow
      if z.on .TWIN_STAT_LN0 || z.on .TWIN_STAT_LN1 then w
      else if z.on .TWIN_STAT_EXP then w.doubleFault
      else w.hawserLost

/-- LANE_RECOVERY (R336): after 10 ms of block lock; the SerDes runs on the fare of class 20 (R437). -/
def execLaneRecovery (lane : Fin 2) (s : State) : Host.Outcome State Fault Refusal :=
  s.upd fun d => d.ctl fun x =>
    if x.on .TWIN_STAT_INST && x.onAt .CAP_CLS_HELD 20 then (x.flag (if lane = 0 then .TWIN_STAT_LN0 else .TWIN_STAT_LN1) true).closeWindow else x

/-- ALIGNMENT_LOSS (Table 19-7): beyond 2 ns for 2 frames; a twin that aligns to the other enters OUT. -/
def execAlignmentLoss (s : State) : Host.Outcome State Fault Refusal :=
  s.upd fun d => d.ctl fun x =>
    let y := x.flag .TWIN_STAT_ALGN false
    if y.twinState = twTrailing ∨ y.twinState = twJoin then (y.when y.paired Dev.openWindow).twinOut else y

/-- MCLK_TAKEOVER (R330): MCLKk has shown no edge for the part's waiting time. -/
def execMclkTakeover (k : Fin 6) (s : State) : Host.Outcome State Fault Refusal :=
  s.upd fun d =>
    if d.straps.twinst && d.cfgOn .MTR_MCLK_EN k.val then d.onMet fun m => { m with mclkOwn := setBit m.mclkOwn k.val true } else d

/-! ### Frame messages received (R334, R339) -/

/-- Field `i` of `w` bits in packed bytes. -/
def packed (b : List Byte) (w i : Nat) : Nat := leNat b / 2 ^ (w * i) % 2 ^ w

/-- A MIRROR body (R339): the values that the next edge boards. A byte of pulses added goes to the register of the direction that this part's own
input last showed (log entry 49). -/
def Dev.mirrorIn (d : Dev) (b : List Byte) : Dev :=
  let lv := (b.drop 8).take 12
  let cm := (b.drop 20).take 12
  let at5 := fun j => hwNat b (32 + 5 * j) 4
  let fixed := ((List.range 48).map fun i => (boardKey 4 i, packed lv 2 i)) ++ ((List.range 32).map fun i => (boardKey 5 i, packed cm 3 i))
    ++ ((List.range 16).map fun j => (boardKey 0xC j, at5 j + 2 ^ 32 * bit01 (d.met.pulseRev.at false j)))
  let items := (List.range ((b.length - 112) / 12)).filterMap fun k =>
    let o := 112 + 12 * k
    let c := hwNat b o 1
    if c = 2 ∨ c = 6 ∨ c = 7 then some (boardKey c (hwNat b (o + 2) 2), hwNat b (o + 4) 8) else none
  d.onTwin fun t => { t with
    mirror := (fixed ++ items).foldl (fun s e => s.set 0 e.1 (BitVec.ofNat 64 e.2)) []
    mirrorFor := some (hwNat b 0 8)
    mirnNext := b.length
    pulses := (List.range 16).foldl (fun s j =>
      let r := 2 * j + bit01 (d.met.pulseRev.at false j)
      s.set 0 r (hwNat b (36 + 5 * j) 1)) []
    tempNext := (List.range ((b.length - 112) / 12)).foldl (fun s k =>
      let o := 112 + 12 * k
      if hwNat b o 1 = 0x80 ∧ hwNat b (o + 2) 2 < 28 then s.set 0 (hwNat b (o + 2) 2) (hwNat b (o + 4) 4) else s) [] }

/-- MIRROR (R339); `late`: it arrives later than 100 ns before the edge it is for. -/
def execMirror (msg : List (BitVec 8)) (late : Bool) (s : State) : Host.Outcome State Fault Refusal :=
  s.upd fun d => d.hawserUse 2 msg fun x =>
    let joined := decide (x.twinState = twTrailing) || (decide (x.twinState = twJoin) && x.twin.copyFrom.isSome)
    if joined && !late && decide (hwNat (hwBody msg) 0 8 = x.tide + 1) then x.mirrorIn (hwBody msg) else x

/-- The reports that this part holds and the other lacks, lowest cell first, up to FILLMAX (R334). -/
def Dev.fillBody (d : Dev) : List Byte :=
  let cells := (List.range 1536).filter fun c => decide (d.twin.ownReps.at 0 c ≠ 0) && !d.peerFresh c
  (cells.take (d.rd .TWIN_CFG_FILLMAX)).flatMap fun c => leBytes 2 c ++ leBytes 4 (d.twin.ownReps.at 0 c - 1)

/-- CELLST (R334). -/
def execCellst (msg : List (BitVec 8)) (s : State) : Host.Outcome State Fault Refusal :=
  s.upd fun d => d.hawserUse 3 msg fun x =>
    let y := x.onTwin fun t => { t with peerMap := some ((hwBody msg).take 192) }
    y.hawserSend 4 y.fillBody

/-- CELLFILL (R334). -/
def execCellfill (msg : List (BitVec 8)) (s : State) : Host.Outcome State Fault Refusal :=
  s.upd fun d => d.hawserUse 4 msg fun x =>
    let b := hwBody msg
    x.onTwin fun t => { t with
      fills := (List.range (b.length / 6)).foldl (fun f k => f.set 0 (hwNat b (6 * k) 2) (hwNat b (6 * k + 2) 4 + 1)) t.fills }

/-- One mirrored REPORT record of landing `l` (R228, R333): it enters at edge `e`, and its visit is answered. -/
def Dev.mirroredRecord (d : Dev) (e l : Nat) (r : List Byte) : Dev :=
  let i := hwNat r 0 2
  if 512 ≤ l ∨ d.landCount l ≤ i then d
  else
    let v := d.visitOf l (i / 32)
    let d1 := match v with
      | some v => d.putVisit { v with waiting := v.waiting.filter (fun k => k.1 ≠ i), answered := (i, r) :: v.answered }
      | none => d
    d1.onNode fun n => { n with
      silent := n.silent.set 0 l 0
      entries := n.entries ++ [{ edge := e, node := d.landBase l + i, round := (v.map Visit.round).getD d.round32, during := d.round32, body := r }] }

/-- NODEMIR (R333): the entry edge, the records by landing, and the landing states; a landing state's four bytes have no layout (log entry 50). -/
def execNodemir (mseq : BitVec 32) (edge : Nat) (records : List (BitVec 16 × List (BitVec 8))) (states : List (Fin 512 × Fin 3)) (s : State) :
    Host.Outcome State Fault Refusal :=
  s.upd fun d => d.ctl fun x =>
    if !x.takesMirrored || decide (x.twin.rx.at 0 5 = mseq.toNat + 1) then x
    else
      let y := (x.onTwin fun t => { t with rx := t.rx.set 0 5 (mseq.toNat + 1) }).onNode fun n => { n with
        states := n.states ++ states.map fun e => (edge, e.1.val, e.2.val) }
      records.foldl (fun z r => z.mirroredRecord edge r.1.toNat r.2) y

/-- TTACT (R347): the leading twin sends it (`out`) once both parts have admitted the timetable, or the trailing twin receives it: the boundary, and
the TTID as its argument. -/
def execTtact (out : Bool) (msg : List (BitVec 8)) (s : State) : Host.Outcome State Fault Refusal :=
  s.upd fun d =>
    let b := hwBody msg
    let e := ctlEdge b
    let set := fun (x : Dev) (id : Nat) => (x.onTwin fun t => { t with ttact := some (e, id) }).when (x.tt.pending.any fun p => decide (p.ttid = id)) fun y =>
      (y.onTt fun t => { t with actAt := e }).wr64 .TTB_ACTATLO .TTB_ACTATHI e
    if out then d.ctl fun x => match x.tt.pending with
      | some p =>
        if x.twinState = twLeading ∧ x.hawserUp ∧ x.twin.peerTtPend = p.ttid ∧ e % 4096 = 0 ∧ x.tide + 256 ≤ e then (set x p.ttid).hawserSend 10 b else x
      | none => x
    else d.hawserUse 10 msg fun x => if ctlCmd b = 3 ∧ x.twinState = twTrailing then set x (hwNat (ctlArg b) 0 8) else x

/-! ### Custody (R350) and acknowledgements (R336) -/

/-- The newest records that the 1 MiB twin mirror area holds. -/
def mirrorFit (l : List (Nat × List Byte)) : List (Nat × List Byte) :=
  (l.foldr (fun r (x : Nat × List (Nat × List Byte)) =>
    if x.1 + r.2.length ≤ 1048576 then (x.1 + r.2.length, r :: x.2) else (1048577, x.2)) (0, [])).2

/-- MANREC (R350): the record is stored and confirmed. -/
def execManrec (msg : List (BitVec 8)) (s : State) : Host.Outcome State Fault Refusal :=
  s.upd fun d => d.hawserUse 6 msg fun x =>
    let r := hwBody msg
    let q := hwNat r 8 8
    let y := x.onTwin fun t => { t with mirrorArea := mirrorFit ((t.mirrorArea.filter fun e => e.1 ≠ q) ++ [(q, r)]) }
    y.hawserSend 7 (leBytes 8 q ++ (r.drop (r.length - 32)).take 8)

/-- MANCONF (R350): the copy of the record with that SEQ and DIGEST is confirmed. -/
def execManconf (msg : List (BitVec 8)) (s : State) : Host.Outcome State Fault Refusal :=
  s.upd fun d => d.hawserUse 7 msg fun x =>
    let b := hwBody msg
    let q := hwNat b 0 8
    if x.cus.ring.any fun r => decide (r.seq = q) && decide ((r.bytes.drop (r.bytes.length - 32)).take 8 = (b.drop 8).take 8) then
      x.onCus fun c => { c with confirmed := max c.confirmed q }
    else x

/-- HAWSER_ACK (R336). -/
def execHawserAck (msg : List (BitVec 8)) (s : State) : Host.Outcome State Fault Refusal :=
  s.upd fun d => d.hawserUse 11 msg fun x =>
    let b := hwBody msg
    x.onTwin fun t => { t with unacked := t.unacked.filter fun e => (e.1, e.2.1) ≠ (hwNat b 0 1, hwNat b 4 4) }

/-- HAWSER_RESEND (R336): 20 µs have passed without the ACK; the message goes out again. -/
def execHawserResend (typ : Fin 12) (mseq : BitVec 32) (s : State) : Host.Outcome State Fault Refusal :=
  s.upd fun d => d.ctl fun x =>
    match x.twin.unacked.find? fun e => decide (e.1 = typ.val) && decide (e.2.1 = mseq.toNat) with
    | some e => if x.hawserUp then x.onTwin fun t => { t with resends := t.resends + 1, sent := t.sent.set [] typ.val e.2.2 } else x
    | none => x

/-- TWIN_COUNTER_CLEAR (R355). -/
def Dev.twinClear (d : Dev) : Dev :=
  [.TWIN_CNT0_TAKEOVERS, .TWIN_CNT0_HANDOVERS, .TWIN_CNT1_DIVERGENCES, .TWIN_CNT1_LANEFAILS, .TWIN_CNT2_MISSES, .TWIN_CNT2_RESTARTS].foldl
    (fun x f => x.wr f 0) d

/-- TWIN_COUNTER_CLEAR (R355). -/
def execTwinCounterClear (req : Requester) (s : State) : Host.Outcome State Fault Refusal := s.upd fun d => d.ctlWrite req Dev.twinClear

/-! ### A failed DRAM device (R368) -/

/-- A DRAM device is declared failed (R368): in a pair the leading twin yields and the trailing one enters OUT; a second device inside the window is a double
fault (R353); unpaired, the firmware disarms and blocks the running links. -/
def Dev.deviceFails (x : Dev) : Dev :=
  let again := x.sys.devFailed && x.on .TWIN_STAT_EXP
  let y := ((x.flag .DDR_STAT_DEVF true).onSys fun k => { k with devFailed := true }).raise 56
  let z := (y.lerr 1).when y.paired Dev.openWindow
  if again && z.on .TWIN_STAT_INST then z.doubleFault
  else if z.twinState = twLeading then z.handTo (z.tide + 2) true
  else if z.twinState = twTrailing then z.twinOut
  else if z.on .TWIN_STAT_INST then z
  else z.firmware fun y => y.disarm.each 32 fun w l => if w.onAt .CLINK_STAT_RUNNING l then w.blockLink l else w

/-- DRAM_DEVICE_FAILURE (R368): sixteen uncorrectable errors confined to one lane came within 1 s. -/
def execDramDeviceFailure (s : State) : Host.Outcome State Fault Refusal :=
  s.upd fun d => d.ctl fun x => match x.failingLane with
    | none => x
    | some l => (x.onEcc fun e => { e with deadLanes := e.deadLanes ++ [l] }).deviceFails

end Sys2Proof.Machine
end

