-- ==== Sys2Proof/Machine/RegWrite.lean ====
section
/-!
DEFINITION. Machine/RegWrite.lean: a write of a register (R2 to R7, R25, R28 and each block's map): who may write it, what its fields take, and what
a field does that acts when written.
-/
namespace Sys2Proof.Machine

/-! ### Fields by their access codes -/

/-- What register field `r` takes when its register is written with `v` (Table 0-4); a field of which only a write acts keeps nothing. -/
def Dev.storeField (d : Dev) (r : FieldRow × Nat) (v : Nat) : Dev :=
  let x := v / 2 ^ r.1.lsb % 2 ^ r.1.width
  let old := d.rdAt r.1.fld r.2
  match r.1.acc with
  | .rw | .lk => d.wrAt r.1.fld r.2 (r.1.range.apply old x)
  | .w1c => d.wrAt r.1.fld r.2 (old - (old &&& x))
  | .w1s => d.wrAt r.1.fld r.2 (old ||| x)
  | .ro | .wo | .fz => d

/-- The seal that governs field `f` of register number `i` is set (R125, R164, R269, R302, R328, R455). -/
def Dev.fieldSealed (d : Dev) (f : Fld) (i : Nat) : Bool :=
  match f.blk with
  | .LEG => d.on .LEG_SEAL_SET
  | .WCMP => d.on .WCMP_SEAL_SET && d.onAt .WCMP_CFG_PROT i
  | .SAF | .EVT => d.on .SAF_SEAL_SET
  | .MTR | .TALLY => d.cus.isSealed
  | _ => false

/-- Field `r` is an lk field whose seal is set. -/
def Dev.fieldLocked (d : Dev) (r : FieldRow × Nat) : Bool := decide (r.1.acc = .lk) && d.fieldSealed r.1.fld r.2

/-- A write of the register is a write to a sealed lk field (R7), whatever bits it writes there: a register is written whole (R3). -/
def Dev.sealHit (d : Dev) (fs : List (FieldRow × Nat)) : Bool := fs.any d.fieldLocked

/-- The fields of a register that hold what is written take it; a sealed lk field keeps its value (R7). -/
def Dev.storeFields (d : Dev) (fs : List (FieldRow × Nat)) (v : Nat) : Dev :=
  fs.foldl (fun x r => if d.fieldLocked r then x else x.storeField r v) d

/-! ### Who may write -/

/-- A block to whose registers a requester other than Ferryman may write (R278, R384; the manual names no writer of MTR). -/
def openBlk (b : Blk) (f : Fld) : Bool :=
  match b with
  | .SDF | .MTR => true
  | .ADC => match f with
    | .ADC_DMACFG_EN | .ADC_DMASELLO | .ADC_DMASELHI | .ADC_DMABASE_BASE | .ADC_DMALEN_LEN | .ADC_DMAHEAD_HEAD | .ADC_DMATAIL_TAIL
    | .ADC_DMASTAT_CFGE => false
    | _ => true
  | _ => false

/-- The claimable resource that the register whose first field is `f`, number `i`, configures (R25, R29). -/
def configures (f : Fld) (i : Nat) : Option (Resource × Nat) :=
  match f with
  | .LEG_CFG_ONCHK | .LEG_PH | .LEG_FLOOR_TRIPM => some (.leg, i)
  | .CLINK_CFG_HOLD | .CLINK_APP_APPLY | .CLINK_TRMSK => some (.cellLink, i)
  | .WCMP_CFG_PROT | .WCMP_THR_HI | .WCMP_THR2_HI2 | .WCMP_BLK_BLANK | .WCMP_RT1_H1 | .WCMP_RT2_LEGS => some (.comparator, i)
  | .SDF_CFG_EN | .SDF_GAIN | .SDF_OFF | .SDF_STAT_RUN => some (.filter, i)
  | .ADC_CFG_EN => some (.analogInput, i)
  | .ADC_ADCFG_SYNC => some (.converter, i)
  | .TALLY_PUCFG_MODE | .TALLY_PUWT | .TALLY_PUUN => some (.pulseInput, i)
  | .SAF_SICFG_EN => some (.safetyInput, i)
  | .ETH_QCFG_EN | .ETH_QMAT_VALUE => some (.ethQueue, i)
  | .EVT_CAPCFG_EN => some (.capture, i)
  | .PCNT_CFG_EN | .PCNT_CTLO | .PCNT_CTHI => some (.counter, i)
  | .GWY_DSEL_EN => some (.gangway, i)
  | .GWY_ASEL_EN => some (.gangway, 8 + i)
  | _ => none

/-- The requester may write what configures a resource (R25). Ferryman writes a pulse input's lk fields while it is free or held by the metering
engine; a Gangway output's registers are written in the name in which it is claimed (R471; DEDUCED, log entry 53). -/
def Dev.mayWrite (d : Dev) (q : Requester) (c : Resource × Nat) : Bool :=
  d.mayConfigure (if q = .ferryman then claimant q c.1 else q) c.1 c.2
    || (decide (c.1 = .pulseInput) && decide (q = .ferryman)
      && (let o := (d.cell c.1 c.2).owner
          o.isNone || decide (o = some .metering)))

/-- A write of a claim register (R22, R26, R28). -/
def Dev.claimWrite (d : Dev) (q : Requester) (r : Resource) (n v : Nat) : Dev :=
  let p := claimant q r
  d.claimAccess r n fun x =>
    match bitOf v 0, bitOf v 1 with
    | true, true => x.badClaim p r n
    | true, false => x.claim p r n
    | false, true => (x.releaseClaim p r n).when (decide (r = .leg) && x.mayRelease p r n) fun z => z.legUnclaim n
    | false, false => x

/-! ### Registers of which a field acts when written -/

/-- The writes of PWM.CTRL: KILL, else ARM (R118, R130). -/
def Dev.pwmWrite (d : Dev) (v : Nat) : Dev :=
  if bitOf v 1 then d.kill
  else if bitOf v 0 then d.arm
  else if d.on .PWM_CTRL_ARM then d.disarm
  else d

/-- A leg's configuration: kept, with the overwrite event, while the leg does not stand still (R120, R143). -/
def Dev.legWrite (d : Dev) (m : Nat) (fs : List (FieldRow × Nat)) (v : Nat) : Dev :=
  if d.legState m ≠ 0 then d.raise (88 + m)
  else
    let d1 := d.storeFields fs v
    if d1.rdAt .LEG_CFG_GFLT m = 0 then d1.wrAt .LEG_CFG_GFLT m 1 else d1

/-- A write of CLINK.CTRLl: RUN, then UNBLK, then BLOCK (log entry 54). A RUN bit that differs configures the link (R25). -/
def Dev.linkWrite (d : Dev) (q : Requester) (l v : Nat) : Dev :=
  let run := bitOf v 0
  let d1 := if d.onAt .CLINK_CTRL_RUN l = run then d
    else if d.mayConfigure q .cellLink l then d.linkRun l run else d.claimViolation
  (d1.when (bitOf v 2) fun x => x.linkUnblock l).when (bitOf v 1) fun x => x.blockLink l

/-- A link's configuration: kept, with CFGE, while RUN = 1 (R143). -/
def Dev.linkConfig (d : Dev) (l : Nat) (fs : List (FieldRow × Nat)) (v : Nat) : Dev :=
  if d.onAt .CLINK_CTRL_RUN l then d.flagAt .CLINK_STAT_CFGE l true else d.storeFields fs v

/-- A comparator's configuration register: MODE acts last. -/
def Dev.cmpRegister (d : Dev) (fs : List (FieldRow × Nat)) (v : Nat) : Dev :=
  let put (x : Dev) (r : FieldRow × Nat) : Dev :=
    if d.fieldLocked r then x
    else x.cmpWrite r.2 r.1.fld (r.1.range.apply (d.rdAt r.1.fld r.2) (v / 2 ^ r.1.lsb % 2 ^ r.1.width))
  (fs.filter fun r => decide (r.1.fld = .WCMP_CFG_MODE)).foldl put ((fs.filter fun r => decide (r.1.fld ≠ .WCMP_CFG_MODE)).foldl put d)

/-- A write of WCMP.STATn (R154, R162). -/
def Dev.cmpStatus (d : Dev) (n v : Nat) : Dev :=
  (d.when (bitOf v 30 && !d.onAt .WCMP_STAT_L2 n) fun x => x.flagAt .WCMP_STAT_L2LAT n false).cmpFaultClear n v

/-- The NODE block's settings: kept, with CFGE, while RUN = 1 (R240). -/
def Dev.nodeConfig (d : Dev) (fs : List (FieldRow × Nat)) (v : Nat) : Dev :=
  if d.on .NODE_CTRL_RUN then d.nodeCfge else d.storeFields fs v

/-- A landing's address registers: kept, with CFGE, while EN = 1 (R219). -/
def Dev.landConfig (d : Dev) (l : Nat) (fs : List (FieldRow × Nat)) (v : Nat) : Dev :=
  if d.onAt .NODE_LCFG_EN l then d.nodeCfge else d.storeFields fs v

/-- The pager's settings: kept, with CFGE, while a timetable is active or pending (R257). -/
def Dev.berthConfig (d : Dev) (fs : List (FieldRow × Nat)) (v : Nat) : Dev :=
  if d.timetabled then d.flag .BERTH_STAT_CFGE true else d.storeFields fs v

/-- A write of ETH.CTRLp: MODE is kept while EN = 1 (R241); an enabled port asks for its fare (Table 19-4). -/
def Dev.portWrite (d : Dev) (p v : Nat) : Dev :=
  let d1 := d.when (!d.onAt .ETH_CTRL_EN p) fun x => x.wrAt .ETH_CTRL_MODE p (max 1 (bitsOf v 2 1))
  let d2 := d1.flagAt .ETH_CTRL_EN p (bitOf v 0)
  if bitOf v 0 then d2.fareAsk (16 + p) (d2.fareOf (16 + p)) else d2.fareDrop (16 + p)

/-- A write of ETH.PTPCTL: the change of LOCKED raises its event (R235). -/
def Dev.ptpWrite (d : Dev) (v : Nat) : Dev :=
  let d1 := (d.flag .ETH_PTPCTL_LOCKED (bitOf v 2)).when (d.on .ETH_PTPCTL_LOCKED != bitOf v 2) fun x => x.raise 429
  (d1.when (bitOf v 1) Dev.ptpLoad).flag .ETH_PTPCTL_EN (bitOf v 0)

/-- A write of SDF.CFGn: EN written 1, with or without a change of OSR, restarts the channel; written 0 it stops the channel, and the count stays (R262, R263,
R278). -/
def Dev.filterWrite (d : Dev) (n : Nat) (fs : List (FieldRow × Nat)) (v : Nat) : Dev :=
  let d1 := d.storeFields fs v
  if d1.onAt .SDF_CFG_EN n then d1.filterRestart n else d1.flagAt .SDF_STAT_RUN n false

/-- A write of MTR.MCLKk: dividers are even (R259); EN written 0 gives up the ball (R330). -/
def Dev.mclkWrite (d : Dev) (k : Nat) (fs : List (FieldRow × Nat)) (v : Nat) : Dev :=
  let d1 := d.storeFields fs v
  let n := d1.rdAt .MTR_MCLK_DIV k
  (d1.wrAt .MTR_MCLK_DIV k (n - n % 2)).when (!d1.onAt .MTR_MCLK_EN k && !d.cus.isSealed) fun x => x.onMet fun t => { t with mclkOwn := setBit t.mclkOwn k false }

/-- A write of TALLY.PUCFGj: quadrature only from an even input (R284). -/
def Dev.pulseWrite (d : Dev) (j : Nat) (fs : List (FieldRow × Nat)) (v : Nat) : Dev :=
  let d1 := d.storeFields fs v
  if j % 2 = 1 ∧ d1.rdAt .TALLY_PUCFG_MODE j = 3 then d1.wrAt .TALLY_PUCFG_MODE j (d.rdAt .TALLY_PUCFG_MODE j) else d1

/-- A write of MAN.CTRL: SEAL, then BREAK, then ACK, each once the one before it has its result (R303). -/
def Dev.manWrite (d : Dev) (v : Nat) : Dev :=
  let d1 := (d.when (bitOf v 0) fun x => x.manSeal x.meteringNames).when (bitOf v 1) Dev.manBreak
  d1.when (bitOf v 2) fun x =>
    if bitOf v 1 && d.cus.breaking.isNone && x.cus.breaking.isSome then x.onCus fun c => { c with ackWait := true } else x.manAck

/-- A write of TWIN.CTRL; its bits act in ascending order (log entry 54). -/
def Dev.twinWrite (d : Dev) (v : Nat) : Dev :=
  (((d.when (bitOf v 0) Dev.twinJoin).when (bitOf v 1) Dev.twinHandover).when (bitOf v 2) Dev.twinLeave).when (bitOf v 3) Dev.dfClear

/-- A write of TWIN.ALIGN: the supervisor keeps a copy of CDLY (R355). -/
def Dev.alignWrite (d : Dev) (fs : List (FieldRow × Nat)) (v : Nat) : Dev :=
  let d1 := d.storeFields fs v
  d1.onSys fun s => { s with cdlyCopy := d1.rd .TWIN_ALIGN_CDLY }

/-- A write of DDR.CTRL: FILLGO, then FILLABT, then RETRAIN; how much an abandoned fill had written is free (R371, log entry 1). -/
def Dev.ddrWrite (d : Dev) (v : Nat) : List (Nat × List Byte) × Dev :=
  let d1 := d.when (bitOf v 0) Dev.ddrFill
  let r := if bitOf v 1 then
      let n := d1.draw (2 ^ 32)
      n.2.fillEnd (64 * n.1) 6
    else ([], d1)
  (r.1, r.2.when (bitOf v 2) Dev.ddrRetrain)

/-- DDR.CFG and DDR.TIM are kept outside INIT (R372). -/
def Dev.ddrConfig (d : Dev) (fs : List (FieldRow × Nat)) (v : Nat) : Dev :=
  if d.rd .DDR_STAT_STATE ≠ ddrInit then d else d.storeFields fs v

/-- A write of DDR.HALT restarts channels; whether one meets poison again is free (R365, log entry 1). -/
def Dev.haltWrite (d : Dev) (v : Nat) : Dev :=
  d.each 9 fun x ch => x.when (bitOf v ch) fun y => y.dmaRestart ch

/-- A write of ADC.CFGn: an odd input has no DIFF; PULL above 4 stores 0 (Table 16-6). -/
def Dev.adcWrite (d : Dev) (n : Nat) (fs : List (FieldRow × Nat)) (v : Nat) : Dev :=
  let d1 := (d.storeFields fs v).when (decide (n % 2 = 1)) fun x => x.flagAt .ADC_CFG_DIFF n false
  d1.when (decide (4 < d1.rdAt .ADC_CFG_PULL n)) fun x => x.wrAt .ADC_CFG_PULL n 0

/-- A write of ADC.DMATAIL: FULL follows (R383). -/
def Dev.tailWrite (d : Dev) (fs : List (FieldRow × Nat)) (v : Nat) : Dev :=
  let d1 := d.storeFields fs v
  let n := d1.rd .ADC_DMALEN_LEN * 8
  d1.flag .ADC_DMASTAT_FULL (d1.on .ADC_DMACFG_MODE && decide ((d1.rd .ADC_DMAHEAD_HEAD + 1) % n = d1.rd .ADC_DMATAIL_TAIL % n))

/-- A write of COOL.CTRL: DIR, then DIAG, FCLR and RUN (log entry 54). -/
def Dev.coolWrite (d : Dev) (v : Nat) : Dev :=
  let d1 := ((d.flag .COOL_CTRL_DIR (bitOf v 1)).when (bitOf v 3) Dev.pumpDiag).when (bitOf v 2) Dev.pumpClear
  if bitOf v 0 then d1.pumpRun else d1.when (d1.on .COOL_CTRL_RUN) Dev.pumpHalt

/-- COOL.CFG, FLOW and START are kept while the drive is not in OFF (Table 17-7). -/
def Dev.coolConfig (d : Dev) (fs : List (FieldRow × Nat)) (v : Nat) : Dev := if d.pumpState ≠ 0 then d else d.storeFields fs v

/-- A write of FM.WDTCFG: EN cannot be cleared outside bench mode (R401). -/
def Dev.wdtWrite (d : Dev) (fs : List (FieldRow × Nat)) (v : Nat) : Dev :=
  let d1 := d.storeFields fs v
  if d.on .FM_WDTCFG_EN && !d1.on .FM_WDTCFG_EN && !d.on .GWY_BENCH_ON then d1.flag .FM_WDTCFG_EN true else d1

/-- A write of FM.CDCTL: AUTOWAKE and WAKEP, then HOLD (R402). -/
def Dev.cdctlWrite (d : Dev) (v : Nat) : Dev :=
  let d1 := (d.flag .FM_CDCTL_AUTOWAKE (bitOf v 30)).when (bitOf v 0) fun x => x.flag .FM_CDCTL_WAKEP false
  if d1.on .FM_CDCTL_HOLD = bitOf v 31 then d1
  else if !bitOf v 31 then d1.controlRelease
  else if d1.on .PWM_CTRL_ARM then d1.flag .FM_STAT_CDREF true
  else (d1.controlReset 0x5).flag .FM_CDCTL_HOLD true

/-- A write of CAP.HUP: EN asks for the hold-up fare, or gives it up (R435, Table 19-4). -/
def Dev.hupWrite (d : Dev) (fs : List (FieldRow × Nat)) (v : Nat) : Dev :=
  let d1 := d.storeFields fs v
  if d.on .CAP_HUP_EN = d1.on .CAP_HUP_EN then d1
  else if d1.on .CAP_HUP_EN then d1.fareAsk 0 (d1.fareOf 0) else d1.fareDrop 0

/-- A write of CAP.OUTEN (R428, R433): EN written 0 lets an output start again that its current limit turned off. -/
def Dev.outWrite (d : Dev) (v : Nat) : Dev :=
  d.each 4 fun x k =>
    if x.bit .CAP_OUTEN k = bitOf v k then x
    else if bitOf v k then (x.wrBit .CAP_OUTEN k true).supplyOn k
    else (((x.onSys fun s => { s with ocOff := s.ocOff.erase k }).wrBit .CAP_OUTEN k false).supplyOff k)

/-- A write of GWY.BENCH: EXIT, then ENTER (log entry 54). -/
def Dev.benchWrite (d : Dev) (v : Nat) : Dev :=
  let d1 := d.when (bitOf v 1) Dev.benchEnd
  d1.when (bitOf v 0 && !d1.sys.cdReset) Dev.benchEnter

/-- A write of GWY.ASELk: while the metrology seal is set it stores EN = 0 and shows in ASEAL (R464). -/
def Dev.aselWrite (d : Dev) (k : Nat) (fs : List (FieldRow × Nat)) (v : Nat) : Dev :=
  let d1 := d.storeFields fs v
  if d.cus.isSealed then (d1.flagAt .GWY_ASEL_EN k false).when (bitOf v 31) fun x => x.flag .GWY_STAT_ASEAL true else d1

/-- What a write of `v` does to the register whose first field is `f`, number `i`, of fields `fs`. -/
def Dev.writeRegister (m : List Host.Cell) (d : Dev) (q : Requester) (f : Fld) (i : Nat) (fs : List (FieldRow × Nat)) (v : Nat) :
    List (Nat × List Byte) × Dev :=
  match f with
  | .TIDE_ALMLO => ([], d.tideAlarmSet false v)
  | .TIDE_ALMHI => ([], d.tideAlarmSet true v)
  | .TTB_CTRL_CANCEL => ([], d.ttbCtrl (bitOf v 1) (bitOf v 0))
  | .TTB_CLRTSK => ([], d.ttbClear (v % 512))
  | .CE_TRAP_VALID => ([], d.when (bitOf v 31) fun x => x.ceTrapClear i)
  | .CE_CLR_ECC => ([], d.ceClear i v)
  | .CE_DBG_HALTED => ([], (d.ceHalt i (bitOf v 0)).when (bitOf v 1) fun x => x.ceStep i)
  | .SE_TRAP_VALID => ([], d.when (bitOf v 31) Dev.seTrapClear)
  | .SE_CLR_ECC => ([], d.when (bitOf v 0) Dev.seClear)
  | .PWM_CTRL_KILL => ([], d.pwmWrite v)
  | .LEG_CFG_ONCHK | .LEG_PH => ([], d.legWrite i fs v)
  | .LEG_STAT_STATE => ([], d.legClear i v)
  | .CLINK_CTRL_UNBLK => ([], d.linkWrite q i v)
  | .CLINK_CFG_HOLD | .CLINK_APP_APPLY | .CLINK_TRMSK => ([], d.linkConfig i fs v)
  | .WCMP_CFG_PROT | .WCMP_THR_HI | .WCMP_THR2_HI2 | .WCMP_BLK_BLANK | .WCMP_RT1_H1 | .WCMP_RT2_LEGS => ([], d.cmpRegister fs v)
  | .WCMP_STAT_PUH => ([], d.cmpStatus i v)
  | .WCMP_RBCTL_BUSY => ([], d.when (bitOf v 0) Dev.readbackAsk)
  | .NODE_CTRL_BCEN =>
    ([], let d1 := d.flag .NODE_CTRL_BCEN (bitOf v 1)
         if bitOf v 0 || d1.on .NODE_CTRL_RUN then d1.nodeRun (bitOf v 0) else d1)
  | .NODE_CFG_TRANS | .NODE_PROTO_UDPPORT | .NODE_PORTS_QUEUE | .NODE_BCNODE => ([], d.nodeConfig fs v)
  | .NODE_CLR => ([], d.when (bitOf v 0) Dev.nodeClear)
  | .NODE_LCFG_EN => ([], d.lcfgWrite i v)
  | .NODE_LBASE_BASE | .NODE_LMACLO | .NODE_LMACHI | .NODE_LIP => ([], d.landConfig i fs v)
  | .ETH_CTRL_MODE => ([], d.portWrite i v)
  | .ETH_PTPCTL_LOCKED => ([], d.ptpWrite v)
  | .ETH_PTPADJ => ([], d.ptpAdjust v)
  | .BERTH_CFG_FHEN | .BERTH_NTBASE_BASE => ([], d.berthConfig fs v)
  | .BERTH_HOFF_HOFFF => ([], d.berthConfig fs (v / 4 % 0x40 * 4 + v / 0x40000 % 0x40 * 0x40000))
  | .BERTH_REINIT_GO => ([], d.when (bitOf v 31) fun x => x.berthReinit (v % 2 ^ 18))
  | .BERTH_CLR => ([], d.when (bitOf v 0) Dev.berthClear)
  | .SDF_CFG_EN => ([], d.filterWrite i fs v)
  | .MTR_CTRL_LOAD => ([], d.when (bitOf v 0) Dev.mtrLoad)
  | .MTR_MCLK_EN => ([], d.mclkWrite i fs v)
  | .TALLY_CCTRL_COMMIT => ([], d.when (bitOf v 0) fun x => x.onCus fun c => { c with due := true })
  | .TALLY_PUCFG_MODE => ([], d.pulseWrite i fs v)
  | .MAN_CTRL_ACK => ([], d.manWrite v)
  | .MAN_RDSEQLO => ([], d.manSelect false v)
  | .MAN_RDSEQHI => ([], d.manSelect true v)
  | .TWIN_CTRL_DFCLR => ([], d.twinWrite v)
  | .TWIN_ALIGN_PHERR => ([], d.alignWrite fs v)
  | .TWIN_CLR => ([], d.when (bitOf v 0) Dev.twinClear)
  | .DDR_CTRL_RETRAIN => d.ddrWrite v
  | .DDR_CFG_RANKS | .DDR_TIM_CL => ([], d.ddrConfig fs v)
  | .DDR_HALT => ([], d.haltWrite v)
  | .ECC_CTRL_CLR => ([], d.when (bitOf v 0) Dev.eccClear)
  | .ECC_INJ_ARM => ([], d.eccInject (bitOf v 31) v)
  | .ADC_CFG_EN => ([], d.adcWrite i fs v)
  | .ADC_DMACFG_EN | .ADC_DMASELLO | .ADC_DMASELHI | .ADC_DMABASE_BASE | .ADC_DMALEN_LEN => ([], d.adcDmaWrite (d.storeFields fs v))
  | .ADC_DMATAIL_TAIL => ([], d.tailWrite fs v)
  | .COOL_CTRL_DIAG => ([], d.coolWrite v)
  | .COOL_CFG_HFILT | .COOL_FLOW_FLOWT | .COOL_START_STARTT => ([], d.coolConfig fs v)
  | .FM_WDTCFG_EN => ([], d.wdtWrite fs v)
  | .FM_WDTKICK => ([], if v = 0xC35A then d else d.watchdog)
  | .FM_CDCTL_HOLD => ([], d.cdctlWrite v)
  | .FM_CALCTL_SET => ([], d.when (bitOf v 0) fun x => x.calLoad (x.rd64 .FM_CALSETLO .FM_CALSETHI))
  | .FM_LOGWCTL_GO => ([], d.when (bitOf v 0) Dev.logAskFirmware)
  | .FM_HQCTL_PUSH => ([], d.hostPush v)
  | .FM_UPDCTL_CONFIRM => ([], d.updCtl m v)
  | .FM_ATTCTL_GO => ([], d.when (bitOf v 0) Dev.attest)
  | .CAP_CTRL_HTEST => ([], d.when (bitOf v 0) Dev.holdUpMeasure)
  | .CAP_HUP_EN => ([], d.hupWrite fs v)
  | .CAP_REQ_REQ => ([], d.capRequest (bitOf v 31) (v % 128))
  | .CAP_OUTEN => ([], d.outWrite v)
  | .CAP_CLR => ([], d.when (bitOf v 0) Dev.capClear)
  | .CAP_CLFARE => ([], if i < 10 ∨ i = 22 then d else d.storeFields fs v)
  | .CLK_CFG_PRE => ([], d.wr .CLK_CFG_PRE (v % 4 % 3))
  | .CLK_COUT_EN =>
    ([], let d1 := d.storeFields fs v
         d1.when (decide (d1.rdAt .CLK_COUT_DIV i = 0)) fun x => x.wrAt .CLK_COUT_DIV i 4096)
  | .EVT_SWSET => ([], d.softwareEvents v)
  | .PCNT_CFG_EN =>
    ([], let d1 := d.storeFields fs v
         d1.when (decide (i % 2 = 1)) fun x => x.flagAt .PCNT_CFG_CHAIN i false)
  | .PCNT_BWPEAK => ([], d.wrAt .PCNT_BWPEAK i 0)
  | .GWY_BENCH_ON => ([], d.benchWrite v)
  | .GWY_ASEL_EN => ([], d.aselWrite i fs v)
  | _ => ([], d.storeFields fs v)

/-- A write of an aligned word to a register by a requester: where no register lies, an address error; by who may not write the block, while the SP link
to a power-die block is failed, to a LEG block whose seal is not restored, or to WCMP.SEAL, a bus error; on a control die in reset, nothing (R2, R11,
R125, R164, R449, log entry 8). A write of what configures a resource that the writer does not hold is a claim violation, also where the block
admits only Ferryman (R25). The sealed-write event rises in the cycle of the write: a w1c bit that it sets ends set (R6). -/
def Dev.regWrite (m : List Host.Cell) (d : Dev) (q : Requester) (a v : Nat) : List (Nat × List Byte) × Dev :=
  match blkAt a with
  | none => ([], d.addressError)
  | some b =>
    let o := a - b.base
    match claimAt b o with
    | some (r, n) => ([], d.claimWrite q r n v)
    | none =>
      match fieldsAt b o with
      | [] => ([], d.addressError)
      | (r, i) :: t =>
        let own : Bool := match configures r.fld i with
          | some c => d.mayWrite q c
          | none => true
        if !(decide (q = .ferryman) || openBlk b r.fld) then ([], if own then d.busError else d.busError.claimViolation)
        else if powerBlks.contains b && d.sys.spFailed then ([], d.busError)
        else if controlBlks.contains b && d.sys.cdReset then ([], d.answer)
        else if (b = .LEG ∧ !d.on .LEG_SEAL_SET) ∨ r.fld = .WCMP_SEAL_SET then ([], d.busError)
        else
          let fs := (r, i) :: t
          let w := if own then d.answer.writeRegister m q r.fld i fs v else ([], d.answer.claimViolation)
          (w.1, w.2.when (d.sealHit fs) fun x => x.sealedWrite a)

/-- A write of `size` bytes in a register region: where no register lies, an address error (R2); of anything but one aligned word, a bus error
(R3). -/
def Dev.registerWrite (m : List Host.Cell) (d : Dev) (q : Requester) (a size v : Nat) : List (Nat × List Byte) × Dev :=
  if !registerAt a then ([], d.addressError)
  else if size ≠ 4 ∨ a % 4 ≠ 0 then ([], d.busError) else d.regWrite m q a v

/-- A memory lies at `a` and the `n - 1` bytes after it: installed DRAM, or one window of Table 1-7. -/
def Dev.memoryAt (d : Dev) (a n : Nat) : Bool :=
  decide (a + n ≤ d.dramEnd) || ((inSram a || inRom a) && (inSram (a + n - 1) || inRom (a + n - 1)))

/-- REGISTER_WRITE (R2 to R7, R25). Where a memory lies, no register takes the write: a bus error and no address error (DESIGN CHOICE, log entry
140). -/
def execRegisterWrite (req : Requester) (addr : BitVec 40) (size : Nat) (value : BitVec 32) (s : State) : Host.Outcome State Fault Refusal :=
  s.updAll fun m d =>
    if inRegisters addr.toNat then d.registerWrite m req addr.toNat size value.toNat
    else if d.memoryAt addr.toNat size then ([], d.busError)
    else ([], d.addressError)

end Sys2Proof.Machine
end

