-- ==== Sys2Proof/Machine/VcsInt.lean ====
section
/-!
DEFINITION. Machine/VcsInt.lean: the integer, compare, predicate, control-transfer and special-register instructions (R58, R73 to R76,
R105 to R109).
-/
namespace Sys2Proof.Machine

/-- The operation record of rd := f(ra, rb), with latency `lat` (Table 3-7). -/
def opABC (rd ra rb : Fin 32) (lat : Nat := 1) (div : Bool := false) : Op :=
  { lat := lat, reads := [ra, rb], writes := [rd], div := div, safety := true }

/-- The operation record of rd := f(ra). -/
def opAB (rd ra : Fin 32) : Op := { reads := [ra], writes := [rd], safety := true }

/-- rd := f(ra, rb), no flag. -/
def State.int3 (s : State) (i : Issue) (rd ra rb : Fin 32) (f : BitVec 64 → BitVec 64 → BitVec 64) (lat : Nat := 1) :
    Host.Outcome State Fault Refusal :=
  s.compute i (opABC rd ra rb lat) fun x => ([.g rd (f (x.gr ra) (x.gr rb))], 0)

/-- rd := f(ra, rb) with flags. -/
def State.int3f (s : State) (i : Issue) (rd ra rb : Fin 32) (f : BitVec 64 → BitVec 64 → BitVec 64 × Nat) (lat : Nat := 1)
    (div : Bool := false) : Host.Outcome State Fault Refusal :=
  s.compute i (opABC rd ra rb lat div) fun x => ([.g rd (f (x.gr ra) (x.gr rb)).1], (f (x.gr ra) (x.gr rb)).2)

/-- rd := f(ra). -/
def State.int2 (s : State) (i : Issue) (rd ra : Fin 32) (f : BitVec 64 → BitVec 64) : Host.Outcome State Fault Refusal :=
  s.compute i (opAB rd ra) fun x => ([.g rd (f (x.gr ra))], 0)

/-- The signed reading of bits 31:0. -/
def s32 (a : BitVec 64) : Int := (a.setWidth 32).toInt

/-- sext of a 32-bit result. -/
def sat32Result (v : Int) : BitVec 64 × Nat := (BitVec.ofInt 64 (sat32 v).1, (sat32 v).2)

/-- ADD (Table 3-7). -/
def execVcsAdd (i : Issue) (rd ra rb : Fin 32) (s : State) : Host.Outcome State Fault Refusal := s.int3 i rd ra rb (· + ·)
/-- SUB (Table 3-7). -/
def execVcsSub (i : Issue) (rd ra rb : Fin 32) (s : State) : Host.Outcome State Fault Refusal := s.int3 i rd ra rb (· - ·)
/-- AND (Table 3-7). -/
def execVcsAnd (i : Issue) (rd ra rb : Fin 32) (s : State) : Host.Outcome State Fault Refusal := s.int3 i rd ra rb (· &&& ·)
/-- OR (Table 3-7). -/
def execVcsOr (i : Issue) (rd ra rb : Fin 32) (s : State) : Host.Outcome State Fault Refusal := s.int3 i rd ra rb (· ||| ·)
/-- XOR (Table 3-7). -/
def execVcsXor (i : Issue) (rd ra rb : Fin 32) (s : State) : Host.Outcome State Fault Refusal := s.int3 i rd ra rb (· ^^^ ·)
/-- SLL (Table 3-7): by rb[5:0]. -/
def execVcsSll (i : Issue) (rd ra rb : Fin 32) (s : State) : Host.Outcome State Fault Refusal :=
  s.int3 i rd ra rb fun a b => a <<< (b.toNat % 64)
/-- SRL (Table 3-7): by rb[5:0]. -/
def execVcsSrl (i : Issue) (rd ra rb : Fin 32) (s : State) : Host.Outcome State Fault Refusal :=
  s.int3 i rd ra rb fun a b => a >>> (b.toNat % 64)
/-- SRA (Table 3-7): by rb[5:0]. -/
def execVcsSra (i : Issue) (rd ra rb : Fin 32) (s : State) : Host.Outcome State Fault Refusal :=
  s.int3 i rd ra rb fun a b => a.sshiftRight (b.toNat % 64)
/-- ADDS_W (Table 3-7). -/
def execVcsAddsW (i : Issue) (rd ra rb : Fin 32) (s : State) : Host.Outcome State Fault Refusal :=
  s.int3f i rd ra rb fun a b => sat32Result (s32 a + s32 b)
/-- SUBS_W (Table 3-7). -/
def execVcsSubsW (i : Issue) (rd ra rb : Fin 32) (s : State) : Host.Outcome State Fault Refusal :=
  s.int3f i rd ra rb fun a b => sat32Result (s32 a - s32 b)
/-- MIN (Table 3-7): signed. -/
def execVcsMin (i : Issue) (rd ra rb : Fin 32) (s : State) : Host.Outcome State Fault Refusal :=
  s.int3 i rd ra rb fun a b => if b.slt a then b else a
/-- MAX (Table 3-7): signed. -/
def execVcsMax (i : Issue) (rd ra rb : Fin 32) (s : State) : Host.Outcome State Fault Refusal :=
  s.int3 i rd ra rb fun a b => if a.slt b then b else a

/-- clamp of the conventions: the upper limit is tested first. -/
def clamp64 (x lo hi : BitVec 64) : BitVec 64 := if hi.slt x then hi else if x.slt lo then lo else x

/-- CLAMP (Table 3-7): lo in rb[31:0], hi in rb[63:32]. -/
def execVcsClamp (i : Issue) (rd ra rb : Fin 32) (s : State) : Host.Outcome State Fault Refusal :=
  s.int3 i rd ra rb fun a b => clamp64 a ((b.setWidth 32).signExtend 64) (((b >>> 32).setWidth 32).signExtend 64)

/-- ADDI (Table 3-7). -/
def execVcsAddi (i : Issue) (rd ra : Fin 32) (imm : BitVec 12) (s : State) : Host.Outcome State Fault Refusal :=
  s.int2 i rd ra fun a => a + imm.signExtend 64
/-- ANDI (Table 3-7). -/
def execVcsAndi (i : Issue) (rd ra : Fin 32) (imm : BitVec 12) (s : State) : Host.Outcome State Fault Refusal :=
  s.int2 i rd ra fun a => a &&& imm.setWidth 64
/-- ORI (Table 3-7). -/
def execVcsOri (i : Issue) (rd ra : Fin 32) (imm : BitVec 12) (s : State) : Host.Outcome State Fault Refusal :=
  s.int2 i rd ra fun a => a ||| imm.setWidth 64
/-- XORI (Table 3-7). -/
def execVcsXori (i : Issue) (rd ra : Fin 32) (imm : BitVec 12) (s : State) : Host.Outcome State Fault Refusal :=
  s.int2 i rd ra fun a => a ^^^ imm.setWidth 64
/-- SLLI (Table 3-7). -/
def execVcsSlli (i : Issue) (rd ra : Fin 32) (n : Fin 64) (s : State) : Host.Outcome State Fault Refusal :=
  s.int2 i rd ra fun a => a <<< n.val
/-- SRLI (Table 3-7). -/
def execVcsSrli (i : Issue) (rd ra : Fin 32) (n : Fin 64) (s : State) : Host.Outcome State Fault Refusal :=
  s.int2 i rd ra fun a => a >>> n.val
/-- SRAI (Table 3-7). -/
def execVcsSrai (i : Issue) (rd ra : Fin 32) (n : Fin 64) (s : State) : Host.Outcome State Fault Refusal :=
  s.int2 i rd ra fun a => a.sshiftRight n.val

/-- MOVZ (Table 3-7): k is the halfword number. -/
def execVcsMovz (i : Issue) (rd : Fin 32) (k : Fin 4) (imm : BitVec 16) (s : State) : Host.Outcome State Fault Refusal :=
  s.compute i { writes := [rd], safety := true } fun _ => ([.g rd (imm.setWidth 64 <<< (16 * k.val))], 0)
/-- MOVK (Table 3-7): the other halfwords are kept. -/
def execVcsMovk (i : Issue) (rd : Fin 32) (k : Fin 4) (imm : BitVec 16) (s : State) : Host.Outcome State Fault Refusal :=
  s.compute i { reads := [rd], writes := [rd], safety := true } fun x =>
    ([.g rd ((x.gr rd &&& ~~~((0xFFFF#64) <<< (16 * k.val))) ||| (imm.setWidth 64 <<< (16 * k.val)))], 0)

/-- MUL (Table 3-7). -/
def execVcsMul (i : Issue) (rd ra rb : Fin 32) (s : State) : Host.Outcome State Fault Refusal :=
  s.int3 i rd ra rb (· * ·) 3
/-- MULH (Table 3-7): bits 127:64 of the signed product. -/
def execVcsMulh (i : Issue) (rd ra rb : Fin 32) (s : State) : Host.Outcome State Fault Refusal :=
  s.int3 i rd ra rb (fun a b => BitVec.ofInt 64 (a.toInt * b.toInt / 2 ^ 64)) 3
/-- MULHU (Table 3-7): bits 127:64 of the unsigned product. -/
def execVcsMulhu (i : Issue) (rd ra rb : Fin 32) (s : State) : Host.Outcome State Fault Refusal :=
  s.int3 i rd ra rb (fun a b => BitVec.ofNat 64 (a.toNat * b.toNat / 2 ^ 64)) 3
/-- MULQ (Table 3-7). -/
def execVcsMulq (i : Issue) (rd ra rb : Fin 32) (s : State) : Host.Outcome State Fault Refusal :=
  s.int3f i rd ra rb (fun a b => sat32Result (s32 a * s32 b / 2 ^ 31)) 3

/-- DIV (Table 3-7). -/
def execVcsDiv (i : Issue) (rd ra rb : Fin 32) (s : State) : Host.Outcome State Fault Refusal :=
  s.int3f i rd ra rb (fun a b => (BitVec.ofNat 64 (divide a.toNat b.toNat true).1, (divide a.toNat b.toNat true).2.2)) 18 true
/-- DIVU (Table 3-7). -/
def execVcsDivu (i : Issue) (rd ra rb : Fin 32) (s : State) : Host.Outcome State Fault Refusal :=
  s.int3f i rd ra rb (fun a b => (BitVec.ofNat 64 (divide a.toNat b.toNat false).1, (divide a.toNat b.toNat false).2.2)) 18 true
/-- REM (Table 3-7). -/
def execVcsRem (i : Issue) (rd ra rb : Fin 32) (s : State) : Host.Outcome State Fault Refusal :=
  s.int3f i rd ra rb (fun a b => (BitVec.ofNat 64 (divide a.toNat b.toNat true).2.1, (divide a.toNat b.toNat true).2.2)) 18 true
/-- REMU (Table 3-7). -/
def execVcsRemu (i : Issue) (rd ra rb : Fin 32) (s : State) : Host.Outcome State Fault Refusal :=
  s.int3f i rd ra rb (fun a b => (BitVec.ofNat 64 (divide a.toNat b.toNat false).2.1, (divide a.toNat b.toNat false).2.2)) 18 true

/-! ### Compare and predicates (R74) -/

/-- The condition holds between two registers' values. -/
def condHolds (c : Cond) (a b : BitVec 64) : Bool :=
  match c with
  | .eq => a == b
  | .ne => a != b
  | .lt => a.slt b
  | .ge => !a.slt b
  | .ltu => a.ult b
  | .geu => !a.ult b

/-- CMP (Table 3-8). -/
def execVcsCmp (i : Issue) (cc : Cond) (pd : Fin 8) (ra rb : Fin 32) (s : State) : Host.Outcome State Fault Refusal :=
  s.compute i { reads := [ra, rb], writes := [regP pd], safety := true } fun x => ([.p pd (condHolds cc (x.gr ra) (x.gr rb))], 0)
/-- CMPI (Table 3-8). -/
def execVcsCmpi (i : Issue) (cc : Cond) (pd : Fin 8) (ra : Fin 32) (imm : BitVec 9) (s : State) :
    Host.Outcome State Fault Refusal :=
  s.compute i { reads := [ra], writes := [regP pd], safety := true } fun x =>
    ([.p pd (condHolds cc (x.gr ra) (imm.signExtend 64))], 0)

/-- pd := f(pa, pb). -/
def State.pred (s : State) (i : Issue) (pd pa pb : Fin 8) (f : Bool → Bool → Bool) : Host.Outcome State Fault Refusal :=
  s.compute i { reads := [regP pa, regP pb], writes := [regP pd], safety := true } fun x => ([.p pd (f (x.pr pa) (x.pr pb))], 0)

/-- PAND (Table 3-8). -/
def execVcsPand (i : Issue) (pd pa pb : Fin 8) (s : State) : Host.Outcome State Fault Refusal := s.pred i pd pa pb (· && ·)
/-- POR (Table 3-8). -/
def execVcsPor (i : Issue) (pd pa pb : Fin 8) (s : State) : Host.Outcome State Fault Refusal := s.pred i pd pa pb (· || ·)
/-- PXOR (Table 3-8). -/
def execVcsPxor (i : Issue) (pd pa pb : Fin 8) (s : State) : Host.Outcome State Fault Refusal := s.pred i pd pa pb (· != ·)
/-- PANDN (Table 3-8). -/
def execVcsPandn (i : Issue) (pd pa pb : Fin 8) (s : State) : Host.Outcome State Fault Refusal :=
  s.pred i pd pa pb fun a b => a && !b

/-! ### Control transfer (R74, R75, R104) -/

/-- A taken transfer to `target`: the instruction-address trap where R75, or R104 on Ferryman, raises it. -/
def transfer (e target : Nat) (ws : List RegW) (d : Dev) : Except (Nat × Nat) (Fx × Dev) :=
  if target % 4 ≠ 0 ∨ (e ≠ 10 ∧ 0xFFFC < target) then .error (0x2, target)
  else .ok ({ ws := ws, target := some target }, d)

/-- The address `off` instruction words after `pc`, modulo 2^64. -/
def relative (pc : Nat) (off : Int) : Nat := (((pc : Int) + 4 * off) % 2 ^ 64).toNat

/-- BR (Table 3-8). -/
def execVcsBr (i : Issue) (off : BitVec 22) (s : State) : Host.Outcome State Fault Refusal :=
  s.vcs i { lat := 0, branch := true, safety := true } fun _ _ d =>
    let e := Eng.index i.eng
    transfer e (relative (d.engine e).pc off.toInt) [] d
/-- JL (Table 3-8). -/
def execVcsJl (i : Issue) (rd : Fin 32) (off : BitVec 17) (s : State) : Host.Outcome State Fault Refusal :=
  s.vcs i { writes := [rd], branch := true, safety := true } fun _ _ d =>
    let e := Eng.index i.eng
    let pc := (d.engine e).pc
    transfer e (relative pc off.toInt) [.g rd (BitVec.ofNat 64 (pc + 4))] d
/-- JR (Table 3-8). -/
def execVcsJr (i : Issue) (ra : Fin 32) (s : State) : Host.Outcome State Fault Refusal :=
  s.vcs i { lat := 0, reads := [ra], branch := true, safety := true } fun _ _ d =>
    let e := Eng.index i.eng
    transfer e ((d.engine e).gr ra).toNat [] d

/-! ### Special registers (R58, R59, R105, R106) -/

/-- s.mstat (Table 4-7). -/
def Ferry.mstat (f : Ferry) : Nat := bit01 f.mie + 2 * bit01 f.priv + 4 * bit01 f.pmie + 8 * bit01 f.ppriv + 2 ^ 8 * f.plevel

/-- The value of special register `n` in issue cycle `c` on engine `e`; `none` when the number is not assigned (Tables 3-2, 4-7). -/
def Dev.sreg (d : Dev) (e c n : Nat) : Option Nat :=
  let x := d.engine e
  let f := d.vcs.ferry
  match n with
  | 0x000 => some d.tide
  | 0x001 => some (d.tide % 4096)
  | 0x002 => some (if e = 10 then 0 else x.task + 2 ^ 12 * x.seg + 2 ^ 16 * e)
  | 0x003 => some (d.rd .TIDE_PERIOD_ACT)
  | 0x004 => some (if e = 10 then 0 else c)
  | 0x005 => some (if e = 10 then 0 else x.budget - c)
  | 0x006 => some x.flags
  | 0x007 => some (d.rd .TTB_ACTID)
  | 0x800 => some f.mstat
  | 0x801 => some f.mepc
  | 0x802 => some f.mcause
  | 0x803 => some f.mtval
  | 0x804 => some f.mvec
  | 0x805 => some f.mlevel
  | 0x806 => some d.mpend
  | _ =>
    if 0x810 ≤ n ∧ n < 0x820 then some (if n % 2 = 0 then f.base.at 0 ((n - 0x810) / 2) else f.lim.at 0 ((n - 0x810) / 2)) else none

/-- MFS (Table 3-8, R58, R106). -/
def execVcsMfs (i : Issue) (rd : Fin 32) (sreg : BitVec 12) (s : State) : Host.Outcome State Fault Refusal :=
  let n := sreg.toNat
  s.vcs i { cls := 2, writes := [rd], control := decide (n < 0x800), safety := decide (n < 0x800) } fun _ c d =>
    let e := Eng.index i.eng
    if e = 10 ∧ 0x800 ≤ n ∧ !d.vcs.ferry.priv then .error (0x6, i.word.toNat)
    else match d.sreg e c n with
      | some v => .ok ({ ws := [.g rd (BitVec.ofNat 64 v)] }, d)
      | none => .error (0x1, i.word.toNat)

/-- The special registers after a write of `v` to number `n`; `none` for a read-only or unassigned number (Tables 3-2, 4-7). -/
def Dev.setSreg (d : Dev) (e n v : Nat) : Option Dev :=
  let put (f : Ferry → Ferry) : Option Dev := some { d with vcs := { d.vcs with ferry := f d.vcs.ferry } }
  match n with
  | 0x006 => some (d.setEngine e { d.engine e with flags := v % 2 ^ 8 })
  | 0x800 => put fun f => { f with mie := bitOf v 0, pmie := bitOf v 2, ppriv := bitOf v 3, plevel := bitsOf v 12 8 }
  | 0x801 => put fun f => { f with mepc := v }
  | 0x802 => put fun f => { f with mcause := bitsOf v 63 63 * 2 ^ 63 + bitsOf v 4 0 }
  | 0x803 => put fun f => { f with mtval := v }
  | 0x804 => put fun f => { f with mvec := bitsOf v 39 8 * 2 ^ 8 }
  | 0x805 => put fun f => { f with mlevel := bitsOf v 4 0 }
  | _ =>
    if 0x810 ≤ n ∧ n < 0x820 then
      let r := (n - 0x810) / 2
      put fun f => if n % 2 = 0 then { f with base := f.base.set 0 r (bitsOf v 39 12 * 2 ^ 12) }
        else { f with lim := f.lim.set 0 r (bitsOf v 39 12 * 2 ^ 12 + bitsOf v 3 0) }
    else none

/-- MTS (Table 3-8, R58, R106). -/
def execVcsMts (i : Issue) (sreg : BitVec 12) (ra : Fin 32) (s : State) : Host.Outcome State Fault Refusal :=
  let n := sreg.toNat
  s.vcs i { cls := 2, lat := 1, reads := [ra], control := decide (n < 0x800), safety := decide (n < 0x800) } fun _ _ d =>
    let e := Eng.index i.eng
    if e = 10 ∧ 0x800 ≤ n ∧ !d.vcs.ferry.priv then .error (0x6, i.word.toNat)
    else match d.setSreg e n ((d.engine e).gr ra).toNat with
      | some d1 => .ok ({}, d1)
      | none => .error (0x1, i.word.toNat)

/-! ### Privileged instructions and interrupts (R106 to R109) -/

/-- The record of eret, wfi and fence: in the management profile only. -/
def opPriv : Op := { control := false, safety := false }

/-- A privileged instruction: the privilege trap in user mode (R106). -/
def State.privileged (s : State) (i : Issue) (f : Dev → Fx × Dev) : Host.Outcome State Fault Refusal :=
  s.vcs i opPriv fun _ _ d => if d.vcs.ferry.priv then .ok (f d) else .error (0x6, i.word.toNat)

/-- ERET (R109): the level is restored when the latest entry not yet returned from was an interrupt's. DESIGN CHOICE (log entry 144): eret is no taken
transfer of R104, so an s.mepc that is no multiple of 4 raises no trap. -/
def execVcsEret (i : Issue) (s : State) : Host.Outcome State Fault Refusal :=
  s.privileged i fun d =>
    ({ target := some d.vcs.ferry.mepc }, d.onFerry fun f => { f with
      mie := f.pmie, priv := f.ppriv, mlevel := if f.entries.headD false then f.plevel else f.mlevel, entries := f.entries.drop 1 })
/-- WFI (R109). -/
def execVcsWfi (i : Issue) (s : State) : Host.Outcome State Fault Refusal :=
  s.privileged i fun d => ({}, d.onFerry fun f => { f with waiting := true })
/-- FENCE (R109): instructions complete in order in this model, so every earlier access has completed. -/
def execVcsFence (i : Issue) (s : State) : Host.Outcome State Fault Refusal := s.privileged i fun d => ({}, d)

/-- INTERRUPT_ENTRY (R108). -/
def execInterruptEntry (s : State) : Host.Outcome State Fault Refusal :=
  s.upd fun d => match d.mtakes with
    | some l => d.mEnter l
    | none => d

end Sys2Proof.Machine
end

