-- ==== Sys2Proof/Machine/VcsMem.lean ====
section
/-!
DEFINITION. Machine/VcsMem.lean: the memory, lookup, frame and node instructions (R82 to R98, R103, R104).
-/
namespace Sys2Proof.Machine

/-! ### Accesses -/

/-- What a load gets: the trap it raises, or its bytes; and the part after the access. -/
structure Got where
  trap  : Option (Nat × Nat) := none
  bytes : List Byte := []
  dev   : Dev

/-- What a store does: the trap it raises, the bytes it stores, the part after the access. -/
structure Put where
  trap : Option (Nat × Nat) := none
  mem  : List (Nat × List Byte) := []
  dev  : Dev

/-- A corrected error in a data access of engine `e` at `a` (R88); Ferryman's is counted by the ECC block alone. -/
def Dev.dataCorrected (d : Dev) (e a : Nat) : Dev :=
  (if e < 8 then d.bumpAt .CE_ECC_DCOR e 65535 else if e = 8 then d.bump .SE_ECC_DCOR 65535 else d).corrected a

/-- The bytes of an access of engine `e` whose words are checked (R88, R365); `v`: the address that a data-ECC trap records. -/
def Dev.checked (d : Dev) (m : List Host.Cell) (e a n v : Nat) : Got :=
  match d.spanState a n with
  | 0 => { bytes := memBytes m a n, dev := d }
  | 1 => { bytes := memBytes m a n, dev := d.dataCorrected e a }
  | _ => { trap := some (0x5, v), dev := d.uncorrectable a }

/-- An address of `n` bytes in an engine's data SRAM is aligned and inside it (R86). -/
def sramFits (a n : Nat) : Bool := decide (a % n = 0) && decide (a + n ≤ 0x20000)

/-- The address is Ferryman's to use (R89, R107): the trap that it raises otherwise. `bit`: 1 write, 0 read. -/
def Dev.ferryRefuses (d : Dev) (a n bit : Nat) : Option (Nat × Nat) :=
  if 2 ^ 40 ≤ a then some (0x3, a)
  else if !d.vcs.ferry.permits a n bit then some (0x7, a) else none

/-- The bus-error trap of an access at `a` (R89). -/
def Dev.busTrap (d : Dev) (a : Nat) : Option (Nat × Nat) := if d.resp.error then some (0x8, a) else none

/-- The word of a node's translation entry (Table 10-2). -/
def Dev.translation (d : Dev) (n : Nat) : Nat :=
  match d.pager.lines.find? fun e => e.1 = n with
  | some (_, l) => 2 ^ 31 * bit01 l.res + 2 ^ 30 * bit01 (decide (n < 1536)) + 2 ^ 29 * bit01 l.dmg + 2 ^ 28 * bit01 (!l.res) + 2 ^ 20 * (l.dirty % 256) + l.berth
  | none => 0

/-- A memory of the control die, while its domain is in reset: nothing answers for it (log entry 8). -/
def Dev.dark (d : Dev) (a : Nat) : Bool := d.sys.cdReset && (decide (a < 0x1000000000) || inControlSram a)

/-- Ferryman reads `n` bytes at the system address `a` (R2, R3, R89, R245, R365). -/
def Dev.ferryLoad (d : Dev) (m : List Host.Cell) (a n : Nat) : Got :=
  match d.ferryRefuses a n 0 with
  | some t => { trap := some t, dev := d }
  | none =>
    if inRegisters a then
      let x := d.registerRead .ferryman a n
      { trap := x.busTrap a, bytes := leBytes n x.resp.data, dev := x }
    else if inFlash a && inFlash (a + n - 1) then { bytes := memBytes m a n, dev := d }
    else if a + n ≤ d.dramEnd ∨ inOneWindow a n then
      if d.dark a then
        let r := d.draw (256 ^ n)
        { bytes := leBytes n r.1, dev := r.2 }
      else if inRom a then { bytes := (List.range n).map fun k => Config.romByte (a + k - bootRom), dev := d }
      else if translationTable ≤ a ∧ a < translationTable + 0x100000 then
        let g := d.checked m 10 a n a
        { g with bytes := (List.range n).map fun k =>
            BitVec.ofNat 8 (d.translation ((a + k - translationTable) / 4) / 256 ^ ((a + k - translationTable) % 4)) }
      else d.checked m 10 a n a
    else
      let x := d.addressError
      { trap := x.busTrap a, dev := x }

/-- The parts of a store that lie in one 64-bit word each, or are whole words. -/
def storeParts : Nat → Nat → List Byte → List (Nat × List Byte)
  | 0, _, _ => []
  | _ + 1, _, [] => []
  | k + 1, a, l => (a, l.take (8 - a % 8)) :: storeParts k (a + (8 - a % 8)) (l.drop (8 - a % 8))

/-- A write by Ferryman of part of a store, in DRAM or its SRAM (R363, R364): a word that could not be merged leaves the data-ECC trap for Ferryman's
next instruction. An armed error injection takes the first whole word written to DRAM (R373). -/
def Dev.ferryPart (d : Dev) (m : List Host.Cell) (a : Nat) (l : List Byte) : List (Nat × List Byte) × Dev :=
  let r := d.storePair m a l (d.store a l)
  let d1 := match r.2.1 with
    | some x => { r.2.2 with vcs := { r.2.2.vcs with ferry := { r.2.2.vcs.ferry with dataEcc := some x } } }
    | none => r.2.2
  if d1.on .GWY_BENCH_ON && d1.on .ECC_INJ_ARM && decide (a < 0x1000000000) && decide (a % 8 = 0) && decide (l.length = 8) then
    let w := d1.injected (d1.rd .ECC_INJ_MASK) l
    ([(a, w.1)], ((w.2.2.onEcc fun e => { e with bad := e.bad.set 0 (a / 8) w.2.1 }).flag .ECC_INJ_ARM false))
  else (r.1, d1)

/-- A write to the address ends with a bus error though a memory lies there (R20, R245, R420): the boot ROM, the berths, the translation table, a live
line or a history ring under a timetable, the half of instruction SRAM in use. -/
def Dev.ferryBarred (d : Dev) (a n : Nat) : Bool :=
  inRom a || (decide (berthSram ≤ a) && decide (a < translationTable + 0x100000))
    || (decide (a < 0x1000000000) && d.timetabled && d.touchesLines a (a + n))
    || (decide (0x1000000000 ≤ a) && decide (a < 0x1000200000) && decide (a % 0x40000 < 0x10000) && d.halfInUse (a % 0x40000 / 0x8000))

/-- Ferryman writes bytes at the system address `a` (R2, R3, R20, R89, R245, R363, R364, R420). -/
def Dev.ferryStore (d : Dev) (m : List Host.Cell) (a : Nat) (l : List Byte) : Put :=
  let n := l.length
  match d.ferryRefuses a n 1 with
  | some t => { trap := some t, dev := d }
  | none =>
    if inRegisters a then
      let x := d.registerWrite m .ferryman a n (leNat l)
      { trap := x.2.busTrap a, mem := x.1, dev := x.2 }
    else if a + n ≤ d.dramEnd ∨ inOneWindow a n then
      if d.dark a then { dev := d }
      else if d.ferryBarred a n then
        let x := d.busError
        { trap := x.busTrap a, dev := x }
      else
        let r := (storeParts 3 a l).foldl (fun (x : List (Nat × List Byte) × Dev) p =>
          let y := x.2.ferryPart m p.1 p.2
          (x.1 ++ y.1, y.2)) ([], d)
        { mem := r.1, dev := r.2 }
    else
      let x := d.addressError
      { trap := x.busTrap a, dev := x }

/-- A load of `n` bytes at `a` by engine `e` (R86, R88, R89). -/
def Dev.load (d : Dev) (m : List Host.Cell) (e a n : Nat) : Got :=
  if e = 10 then d.ferryLoad m a n
  else if sramFits a n then d.checked m e (dataSram e + a) n a else { trap := some (0x3, a), dev := d }

/-- The 64-bit words that a stored range touches, as they stand after it: address and value. -/
def wordsAfter (m : List Host.Cell) (p : Nat × List Byte) : List (Nat × Nat) :=
  (List.range ((p.1 + p.2.length + 7) / 8 - p.1 / 8)).map fun k =>
    let b := (p.1 / 8 + k) * 8
    (b, leNat ((List.range 8).map fun j => if p.1 ≤ b + j ∧ b + j < p.1 + p.2.length then p.2.getD (b + j - p.1) 0 else memByte m (b + j)))

/-- A store of a control engine while the HOST's copy runs waits for a STORE message (R349). -/
def Dev.streamNote (d : Dev) (m : List Host.Cell) (e : Nat) (w : List (Nat × List Byte)) : Dev :=
  if h : e < 8 then
    (if decide (d.rd .TWIN_STAT_STATE = 6) && d.copies then
      d.onTwin fun t => { t with stores := t.stores ++ (w.flatMap (wordsAfter m)).map fun x =>
        { tide := d.tide, engine := ⟨e, h⟩, addr := x.1 - dataSram e, data := BitVec.ofNat 64 x.2 } }
    else d)
  else d

/-- A store at `a` by engine `e` (R86, R88, R89, R364): a narrow one merges into its word, and traps on one that is not good. -/
def Dev.storeAt (d : Dev) (m : List Host.Cell) (e a : Nat) (l : List Byte) : Put :=
  if e = 10 then d.ferryStore m a l
  else if !sramFits a l.length then { trap := some (0x3, a), dev := d }
  else
    let r := d.store (dataSram e + a) l
    { trap := r.2.1.map fun _ => (0x5, a), mem := r.1,
      dev := (if l.length < 8 ∧ d.wordState (dataSram e + a) = 1 then
        (if e < 8 then r.2.2.bumpAt .CE_ECC_DCOR e 65535 else r.2.2.bump .SE_ECC_DCOR 65535) else r.2.2).streamNote m e r.1 }

/-- The effect of a load: the trap, or the register write. -/
def Got.fx (g : Got) (w : List Byte → RegW) : Except (Nat × Nat) (Fx × Dev) :=
  match g.trap with
  | some t => .ok ({ trap := some t }, g.dev)
  | none => .ok ({ ws := [w g.bytes] }, g.dev)

/-- The effect of a store. -/
def Put.fx (p : Put) : Except (Nat × Nat) (Fx × Dev) := .ok ({ mem := p.mem, trap := p.trap }, p.dev)

/-- The effective address of the I format (R85). -/
def Engine.ea (x : Engine) (ra : Nat) (imm : BitVec 12) : Nat := (x.gr ra + imm.signExtend 64).toNat

/-- A general register's value from loaded bytes, the upper bits zero. -/
def asG (rd : Nat) (l : List Byte) : RegW := .g rd (BitVec.ofNat 64 (leNat l))

/-- A vector register's value from loaded bytes. -/
def asV (vd : Nat) (l : List Byte) : RegW := .v vd (BitVec.ofNat 128 (leNat l))

/-- A VCS instruction whose access may reset or start a domain. -/
def State.vcsAll (s : State) (i : Issue) (o : Op) (body : Body) : Host.Outcome State Fault Refusal :=
  s.updAll fun m d => d.issueVcs m i o body

/-! ### Loads and stores (R85 to R89) -/

/-- A read at `a` stalls (R413): a program or an erase of its bank of the flash runs. -/
def Dev.flashStalls (d : Dev) (a : Nat) : Bool := inFlash a && d.fm.flashBusy.at false ((a - flashBase) / 0x2000000)

/-- A load instruction; Ferryman's read of a register may act, and one of the flash waits for the bank. -/
def State.loadOp (s : State) (i : Issue) (o : Op) (ra : Fin 32) (imm : BitVec 12) (n : Nat) (w : List Byte → RegW) :
    Host.Outcome State Fault Refusal :=
  let x := s.dev.engine (Eng.index i.eng)
  if i.eng = .ferryman ∧ x.pr i.pr.val ≠ i.pn ∧ s.dev.flashStalls (x.ea ra imm) then .next s else
  s.vcs i o fun m _ d =>
    let e := Eng.index i.eng
    (d.load m e ((d.engine e).ea ra imm) n).fx w

/-- A store instruction. -/
def State.storeOp (s : State) (i : Issue) (o : Op) (ra : Fin 32) (imm : BitVec 12) (v : Engine → List Byte) : Host.Outcome State Fault Refusal :=
  s.vcsAll i o fun m _ d =>
    let e := Eng.index i.eng
    (d.storeAt m e ((d.engine e).ea ra imm) (v (d.engine e))).fx

/-- LD (Table 4-1). -/
def execVcsLd (i : Issue) (rd ra : Fin 32) (imm : BitVec 12) (s : State) : Host.Outcome State Fault Refusal :=
  s.loadOp i { lat := 3, reads := [regG ra], writes := [regG rd], port := 1, safety := true } ra imm 8 (asG rd)

/-- LD_W (Table 4-1). -/
def execVcsLdW (i : Issue) (rd ra : Fin 32) (imm : BitVec 12) (s : State) : Host.Outcome State Fault Refusal :=
  s.loadOp i { lat := 3, reads := [regG ra], writes := [regG rd], port := 1, safety := true } ra imm 4 (asG rd)

/-- LD_V (Table 4-1). -/
def execVcsLdV (i : Issue) (vd : Fin 16) (ra : Fin 32) (imm : BitVec 12) (s : State) : Host.Outcome State Fault Refusal :=
  s.loadOp i { lat := 3, reads := [regG ra], writes := [regV vd], port := 1 } ra imm 16 (asV vd)

/-- ST (Table 4-1). -/
def execVcsSt (i : Issue) (ra : Fin 32) (imm : BitVec 12) (rs : Fin 32) (s : State) : Host.Outcome State Fault Refusal :=
  s.storeOp i { lat := 0, reads := [regG ra, regG rs], port := 1, safety := true } ra imm fun x => leBytes 8 (x.gr rs).toNat

/-- ST_W (R87): it holds the port for three cycles. -/
def execVcsStW (i : Issue) (ra : Fin 32) (imm : BitVec 12) (rs : Fin 32) (s : State) : Host.Outcome State Fault Refusal :=
  s.storeOp i { lat := 0, reads := [regG ra, regG rs], port := 3, safety := true } ra imm fun x => leBytes 4 (x.gr rs).toNat

/-- ST_V (Table 4-1). -/
def execVcsStV (i : Issue) (ra : Fin 32) (imm : BitVec 12) (vs : Fin 16) (s : State) : Host.Outcome State Fault Refusal :=
  s.storeOp i { lat := 0, reads := [regG ra, regV vs], port := 1 } ra imm fun x => leBytes 16 (x.vr vs).toNat

/-! ### Lookups (R82 to R84) -/

/-- The addresses that lut.i reads, in order. -/
def lutIReads (rd : Nat → Nat → Nat) (x base : Nat) : List Nat :=
  let n := rd 2 base
  let u := (fpMul (fpSub x (rd 4 (base + 4))).1 (rd 4 (base + 8))).1
  let y (j : Nat) := base + 16 + 4 * j
  if n < 2 ∨ 1024 < n ∨ fpIsNaN x then [base]
  else if fpIsNaN u then [base, base + 8]
  else if fpLt u 0 then [base, base + 8, y 0]
  else if fpLe (fpOfInt ((n : Int) - 1)).1 u then [base, base + 8, y (n - 1)]
  else [base, base + 8, y (fpToInt false u).1, y ((fpToInt false u).1 + 1)]

/-- The addresses that lut.b reads, in order. -/
def lutBReads (rd : Nat → Nat → Nat) (x base : Nat) : List Nat :=
  let n := rd 2 base
  let xa (j : Nat) := base + 8 + 4 * j
  let ya (j : Nat) := base + 8 + 4 * n + 4 * j
  let sa (j : Nat) := base + 8 + 8 * n + 4 * j
  if n < 2 ∨ 32 < n ∨ fpIsNaN x then [base]
  else if fpLt x (rd 4 (xa 0)) then [base, xa 0, ya 0]
  else if fpLe (rd 4 (xa (n - 1))) x then [base, xa 0, xa (n - 1), ya (n - 1)]
  else
    let i := (List.range (n - 1)).foldl (fun i j => if decide (1 ≤ j) && fpLe (rd 4 (xa j)) x then j else i) 0
    [base, xa 0, xa (n - 1)] ++ ((List.range (n - 1)).filter fun j => decide (1 ≤ j)).map xa ++ [xa i, sa i, ya i]

/-- A lookup at `base` (R84, R88): `size` gives the table's bytes for an NPTS in range, none otherwise. On Ferryman the table lies in its SRAM, `base`
an offset there, under the regions of R107 (log entry 56). DESIGN CHOICE (log entry 144): with a bad first word the data-address trap of the table's size, judged by the
stored NPTS, comes before the data-ECC trap. -/
def State.lookup (s : State) (i : Issue) (rd ra rb : Fin 32) (size : Nat → Option Nat)
    (reads : (Nat → Nat → Nat) → Nat → Nat → List Nat) (f : (Nat → Nat → Nat) → Nat → Nat → Nat × Nat) : Host.Outcome State Fault Refusal :=
  s.vcs i { cls := 1, lat := 6, reads := [regG ra, regG rb], writes := [regG rd], lookup := true, port := 1 } fun m _ d =>
    let e := Eng.index i.eng
    let x := d.engine e
    let base := (x.gr rb).toNat
    let a0 := if e = 10 then ferrymanSram else dataSram e
    let mem (n a : Nat) : Nat := memNat m (a0 + a) n
    let all := (size (mem 2 base)).getD 16
    if base % 16 ≠ 0 then .error (0x3, base)
    else if 0x20000 < base + 16 ∨ 0x20000 < base + all then .error (0x3, base)
    else if e = 10 ∧ !d.vcs.ferry.permits (a0 + base) all 0 then .error (0x7, a0 + base)
    else
      let as := reads mem (x.fr ra) base
      match as.find? fun a => decide (2 ≤ d.wordState (a0 + a)) with
      | some a => .ok ({ trap := some (0x5, a) }, d.uncorrectable (a0 + a))
      | none =>
        let d1 := as.foldl (fun y a => if y.wordState (a0 + a) = 1 then y.dataCorrected e (a0 + a) else y) d
        let r := f mem (x.fr ra) base
        .ok ({ ws := [.g rd (BitVec.ofNat 64 r.1)], flags := r.2 }, d1)

/-- LUT_I (R82 to R84). -/
def execVcsLutI (i : Issue) (rd ra rb : Fin 32) (s : State) : Host.Outcome State Fault Refusal :=
  s.lookup i rd ra rb (fun n => if 2 ≤ n ∧ n ≤ 1024 then some (16 + 4 * n) else none) lutIReads fpLutI

/-- LUT_B (R82 to R84). -/
def execVcsLutB (i : Issue) (rd ra rb : Fin 32) (s : State) : Host.Outcome State Fault Refusal :=
  s.lookup i rd ra rb (fun n => if 2 ≤ n ∧ n ≤ 32 then some (8 + 8 * n + 4 * (n - 1)) else none) lutBReads fpLutB

/-! ### Boarded inputs and staged outputs (R90 to R93) -/

/-- The value recorded by the data-address trap of in, in.v and out (Table 4-4). -/
def ioTrap (e ra : Nat) : Nat × Nat := (0x3, e * 2 ^ 24 + ra % 2 ^ 24)

/-- Entry `e` of an entry list, when item offset `k` (unsigned; a negative one is beyond every entry) lies in it. -/
def entryAt (l : List SetEntry) (e k : Nat) : Option SetEntry := (l.drop e).head?.filter fun x => decide (k < x.count)

/-- The input set of the task that runs on engine `e`. -/
def Dev.inputs (d : Dev) (e : Nat) : List SetEntry := ((d.taskOf (d.engine e).task).map Task.ins).getD []

/-- The output set of the task that runs on engine `e`. -/
def Dev.outs (d : Dev) (e : Nat) : List SetEntry := ((d.taskOf (d.engine e).task).map Task.outs).getD []

/-- Item `k` of an entry, as boarded (R90, R91). -/
def Dev.item (d : Dev) (x : SetEntry) (k : Nat) : BitVec 64 := d.vcs.boarded.at 0 (boardKey x.cls (x.first + k))

/-- A read of boarded items, whose worst state is `st` (R88): a correctable one is counted and delivered, an uncorrectable one traps. The trap records
what Table 4-4 gives an address of in (log entry 32). -/
def Dev.inputChecked (d : Dev) (n : Nat) (st : Nat) (e k : Nat) (w : RegW) : Ran :=
  match st with
  | 0 => .ok ({ ws := [w] }, d)
  | 1 => .ok ({ ws := [w] }, if n < 8 then d.bumpAt .CE_ECC_DCOR n 65535 else d.bump .SE_ECC_DCOR 65535)
  | _ => .error (0x5, (ioTrap e k).2)

/-- The state of item `k` of an entry in the boarding buffer. -/
def Dev.itemState (d : Dev) (x : SetEntry) (k : Nat) : Nat := d.vcs.boardBad.at 0 (boardKey x.cls (x.first + k))

/-- IN (R90). -/
def execVcsIn (i : Issue) (rd : Fin 32) (e : BitVec 8) (ra : Fin 32) (s : State) : Host.Outcome State Fault Refusal :=
  s.vcs i { lat := 3, reads := [regG ra], writes := [regG rd], safety := true, management := false } fun _ _ d =>
    let n := Eng.index i.eng
    let k := ((d.engine n).gr ra).toNat
    match entryAt (d.inputs n) e.toNat k with
    | some x => d.inputChecked n (d.itemState x k) e.toNat k (.g rd (d.item x k))
    | none => .error (ioTrap e.toNat k)

/-- IN_V (R90). -/
def execVcsInV (i : Issue) (vd : Fin 16) (e : BitVec 8) (ra : Fin 32) (s : State) : Host.Outcome State Fault Refusal :=
  s.vcs i { lat := 3, reads := [regG ra], writes := [regV vd], management := false } fun _ _ d =>
    let n := Eng.index i.eng
    let k := ((d.engine n).gr ra).toNat
    match entryAt (d.inputs n) e.toNat k with
    | some x =>
      let st := (List.range 4).foldl (fun m j => if k + j < x.count then max m (d.itemState x (k + j)) else m) 0
      d.inputChecked n st e.toNat k
        (.v vd (ofLanes ((List.range 4).map fun j => if k + j < x.count then (d.item x (k + j)).toNat % 2 ^ 32 else 0)))
    | none => .error (ioTrap e.toNat k)

/-- Stages an output: a later one to the same item replaces it (R93). -/
def Dev.stage (d : Dev) (t : Nat) (o : OutItem) : Dev :=
  d.onAct t fun a => { a with staged := (a.staged.filter fun x => !(decide (x.cls = o.cls) && decide (x.item = o.item) && decide (x.word = o.word))) ++ [o] }

/-- OUT (R93): in class 0x08 the offset names a leg and a word of it. -/
def execVcsOut (i : Issue) (e : BitVec 8) (ra rs : Fin 32) (s : State) : Host.Outcome State Fault Refusal :=
  s.vcs i { lat := 0, reads := [regG ra, regG rs], safety := true, management := false } fun _ _ d =>
    let n := Eng.index i.eng
    let x := d.engine n
    let k := (x.gr ra).toNat
    match (d.outs n).drop e.toNat with
    | y :: _ =>
      let o := if y.cls = 8 then k / 4 else k
      if y.cls = 0x0A ∨ y.count ≤ o then .error (ioTrap e.toNat k)
      else .ok ({}, d.stage x.task { cls := y.cls, item := y.first + o, word := if y.cls = 8 then k % 4 else 0, value := x.gr rs })
    | [] => .error (ioTrap e.toNat k)

/-! ### Live lines (R96 to R98, R218, R253) -/

/-- A node of a field landing (R218, R219): bytes 0x20 to 0x7F of its line are the device's. -/
def Dev.fieldNode (d : Dev) (n : Nat) : Bool :=
  (List.range 512).any fun l => d.onAt .NODE_LCFG_EN l && decide (d.landBase l ≤ n) && decide (n < d.landBase l + d.landCount l)

/-- The running activation of engine `e` has node `n` in its node set (R98, R247). -/
def Dev.nodeNamed (d : Dev) (e n : Nat) : Bool :=
  let x := d.engine e
  match d.taskOf x.task with
  | some t => t.touches (d.tide - x.seg) n
  | none => false

/-- The running task names node `n` in an output entry of class 0x0A (R97). -/
def Dev.nodeWritten (d : Dev) (e n : Nat) : Bool :=
  (d.outs e).any fun x => decide (x.cls = 0x0A) && decide (x.first ≤ n) && decide (n < x.first + x.count)

/-- The line of node `n`, when this frame's accesses may use it. -/
def Dev.usableLine (d : Dev) (n : Nat) : Option Line := (d.line n).filter fun l => l.res && l.usable && !l.dmg

/-- A berth fault of engine `e` at the node of `ra` (R98): the first is recorded, all are counted, the event is raised. -/
def Dev.berthFault (d : Dev) (e ra : Nat) (damaged : Bool) : Dev :=
  let d1 := d.when (!d.onAt .CE_NFLT_VALID e) fun x =>
    (((x.flagAt .CE_NFLT_VALID e true).flagAt .CE_NFLT_DAMAGED e damaged).wrAt .CE_NFLT_TASK e (d.engine e).task).wrAt .CE_NFLT_NODE e (ra % 2 ^ 18)
  ((d1.bumpAt .CE_NFCNT e (2 ^ 32 - 1)).dryNote 2).raise (43 + e)

/-- The hold value of a node (R98, R253). -/
def Dev.holdValue (d : Dev) (ra : Nat) : Nat :=
  if d.nodeCount ≤ ra then 0x7FC000007FC00000
  else if ra < 1536 then d.rd64 .BERTH_HOLDCLO .BERTH_HOLDCHI else d.rd64 .BERTH_HOLDNLO .BERTH_HOLDNHI

/-- The bytes of a line overlaid with the activation's own stores (R96). -/
def Dev.lineOverlaid (d : Dev) (m : List Host.Cell) (t n : Nat) (l : Line) (off len : Nat) : List Byte :=
  let own := (d.tt.acts.at {} t).stores
  (List.range len).map fun k =>
    match (own.filter fun b => decide (b.node = n) && decide (b.off = off + k)).getLast? with
    | some b => b.val
    | none => memByte m (l.addr (off + k))

/-- A load of `len` bytes of a live line (R96, R98). -/
def Dev.nodeLoad (d : Dev) (m : List Host.Cell) (e ra off len : Nat) : List Byte × Dev :=
  let held := ((List.range (len / 8)).map fun _ => leBytes 8 (d.holdValue ra)).flatten
  if d.nodeCount ≤ ra ∨ !d.nodeNamed e ra then (held, d.berthFault e ra false)
  else match d.usableLine ra with
    | none => (held, d.berthFault e ra true)
    | some l =>
      let a := l.addr off
      match d.spanState a len with
      | 0 => (d.lineOverlaid m (d.engine e).task ra l off len, d)
      | 1 => (d.lineOverlaid m (d.engine e).task ra l off len, d.corrected a)
      | _ => (held, ((d.uncorrectable a).damage ra).berthFault e ra true)

/-- A store into a live line (R96 to R98, R218): held in the activation. -/
def Dev.nodeStore (d : Dev) (e ra off : Nat) (bytes : List Byte) : Dev :=
  if d.nodeCount ≤ ra ∨ !d.nodeNamed e ra then d.berthFault e ra false
  else if (d.usableLine ra).isNone then d.berthFault e ra true
  else if !d.nodeWritten e ra || (d.fieldNode ra && decide (off < 0x80) && decide (0x20 < off + bytes.length)) then d.berthFault e ra false
  else d.onAct (d.engine e).task fun a => { a with
    stores := a.stores ++ (List.range bytes.length).map fun k => { node := ra, off := off + k, val := bytes.getD k 0 } }

/-- A node instruction: the offset trap, then the access in the berth slot. -/
def State.nodeOp (s : State) (i : Issue) (o : Op) (off : BitVec 8) (ra : Fin 32) (len : Nat)
    (f : List Host.Cell → Dev → Nat → List RegW × Dev) : Host.Outcome State Fault Refusal :=
  s.vcs i { o with management := false } fun m _ d =>
    let e := Eng.index i.eng
    let r := ((d.engine e).gr ra).toNat
    if off.toNat % len ≠ 0 then .error (0x3, r % 2 ^ 18 * 2 ^ 8 + off.toNat)
    else
      let y := f m (d.engineSignal e 6 1) r
      .ok ({ ws := y.1 }, y.2)

/-- NLD (R96). -/
def execVcsNld (i : Issue) (rd : Fin 32) (off : BitVec 8) (ra : Fin 32) (s : State) : Host.Outcome State Fault Refusal :=
  s.nodeOp i { lat := 8, reads := [regG ra], writes := [regG rd] } off ra 8 fun m d r =>
    let g := d.nodeLoad m (Eng.index i.eng) r off.toNat 8
    ([asG rd g.1], g.2)

/-- NLD_V (R96). -/
def execVcsNldV (i : Issue) (vd : Fin 16) (off : BitVec 8) (ra : Fin 32) (s : State) : Host.Outcome State Fault Refusal :=
  s.nodeOp i { lat := 8, reads := [regG ra], writes := [regV vd] } off ra 16 fun m d r =>
    let g := d.nodeLoad m (Eng.index i.eng) r off.toNat 16
    ([asV vd g.1], g.2)

/-- NST (R96). -/
def execVcsNst (i : Issue) (off : BitVec 8) (ra rs : Fin 32) (s : State) : Host.Outcome State Fault Refusal :=
  s.nodeOp i { lat := 0, reads := [regG ra, regG rs] } off ra 8 fun _ d r =>
    ([], d.nodeStore (Eng.index i.eng) r off.toNat (leBytes 8 ((d.engine (Eng.index i.eng)).gr rs).toNat))

/-- NST_V (R96). -/
def execVcsNstV (i : Issue) (off : BitVec 8) (ra : Fin 32) (vs : Fin 16) (s : State) : Host.Outcome State Fault Refusal :=
  s.nodeOp i { lat := 0, reads := [regG ra, regV vs] } off ra 16 fun _ d r =>
    ([], d.nodeStore (Eng.index i.eng) r off.toNat (leBytes 16 ((d.engine (Eng.index i.eng)).vr vs).toNat))

/-! ### Ends of segments (R94, R95) -/

/-- The task on the pair is the safety logic task: it commands the switches of channel P (R305). -/
def Dev.safetyTask (d : Dev) (e : Nat) : Bool := decide (e = 8) && (d.outs 8).any fun x => decide (x.cls = 9)

/-- The running segment is its activation's last. -/
def Dev.lastSegment (d : Dev) (e : Nat) : Bool :=
  match d.taskOf (d.engine e).task with
  | some t => decide (t.segs ≤ (d.engine e).seg + 1)
  | none => false

/-- ENDF (R94). -/
def execVcsEndf (i : Issue) (s : State) : Host.Outcome State Fault Refusal :=
  s.vcs i { lat := 0, safety := true, management := false } fun _ c d =>
    let e := Eng.index i.eng
    .ok ({ stop := true }, (d.endSegment e c).when (d.safetyTask e && d.lastSegment e) Dev.safetyTaskEnd)

/-- HOLD (R95). -/
def execVcsHold (i : Issue) (s : State) : Host.Outcome State Fault Refusal :=
  s.vcs i { lat := 0, safety := true, management := false } fun _ c d =>
    let e := Eng.index i.eng
    .ok ({ stop := true }, (d.holdSegment e c).when (d.safetyTask e) Dev.safetyTaskEnd)

end Sys2Proof.Machine
end

