-- ==== Sys2Proof/Machine/Dispatch.lean ====
section
/-!
DEFINITION. Machine/Dispatch.lean: one arm per command, each one direct call of the command's meaning.
-/
namespace Sys2Proof.Machine

/-- The effect of command `i` on everything but the queue of waiting commands. -/
def exec (i : Instr) (s : State) : Host.Outcome State Fault Refusal :=
  match i with
  | .registerWrite req addr size value => Sys2Proof.Machine.execRegisterWrite req addr size value s
  | .claim reqs res n => Sys2Proof.Machine.execClaim reqs res n s
  | .release req res n => Sys2Proof.Machine.execRelease req res n s
  | .claimsOpen => Sys2Proof.Machine.execClaimsOpen s
  | .csLinkRetransmit link first => Sys2Proof.Machine.execCsLinkRetransmit link first s
  | .csLinkFailure => Sys2Proof.Machine.execCsLinkFailure s
  | .spLinkFailure => Sys2Proof.Machine.execSpLinkFailure s
  | .controlDomainReset cause => Sys2Proof.Machine.execControlDomainReset cause s
  | .selfRefreshTimeout => Sys2Proof.Machine.execSelfRefreshTimeout s
  | .supervisorFabricReset cause vin => Sys2Proof.Machine.execSupervisorFabricReset cause vin s
  | .powerDomainReset cause => Sys2Proof.Machine.execPowerDomainReset cause s
  | .ferrymanDomainReset => Sys2Proof.Machine.execFerrymanDomainReset s
  | .tideEdge lateF lateA held => Sys2Proof.Machine.execTideEdge lateF lateA held s
  | .landingPhaseClose => Sys2Proof.Machine.execLandingPhaseClose s
  | .outputTakeEffect => Sys2Proof.Machine.execOutputTakeEffect s
  | .taskDispatch e => Sys2Proof.Machine.execTaskDispatch e s
  | .ttbLoad req => Sys2Proof.Machine.execTtbLoad req s
  | .admissionEnd twinHas => Sys2Proof.Machine.execAdmissionEnd twinHas s
  | .ttbCancel req => Sys2Proof.Machine.execTtbCancel req s
  | .timetableActivation => Sys2Proof.Machine.execTimetableActivation s
  | .ttbClearTask req task => Sys2Proof.Machine.execTtbClearTask req task s
  | .segmentOverrun e => Sys2Proof.Machine.execSegmentOverrun e s
  | .tideAlarm => Sys2Proof.Machine.execTideAlarm s
  | .tideAlarmSet req high value => Sys2Proof.Machine.execTideAlarmSet req high value s
  | .tideCountRead req => Sys2Proof.Machine.execTideCountRead req s
  | .ptpCaptureRead req => Sys2Proof.Machine.execPtpCaptureRead req s
  | .vcsAdd iss rd ra rb => Sys2Proof.Machine.execVcsAdd iss rd ra rb s
  | .vcsSub iss rd ra rb => Sys2Proof.Machine.execVcsSub iss rd ra rb s
  | .vcsAnd iss rd ra rb => Sys2Proof.Machine.execVcsAnd iss rd ra rb s
  | .vcsOr iss rd ra rb => Sys2Proof.Machine.execVcsOr iss rd ra rb s
  | .vcsXor iss rd ra rb => Sys2Proof.Machine.execVcsXor iss rd ra rb s
  | .vcsSll iss rd ra rb => Sys2Proof.Machine.execVcsSll iss rd ra rb s
  | .vcsSrl iss rd ra rb => Sys2Proof.Machine.execVcsSrl iss rd ra rb s
  | .vcsSra iss rd ra rb => Sys2Proof.Machine.execVcsSra iss rd ra rb s
  | .vcsAddsW iss rd ra rb => Sys2Proof.Machine.execVcsAddsW iss rd ra rb s
  | .vcsSubsW iss rd ra rb => Sys2Proof.Machine.execVcsSubsW iss rd ra rb s
  | .vcsMin iss rd ra rb => Sys2Proof.Machine.execVcsMin iss rd ra rb s
  | .vcsMax iss rd ra rb => Sys2Proof.Machine.execVcsMax iss rd ra rb s
  | .vcsClamp iss rd ra rb => Sys2Proof.Machine.execVcsClamp iss rd ra rb s
  | .vcsAddi iss rd ra imm => Sys2Proof.Machine.execVcsAddi iss rd ra imm s
  | .vcsAndi iss rd ra imm => Sys2Proof.Machine.execVcsAndi iss rd ra imm s
  | .vcsOri iss rd ra imm => Sys2Proof.Machine.execVcsOri iss rd ra imm s
  | .vcsXori iss rd ra imm => Sys2Proof.Machine.execVcsXori iss rd ra imm s
  | .vcsSlli iss rd ra n => Sys2Proof.Machine.execVcsSlli iss rd ra n s
  | .vcsSrli iss rd ra n => Sys2Proof.Machine.execVcsSrli iss rd ra n s
  | .vcsSrai iss rd ra n => Sys2Proof.Machine.execVcsSrai iss rd ra n s
  | .vcsMovz iss rd k imm => Sys2Proof.Machine.execVcsMovz iss rd k imm s
  | .vcsMovk iss rd k imm => Sys2Proof.Machine.execVcsMovk iss rd k imm s
  | .vcsMul iss rd ra rb => Sys2Proof.Machine.execVcsMul iss rd ra rb s
  | .vcsMulh iss rd ra rb => Sys2Proof.Machine.execVcsMulh iss rd ra rb s
  | .vcsMulhu iss rd ra rb => Sys2Proof.Machine.execVcsMulhu iss rd ra rb s
  | .vcsMulq iss rd ra rb => Sys2Proof.Machine.execVcsMulq iss rd ra rb s
  | .vcsDiv iss rd ra rb => Sys2Proof.Machine.execVcsDiv iss rd ra rb s
  | .vcsDivu iss rd ra rb => Sys2Proof.Machine.execVcsDivu iss rd ra rb s
  | .vcsRem iss rd ra rb => Sys2Proof.Machine.execVcsRem iss rd ra rb s
  | .vcsRemu iss rd ra rb => Sys2Proof.Machine.execVcsRemu iss rd ra rb s
  | .vcsCmp iss cc pd ra rb => Sys2Proof.Machine.execVcsCmp iss cc pd ra rb s
  | .vcsCmpi iss cc pd ra imm => Sys2Proof.Machine.execVcsCmpi iss cc pd ra imm s
  | .vcsPand iss pd pa pb => Sys2Proof.Machine.execVcsPand iss pd pa pb s
  | .vcsPor iss pd pa pb => Sys2Proof.Machine.execVcsPor iss pd pa pb s
  | .vcsPxor iss pd pa pb => Sys2Proof.Machine.execVcsPxor iss pd pa pb s
  | .vcsPandn iss pd pa pb => Sys2Proof.Machine.execVcsPandn iss pd pa pb s
  | .vcsBr iss off => Sys2Proof.Machine.execVcsBr iss off s
  | .vcsJl iss rd off => Sys2Proof.Machine.execVcsJl iss rd off s
  | .vcsJr iss ra => Sys2Proof.Machine.execVcsJr iss ra s
  | .vcsMfs iss rd sreg => Sys2Proof.Machine.execVcsMfs iss rd sreg s
  | .vcsMts iss sreg ra => Sys2Proof.Machine.execVcsMts iss sreg ra s
  | .vcsFaddS iss rd ra rb => Sys2Proof.Machine.execVcsFaddS iss rd ra rb s
  | .vcsFsubS iss rd ra rb => Sys2Proof.Machine.execVcsFsubS iss rd ra rb s
  | .vcsFmulS iss rd ra rb => Sys2Proof.Machine.execVcsFmulS iss rd ra rb s
  | .vcsFminS iss rd ra rb => Sys2Proof.Machine.execVcsFminS iss rd ra rb s
  | .vcsFmaxS iss rd ra rb => Sys2Proof.Machine.execVcsFmaxS iss rd ra rb s
  | .vcsFabsS iss rd ra => Sys2Proof.Machine.execVcsFabsS iss rd ra s
  | .vcsFnegS iss rd ra => Sys2Proof.Machine.execVcsFnegS iss rd ra s
  | .vcsFclampS iss rd ra rb => Sys2Proof.Machine.execVcsFclampS iss rd ra rb s
  | .vcsMinsel iss rd ra rb => Sys2Proof.Machine.execVcsMinsel iss rd ra rb s
  | .vcsFcvtSL iss rd ra => Sys2Proof.Machine.execVcsFcvtSL iss rd ra s
  | .vcsFcvtLS iss rd ra => Sys2Proof.Machine.execVcsFcvtLS iss rd ra s
  | .vcsFcvtLSRn iss rd ra => Sys2Proof.Machine.execVcsFcvtLSRn iss rd ra s
  | .vcsFmaS iss rd ra rb rc => Sys2Proof.Machine.execVcsFmaS iss rd ra rb rc s
  | .vcsFmsS iss rd ra rb rc => Sys2Proof.Machine.execVcsFmsS iss rd ra rb rc s
  | .vcsFnmaS iss rd ra rb rc => Sys2Proof.Machine.execVcsFnmaS iss rd ra rb rc s
  | .vcsFnmsS iss rd ra rb rc => Sys2Proof.Machine.execVcsFnmsS iss rd ra rb rc s
  | .vcsFdivS iss rd ra rb => Sys2Proof.Machine.execVcsFdivS iss rd ra rb s
  | .vcsFsqrtS iss rd ra => Sys2Proof.Machine.execVcsFsqrtS iss rd ra s
  | .vcsFcmpEqS iss pd ra rb => Sys2Proof.Machine.execVcsFcmpEqS iss pd ra rb s
  | .vcsFcmpLtS iss pd ra rb => Sys2Proof.Machine.execVcsFcmpLtS iss pd ra rb s
  | .vcsFcmpLeS iss pd ra rb => Sys2Proof.Machine.execVcsFcmpLeS iss pd ra rb s
  | .vcsFcmpUnS iss pd ra rb => Sys2Proof.Machine.execVcsFcmpUnS iss pd ra rb s
  | .vcsLutI iss rd ra rb => Sys2Proof.Machine.execVcsLutI iss rd ra rb s
  | .vcsLutB iss rd ra rb => Sys2Proof.Machine.execVcsLutB iss rd ra rb s
  | .vcsVadd iss vd va vb => Sys2Proof.Machine.execVcsVadd iss vd va vb s
  | .vcsVsub iss vd va vb => Sys2Proof.Machine.execVcsVsub iss vd va vb s
  | .vcsVmul iss vd va vb => Sys2Proof.Machine.execVcsVmul iss vd va vb s
  | .vcsVfma iss vd va vb vc => Sys2Proof.Machine.execVcsVfma iss vd va vb vc s
  | .vcsVmac iss vd va vb => Sys2Proof.Machine.execVcsVmac iss vd va vb s
  | .vcsVmin iss vd va vb => Sys2Proof.Machine.execVcsVmin iss vd va vb s
  | .vcsVmax iss vd va vb => Sys2Proof.Machine.execVcsVmax iss vd va vb s
  | .vcsVabs iss vd va => Sys2Proof.Machine.execVcsVabs iss vd va s
  | .vcsVneg iss vd va => Sys2Proof.Machine.execVcsVneg iss vd va s
  | .vcsVclamp iss vd va vb vc => Sys2Proof.Machine.execVcsVclamp iss vd va vb vc s
  | .vcsVperm iss vd va imm => Sys2Proof.Machine.execVcsVperm iss vd va imm s
  | .vcsVsplat iss vd ga => Sys2Proof.Machine.execVcsVsplat iss vd ga s
  | .vcsVins iss vd ga lane => Sys2Proof.Machine.execVcsVins iss vd ga lane s
  | .vcsVext iss rd va lane => Sys2Proof.Machine.execVcsVext iss rd va lane s
  | .vcsVminh iss rd va => Sys2Proof.Machine.execVcsVminh iss rd va s
  | .vcsVsincos iss vd ga => Sys2Proof.Machine.execVcsVsincos iss vd ga s
  | .vcsVclarke iss vd va => Sys2Proof.Machine.execVcsVclarke iss vd va s
  | .vcsViclarke iss vd va => Sys2Proof.Machine.execVcsViclarke iss vd va s
  | .vcsVpark iss vd va vb => Sys2Proof.Machine.execVcsVpark iss vd va vb s
  | .vcsVipark iss vd va vb => Sys2Proof.Machine.execVcsVipark iss vd va vb s
  | .vcsLd iss rd ra imm => Sys2Proof.Machine.execVcsLd iss rd ra imm s
  | .vcsLdW iss rd ra imm => Sys2Proof.Machine.execVcsLdW iss rd ra imm s
  | .vcsLdV iss vd ra imm => Sys2Proof.Machine.execVcsLdV iss vd ra imm s
  | .vcsSt iss ra imm rs => Sys2Proof.Machine.execVcsSt iss ra imm rs s
  | .vcsStW iss ra imm rs => Sys2Proof.Machine.execVcsStW iss ra imm rs s
  | .vcsStV iss ra imm vs => Sys2Proof.Machine.execVcsStV iss ra imm vs s
  | .vcsIn iss rd e ra => Sys2Proof.Machine.execVcsIn iss rd e ra s
  | .vcsInV iss vd e ra => Sys2Proof.Machine.execVcsInV iss vd e ra s
  | .vcsOut iss e ra rs => Sys2Proof.Machine.execVcsOut iss e ra rs s
  | .vcsNld iss rd off ra => Sys2Proof.Machine.execVcsNld iss rd off ra s
  | .vcsNldV iss vd off ra => Sys2Proof.Machine.execVcsNldV iss vd off ra s
  | .vcsNst iss off ra rs => Sys2Proof.Machine.execVcsNst iss off ra rs s
  | .vcsNstV iss off ra vs => Sys2Proof.Machine.execVcsNstV iss off ra vs s
  | .vcsEndf iss => Sys2Proof.Machine.execVcsEndf iss s
  | .vcsHold iss => Sys2Proof.Machine.execVcsHold iss s
  | .vcsEret iss => Sys2Proof.Machine.execVcsEret iss s
  | .vcsWfi iss => Sys2Proof.Machine.execVcsWfi iss s
  | .vcsFence iss => Sys2Proof.Machine.execVcsFence iss s
  | .interruptEntry => Sys2Proof.Machine.execInterruptEntry s
  | .ceTrapClear req n => Sys2Proof.Machine.execCeTrapClear req n s
  | .ceClearEcc req n => Sys2Proof.Machine.execCeClearEcc req n s
  | .ceClearHold req n => Sys2Proof.Machine.execCeClearHold req n s
  | .ceClearNfcnt req n => Sys2Proof.Machine.execCeClearNfcnt req n s
  | .ceHalt req n halt => Sys2Proof.Machine.execCeHalt req n halt s
  | .ceStep req n => Sys2Proof.Machine.execCeStep req n s
  | .seClearEcc req => Sys2Proof.Machine.execSeClearEcc req s
  | .pwmArm req => Sys2Proof.Machine.execPwmArm req s
  | .pwmDisarm req => Sys2Proof.Machine.execPwmDisarm req s
  | .pwmKill req => Sys2Proof.Machine.execPwmKill req s
  | .dllLock => Sys2Proof.Machine.execDllLock s
  | .dllLockLoss => Sys2Proof.Machine.execDllLockLoss s
  | .legUpdatePoint leg mid onFor => Sys2Proof.Machine.execLegUpdatePoint leg mid onFor s
  | .legEdge leg side onFor => Sys2Proof.Machine.execLegEdge leg side onFor s
  | .legTurnOn leg after room => Sys2Proof.Machine.execLegTurnOn leg after room s
  | .legDelayedTurnOff leg high => Sys2Proof.Machine.execLegDelayedTurnOff leg high s
  | .gokChange n level held => Sys2Proof.Machine.execGokChange n level held s
  | .legOffConfirmTimeout n => Sys2Proof.Machine.execLegOffConfirmTimeout n s
  | .legOnCheckTimeout n => Sys2Proof.Machine.execLegOnCheckTimeout n s
  | .fltAssert leg asserted => Sys2Proof.Machine.execFltAssert leg asserted s
  | .legTripWireChange leg => Sys2Proof.Machine.execLegTripWireChange leg s
  | .legStart leg => Sys2Proof.Machine.execLegStart leg s
  | .legCauseClear req leg mask => Sys2Proof.Machine.execLegCauseClear req leg mask s
  | .legSealSet => Sys2Proof.Machine.execLegSealSet s
  | .clinkRun req link run => Sys2Proof.Machine.execClinkRun req link run s
  | .cellDownlinkSend link => Sys2Proof.Machine.execCellDownlinkSend link s
  | .cellFrameReturn link frame err late rtt => Sys2Proof.Machine.execCellFrameReturn link frame err late rtt s
  | .clinkBlock req link => Sys2Proof.Machine.execClinkBlock req link s
  | .clinkUnblock req link => Sys2Proof.Machine.execClinkUnblock req link s
  | .comparatorCrossing n v period => Sys2Proof.Machine.execComparatorCrossing n v period s
  | .blankingStrobe leg recent => Sys2Proof.Machine.execBlankingStrobe leg recent s
  | .blankingWindowClose n => Sys2Proof.Machine.execBlankingWindowClose n s
  | .wcmpL2latClear req n => Sys2Proof.Machine.execWcmpL2latClear req n s
  | .channelHComparatorTrip n => Sys2Proof.Machine.execChannelHComparatorTrip n s
  | .comparatorSample n v period => Sys2Proof.Machine.execComparatorSample n v period s
  | .comparatorCheck n => Sys2Proof.Machine.execComparatorCheck n s
  | .comparatorCheckEnd n swapOk moved tie v => Sys2Proof.Machine.execComparatorCheckEnd n swapOk moved tie v s
  | .powerUpHoldEvaluation n v => Sys2Proof.Machine.execPowerUpHoldEvaluation n v s
  | .wcmpFaultClear req n mask => Sys2Proof.Machine.execWcmpFaultClear req n mask s
  | .wcmpReadbackStart req => Sys2Proof.Machine.execWcmpReadbackStart req s
  | .dacReadbackEnd fails => Sys2Proof.Machine.execDacReadbackEnd fails s
  | .wcmpSealSet => Sys2Proof.Machine.execWcmpSealSet s
  | .setParameter => Sys2Proof.Machine.execSetParameter s
  | .setBreakpoint => Sys2Proof.Machine.execSetBreakpoint s
  | .setTableValue => Sys2Proof.Machine.execSetTableValue s
  | .commitTable => Sys2Proof.Machine.execCommitTable s
  | .hostSetPoint => Sys2Proof.Machine.execHostSetPoint s
  | .stop => Sys2Proof.Machine.execStop s
  | .clearStop => Sys2Proof.Machine.execClearStop s
  | .prmFFrequency => Sys2Proof.Machine.execPrmFFrequency s
  | .coolantStatus => Sys2Proof.Machine.execCoolantStatus s
  | .unknownCommand q => Sys2Proof.Machine.execUnknownCommand q s
  | .parameterTakeEffect act => Sys2Proof.Machine.execParameterTakeEffect act s
  | .prmFWindowEnd n span => Sys2Proof.Machine.execPrmFWindowEnd n span s
  | .permitQueueTimeout => Sys2Proof.Machine.execPermitQueueTimeout s
  | .permitFaultTimeout => Sys2Proof.Machine.execPermitFaultTimeout s
  | .coolantStatusTimeout => Sys2Proof.Machine.execCoolantStatusTimeout s
  | .coolantLossStop => Sys2Proof.Machine.execCoolantLossStop s
  | .hostSetpointTimeout => Sys2Proof.Machine.execHostSetpointTimeout s
  | .dcLinkOvervoltageStop => Sys2Proof.Machine.execDcLinkOvervoltageStop s
  | .feedbackHoldLimit item => Sys2Proof.Machine.execFeedbackHoldLimit item s
  | .stopRampEnd => Sys2Proof.Machine.execStopRampEnd s
  | .persistentMissHandling task => Sys2Proof.Machine.execPersistentMissHandling task s
  | .syncLock event => Sys2Proof.Machine.execSyncLock event s
  | .syncFreeTimeout => Sys2Proof.Machine.execSyncFreeTimeout s
  | .rideThroughEntry => Sys2Proof.Machine.execRideThroughEntry s
  | .rtTimerReset exceed => Sys2Proof.Machine.execRtTimerReset exceed s
  | .frequencyTrip element => Sys2Proof.Machine.execFrequencyTrip element s
  | .perturbationWindowOpen => Sys2Proof.Machine.execPerturbationWindowOpen s
  | .perturbationWindowClose => Sys2Proof.Machine.execPerturbationWindowClose s
  | .islandingNextPost => Sys2Proof.Machine.execIslandingNextPost s
  | .reconnectionDelayExpiry => Sys2Proof.Machine.execReconnectionDelayExpiry s
  | .enterServiceRampEnd => Sys2Proof.Machine.execEnterServiceRampEnd s
  | .nodeRun req run => Sys2Proof.Machine.execNodeRun req run s
  | .landingEnable req landing value => Sys2Proof.Machine.execLandingEnable req landing value s
  | .nodeRoundStart => Sys2Proof.Machine.execNodeRoundStart s
  | .hello frame => Sys2Proof.Machine.execHello frame s
  | .helloackSend landing => Sys2Proof.Machine.execHelloackSend landing s
  | .landingDown landing => Sys2Proof.Machine.execLandingDown landing s
  | .visitSend landing block => Sys2Proof.Machine.execVisitSend landing block s
  | .report frame => Sys2Proof.Machine.execReport frame s
  | .reportEntry => Sys2Proof.Machine.execReportEntry s
  | .visitRetry landing block => Sys2Proof.Machine.execVisitRetry landing block s
  | .visitAnswerTimeout landing block => Sys2Proof.Machine.execVisitAnswerTimeout landing block s
  | .broadcastSend => Sys2Proof.Machine.execBroadcastSend s
  | .ethFrameReceive port bytes full ns => Sys2Proof.Machine.execEthFrameReceive port bytes full ns s
  | .arpRequest port ip mac sender => Sys2Proof.Machine.execArpRequest port ip mac sender s
  | .ethLinkChange port up anDone => Sys2Proof.Machine.execEthLinkChange port up anDone s
  | .ptpClockLoad req => Sys2Proof.Machine.execPtpClockLoad req s
  | .ptpAdjust req ns => Sys2Proof.Machine.execPtpAdjust req ns s
  | .ptpClockRead req => Sys2Proof.Machine.execPtpClockRead req s
  | .timestampPop port => Sys2Proof.Machine.execTimestampPop port s
  | .timestampStatusRead port => Sys2Proof.Machine.execTimestampStatusRead port s
  | .nodeCounterClear req => Sys2Proof.Machine.execNodeCounterClear req s
  | .lineBringIn node => Sys2Proof.Machine.execLineBringIn node s
  | .lineBringInComplete node => Sys2Proof.Machine.execLineBringInComplete node s
  | .bringInLate node => Sys2Proof.Machine.execBringInLate node s
  | .lineWriteBack node => Sys2Proof.Machine.execLineWriteBack node s
  | .historyAppend node => Sys2Proof.Machine.execHistoryAppend node s
  | .berthReinit req node => Sys2Proof.Machine.execBerthReinit req node s
  | .berthReinitDone => Sys2Proof.Machine.execBerthReinitDone s
  | .berthCounterClear req => Sys2Proof.Machine.execBerthCounterClear req s
  | .modulatorLoss n => Sys2Proof.Machine.execModulatorLoss n s
  | .controlFilterOutput n edge bits => Sys2Proof.Machine.execControlFilterOutput n edge bits s
  | .meteringSample c bits => Sys2Proof.Machine.execMeteringSample c bits s
  | .zeroCrossingTimeout m => Sys2Proof.Machine.execZeroCrossingTimeout m s
  | .meteringWindowEnd m => Sys2Proof.Machine.execMeteringWindowEnd m s
  | .steeringBlockEnd m => Sys2Proof.Machine.execSteeringBlockEnd m s
  | .mtrLoad req => Sys2Proof.Machine.execMtrLoad req s
  | .meteringConfigApply => Sys2Proof.Machine.execMeteringConfigApply s
  | .temperatureUpdate c => Sys2Proof.Machine.execTemperatureUpdate c s
  | .temperatureStale c => Sys2Proof.Machine.execTemperatureStale c s
  | .mpstatRead req m => Sys2Proof.Machine.execMpstatRead req m s
  | .pulseEdge j level exceed => Sys2Proof.Machine.execPulseEdge j level exceed s
  | .quadratureDecision j bEdge exceed => Sys2Proof.Machine.execQuadratureDecision j bEdge exceed s
  | .commit => Sys2Proof.Machine.execCommit s
  | .commitComplete pass => Sys2Proof.Machine.execCommitComplete pass s
  | .tallyCommitRequest req => Sys2Proof.Machine.execTallyCommitRequest req s
  | .tallyRead req committed n => Sys2Proof.Machine.execTallyRead req committed n s
  | .earlyWarning => Sys2Proof.Machine.execEarlyWarning s
  | .lastCrossingFreeze => Sys2Proof.Machine.execLastCrossingFreeze s
  | .lastCrossingSaveComplete pass vin => Sys2Proof.Machine.execLastCrossingSaveComplete pass vin s
  | .tallyRestart cover => Sys2Proof.Machine.execTallyRestart cover s
  | .intervalClose => Sys2Proof.Machine.execIntervalClose s
  | .anchorAppend => Sys2Proof.Machine.execAnchorAppend s
  | .recordAccepted => Sys2Proof.Machine.execRecordAccepted s
  | .pendingRecordAppend => Sys2Proof.Machine.execPendingRecordAppend s
  | .manAck req => Sys2Proof.Machine.execManAck req s
  | .manSeal req => Sys2Proof.Machine.execManSeal req s
  | .manBreak req => Sys2Proof.Machine.execManBreak req s
  | .breakVerifyComplete sigOk => Sys2Proof.Machine.execBreakVerifyComplete sigOk s
  | .msealChange fitted => Sys2Proof.Machine.execMsealChange fitted s
  | .manRecordRead req high v => Sys2Proof.Machine.execManRecordRead req high v s
  | .switchReadbackFault chanH out => Sys2Proof.Machine.execSwitchReadbackFault chanH out s
  | .fxhToggle => Sys2Proof.Machine.execFxhToggle s
  | .fxpTimeout => Sys2Proof.Machine.execFxpTimeout s
  | .fxhTimeout => Sys2Proof.Machine.execFxhTimeout s
  | .oscillatorFault => Sys2Proof.Machine.execOscillatorFault s
  | .safetyConfigLoad sigOk => Sys2Proof.Machine.execSafetyConfigLoad sigOk s
  | .switchBankRead chanH bank => Sys2Proof.Machine.execSwitchBankRead chanH bank s
  | .safetyInputChange chanH input level => Sys2Proof.Machine.execSafetyInputChange chanH input level s
  | .discrepancyTimeout chanH pair => Sys2Proof.Machine.execDiscrepancyTimeout chanH pair s
  | .safeStopDelayExpiry => Sys2Proof.Machine.execSafeStopDelayExpiry s
  | .sfaRearm => Sys2Proof.Machine.execSfaRearm s
  | .closeRequest => Sys2Proof.Machine.execCloseRequest s
  | .switchPClose out => Sys2Proof.Machine.execSwitchPClose out s
  | .pullInFareRelease out => Sys2Proof.Machine.execPullInFareRelease out s
  | .hGridUndervoltage phase => Sys2Proof.Machine.execHGridUndervoltage phase s
  | .safeOutputOvercurrent out => Sys2Proof.Machine.execSafeOutputOvercurrent out s
  | .testPulseStart chanH out => Sys2Proof.Machine.execTestPulseStart chanH out s
  | .testPulseEnd chanH out pass => Sys2Proof.Machine.execTestPulseEnd chanH out pass s
  | .offStateDiagnostic out mv => Sys2Proof.Machine.execOffStateDiagnostic out mv s
  | .feedbackTimeout chanH out => Sys2Proof.Machine.execFeedbackTimeout chanH out s
  | .safeMessage chanH frame port3 => Sys2Proof.Machine.execSafeMessage chanH frame port3 s
  | .safeMessagePairTimeout chanH src => Sys2Proof.Machine.execSafeMessagePairTimeout chanH src s
  | .safeMessageTimeout chanH src => Sys2Proof.Machine.execSafeMessageTimeout chanH src s
  | .safeMessageSend time => Sys2Proof.Machine.execSafeMessageSend time s
  | .srstPulse ms lowBefore fault => Sys2Proof.Machine.execSrstPulse ms lowBefore fault s
  | .resetProcedureComplete results => Sys2Proof.Machine.execResetProcedureComplete results s
  | .startupLockoutClear selfTests => Sys2Proof.Machine.execStartupLockoutClear selfTests s
  | .mclkTakeover k => Sys2Proof.Machine.execMclkTakeover k s
  | .tideSlip => Sys2Proof.Machine.execTideSlip s
  | .twinResyncReset => Sys2Proof.Machine.execTwinResyncReset s
  | .heart msg toggled pherr => Sys2Proof.Machine.execHeart msg toggled pherr s
  | .mirror msg late => Sys2Proof.Machine.execMirror msg late s
  | .cellst msg => Sys2Proof.Machine.execCellst msg s
  | .cellfill msg => Sys2Proof.Machine.execCellfill msg s
  | .nodemir mseq edge records states => Sys2Proof.Machine.execNodemir mseq edge records states s
  | .manrec msg => Sys2Proof.Machine.execManrec msg s
  | .manconf msg => Sys2Proof.Machine.execManconf msg s
  | .bulk out msg => Sys2Proof.Machine.execBulk out msg s
  | .store out mseq stores => Sys2Proof.Machine.execStore out mseq stores s
  | .hawserAck msg => Sys2Proof.Machine.execHawserAck msg s
  | .hawserResend typ mseq => Sys2Proof.Machine.execHawserResend typ mseq s
  | .pair out msg => Sys2Proof.Machine.execPair out msg s
  | .handover msg => Sys2Proof.Machine.execHandover msg s
  | .ttact out msg => Sys2Proof.Machine.execTtact out msg s
  | .yield msg => Sys2Proof.Machine.execYield msg s
  | .cut out msg values => Sys2Proof.Machine.execCut out msg values s
  | .handoverEdge => Sys2Proof.Machine.execHandoverEdge s
  | .laneFailure lanes => Sys2Proof.Machine.execLaneFailure lanes s
  | .laneRecovery lane => Sys2Proof.Machine.execLaneRecovery lane s
  | .heartbeatMiss toggled => Sys2Proof.Machine.execHeartbeatMiss toggled s
  | .depose => Sys2Proof.Machine.execDepose s
  | .takeover crossHigh => Sys2Proof.Machine.execTakeover crossHigh s
  | .leadershipClaim crossHigh => Sys2Proof.Machine.execLeadershipClaim crossHigh s
  | .twinJoin req => Sys2Proof.Machine.execTwinJoin req s
  | .twinHandover req => Sys2Proof.Machine.execTwinHandover req s
  | .twinLeave req => Sys2Proof.Machine.execTwinLeave req s
  | .twinDfclr req => Sys2Proof.Machine.execTwinDfclr req s
  | .twinCounterClear req => Sys2Proof.Machine.execTwinCounterClear req s
  | .resyncRestart => Sys2Proof.Machine.execResyncRestart s
  | .restartRecordTimeout phase2 cover => Sys2Proof.Machine.execRestartRecordTimeout phase2 cover s
  | .doubleFault => Sys2Proof.Machine.execDoubleFault s
  | .alignmentLoss => Sys2Proof.Machine.execAlignmentLoss s
  | .ddrInitDone => Sys2Proof.Machine.execDdrInitDone s
  | .ddrTrainingDone pass => Sys2Proof.Machine.execDdrTrainingDone pass s
  | .ddrRetrain req => Sys2Proof.Machine.execDdrRetrain req s
  | .ddrFill req => Sys2Proof.Machine.execDdrFill req s
  | .ddrFillComplete => Sys2Proof.Machine.execDdrFillComplete s
  | .ddrFillAbort req done => Sys2Proof.Machine.execDdrFillAbort req done s
  | .dmaChannelRestart req ch => Sys2Proof.Machine.execDmaChannelRestart req ch s
  | .scrubStep dram upset lane => Sys2Proof.Machine.execScrubStep dram upset lane s
  | .dramDeviceFailure => Sys2Proof.Machine.execDramDeviceFailure s
  | .eccSelfTest failed => Sys2Proof.Machine.execEccSelfTest failed s
  | .eccCounterClear req => Sys2Proof.Machine.execEccCounterClear req s
  | .eccInject req arm mask => Sys2Proof.Machine.execEccInject req arm mask s
  | .adcScanStart k => Sys2Proof.Machine.execAdcScanStart k s
  | .adcConversion k v => Sys2Proof.Machine.execAdcConversion k v s
  | .hallChange code span => Sys2Proof.Machine.execHallChange code span s
  | .pumpCarrierPeriod mid => Sys2Proof.Machine.execPumpCarrierPeriod mid s
  | .pumpGateTurnOn g => Sys2Proof.Machine.execPumpGateTurnOn g s
  | .pumpHandshakeTimeout g => Sys2Proof.Machine.execPumpHandshakeTimeout g s
  | .vdsFault g => Sys2Proof.Machine.execVdsFault g s
  | .bootstrapRefresh phase since exceed => Sys2Proof.Machine.execBootstrapRefresh phase since exceed s
  | .bootstrapUndervoltage phase => Sys2Proof.Machine.execBootstrapUndervoltage phase s
  | .pumpDiag req vbus => Sys2Proof.Machine.execPumpDiag req vbus s
  | .pumpDiagComplete x1 y1 x2 y2 x3 y3 => Sys2Proof.Machine.execPumpDiagComplete x1 y1 x2 y2 x3 y3 s
  | .pumpRun req => Sys2Proof.Machine.execPumpRun req s
  | .pumpStop req => Sys2Proof.Machine.execPumpStop req s
  | .pumpFareTimeout => Sys2Proof.Machine.execPumpFareTimeout s
  | .pumpStartEnd => Sys2Proof.Machine.execPumpStartEnd s
  | .pumpFaultClear req => Sys2Proof.Machine.execPumpFaultClear req s
  | .pumpStall => Sys2Proof.Machine.execPumpStall s
  | .flowTimeout low => Sys2Proof.Machine.execFlowTimeout low s
  | .coolantStatusPost => Sys2Proof.Machine.execCoolantStatusPost s
  | .boot sigA sigB => Sys2Proof.Machine.execBoot sigA sigB s
  | .watchdogKick req value => Sys2Proof.Machine.execWatchdogKick req value s
  | .watchdogExpiry => Sys2Proof.Machine.execWatchdogExpiry s
  | .controlDieHold req => Sys2Proof.Machine.execControlDieHold req s
  | .controlDieRelease req => Sys2Proof.Machine.execControlDieRelease req s
  | .hostQueuePush req value => Sys2Proof.Machine.execHostQueuePush req value s
  | .sensorSample values => Sys2Proof.Machine.execSensorSample values s
  | .logWrite req => Sys2Proof.Machine.execLogWrite req s
  | .logEntry beyond => Sys2Proof.Machine.execLogEntry beyond s
  | .lifetimeSecond => Sys2Proof.Machine.execLifetimeSecond s
  | .calendarSet req => Sys2Proof.Machine.execCalendarSet req s
  | .calendarEnd => Sys2Proof.Machine.execCalendarEnd s
  | .calendarRead req => Sys2Proof.Machine.execCalendarRead req s
  | .calendarDiscipline utc => Sys2Proof.Machine.execCalendarDiscipline utc s
  | .xspiCommand req value op => Sys2Proof.Machine.execXspiCommand req value op s
  | .checkpoint whole => Sys2Proof.Machine.execCheckpoint whole s
  | .imageVerify req => Sys2Proof.Machine.execImageVerify req s
  | .imageVerifyComplete sigOk => Sys2Proof.Machine.execImageVerifyComplete sigOk s
  | .imageActivate req => Sys2Proof.Machine.execImageActivate req s
  | .imageConfirm req => Sys2Proof.Machine.execImageConfirm req s
  | .attest req => Sys2Proof.Machine.execAttest req s
  | .attestComplete => Sys2Proof.Machine.execAttestComplete s
  | .vinValid => Sys2Proof.Machine.execVinValid s
  | .vinLowReset => Sys2Proof.Machine.execVinLowReset s
  | .supplyOutputOvercurrent out => Sys2Proof.Machine.execSupplyOutputOvercurrent out s
  | .supplyWindowFault n low => Sys2Proof.Machine.execSupplyWindowFault n low s
  | .holdUpReady => Sys2Proof.Machine.execHoldUpReady s
  | .holdUpMeasure req => Sys2Proof.Machine.execHoldUpMeasure req s
  | .holdUpMeasureComplete dv => Sys2Proof.Machine.execHoldUpMeasureComplete dv s
  | .fareRequest cls => Sys2Proof.Machine.execFareRequest cls s
  | .capstanGrant => Sys2Proof.Machine.execCapstanGrant s
  | .fareBlock cls => Sys2Proof.Machine.execFareBlock cls s
  | .fareRelease cls => Sys2Proof.Machine.execFareRelease cls s
  | .capRequest req ask fares => Sys2Proof.Machine.execCapRequest req ask fares s
  | .capCounterClear req => Sys2Proof.Machine.execCapCounterClear req s
  | .pllLock => Sys2Proof.Machine.execPllLock s
  | .referenceLoss => Sys2Proof.Machine.execReferenceLoss s
  | .referenceReturn => Sys2Proof.Machine.execReferenceReturn s
  | .thermalShutdown => Sys2Proof.Machine.execThermalShutdown s
  | .eventRise n data => Sys2Proof.Machine.execEventRise n data s
  | .captureRead req u => Sys2Proof.Machine.execCaptureRead req u s
  | .softwareEvent req bits => Sys2Proof.Machine.execSoftwareEvent req bits s
  | .counterOverflow n => Sys2Proof.Machine.execCounterOverflow n s
  | .counterFreeze req frozen => Sys2Proof.Machine.execCounterFreeze req frozen s
  | .counterRead req n => Sys2Proof.Machine.execCounterRead req n s
  | .tagRecord ovr => Sys2Proof.Machine.execTagRecord ovr s
  | .tagRecordRead => Sys2Proof.Machine.execTagRecordRead s
  | .bandwidthWindowEnd p bytes => Sys2Proof.Machine.execBandwidthWindowEnd p bytes s
  | .benchEnter req => Sys2Proof.Machine.execBenchEnter req s
  | .benchExit req => Sys2Proof.Machine.execBenchExit req s
  | .jtagInstruction die op => Sys2Proof.Machine.execJtagInstruction die op s
  | .resetPin long => Sys2Proof.Machine.execResetPin long s
  | .dryCrossingEnd => Sys2Proof.Machine.execDryCrossingEnd s
  | .arming host => Sys2Proof.Machine.execArming host s
  | .controlDomainAutoRelease => Sys2Proof.Machine.execControlDomainAutoRelease s
  | .earlyWarningRelease => Sys2Proof.Machine.execEarlyWarningRelease s
  | .modulatorLossClear n => Sys2Proof.Machine.execModulatorLossClear n s
  | .testPulseSkip chanH out => Sys2Proof.Machine.execTestPulseSkip chanH out s
  | .holdUpReadyLoss => Sys2Proof.Machine.execHoldUpReadyLoss s
  | .vbatLow => Sys2Proof.Machine.execVbatLow s
  | .thermalShutdownRestart => Sys2Proof.Machine.execThermalShutdownRestart s
  | .temperatureDifferenceCheck => Sys2Proof.Machine.execTemperatureDifferenceCheck s
  | .xspiOperationComplete bank => Sys2Proof.Machine.execXspiOperationComplete bank s
  | .imageCopyComplete scfg => Sys2Proof.Machine.execImageCopyComplete scfg s
  | .cellLinkCommaLock link locked => Sys2Proof.Machine.execCellLinkCommaLock link locked s
  | .resetPinLongHold => Sys2Proof.Machine.execResetPinLongHold s

end Sys2Proof.Machine
end

