-- ==== Sys2Proof/Safety.lean ====
section
/-!
DEFINITION. Safety.lean: the terms in which claims about the machine are stated: that a command completes, what it may change, that an event was
raised, that a channel is locked out, and the invariant of the memories.
-/
namespace Sys2Proof.Machine

/-- The parts of `Dev` beside the register fields and the count of drawn free values. -/
inductive Part where
  | straps | resp | lat | sys | evt | tt | vcs | fm | saf | conv | pump | twin | ethn | node | pager | eccm | cus | met | adc | prog
deriving DecidableEq, Repr

/-- Two machines agree in a part. -/
def Part.same (p : Part) (d e : Dev) : Prop :=
  match p with
  | .straps => e.straps = d.straps
  | .resp => e.resp = d.resp
  | .lat => e.lat = d.lat
  | .sys => e.sys = d.sys
  | .evt => e.evt = d.evt
  | .tt => e.tt = d.tt
  | .vcs => e.vcs = d.vcs
  | .fm => e.fm = d.fm
  | .saf => e.saf = d.saf
  | .conv => e.conv = d.conv
  | .pump => e.pump = d.pump
  | .twin => e.twin = d.twin
  | .ethn => e.ethn = d.ethn
  | .node => e.node = d.node
  | .pager => e.pager = d.pager
  | .eccm => e.eccm = d.eccm
  | .cus => e.cus = d.cus
  | .met => e.met = d.met
  | .adc => e.adc = d.adc
  | .prog => e.prog = d.prog

/-- What a command may change: register fields, all the fields of blocks, parts. -/
structure Writes where
  flds  : List Fld := []
  blks  : List Blk := []
  parts : List Part := []

/-- What raising events may change beside (R453, R457, R459): the event matrix, the counters, the log writer, the host queue of channel P. -/
def Writes.raising (w : Writes) : Writes := { w with blks := .EVT :: .PCNT :: w.blks, parts := .fm :: .vcs :: w.parts }

/-- A write access also leaves its answer on the bus. -/
def Writes.access (w : Writes) : Writes := { w with parts := .resp :: w.parts }

/-- Every register field and every part that `w` does not name is as before. -/
def Dev.frame (d e : Dev) (w : Writes) : Prop :=
  (∀ f i, f ∉ w.flds → f.blk ∉ w.blks → e.rdAt f i = d.rdAt f i) ∧ ∀ p, p ∉ w.parts → p.same d e

/-- The command completes on `s` with a next state: the queue keeps, and `P` holds of the next state. -/
def Completes (s : State) (c : Instr) (P : State → Prop) : Prop :=
  ∃ t, exec c s = .next t ∧ t.pending = s.pending ∧ P t

/-- The command completes with `P` of the part after it, changes nothing but what `w` names, and no byte of memory. -/
def Does (s : State) (c : Instr) (w : Writes) (P : Dev → Prop) : Prop :=
  Completes s c fun t => t.mem = s.mem ∧ s.dev.frame t.dev w ∧ P t.dev

/-- Event source `n` has risen (R453): pending for Ferryman where its route says so, and its log entry waits where its route says so. -/
def Dev.raised (d e : Dev) (n : Nat) : Prop :=
  (d.onAt .EVT_RT_FM n = true → e.onAt .EVT_RT_PEND n = true)
    ∧ (d.onAt .EVT_RT_LOG n = true → e.fm.logPend.any (fun r => decide (r.src = n)) = true)

/-- A channel is locked out with the fault that its register shows (R325). -/
def Dev.faulted (d e : Dev) (chanH : Bool) (code item : Nat) : Prop :=
  e.locked chanH = true ∧ bitOf (e.latched chanH) 2 = true
    ∧ (d.on (if chanH then .SAF_FLTH_VALID else .SAF_FLTP_VALID) = false →
        e.rd (if chanH then .SAF_FLTH_CODE else .SAF_FLTP_CODE) = code ∧ e.rd (if chanH then .SAF_FLTH_ITEM else .SAF_FLTP_ITEM) = item)

/-! ### Instructions of the engines -/

/-- The engine of an issue record. -/
def Dev.unit (d : Dev) (i : Issue) : Engine := d.engine (Eng.index i.eng)

/-- The cycle in which an instruction with operation record `o` issues (R66 to R72). -/
def Dev.cycleOf (d : Dev) (i : Issue) (o : Op) : Nat := ((d.unit i).cycle o i.pr.val).1

/-- The instruction issues now: its engine can issue, no interrupt comes before it (R108), its fetch meets no trap and no uncorrectable error, its word
spells it (R65), and its cycle lies inside the budget. -/
abbrev Dev.issues (d : Dev) (i : Issue) (o : Op) : Prop :=
  d.canIssue (Eng.index i.eng) ((d.unit i).cycle o i.pr.val) = true
    ∧ d.wordState (fetchAt (Eng.index i.eng) (d.unit i).pc) ≤ 1
    ∧ (i.eng = .ferryman → d.mtakes = none)
    ∧ d.fetchTrap (Eng.index i.eng) (d.unit i).pc = (none, d)
    ∧ illegalWord i o = false
    ∧ (i.eng = .ferryman ∨ d.cycleOf i o < (d.unit i).budget)

/-- The instruction's predicate holds (R57). -/
def Dev.predicated (d : Dev) (i : Issue) : Bool := (d.unit i).pr i.pr.val != i.pn

/-- What issuing an instruction may change beside its own effect: the counters and the tagger, the error counts of its fetch, its engine; on the
safety pair what a mismatch brings about (R110). -/
def Writes.issuing (w : Writes) (i : Issue) : Writes :=
  let x := ({ w with blks := [.CE, .ECC] ++ w.blks, parts := .evt :: w.parts } : Writes).raising
  match i.eng with
  | .se => { x with flds := .CLINK_STAT_BLKD :: x.flds, blks := [.SE, .SAF] ++ x.blks, parts := [.saf, .conv] ++ x.parts }
  | _ => x

/-- The instruction completes: the register writes `ws` and no other, the flags `fl`, the next instruction's address, the scoreboard's cycle. Other
engines, the boarding buffer and Ferryman's special registers keep but for `fer` (an instruction issued ends a wait); `w` names what else may change,
`P` what holds of the memories and the part. -/
def Issued (s : State) (c : Instr) (i : Issue) (o : Op) (ws : List RegW) (fl : Nat → Nat := id) (nx : Option Nat := none) (w : Writes := {})
    (fer : Ferry → Ferry := id) (P : State → Prop := fun t => t.mem = s.mem) : Prop :=
  Completes s c fun t =>
    let x := s.dev.unit i
    let y := t.dev.unit i
    P t ∧ s.dev.frame t.dev (w.issuing i)
      ∧ y.g = (ws.foldl Engine.put x).g ∧ y.v = (ws.foldl Engine.put x).v ∧ y.p = (ws.foldl Engine.put x).p ∧ y.flags = fl x.flags
      ∧ y.pc = nx.getD (x.pc + 4) ∧ y.last = s.dev.cycleOf i o ∧ y.earliest = s.dev.cycleOf i o + (if nx.isSome then 3 else 1)
      ∧ y.trapped = x.trapped ∧ y.task = x.task ∧ y.seg = x.seg ∧ y.budget = x.budget
      ∧ (∀ n, n ≠ Eng.index i.eng → (n = 9 → i.eng ≠ .se) → t.dev.engine n = s.dev.engine n)
      ∧ t.dev.vcs.boarded = s.dev.vcs.boarded
      ∧ t.dev.vcs.ferry = fer (if i.eng = .ferryman then { s.dev.vcs.ferry with waiting := false } else s.dev.vcs.ferry)

/-- The commands that may store in the memories: stores, copies and fills, the pager and the NODE block, flash, and what may reset or start a domain. -/
def mayStore : Instr → Bool
  | .registerWrite .. | .csLinkRetransmit .. | .csLinkFailure .. | .controlDomainReset .. | .selfRefreshTimeout ..
  | .supervisorFabricReset .. | .powerDomainReset .. | .ferrymanDomainReset .. | .tideEdge .. | .landingPhaseClose .. | .vcsSt ..
  | .vcsStW .. | .vcsStV .. | .visitSend .. | .reportEntry .. | .visitAnswerTimeout .. | .lineBringInComplete .. | .lineWriteBack ..
  | .historyAppend .. | .berthReinitDone .. | .earlyWarning .. | .lastCrossingSaveComplete .. | .twinResyncReset .. | .bulk .. | .store ..
  | .depose .. | .ddrFillComplete .. | .ddrFillAbort .. | .scrubStep .. | .adcConversion .. | .boot .. | .watchdogKick ..
  | .watchdogExpiry .. | .controlDieHold .. | .controlDieRelease .. | .xspiCommand .. | .imageVerifyComplete .. | .vinLowReset ..
  | .supplyOutputOvercurrent .. | .supplyWindowFault .. | .capstanGrant .. | .thermalShutdown .. | .benchExit ..
  | .controlDomainAutoRelease .. | .imageCopyComplete .. => true
  | _ => false

/-- The invariant of the memories: their canonical form. -/
def State.memOk (s : State) : Prop := Memory.wf s.mem

end Sys2Proof.Machine
end

