-- ==== Sys2Proof/Certificates/Slice0/Obligations.lean ====
section
/-!
DEFINITION. Certificates/Slice0/Obligations.lean: the statements for the provers. `Does` and `Completes` say that a command answers a next state,
what it leaves unchanged and what holds after it (Safety.lean).
-/
open Sys2Proof Sys2Proof.Machine

set_option linter.unusedVariables false

/-- What input, output and hold-up commands do: VIN_VALID, VIN_LOW_RESET, RESET_PIN, HOLD_UP_READY, HOLD_UP_READY_LOSS, VBAT_LOW,
  HOLD_UP_MEASURE and HOLD_UP_MEASURE_COMPLETE complete as the clauses say: under the conditions named a form answers a next state with the
  values listed, and where a clause lists what it writes, nothing else changes. It rests on R427, R430, R435, R446, R472, R408. -/
def Obligations.SupplyCommands : Prop :=
  (∀ (s : State), s.dev.sys.pinLong = false → s.dev.sys.thermalHold = false → s.dev.on .CAP_STAT_VINV = false → Does s (.vinValid)
    { blks := [.CAP], flds := [.FM_CALSTAT_CALV], parts := [.fm] } fun e => (s.dev.on .FM_CALSTAT_CALV = true → e.fm.cal = s.dev.fm.cal ∧
    e.on .FM_CALSTAT_CALV = true) ∧ (∀ k x, s.dev.on .FM_CALSTAT_CALV = false → s.dev.cus.latest = some (k, x) → e.fm.cal = x.time ∧ e.on
    .FM_CALSTAT_CALV = true) ∧ e.on .CAP_STAT_VINV = true ∧ e.fm.life.at 0 0x000 = satAdd (2 ^ 64 - 1) (s.dev.fm.life.at 0 0x000) 1 ∧ (∀ k
    < 4, s.dev.bit .CAP_OUTEN k = true → e.onAt .CAP_CLS_HELD (15 - k) = true ∨ e.onAt .CAP_CLS_PEND (15 - k) = true)) ∧
  (∀ (s : State), s.dev.on .CAP_STAT_ARMED = false → Completes s (.vinLowReset) fun t => (t.dev.rd .FM_RSTCAUSE_KIND = 7) ∧
    (t.dev.sys.cdReset = true) ∧ (t.dev.on .CAP_STAT_VINV = false) ∧ (t.dev.sys.dramLosses = s.dev.sys.dramLosses + 1) ∧ (∀ a, flashBase ≤
    a → memByte t.mem a = memByte s.mem a)) ∧
  (∀ (s : State), s.dev.sys.sfPending = none → s.dev.sys.pdPending = none → Does s (.resetPin false) { parts := [.sys] } fun e => e.sys =
    { s.dev.sys with sfPending := some .resetPin }) ∧
  (∀ (s : State), s.dev.sys.thermalHold = false → s.dev.on .CAP_STAT_VINV = false → Does s (.resetPin true)
    { blks := [.CAP], flds := [.FM_CALSTAT_CALV], parts := [.sys, .fm] } fun e => e.sys.pinLong = false ∧ e.on .CAP_STAT_VINV = true) ∧
  (∀ (s : State), Does s (.holdUpReady) { flds := [.CAP_STAT_HUPRDY, .CAP_STAT_ARMED] } fun e => e.on .CAP_STAT_HUPRDY = true ∧ (s.dev.on
    .CAP_STAT_VINV = true → e.on .CAP_STAT_ARMED = true)) ∧
  (∀ (s : State), Does s (.holdUpReadyLoss) { flds := [.CAP_STAT_HUPRDY] } fun e => e.on .CAP_STAT_HUPRDY = false) ∧
  (∀ (s : State), s.dev.on .CAP_STAT_VINV = true → Does s (.vbatLow) { flds := [.CAP_STAT_VBATL] } fun e => e.on .CAP_STAT_VBATL = true) ∧
  (∀ (s : State), s.dev.on .CAP_STAT_VINV = false → Does s (.vbatLow) { flds := [.CAP_STAT_VBATL, .FM_CALSTAT_CALV] } fun e => e.on
    .CAP_STAT_VBATL = true ∧ (s.dev.on .FM_CALSTAT_CALV = false → e.on .FM_CALSTAT_CALV = false)) ∧
  (∀ (s : State), s.dev.on .CAP_STAT_HUPRDY = true → s.dev.sys.warning = false → Does s (.holdUpMeasure none)
    { flds := [.CAP_STAT_HBUSY, .CAP_CLS_HELD, .CAP_CLS_PEND, .CAP_CLS_BLOCK, .CAP_CLS_FARES] } fun e => e.on .CAP_STAT_HBUSY = true ∧
    e.onAt .CAP_CLS_HELD 0 = false ∧ (∀ k < 23, k ≠ 0 → e.onAt .CAP_CLS_HELD k = s.dev.onAt .CAP_CLS_HELD k)) ∧
  (∀ (s : State), s.dev.on .CAP_STAT_HUPRDY = false ∨ s.dev.sys.warning = true → Does s (.holdUpMeasure none) {} fun e => e.on
    .CAP_STAT_HBUSY = s.dev.on .CAP_STAT_HBUSY) ∧
  (∀ (s : State), s.dev.on .CAP_STAT_HUPRDY = true → s.dev.sys.warning = false → s.dev.sys.spFailed = false → Does s (.holdUpMeasure (some
    .ferryman)) ({ flds := [.CAP_STAT_HBUSY, .CAP_CLS_HELD, .CAP_CLS_PEND, .CAP_CLS_BLOCK, .CAP_CLS_FARES] } : Writes).access fun e => e.on
    .CAP_STAT_HBUSY = true ∧ e.onAt .CAP_CLS_HELD 0 = false) ∧
  (∀ (s : State) (dv : Nat), s.dev.on .CAP_STAT_HBUSY = true → 0 < dv → nearest 200000000 dv < 65536 → 12 < s.dev.rd .CAP_HUP_VSET → Does s
    (.holdUpMeasureComplete dv)
    ({ flds := [.CAP_STAT_HBUSY, .CAP_STAT_HUPLOW, .CAP_HUPC_C, .CAP_HUPC_E, .CAP_CLS_HELD, .CAP_CLS_PEND, .CAP_CLS_BLOCK, .CAP_CLS_FARES, .CAP_COMMIT_PEAK] }
    : Writes).raising fun e => e.on .CAP_STAT_HBUSY = false ∧ e.rd .CAP_HUPC_C = nearest 200000000 dv ∧ (nearest (25000 * (s.dev.rd
    .CAP_HUP_VSET * s.dev.rd .CAP_HUP_VSET - 144)) dv < 65536 → e.rd .CAP_HUPC_E = nearest (25000 * (s.dev.rd .CAP_HUP_VSET * s.dev.rd
    .CAP_HUP_VSET - 144)) dv) ∧ e.on .CAP_STAT_HUPLOW = decide (2 * (25000 * (s.dev.rd .CAP_HUP_VSET * s.dev.rd .CAP_HUP_VSET - 144)) < 375
    * dv) ∧ (s.dev.on .CAP_HUP_EN = true → e.onAt .CAP_CLS_HELD 0 = true ∨ e.onAt .CAP_CLS_PEND 0 = true))

/-- What the early warning, an output fault and a shutdown do: EARLY_WARNING, EARLY_WARNING_RELEASE, SUPPLY_OUTPUT_OVERCURRENT,
  SUPPLY_WINDOW_FAULT, THERMAL_SHUTDOWN, THERMAL_SHUTDOWN_RESTART and TEMPERATURE_DIFFERENCE_CHECK complete as the clauses say: under the
  conditions named a form answers a next state with the values listed, and where a clause lists what it writes, nothing else changes. It
  rests on R428, R429, R432, R433, R447, R306. -/
def Obligations.CrossingCommands : Prop :=
  (∀ (s : State), s.dev.on .CAP_STAT_ARMED = true → Completes s (.earlyWarning) fun t => (t.dev.on .CAP_STAT_PFW = true) ∧
    (t.dev.sys.warning = true) ∧ (t.dev.sys.sfPending.isSome = true) ∧ (t.dev.sys.cdReset = true) ∧ (t.dev.sys.dramLost = true) ∧
    (s.dev.raised t.dev 450) ∧ (t.dev.onAt .CAP_CLS_HELD 9 = false)) ∧
  (∀ (s : State), s.dev.sys.sfPending = some .brownOut → s.dev.sys.pdPending = none → s.dev.cus.frozen = false → Does s
    (.earlyWarningRelease) { blks := [.CAP], parts := [.sys] } fun e => e.sys = { s.dev.sys with warning := false, sfPending := none }) ∧
  (∀ (s : State) (out : Fin 4), s.dev.bit .CAP_OUTSTAT_PG out.val = true → out.val ≠ 3 → Does s (.supplyOutputOvercurrent out)
    ({ blks := [.CAP], parts := [.sys] } : Writes).raising fun e => e.sys =
    { s.dev.sys with ocOff := out.val :: s.dev.sys.ocOff.erase out.val } ∧ e.bit .CAP_OUTSTAT_OC out.val = true ∧ e.bit .CAP_OUTSTAT_PG
    out.val = false ∧ e.onAt .CAP_CLS_HELD (15 - out.val) = false ∧ s.dev.raised e 448) ∧
  (∀ (s : State), s.dev.bit .CAP_OUTSTAT_PG 3 = true → Completes s (.supplyOutputOvercurrent 3) fun t => (t.dev.bit .CAP_OUTSTAT_OC 3 =
    true) ∧ (t.dev.bit .CAP_OUTSTAT_PG 3 = false) ∧ (t.dev.sys.cdReset = true) ∧ (t.dev.sys.dramLost = true) ∧ (t.dev.rd .FM_RSTCAUSE_KIND
    = 5)) ∧
  (∀ (s : State) (n : Fin 16) (low : Bool), n.val ∈ [0, 1, 10, 11, 12, 13] → Completes s (.supplyWindowFault n low) fun t => (s.dev.raised
    t.dev 448) ∧ (n.val = 1 → t.dev.on .CAP_STAT_HUPRDY = false)) ∧
  (∀ (s : State) (n : Fin 16) (low : Bool), 3 ≤ n.val → n.val ≤ 6 → Completes s (.supplyWindowFault n low) fun t => (t.dev.sys.cdReset =
    true) ∧ (t.dev.rd .FM_RSTCAUSE_KIND = 5) ∧ (s.dev.faulted t.dev true 4 n.val) ∧ (s.dev.faulted t.dev false 4 n.val)) ∧
  (∀ (s : State) (n : Fin 16) (low : Bool), n.val ∈ [2, 7, 8, 9] → Completes s (.supplyWindowFault n low) fun t => (t.dev.sys.cdReset =
    true) ∧ (t.dev.rd .FM_RSTCAUSE_KIND = (if n.val = 2 ∧ s.dev.sys.warning = true then 2 else 7)) ∧ (s.dev.on .SAF_FLTH_VALID = false →
    t.dev.saf.partLockH = some (4, n.val))) ∧
  (∀ (s : State) (low : Bool), Completes s (.supplyWindowFault 15 low) fun t => (s.dev.faulted t.dev true 4 15) ∧ (s.dev.faulted t.dev
    false 4 15) ∧ (s.dev.raised t.dev 448)) ∧
  (∀ (s : State), s.dev.sys.sfPending = none → Completes s (.thermalShutdown) fun t => (t.dev.on .CAP_STAT_TSD = true) ∧
    (t.dev.sys.thermalHold = true) ∧ (t.dev.sys.pdPending.isSome = true) ∧ (s.dev.raised t.dev 458) ∧ (t.dev.sys.cdReset = true) ∧
    (t.dev.sys.dramLost = true)) ∧
  (∀ (s : State), Does s (.thermalShutdownRestart) { blks := [.CAP], flds := [.FM_CALSTAT_CALV], parts := [.sys, .fm] } fun e =>
    e.sys.thermalHold = false ∧ (s.dev.sys.pinLong = false → e.on .CAP_STAT_VINV = true)) ∧
  (∀ (s : State), s.dev.fm.diffAct = false → s.dev.hottest 2 - min (s.dev.hottest 0) (s.dev.hottest 1) ≤ 560 → max (s.dev.hottest 0)
    (s.dev.hottest 1) - s.dev.hottest 2 < 80 → s.dev.fm.booted = true → Does s (.temperatureDifferenceCheck) { parts := [.fm] } fun e =>
    e.fm = { s.dev.fm with diffOver := 0 }) ∧
  (∀ (s : State), s.dev.fm.diffAct = false → 80 ≤ max (s.dev.hottest 0) (s.dev.hottest 1) - s.dev.hottest 2 → s.dev.fm.booted = true → Does
    s (.temperatureDifferenceCheck) { blks := [.CAP, .GWY], parts := [.fm] } fun e => e.fm.diffAct = true ∧ (e.fm.logPend.any (fun r =>
    decide (r.src = 0x210)) = true) ∧ (∀ k < 8, e.onAt .GWY_DSEL_EN k = false)) ∧
  (∀ (s : State), s.dev.fm.booted = false → Does s (.temperatureDifferenceCheck) {} fun e => True)

/-- What clock and Capstan commands do: PLL_LOCK, REFERENCE_LOSS, REFERENCE_RETURN, TIDE_SLIP, DLL_LOCK, FARE_REQUEST, FARE_BLOCK,
  FARE_RELEASE, CAP_REQUEST, CAP_COUNTER_CLEAR and CAPSTAN_GRANT complete as the clauses say: under the conditions named a form answers a
  next state with the values listed, and where a clause lists what it writes, nothing else changes. It rests on R440, R442, R443, R444,
  R436, R437, R438, R449. -/
def Obligations.ClockAndCapstanCommands : Prop :=
  (∀ (s : State), refMHz s.dev.straps.cksel = some 25 → s.dev.rd .CLK_NDIV = 0 → s.dev.rd .CLK_CFG_PRE = 0 → Does s (.pllLock)
    { flds := [.CLK_STAT_LOCK, .CLK_LOCKCNT, .CLK_NDIV, .CLK_STAT_PHFIX] } fun e => e.on .CLK_STAT_LOCK = true ∧ e.rd .CLK_LOCKCNT = satAdd
    65535 (s.dev.rd .CLK_LOCKCNT) 1 ∧ e.rd .CLK_NDIV = 128 ∧ e.on .CLK_STAT_PHFIX = true) ∧
  (∀ (s : State), (refMHz s.dev.straps.cksel).isSome = true → s.dev.rd .CLK_NDIV ≠ 0 → Does s (.pllLock)
    { flds := [.CLK_STAT_LOCK, .CLK_LOCKCNT] } fun e => e.on .CLK_STAT_LOCK = true ∧ e.rd .CLK_LOCKCNT = satAdd 65535 (s.dev.rd
    .CLK_LOCKCNT) 1) ∧
  (∀ (s : State), Does s (.referenceLoss) ({ flds := [.CLK_STAT_REFL, .CLK_STAT_HOLD, .CLK_STAT_PHFIX] } : Writes).raising fun e => e.on
    .CLK_STAT_REFL = true ∧ e.on .CLK_STAT_HOLD = true ∧ e.on .CLK_STAT_PHFIX = false ∧ s.dev.raised e 452) ∧
  (∀ (s : State), Does s (.referenceReturn) { flds := [.CLK_STAT_HOLD] } fun e => e.on .CLK_STAT_HOLD = false) ∧
  (∀ (s : State), Does s (.tideSlip) { flds := [.CLK_SLIP] } fun e => e.rd .CLK_SLIP = satAdd (2 ^ 32 - 1) (s.dev.rd .CLK_SLIP) 1) ∧
  (∀ (s : State), s.dev.sys.cdReset = false → Does s (.dllLock) { flds := [.PWM_STAT_DLLLK] } fun e => e.on .PWM_STAT_DLLLK = true) ∧
  (∀ (s : State) (cls : Fin 23), s.dev.fareWanted cls.val = false → Does s (.fareRequest cls) {} fun e => e.onAt .CAP_CLS_PEND cls.val =
    s.dev.onAt .CAP_CLS_PEND cls.val) ∧
  (∀ (s : State) (cls : Fin 23), s.dev.fareWanted cls.val = true → s.dev.onAt .CAP_CLS_HELD cls.val = false → 0 < s.dev.fareOf cls.val →
    Does s (.fareRequest cls) { flds := [.CAP_CLS_FARES, .CAP_CLS_PEND] } fun e => e.rdAt .CAP_CLS_FARES cls.val = s.dev.fareOf cls.val ∧
    e.onAt .CAP_CLS_PEND cls.val = true) ∧
  (∀ (s : State) (cls : Fin 23), s.dev.fareWanted cls.val = true → s.dev.onAt .CAP_CLS_HELD cls.val = false → s.dev.fareOf cls.val = 0 →
    s.dev.sys.spFailed = false → Does s (.fareRequest cls)
    { flds := [.CAP_CLS_FARES, .CAP_CLS_PEND, .CAP_CLS_BLOCK, .CAP_CLS_HELD, .CAP_COMMIT_PEAK] } fun e => e.onAt .CAP_CLS_HELD cls.val =
    true ∧ e.onAt .CAP_CLS_PEND cls.val = false) ∧
  (∀ (s : State) (cls : Fin 23), s.dev.onAt .CAP_CLS_PEND cls.val = true → s.dev.onAt .CAP_CLS_BLOCK cls.val = false → Does s (.fareBlock
    cls) { flds := [.CAP_CLS_BLOCK, .CAP_CNT_WAITED] } fun e => e.onAt .CAP_CLS_BLOCK cls.val = true ∧ e.rd .CAP_CNT_WAITED = satAdd 65535
    (s.dev.rd .CAP_CNT_WAITED) 1) ∧
  (∀ (s : State) (cls : Fin 23), cls.val = 0 ∨ s.dev.fareWanted cls.val = false → Does s (.fareRelease cls)
    { flds := [.CAP_CLS_PEND, .CAP_CLS_BLOCK, .CAP_CLS_HELD, .CAP_CLS_FARES] } fun e => e.onAt .CAP_CLS_HELD cls.val = false ∧ e.onAt
    .CAP_CLS_PEND cls.val = false ∧ e.rdAt .CAP_CLS_FARES cls.val = 0 ∧ (∀ k < 23, k ≠ cls.val → e.onAt .CAP_CLS_HELD k = s.dev.onAt
    .CAP_CLS_HELD k)) ∧
  (∀ (s : State) (fares : BitVec 7), s.dev.sys.spFailed = false → s.dev.onAt .CAP_CLS_HELD 22 = false → 0 < fares.toNat → Does s
    (.capRequest .ferryman true fares) ({ flds := [.CAP_REQ_REQ, .CAP_REQ_FARES, .CAP_CLS_FARES, .CAP_CLS_PEND] } : Writes).access fun e =>
    e.on .CAP_REQ_REQ = true ∧ e.rd .CAP_REQ_FARES = min 80 fares.toNat ∧ e.rdAt .CAP_CLS_FARES 22 = min 80 fares.toNat ∧ e.onAt
    .CAP_CLS_PEND 22 = true) ∧
  (∀ (s : State) (fares : BitVec 7), s.dev.sys.spFailed = false → Does s (.capRequest .ferryman false fares)
    ({ flds := [.CAP_REQ_REQ, .CAP_REQ_FARES, .CAP_CLS_FARES, .CAP_CLS_PEND, .CAP_CLS_BLOCK, .CAP_CLS_HELD] } : Writes).access fun e =>
    e.on .CAP_REQ_REQ = false ∧ e.onAt .CAP_CLS_HELD 22 = false) ∧
  (∀ (s : State), s.dev.sys.spFailed = false → Does s (.capCounterClear .ferryman)
    ({ flds := [.CAP_CNT_WAITED, .CAP_CNT_OVB, .CAP_COMMIT_PEAK] } : Writes).access fun e => e.rd .CAP_CNT_WAITED = 0 ∧ e.rd .CAP_CNT_OVB =
    0 ∧ e.rd .CAP_COMMIT_PEAK = 0) ∧
  (∀ (s : State), s.dev.sys.spFailed = false → s.dev.onAt .CAP_CLS_PEND 0 = true → s.dev.faresCommitted + s.dev.rdAt .CAP_CLS_FARES 0 ≤
    s.dev.rd .CAP_BUDGET_FARES → Completes s (.capstanGrant) fun t => (t.dev.onAt .CAP_CLS_HELD 0 = true) ∧ (t.dev.onAt .CAP_CLS_PEND 0 =
    false))

/-- What a fault that a safety channel detects does: the detecting channel is locked out and shows the fault; the commands are
  SWITCH_READBACK_FAULT, FXP_TIMEOUT, FXH_TIMEOUT, OSCILLATOR_FAULT, DISCREPANCY_TIMEOUT, SAFE_OUTPUT_OVERCURRENT, SWITCH_BANK_READ,
  TEST_PULSE_END, OFF_STATE_DIAGNOSTIC, FEEDBACK_TIMEOUT and SAFETY_CONFIG_LOAD. It rests on R304, R305, R306, R307, R308, R310, R317,
  R318, R320, R321, R325. -/
def Obligations.SafetyFaultCommands : Prop :=
  (∀ (s : State) (chanH : Bool) (out : Fin 8), Does s (.switchReadbackFault chanH out)
    ({ blks := [.SAF], flds := [.CLINK_STAT_BLKD], parts := [.saf, .conv] } : Writes).raising fun e => s.dev.faulted e chanH 0x0D out.val) ∧
  (∀ (s : State), s.dev.saf.fxpWatch = true → s.dev.sys.cdReset = false → Does s (.fxpTimeout)
    ({ blks := [.SAF], flds := [.CLINK_STAT_BLKD], parts := [.saf, .conv] } : Writes).raising fun e => s.dev.faulted e true 0x08 0) ∧
  (∀ (s : State), s.dev.sys.cdReset = false → Does s (.fxhTimeout) ({ blks := [.SAF], flds := [.CLINK_STAT_BLKD], parts := [.saf, .conv] }
    : Writes).raising fun e => s.dev.faulted e false 0x0A 0 ∧ e.saf.cmdP = 0) ∧
  (∀ (s : State), Does s (.oscillatorFault) ({ blks := [.SAF], flds := [.CLINK_STAT_BLKD], parts := [.saf, .conv] } : Writes).raising fun e
    => s.dev.faulted e true 0x03 0) ∧
  (∀ (s : State) (chanH : Bool) (pair : Fin 8), s.dev.pairMode (2 * pair.val) ≠ 0 → s.dev.onAt .SAF_SICFG_EN (2 * pair.val) = true →
    s.dev.siDemands chanH (2 * pair.val) ≠ s.dev.siDemands chanH (2 * pair.val + 1) → Does s (.discrepancyTimeout chanH pair)
    ({ blks := [.SAF], flds := [.CLINK_STAT_BLKD], parts := [.saf, .conv] } : Writes).raising fun e => s.dev.faulted e chanH 0x10 (2 *
    pair.val)) ∧
  (∀ (s : State) (out : Fin 8), Does s (.safeOutputOvercurrent out) ({ blks := [.SAF], flds := [.CLINK_STAT_BLKD], parts := [.saf, .conv] }
    : Writes).raising fun e => s.dev.faulted e true 0x0F out.val ∧ s.dev.faulted e false 0x0F out.val) ∧
  (∀ (s : State) (chanH : Bool) (bank : BitVec 12), chanH = true ∨ s.dev.sys.cdReset = false → bank.toNat ≠ s.dev.rd .SAF_SWSEXP → 2 ≤
    (s.dev.rx chanH).bankBad → Does s (.switchBankRead chanH bank) ({ blks := [.SAF], flds := [.CLINK_STAT_BLKD], parts := [.saf, .conv] }
    : Writes).raising fun e => e.rd .SAF_SWS = bank.toNat ∧ s.dev.faulted e chanH 0x02 bank.toNat) ∧
  (∀ (s : State) (chanH : Bool) (bank : BitVec 12), chanH = true ∨ s.dev.sys.cdReset = false → bank.toNat = s.dev.rd .SAF_SWSEXP → Does s
    (.switchBankRead chanH bank) { flds := [.SAF_SWS], parts := [.saf] } fun e => e.rd .SAF_SWS = bank.toNat ∧ (e.rx chanH).bankBad = 0) ∧
  (∀ (s : State) (chanH : Bool) (out : Fin 8), (s.dev.saf.test.at 0 out.val = (if chanH then 1 else 2)) → Does s (.testPulseEnd chanH out
    false) ({ blks := [.SAF], flds := [.CLINK_STAT_BLKD], parts := [.saf, .conv] } : Writes).raising fun e => e.saf.test.at 0 out.val = 0 ∧
    e.onAt .SAF_SOSTAT_TRUN out.val = false ∧ s.dev.faulted e chanH 0x0B out.val) ∧
  (∀ (s : State) (chanH : Bool) (out : Fin 8), (s.dev.saf.test.at 0 out.val = (if chanH then 1 else 2)) → Does s (.testPulseEnd chanH out
    true) { blks := [.SAF], parts := [.saf, .fm] } fun e => e.saf.test.at 0 out.val = 0 ∧ e.onAt .SAF_SOSTAT_TRUN out.val = false) ∧
  (∀ (s : State) (out : Fin 8) (mv : Nat), s.dev.bit .SAF_STAT_ON out.val = false → s.dev.on .PWM_STAT_LEAD = true → s.dev.onAt
    .SAF_SOCFG_EN out.val = true → offResult mv ≠ 1 → Does s (.offStateDiagnostic out mv)
    ({ blks := [.SAF], flds := [.CLINK_STAT_BLKD], parts := [.saf, .conv] } : Writes).raising fun e => e.rdAt .SAF_SOSTAT_OSR out.val =
    offResult mv ∧ s.dev.faulted e true 0x0C (16 * offResult mv + out.val) ∧ s.dev.faulted e false 0x0C (16 * offResult mv + out.val)) ∧
  (∀ (s : State) (out : Fin 8) (mv : Nat), s.dev.bit .SAF_STAT_ON out.val = false → s.dev.on .PWM_STAT_LEAD = true → offResult mv = 1 →
    Does s (.offStateDiagnostic out mv) { flds := [.SAF_SOSTAT_OSR], parts := [.saf] } fun e => e.rdAt .SAF_SOSTAT_OSR out.val = 1 ∧ bitOf
    e.saf.offPassed out.val = true) ∧
  (∀ (s : State) (chanH : Bool) (out : Fin 8), s.dev.fbUsed out.val = true → s.dev.fbRight chanH out.val = false → Does s (.feedbackTimeout
    chanH out) ({ blks := [.SAF], flds := [.CLINK_STAT_BLKD], parts := [.saf, .conv] } : Writes).raising fun e => s.dev.faulted e chanH
    0x0E out.val) ∧
  (∀ (s : State) (chanH : Bool) (out : Fin 8), s.dev.fbUsed out.val = true → s.dev.fbRight chanH out.val = true → Does s (.feedbackTimeout
    chanH out) { parts := [.saf] } fun e => bitOf e.saf.fbSettled out.val = true) ∧
  (∀ (s : State) (sigOk : Bool), s.dev.sys.loaded = false → sigOk = false ∨ s.dev.on .ECC_STAT_STF = true ∨ s.dev.saf.cfgPart = none → Does
    s (.safetyConfigLoad sigOk) ({ blks := [.SAF], flds := [.CLINK_STAT_BLKD], parts := [.sys, .saf, .conv] } : Writes).raising fun e =>
    e.sys = { s.dev.sys with loaded := true } ∧ s.dev.faulted e true 0x01 0 ∧ s.dev.faulted e false 0x01 0) ∧
  (∀ (s : State) (sigOk : Bool), s.dev.sys.loaded = true → Does s (.safetyConfigLoad sigOk) {} fun e => e.saf = s.dev.saf) ∧
  (∀ (s : State) (k : Scfg), s.dev.sys.loaded = false → s.dev.on .ECC_STAT_STF = false → s.dev.saf.cfgPart = some k → Does s
    (.safetyConfigLoad true) ({ blks := [.SAF, .WCMP, .FM, .CLINK], parts := [.sys, .saf, .conv] } : Writes).raising fun e => e.sys.loaded
    = true ∧ e.on .SAF_SEAL_SET = true ∧ e.on .SAF_STAT_CFGOK = true)

/-- What inputs, demands and the safe outputs do: FXH_TOGGLE, SAFETY_INPUT_CHANGE, SAFE_STOP_DELAY_EXPIRY, SFA_REARM, CLOSE_REQUEST,
  SWITCH_P_CLOSE, PULL_IN_FARE_RELEASE, H_GRID_UNDERVOLTAGE, TEST_PULSE_START and TEST_PULSE_SKIP, and the grid window that the safety
  program runs, complete as the clauses say: under the conditions named a form answers a next state with the values listed, and where a
  clause lists what it writes, nothing else changes. It rests on R304, R305, R309, R310, R311, R312, R314, R315, R318, R437. -/
def Obligations.SafetyChannelCommands : Prop :=
  (∀ (s : State), s.dev.locked true = false → Does s (.fxhToggle) { parts := [.saf] } fun e => e.saf =
    { s.dev.saf with fxh := !s.dev.saf.fxh }) ∧
  (∀ (s : State) (chanH : Bool) (n : Fin 16), chanH = true ∨ s.dev.sys.cdReset = false → s.dev.pairMode n.val = 0 → s.dev.onAt
    .SAF_SICFG_EN n.val = true → Does s (.safetyInputChange chanH (.si n) false)
    ({ blks := [.SAF], flds := [.CLINK_STAT_BLKD], parts := [.saf, .conv] } : Writes).raising fun e => ((if chanH then e.bit .SAF_SILVL_H
    n.val else e.bit .SAF_SILVL_P n.val) = false) ∧ bitOf (e.rx chanH).demand n.val = true ∧ (∀ f < 4, bitOf (s.dev.rdAt .SAF_SICFG_FUNC
    n.val) f = true → bitOf (e.latched chanH) f = true)) ∧
  (∀ (s : State) (level : Bool), Does s (.safetyInputChange true .srst level) { flds := [.SAF_STAT_SRST], parts := [.saf] } fun e => e.on
    .SAF_STAT_SRST = level ∧ e.saf.rxH.srst = level) ∧
  (∀ (s : State) (n : Fin 8) (level : Bool), s.dev.fbUsed n.val = false → Does s (.safetyInputChange true (.fbk n) level)
    { flds := [.SAF_SOSTAT_FBK], parts := [.saf] } fun e => e.onAt .SAF_SOSTAT_FBK n.val = level ∧ bitOf e.saf.rxH.fbk n.val = level) ∧
  (∀ (s : State), s.dev.saf.sfdRun = true → Does s (.safeStopDelayExpiry)
    ({ blks := [.SAF], flds := [.CLINK_STAT_BLKD], parts := [.saf, .conv] } : Writes).raising fun e => e.saf.sfdRun = false ∧ (∀ f < 4, f ≠
    1 → bitOf e.saf.latchH f = true ∧ bitOf e.saf.latchP f = true)) ∧
  (∀ (s : State), s.dev.on .SAF_CFG_AREARM = true → s.dev.saf.sfaOther = false → s.dev.saf.gridH = false → s.dev.saf.gridP = false → Does s
    (.sfaRearm) ({ blks := [.SAF], parts := [.saf] } : Writes).raising fun e => bitOf e.saf.latchH 0 = false ∧ bitOf e.saf.latchP 0 = false
    ∧ e.bit .SAF_LATCH 0 = false) ∧
  (∀ (s : State) (x : HostCmd) (l : List HostCmd), s.dev.sys.cdReset = false → (s.dev.queue 12).items = x :: l → Does s (.closeRequest)
    { blks := [.SAF], flds := [.CAP_CLS_HELD, .CAP_CLS_PEND, .CAP_CLS_BLOCK, .CAP_CLS_FARES, .CAP_COMMIT_PEAK], parts := [.saf, .fm] } fun
    e => (∀ n < 8, e.onAt .SAF_SOSTAT_REQ n = bitOf x.payload n) ∧ (∀ n < 8, s.dev.onAt .SAF_SOSTAT_REQ n = false → bitOf x.payload n =
    true → e.onAt .CAP_CLS_HELD (1 + n) = true ∨ e.onAt .CAP_CLS_PEND (1 + n) = true) ∧ (∀ n < 8, bitOf x.payload n = false → e.onAt
    .CAP_CLS_HELD (1 + n) = false) ∧ e.queue 12 = s.dev.queue 12) ∧
  (∀ (s : State) (out : Fin 8), s.dev.keepP out.val = true → bitOf s.dev.saf.offPassed out.val = true → s.dev.onAt .SAF_SOCFG_FBEN out.val
    = false ∨ bitOf s.dev.saf.rxP.fbk out.val = true → s.dev.onAt .CAP_CLS_HELD (1 + out.val) = true → Does s (.switchPClose out)
    { blks := [.SAF], parts := [.saf, .fm] } fun e => bitOf e.saf.cmdP out.val = true ∧ bitOf e.saf.permit out.val = true ∧ e.onAt
    .SAF_SOSTAT_SWP out.val = (s.dev.on .PWM_STAT_LEAD && decide (s.dev.saf.test.at 0 out.val ≠ 2)) ∧ e.bit .SAF_STAT_ON out.val =
    (s.dev.closeH out.val && s.dev.on .PWM_STAT_LEAD)) ∧
  (∀ (s : State) (out : Fin 8), Does s (.pullInFareRelease out) { flds := [.CAP_CLS_PEND, .CAP_CLS_BLOCK, .CAP_CLS_HELD, .CAP_CLS_FARES] }
    fun e => e.onAt .CAP_CLS_HELD (1 + out.val) = false) ∧
  (∀ (s : State) (phase : Fin 3), s.dev.on .SAF_HGCFG_EN = true → s.dev.saf.gridH = false → Does s (.hGridUndervoltage phase)
    ({ blks := [.SAF], flds := [.CLINK_STAT_BLKD], parts := [.saf, .conv] } : Writes).raising fun e => (e.cmp (s.dev.gridCmp
    phase.val)).under = true ∧ e.saf.gridH = true ∧ bitOf e.saf.latchH 0 = true) ∧
  (∀ (s : State) (chanH : Bool) (out : Fin 8), s.dev.testCan chanH out.val = true → s.dev.closeH out.val = true → s.dev.keepP out.val =
    true → bitOf s.dev.saf.cmdP out.val = true → s.dev.on .PWM_STAT_LEAD = true → Does s (.testPulseStart chanH out)
    { blks := [.SAF], parts := [.saf, .fm] } fun e => (e.saf.test.at 0 out.val = (if chanH then 1 else 2)) ∧ e.onAt .SAF_SOSTAT_TRUN
    out.val = true ∧ e.bit .SAF_STAT_ON out.val = true ∧ ((if chanH then e.onAt .SAF_SOSTAT_SWH out.val else e.onAt .SAF_SOSTAT_SWP
    out.val) = false)) ∧
  (∀ (s : State) (chanH : Bool) (out : Fin 8), bitOf s.dev.saf.expect out.val = true → s.dev.onAt .SAF_SOCFG_TEN out.val = true →
    s.dev.testCan chanH out.val = false → Does s (.testPulseSkip chanH out) { flds := [.SAF_SOCNT_TSKIP] } fun e => e.rdAt .SAF_SOCNT_TSKIP
    out.val = satAdd 0xFFFF (s.dev.rdAt .SAF_SOCNT_TSKIP out.val) 1) ∧
  (∀ (s : State) (id : Fin 512) (t : Task), s.dev.sys.cdReset = false → s.dev.prog.changes = [] → s.dev.taskOf id.val = some t → s.dev.on
    .SAF_PGCFG_EN = true → t.engine = 8 → t.rate = 0 → ([s.dev.rd .SAF_PGCFG_ANA, s.dev.rd .SAF_PGCFG_ANB, s.dev.rd .SAF_PGCFG_ANC].all
    (fun n => (t.inputsOf 2).contains (2, n)) = true) → Does s (.parameterTakeEffect (some (.safetyGrid id)))
    ({ blks := [.SAF], flds := [.CLINK_STAT_BLKD], parts := [.saf, .conv] } : Writes).raising fun e => (e.saf.pg = List.zipWith (fun (w :
    PhaseWindow) n => w.next (s.dev.tide * s.dev.rd .TIDE_PERIOD_ACT) (s.dev.rd .TIDE_PERIOD_ACT) (s.dev.phaseSample n)) s.dev.saf.pg
    [s.dev.rd .SAF_PGCFG_ANA, s.dev.rd .SAF_PGCFG_ANB, s.dev.rd .SAF_PGCFG_ANC]) ∧ e.saf.pgV = sinceWhen s.dev.tide s.dev.saf.pgV
    (e.saf.pg.any s.dev.rmsOutside) ∧ e.saf.pgF = sinceWhen s.dev.tide s.dev.saf.pgF (s.dev.freqOutside (e.saf.pg.headD {})) ∧ e.saf.gridP
    = (s.dev.lastedMs e.saf.pgV (s.dev.rd .SAF_PGT_TV) || s.dev.lastedMs e.saf.pgF (s.dev.rd .SAF_PGT_TF)) ∧ (s.dev.saf.gridP = false →
    e.saf.gridP = true → bitOf e.saf.latchP 0 = true) ∧ e.saf.latchH = s.dev.saf.latchH) ∧
  (∀ (s : State) (id : Fin 512) (t : Task), s.dev.sys.cdReset = false → s.dev.prog.changes = [] → s.dev.taskOf id.val = some t → s.dev.on
    .SAF_PGCFG_EN = false ∨ t.engine ≠ 8 ∨ t.rate ≠ 0 → Does s (.parameterTakeEffect (some (.safetyGrid id))) {} fun e => e.saf =
    s.dev.saf)

/-- What safe messages and the reset procedure do: SAFE_MESSAGE, SAFE_MESSAGE_PAIR_TIMEOUT, SAFE_MESSAGE_TIMEOUT, SAFE_MESSAGE_SEND,
  SRST_PULSE, RESET_PROCEDURE_COMPLETE and STARTUP_LOCKOUT_CLEAR complete as the clauses say: under the conditions named a form answers a
  next state with the values listed, and where a clause lists what it writes, nothing else changes. It rests on R323, R324, R326, R478,
  R325. -/
def Obligations.SafeMessageAndResetCommands : Prop :=
  (∀ (s : State) (chanH port3 : Bool) (frame m : List (BitVec 8)) (k : Nat), s.dev.sys.cdReset = false → (s.dev.safeFrame (if port3 then 3
    else 2) frame = true) → (netFrame frame).body = m → msgFormOk m = true → msgNat m 8 4 = s.dev.rd .SAF_MYID ∨ msgNat m 8 4 = 2 ^ 32 - 1
    → s.dev.msgSource m = some k → ((s.dev.rx chanH).sources.at {} k).first = none → ((s.dev.rx chanH).sources.at {} k).seq = none →
    ((s.dev.rx chanH).sources.at {} k).time = none → Does s (.safeMessage chanH frame port3)
    ({ blks := [.SAF], flds := [.CLINK_STAT_BLKD], parts := [.saf, .conv] } : Writes).raising fun e => (((e.rx chanH).sources.at {} k).seq
    = some (msgNat m 0xC 4)) ∧ ((e.rx chanH).sources.at {} k).first = some (m.take 32) ∧ (∀ f < 4, bitOf (Nat.land (msgNat m 0x18 2 % 16)
    (s.dev.rdAt .SAF_MSFN_FN k)) f = true → bitOf (e.latched chanH) f = true)) ∧
  (∀ (s : State) (chanH port3 : Bool) (frame : List (BitVec 8)), (s.dev.safeFrame (if port3 then 3 else 2) frame = false) → Does s
    (.safeMessage chanH frame port3) {} fun e => e.saf = s.dev.saf) ∧
  (∀ (s : State) (chanH : Bool) (src : Fin 8), ((s.dev.rx chanH).sources.at {} src.val).first.isSome = true → Does s
    (.safeMessagePairTimeout chanH src) { flds := [.SAF_MSCNT_ONE], parts := [.saf] } fun e => ((e.rx chanH).sources.at {} src.val).first =
    none ∧ e.rd .SAF_MSCNT_ONE = satAdd 0xFFFF (s.dev.rd .SAF_MSCNT_ONE) 1) ∧
  (∀ (s : State) (chanH : Bool) (src : Fin 8), s.dev.onAt .SAF_MSFN_EN src.val = true → Does s (.safeMessageTimeout chanH src)
    ({ blks := [.SAF], flds := [.CLINK_STAT_BLKD], parts := [.saf, .conv] } : Writes).raising fun e => ((e.rx chanH).sources.at {}
    src.val).clear = false ∧ e.rd .SAF_MSCNT_TMO = satAdd 0xFFFF (s.dev.rd .SAF_MSCNT_TMO) 1 ∧ (∀ f < 4, bitOf (s.dev.rdAt .SAF_MSFN_FN
    src.val) f = true → bitOf (e.latched chanH) f = true)) ∧
  (∀ (s : State) (time : Nat), Does s (.safeMessageSend time) { parts := [.saf, .ethn] } fun e => e.saf =
    { s.dev.saf with txMsg := s.dev.hMessage time, txSeq := (s.dev.saf.txSeq + 1) % 2 ^ 32 } ∧ (s.dev.sys.cdReset = true → e.ethn =
    s.dev.ethn) ∧ (s.dev.sys.cdReset = false → ∃ dst, ∀ p < 4, 2 ≤ p → s.dev.queueUsed p 7 = true → e.ethn.tx.at [] (8 * p + 7) =
    s.dev.ethn.tx.at [] (8 * p + 7) ++ [etherFrame dst (s.dev.portMac p) (s.dev.queueTag p 7) (s.dev.rd .SAF_MSGCFG_ETYPE) (s.dev.hMessage
    time)])) ∧
  (∀ (s : State) (ms lowBefore fault : Nat), 100 ≤ lowBefore → s.dev.saf.resetRun = none → 300 ≤ ms → ms ≤ 3000 → s.dev.resetRefusal fault
    = 0 → Does s (.srstPulse ms lowBefore fault) { parts := [.saf] } fun e => e.saf = { s.dev.saf with resetRun := some 0 }) ∧
  (∀ (s : State) (ms lowBefore fault : Nat), 100 ≤ lowBefore → s.dev.saf.resetRun = none → 300 ≤ ms → ms ≤ 3000 → s.dev.resetRefusal fault
    ≠ 0 → Does s (.srstPulse ms lowBefore fault) ({ flds := [.SAF_RSTAT_DONE, .SAF_RSTAT_CODE], parts := [.saf] } : Writes).raising fun e
    => e.on .SAF_RSTAT_DONE = true ∧ e.rd .SAF_RSTAT_CODE = s.dev.resetRefusal fault ∧ s.dev.raised e 400) ∧
  (∀ (s : State) (results : List Nat), s.dev.saf.resetRun = some 0 → (((List.range 8).all fun n => !s.dev.onAt .SAF_SOCFG_EN n || decide
    (results.getD n 0 = 1)) = true) → Does s (.resetProcedureComplete results) ({ blks := [.SAF], parts := [.saf] } : Writes).raising fun e
    => e.saf.latchH = 0 ∧ e.saf.latchP = 0 ∧ e.locked true = false ∧ e.locked false = false ∧ e.on .SAF_STAT_INH = false ∧ e.on
    .SAF_FLTH_VALID = false ∧ e.on .SAF_FLTP_VALID = false ∧ e.saf.partLockH = none ∧ e.saf.partLockP = none ∧ e.on .SAF_RSTAT_DONE = true
    ∧ e.rd .SAF_RSTAT_CODE = 0 ∧ e.saf.resetRun = none ∧ s.dev.raised e 399) ∧
  (∀ (s : State) (results : List Nat) (code : Nat), s.dev.saf.resetRun = some (code + 1) → Does s (.resetProcedureComplete results)
    ({ flds := [.SAF_RSTAT_DONE, .SAF_RSTAT_CODE], parts := [.saf] } : Writes).raising fun e => e.saf.resetRun = none ∧ e.on
    .SAF_RSTAT_DONE = true ∧ e.rd .SAF_RSTAT_CODE = code + 1 ∧ s.dev.raised e 400) ∧
  (∀ (s : State), s.dev.saf.partLockH = none → s.dev.saf.partLockP = none → s.dev.saf.partSfB = false → s.dev.on .ECC_STAT_STF = false →
    s.dev.on .COOL_STAT_DIAGF = false → s.dev.resetRefusal 0 = 0 → s.dev.on .SAF_STAT_CFGOK = true → Does s (.startupLockoutClear true)
    ({ blks := [.SAF], parts := [.sys, .saf] } : Writes).raising fun e => e.sys.selfTestPassed = true ∧ e.locked true = false ∧ e.on
    .SAF_STAT_INH = false ∧ e.saf.latchH = 0 ∧ e.saf.pClear = true)

/-- What arming, disarming, killing and the DLL do to the gate outputs: PWM_ARM, PWM_DISARM, PWM_KILL, DLL_LOCK_LOSS and LEG_SEAL_SET
  complete as the clauses say: under the conditions named a form answers a next state with the values listed, and where a clause lists what
  it writes, nothing else changes. It rests on R118, R121, R125, R130, R131. -/
def Obligations.GateOutputCommands : Prop :=
  (∀ (s : State), s.dev.sys.cdReset = false → s.dev.on .PWM_STAT_DLLLK = true → s.dev.on .GWY_BENCH_ON = false → s.dev.on .TWIN_STAT_DFLT =
    false → Does s (.pwmArm .ferryman) ({ flds := [.PWM_CTRL_ARM] } : Writes).access fun e => e.on .PWM_CTRL_ARM = true ∧ e.resp =
    { error := false, data := 0 }) ∧
  (∀ (s : State), s.dev.sys.cdReset = false → Does s (.pwmDisarm none) { flds := [.PWM_CTRL_ARM], parts := [.conv] } fun e => e.on
    .PWM_CTRL_ARM = false ∧ (∀ n < 48, ((e.leg (n / 2)).out (decide (n % 2 = 0))).gate = (((s.dev.leg (n / 2)).out (decide (n % 2 =
    0))).gate && ((s.dev.leg (n / 2)).out (decide (n % 2 = 0))).on && (((s.dev.leg (n / 2)).out (decide (n % 2 = 0))).delayed ||
    s.dev.legSched (n / 2) (decide (n % 2 = 0)))))) ∧
  (∀ (s : State), s.dev.sys.cdReset = false → Does s (.pwmDisarm (some .ferryman)) ({ flds := [.PWM_CTRL_ARM], parts := [.conv] } :
    Writes).access fun e => e.on .PWM_CTRL_ARM = false ∧ (∀ n < 48, ((e.leg (n / 2)).out (decide (n % 2 = 0))).gate = (((s.dev.leg (n /
    2)).out (decide (n % 2 = 0))).gate && ((s.dev.leg (n / 2)).out (decide (n % 2 = 0))).on && (((s.dev.leg (n / 2)).out (decide (n % 2 =
    0))).delayed || s.dev.legSched (n / 2) (decide (n % 2 = 0)))))) ∧
  (∀ (s : State), s.dev.sys.cdReset = false → Does s (.pwmKill .ferryman) ({ flds := [.PWM_CTRL_ARM], parts := [.conv] } : Writes).access
    fun e => e.on .PWM_CTRL_ARM = false ∧ (∀ m < 24, (e.leg m).hi.gate = false ∧ (e.leg m).lo.gate = false)) ∧
  (∀ (s : State), s.dev.sys.cdReset = false → s.dev.on .PWM_STAT_DLLLK = true → Does s (.dllLockLoss)
    ({ flds := [.PWM_STAT_DLLLK, .PWM_STAT_DLLF] } : Writes).raising fun e => e.on .PWM_STAT_DLLLK = false ∧ e.on .PWM_STAT_DLLF = true ∧
    s.dev.raised e 112) ∧
  (∀ (s : State), s.dev.sys.cdReset = false → s.dev.on .LEG_SEAL_SET = false → s.dev.on .SAF_STAT_CFGOK = false → Does s (.legSealSet)
    { flds := [.LEG_FLOOR_FLOOR, .LEG_FLOOR_TRIPM, .LEG_SEAL_SET] } fun e => e.on .LEG_SEAL_SET = true ∧ (∀ m < 24, e.rdAt .LEG_FLOOR_FLOOR
    m = 400 ∧ e.rdAt .LEG_FLOOR_TRIPM m = 0)) ∧
  (∀ (s : State) (k : Scfg) (v : Nat), s.dev.sys.cdReset = false → s.dev.on .LEG_SEAL_SET = false → s.dev.on .SAF_STAT_CFGOK = true →
    s.dev.saf.cfgPart = some k → k.fields = [(.LEG_FLOOR_FLOOR, 23, v)] → Does s (.legSealSet)
    { flds := [.LEG_FLOOR_FLOOR, .LEG_FLOOR_TRIPM, .LEG_SEAL_SET] } fun e => e.on .LEG_SEAL_SET = true ∧ e.rdAt .LEG_FLOOR_FLOOR 23 = min
    4000 v ∧ e.rdAt .LEG_FLOOR_FLOOR 0 = 400)

/-- What enters a leg into its faulted state, and what it leaves it by: GOK_CHANGE, LEG_OFF_CONFIRM_TIMEOUT, LEG_ON_CHECK_TIMEOUT,
  FLT_ASSERT, LEG_TRIP_WIRE_CHANGE and LEG_CAUSE_CLEAR complete as the clauses say: under the conditions named a form answers a next state
  with the values listed, and where a clause lists what it writes, nothing else changes: both outputs off, the cause, the count and the
  event. It rests on R126, R127, R131, R132. -/
def Obligations.LegFaultCommands : Prop :=
  (∀ (s : State) (n : Fin 48) (level : Bool), Does s (.gokChange n level false) { flds := [.PWM_GOKLO, .PWM_GOKHI] } fun e => e.gok n.val =
    level ∧ (∀ k < 48, k ≠ n.val → e.gok k = s.dev.gok k)) ∧
  (∀ (s : State) (n : Fin 48), s.dev.sys.cdReset = false → Does s (.gokChange n true true)
    { flds := [.PWM_GOKLO, .PWM_GOKHI], parts := [.conv] } fun e => e.gok n.val = true ∧ bitOf e.conv.gok n.val = true ∧ (s.dev.pw n.val =
    false → ((e.leg (n.val / 2)).out (decide (n.val % 2 = 0))).conf = true)) ∧
  (∀ (s : State) (n : Fin 48), s.dev.sys.cdReset = false → s.dev.legLive (n.val / 2) = true → s.dev.pw n.val = false → ((s.dev.leg (n.val /
    2)).out (decide (n.val % 2 = 0))).conf = true → Does s (.gokChange n false true)
    ({ blks := [.LEG], flds := [.PWM_GOKLO, .PWM_GOKHI], parts := [.conv] } : Writes).raising fun e => e.gok n.val = false ∧ bitOf
    e.conv.gok n.val = false ∧ e.legState (n.val / 2) = 2 ∧ e.onAt .LEG_STAT_UNEXP (n.val / 2) = true ∧ (e.leg (n.val / 2)).hi.on = false ∧
    (e.leg (n.val / 2)).lo.on = false ∧ e.rdAt .LEG_CNT_FAULTS (n.val / 2) = satAdd 0xFFFF (s.dev.rdAt .LEG_CNT_FAULTS (n.val / 2)) 1 ∧
    s.dev.raised e (64 + (n.val / 2))) ∧
  (∀ (s : State) (n : Fin 48), s.dev.sys.cdReset = false → s.dev.legLive (n.val / 2) = true → ((s.dev.leg (n.val / 2)).out (decide (n.val %
    2 = 0))).waitOff = true → Does s (.legOffConfirmTimeout n) ({ blks := [.LEG], parts := [.conv] } : Writes).raising fun e => e.legState
    (n.val / 2) = 2 ∧ e.onAt .LEG_STAT_TMO (n.val / 2) = true ∧ (e.leg (n.val / 2)).hi.on = false ∧ (e.leg (n.val / 2)).lo.on = false ∧
    e.rdAt .LEG_CNT_FAULTS (n.val / 2) = satAdd 0xFFFF (s.dev.rdAt .LEG_CNT_FAULTS (n.val / 2)) 1 ∧ s.dev.raised e (64 + (n.val / 2))) ∧
  (∀ (s : State) (n : Fin 48), s.dev.sys.cdReset = false → s.dev.legLive (n.val / 2) = true → ((s.dev.leg (n.val / 2)).out (decide (n.val %
    2 = 0))).waitOn = true → Does s (.legOnCheckTimeout n) ({ blks := [.LEG], parts := [.conv] } : Writes).raising fun e => e.legState
    (n.val / 2) = 2 ∧ e.onAt .LEG_STAT_ON (n.val / 2) = true ∧ (e.leg (n.val / 2)).hi.on = false ∧ (e.leg (n.val / 2)).lo.on = false ∧
    e.rdAt .LEG_CNT_FAULTS (n.val / 2) = satAdd 0xFFFF (s.dev.rdAt .LEG_CNT_FAULTS (n.val / 2)) 1 ∧ s.dev.raised e (64 + (n.val / 2))) ∧
  (∀ (s : State) (leg : Fin 24), s.dev.sys.cdReset = false → s.dev.legLive leg.val = true → Does s (.fltAssert leg true)
    ({ blks := [.LEG], flds := [.PWM_FLT], parts := [.conv] } : Writes).raising fun e => e.flt leg.val = true ∧ e.legState leg.val = 2 ∧
    e.onAt .LEG_STAT_FLT leg.val = true ∧ (e.leg leg.val).hi.on = false ∧ (e.leg leg.val).lo.on = false ∧ e.rdAt .LEG_CNT_FAULTS leg.val =
    satAdd 0xFFFF (s.dev.rdAt .LEG_CNT_FAULTS leg.val) 1 ∧ s.dev.raised e (64 + leg.val)) ∧
  (∀ (s : State) (leg : Fin 24), s.dev.sys.cdReset = false → s.dev.legState leg.val = 2 → s.dev.legCaused leg.val = false → s.dev.tripWire
    leg.val = false → Does s (.fltAssert leg false) { flds := [.PWM_FLT, .LEG_STAT_STATE, .LEG_STAT_PEND, .LEG_ACTC_RUN] } fun e => e.flt
    leg.val = false ∧ e.legState leg.val = 0 ∧ e.onAt .LEG_STAT_PEND leg.val = false) ∧
  (∀ (s : State) (leg : Fin 24) (asserted : Bool), s.dev.sys.cdReset = true → Does s (.fltAssert leg asserted) { flds := [.PWM_FLT] } fun e
    => e.flt leg.val = asserted ∧ (∀ m < 24, m ≠ leg.val → e.flt m = s.dev.flt m)) ∧
  (∀ (s : State) (leg : Fin 24), s.dev.sys.cdReset = false → s.dev.tripWire leg.val = true → (s.dev.leg leg.val).seen = false → s.dev.onAt
    .LEG_FLOOR_TRIPM leg.val = false → s.dev.legLive leg.val = true → Does s (.legTripWireChange leg)
    ({ blks := [.LEG], flds := [.CLINK_STAT_BLKD], parts := [.conv] } : Writes).raising fun e => (e.leg leg.val).seen = true ∧ e.legState
    leg.val = 2 ∧ e.onAt .LEG_STAT_TRIPL leg.val = true ∧ (e.leg leg.val).hi.on = false ∧ (e.leg leg.val).lo.on = false ∧ e.rdAt
    .LEG_CNT_FAULTS leg.val = satAdd 0xFFFF (s.dev.rdAt .LEG_CNT_FAULTS leg.val) 1 ∧ s.dev.raised e (64 + leg.val) ∧ (∀ l < 32, bitOf
    (s.dev.rdAt .CLINK_TRMSK l) leg.val = true → e.onAt .CLINK_STAT_BLKD l = true)) ∧
  (∀ (s : State) (leg : Fin 24), s.dev.sys.cdReset = false → s.dev.tripWire leg.val = false → (s.dev.leg leg.val).seen = true →
    s.dev.legState leg.val ≠ 2 → Does s (.legTripWireChange leg) { parts := [.conv] } fun e => (e.leg leg.val).seen = false ∧ (e.leg
    leg.val).hi = (s.dev.leg leg.val).hi ∧ (e.leg leg.val).lo = (s.dev.leg leg.val).lo) ∧
  (∀ (s : State) (leg : Fin 24) (mask : BitVec 32), s.dev.sys.cdReset = false → s.dev.on .LEG_SEAL_SET = true → Does s (.legCauseClear
    .ferryman leg mask) ({ blks := [.LEG] } : Writes).access fun e => (bitOf mask.toNat 15 = true → e.onAt .LEG_STAT_BADW leg.val = false)
    ∧ (bitOf mask.toNat 14 = true → e.onAt .LEG_STAT_OVWR leg.val = false) ∧ (bitOf mask.toNat 4 = true → e.onAt .LEG_STAT_ON leg.val =
    false) ∧ (bitOf mask.toNat 6 = true → s.dev.flt leg.val = false → e.onAt .LEG_STAT_FLT leg.val = false) ∧ (bitOf mask.toNat 2 = true →
    s.dev.tripWire leg.val = false → e.onAt .LEG_STAT_TRIPL leg.val = false) ∧ (bitOf mask.toNat 3 = true → s.dev.gokLow (2 * leg.val) =
    false → s.dev.gokLow (2 * leg.val + 1) = false → e.onAt .LEG_STAT_TMO leg.val = false) ∧ (bitOf mask.toNat 5 = true → s.dev.gokLow (2 *
    leg.val) = false → s.dev.gokLow (2 * leg.val + 1) = false → e.onAt .LEG_STAT_UNEXP leg.val = false))

/-- What starts a leg, loads its settings and moves its outputs: LEG_START, LEG_UPDATE_POINT, LEG_EDGE, LEG_TURN_ON and
  LEG_DELAYED_TURN_OFF complete as the clauses say: under the conditions named a form answers a next state with the values listed, and
  where a clause lists what it writes, nothing else changes. It rests on R119, R120, R123, R124, R125, R126, R128, R129. -/
def Obligations.LegPulseCommands : Prop :=
  (∀ (s : State) (leg : Fin 24), s.dev.sys.cdReset = false → s.dev.legState leg.val = 0 → s.dev.onAt .LEG_STAT_PEND leg.val = true →
    s.dev.shadowRun leg.val = true → s.dev.rdAt .LEG_CFG_CSRC leg.val = leg.val → s.dev.shadowValid leg.val = true → s.dev.flt leg.val =
    false → s.dev.tripWire leg.val = false → Does s (.legStart leg)
    { flds := [.LEG_ACTA, .LEG_ACTB, .LEG_ACTD_DTR, .LEG_ACTD_DTF, .LEG_ACTP, .LEG_ACTC_MODE, .LEG_ACTC_RUN, .LEG_STAT_PEND, .LEG_STAT_STATE], parts := [.conv] }
    fun e => e.legState leg.val = 1 ∧ e.rdAt .LEG_ACTA leg.val = bitsOf (s.dev.shadow leg.val 0) 28 0 ∧ e.rdAt .LEG_ACTB leg.val = bitsOf
    (s.dev.shadow leg.val 0) 60 32 ∧ e.rdAt .LEG_ACTD_DTR leg.val = bitsOf (s.dev.shadow leg.val 1) 11 0 ∧ e.rdAt .LEG_ACTD_DTF leg.val =
    bitsOf (s.dev.shadow leg.val 1) 27 16 ∧ e.rdAt .LEG_ACTP leg.val = bitsOf (s.dev.shadow leg.val 2) 23 0 ∧ e.rdAt .LEG_ACTC_MODE leg.val
    = bitsOf (s.dev.shadow leg.val 3) 2 1 ∧ e.onAt .LEG_STAT_PEND leg.val = false ∧ e.onAt .LEG_ACTC_RUN leg.val = true ∧ (e.leg
    leg.val).hi.on = false ∧ (e.leg leg.val).lo.on = false) ∧
  (∀ (s : State) (leg : Fin 24) (mid : Bool) (onFor : Nat), s.dev.sys.cdReset = false → s.dev.legState leg.val = 1 → mid = false ∨
    (s.dev.onAt .LEG_CFG_UPD leg.val = true ∧ s.dev.onAt .LEG_CFG_CMODE leg.val = true) → s.dev.rdAt .LEG_CFG_CSRC leg.val = leg.val →
    s.dev.onAt .LEG_STAT_PEND leg.val = true → s.dev.shadowValid leg.val = true → s.dev.shadowRun leg.val = true → Does s (.legUpdatePoint
    leg mid onFor)
    { flds := [.LEG_ACTA, .LEG_ACTB, .LEG_ACTD_DTR, .LEG_ACTD_DTF, .LEG_ACTP, .LEG_ACTC_MODE, .LEG_ACTC_RUN, .LEG_STAT_PEND, .LEG_STAT_STATE], parts := [.conv] }
    fun e => e.legState leg.val = 1 ∧ e.rdAt .LEG_ACTA leg.val = bitsOf (s.dev.shadow leg.val 0) 28 0 ∧ e.rdAt .LEG_ACTB leg.val = bitsOf
    (s.dev.shadow leg.val 0) 60 32 ∧ e.rdAt .LEG_ACTD_DTR leg.val = bitsOf (s.dev.shadow leg.val 1) 11 0 ∧ e.rdAt .LEG_ACTD_DTF leg.val =
    bitsOf (s.dev.shadow leg.val 1) 27 16 ∧ e.rdAt .LEG_ACTP leg.val = bitsOf (s.dev.shadow leg.val 2) 23 0 ∧ e.rdAt .LEG_ACTC_MODE leg.val
    = bitsOf (s.dev.shadow leg.val 3) 2 1 ∧ e.onAt .LEG_STAT_PEND leg.val = false) ∧
  (∀ (s : State) (leg : Fin 24) (onFor : Nat), s.dev.sys.cdReset = false → s.dev.legState leg.val = 1 → s.dev.rdAt .LEG_CFG_CSRC leg.val =
    leg.val → s.dev.onAt .LEG_STAT_PEND leg.val = true → s.dev.shadowValid leg.val = false → s.dev.onAt .LEG_ACTC_RUN leg.val = true →
    (s.dev.leg leg.val).tripHold = false → Does s (.legUpdatePoint leg false onFor)
    ({ flds := [.LEG_STAT_PEND, .LEG_STAT_BADW], parts := [.conv] } : Writes).raising fun e => (e.leg leg.val).shadow = (s.dev.leg
    leg.val).shadow ∧ e.onAt .LEG_STAT_PEND leg.val = false ∧ e.onAt .LEG_STAT_BADW leg.val = true ∧ s.dev.raised e (88 + leg.val)) ∧
  (∀ (s : State) (leg : Fin 24) (side : Bool) (onFor : Nat), s.dev.sys.cdReset = false → s.dev.legState leg.val = 1 → s.dev.rdAt
    .LEG_ACTC_MODE leg.val = 0 → (s.dev.leg leg.val).tripHold = false → s.dev.tripWire leg.val = false → (s.dev.leg leg.val).s = !side →
    s.dev.legNext leg.val = true → ((s.dev.leg leg.val).out (!side)).on = false ∨ (((s.dev.leg leg.val).out (!side)).delayed = false ∧
    s.dev.rdAt .LEG_CFG_MINPW leg.val ≤ onFor) → ((s.dev.leg leg.val).out side).on = false → Does s (.legEdge leg side onFor)
    { parts := [.conv] } fun e => (e.leg leg.val).s = side ∧ (e.leg leg.val).turnOn = some side ∧ ((e.leg leg.val).out (!side)).on = false
    ∧ ((e.leg leg.val).out side).on = false) ∧
  (∀ (s : State) (leg : Fin 24) (after : Nat) (room : Option Nat) (high : Bool), s.dev.sys.cdReset = false → s.dev.legState leg.val = 1 →
    (s.dev.leg leg.val).turnOn = some high → (s.dev.leg leg.val).tripHold = false → s.dev.tripWire leg.val = false → ((s.dev.leg
    leg.val).out (!high)).on = false → ((s.dev.leg leg.val).out (!high)).conf = true → s.dev.deadTime leg.val high ≤ after → (∀ r ∈ room,
    s.dev.rdAt .LEG_CFG_MINPW leg.val ≤ r) → Does s (.legTurnOn leg after room) { parts := [.conv] } fun e => ((e.leg leg.val).out high).on
    = true ∧ (e.leg leg.val).turnOn = none ∧ ((e.leg leg.val).out high).gate = (((s.dev.leg leg.val).out high).gate || s.dev.on
    .PWM_CTRL_ARM)) ∧
  (∀ (s : State) (leg : Fin 24) (high : Bool), s.dev.sys.cdReset = false → s.dev.legState leg.val = 1 → ((s.dev.leg leg.val).out
    high).delayed = true → ((s.dev.leg leg.val).out high).on = true → Does s (.legDelayedTurnOff leg high) { parts := [.conv] } fun e =>
    ((e.leg leg.val).out high).on = false ∧ ((e.leg leg.val).out high).delayed = false)

/-- What cell-link commands do: CLINK_RUN, CELL_DOWNLINK_SEND, CELL_FRAME_RETURN, CLINK_BLOCK, CLINK_UNBLOCK and CELL_LINK_COMMA_LOCK
  complete as the clauses say: under the conditions named a form answers a next state with the values listed, and where a clause lists what
  it writes, nothing else changes. It rests on R138, R139, R140, R141, R142, R145. -/
def Obligations.CellLinkCommands : Prop :=
  (∀ (s : State) (link : Fin 32), s.dev.sys.cdReset = false → s.dev.mayConfigure .ferryman .cellLink link.val = true → s.dev.linkFits
    link.val (s.dev.rd .TIDE_PERIOD_ACT) (s.dev.rd .TIDE_OFFSET_ACT) = true → s.dev.onAt .CAP_CLS_HELD 21 = true → Does s (.clinkRun
    .ferryman link true) ({ flds := [.CLINK_CTRL_RUN, .CLINK_STAT_RUNNING] } : Writes).access fun e => e.onAt .CLINK_CTRL_RUN link.val =
    true ∧ e.onAt .CLINK_STAT_RUNNING link.val = true) ∧
  (∀ (s : State) (link : Fin 32), s.dev.sys.cdReset = false → s.dev.mayConfigure .ferryman .cellLink link.val = true → s.dev.linkFits
    link.val (s.dev.rd .TIDE_PERIOD_ACT) (s.dev.rd .TIDE_OFFSET_ACT) = false → s.dev.onAt .CLINK_STAT_RUNNING link.val = false → Does s
    (.clinkRun .ferryman link true) ({ flds := [.CLINK_CTRL_RUN, .CLINK_STAT_CFGE] } : Writes).access fun e => e.onAt .CLINK_CTRL_RUN
    link.val = true ∧ e.onAt .CLINK_STAT_CFGE link.val = true ∧ e.onAt .CLINK_STAT_RUNNING link.val = false) ∧
  (∀ (s : State) (link : Fin 32), s.dev.sys.cdReset = false → s.dev.mayConfigure .ferryman .cellLink link.val = true → Does s (.clinkRun
    .ferryman link false) ({ blks := [.CAP], flds := [.CLINK_CTRL_RUN, .CLINK_STAT_RUNNING], parts := [.conv] } : Writes).access fun e =>
    e.onAt .CLINK_CTRL_RUN link.val = false ∧ e.onAt .CLINK_STAT_RUNNING link.val = false ∧ (∀ p < 48, e.conv.reps.at 0 (48 * link.val + p)
    = 0)) ∧
  (∀ (s : State) (link : Fin 32), s.dev.sys.cdReset = false → s.dev.onAt .CLINK_STAT_RUNNING link.val = true → Does s (.cellDownlinkSend
    link) { parts := [.conv] } fun e => e.link link.val =
    { dseq := s.dev.tide % 15 + 1, sent := s.dev.downlinkChars link.val, await := true }) ∧
  (∀ (s : State) (link : Fin 32) (frame : List (BitVec 8)) (err : BitVec 8) (late : Bool) (rtt : Nat), s.dev.sys.cdReset = false →
    s.dev.onAt .CLINK_STAT_RUNNING link.val = true → s.dev.linkContentOk link.val frame = true → late = false → Does s (.cellFrameReturn
    link frame err late rtt) { flds := [.CLINK_RTT], parts := [.conv] } fun e => e.rdAt .CLINK_RTT link.val = rtt % 2 ^ 16 ∧ (e.link
    link.val).await = false ∧ (∀ p < 48, p < s.dev.rdAt .CLINK_CFG_NCELL link.val → bitsOf (leNat ((frame.drop (8 + 4 * p)).take 4)) 31 28
    = (s.dev.link link.val).dseq → e.conv.reps.at 0 (48 * link.val + p) = leNat ((frame.drop (8 + 4 * p)).take 4) + 1)) ∧
  (∀ (s : State) (link : Fin 32) (frame : List (BitVec 8)) (err : BitVec 8) (late : Bool) (rtt : Nat), s.dev.sys.cdReset = false →
    s.dev.onAt .CLINK_STAT_RUNNING link.val = true → s.dev.linkContentOk link.val frame = false → s.dev.onAt .CLINK_STAT_FAIL link.val =
    false → Does s (.cellFrameReturn link frame err late rtt)
    ({ flds := [.CLINK_ERR_BAD, .CLINK_ERR_POS, .CLINK_STAT_FAIL], parts := [.conv] } : Writes).raising fun e => e.rdAt .CLINK_ERR_BAD
    link.val = satAdd 0xFFF (s.dev.rdAt .CLINK_ERR_BAD link.val) 1 ∧ e.rdAt .CLINK_ERR_POS link.val = err.toNat ∧ e.onAt .CLINK_STAT_FAIL
    link.val = true ∧ (e.link link.val).await = false ∧ s.dev.raised e (128 + link.val)) ∧
  (∀ (s : State) (link : Fin 32), s.dev.sys.cdReset = false → Does s (.clinkBlock .ferryman link)
    ({ flds := [.CLINK_STAT_BLKD], parts := [.conv] } : Writes).access fun e => e.onAt .CLINK_STAT_BLKD link.val = true ∧ (e.link
    link.val).await = false) ∧
  (∀ (s : State) (link : Fin 32), s.dev.sys.cdReset = false → s.dev.linkCause link.val = false → Does s (.clinkUnblock .ferryman link)
    ({ flds := [.CLINK_STAT_BLKD] } : Writes).access fun e => e.onAt .CLINK_STAT_BLKD link.val = false) ∧
  (∀ (s : State) (link : Fin 32) (locked : Bool), s.dev.sys.cdReset = false → Does s (.cellLinkCommaLock link locked)
    { flds := [.CLINK_STAT_RXLK] } fun e => e.onAt .CLINK_STAT_RXLK link.val = locked)

/-- What crossings, samples, blanking and trips do to a comparator: COMPARATOR_CROSSING, COMPARATOR_SAMPLE, BLANKING_STROBE,
  BLANKING_WINDOW_CLOSE, WCMP_L2LAT_CLEAR, CHANNEL_H_COMPARATOR_TRIP and WCMP_SEAL_SET complete as the clauses say: under the conditions
  named a form answers a next state with the values listed, and where a clause lists what it writes, nothing else changes. It rests on
  R147, R150, R151, R152, R154, R155, R158, R164. -/
def Obligations.ComparatorCommands : Prop :=
  (∀ (s : State) (n : Fin 32) (v period : Nat), s.dev.rdAt .WCMP_CFG_MODE n.val = 1 → s.dev.cmpLive n.val = true → (s.dev.cmp n.val).held =
    0 → (s.dev.cmp n.val).frozen = 0 → Does s (.comparatorCrossing n v period)
    ({ blks := [.WCMP, .SAF], flds := [.CLINK_STAT_BLKD, .FM_CDCTL_WAKEP], parts := [.conv, .saf] } : Writes).raising fun e => e.cmpBits
    n.val = s.dev.cmpJudge n.val v) ∧
  (∀ (s : State) (n : Fin 32) (v period : Nat), s.dev.rdAt .WCMP_CFG_MODE n.val = 2 → s.dev.tide % 2 ^ s.dev.rdAt .WCMP_CFG_SAMPK n.val = 0
    → s.dev.cmpLive n.val = true → (s.dev.cmp n.val).held = 0 → (s.dev.cmp n.val).frozen = 0 → Does s (.comparatorSample n v period)
    ({ blks := [.WCMP, .SAF], flds := [.CLINK_STAT_BLKD, .FM_CDCTL_WAKEP], parts := [.conv, .saf] } : Writes).raising fun e => e.cmpBits
    n.val = s.dev.cmpJudge n.val v) ∧
  (∀ (s : State) (leg : Fin 24) (recent : BitVec 32), s.dev.sys.cdReset = false → bitsOf s.dev.conv.seenPw (2 * leg.val + 1) (2 * leg.val)
    = s.dev.pwLevels leg.val → Does s (.blankingStrobe leg recent) {} fun e => e.conv = s.dev.conv) ∧
  (∀ (s : State) (leg : Fin 24) (recent : BitVec 32), s.dev.sys.cdReset = false → bitsOf s.dev.conv.seenPw (2 * leg.val + 1) (2 * leg.val)
    ≠ s.dev.pwLevels leg.val → Does s (.blankingStrobe leg recent) { parts := [.conv] } fun e => (∀ n < 32, bitOf (s.dev.rdAt
    .WCMP_BLK_LEGS n) leg.val = true → s.dev.rdAt .WCMP_BLK_BLANK n ≠ 0 → s.dev.rdAt .WCMP_CFG_MODE n = 1 → bitOf recent.toNat n = false →
    (e.cmp n).window = true) ∧ (∀ n < 32, bitOf (s.dev.rdAt .WCMP_BLK_LEGS n) leg.val = false → e.cmp n = s.dev.cmp n)) ∧
  (∀ (s : State) (n : Fin 32), (s.dev.cmp n.val).window = true → Does s (.blankingWindowClose n) ({ parts := [.conv] } : Writes).raising
    fun e => e.cmp n.val =
    { s.dev.cmp n.val with window := false, bBelow := s.dev.onAt .WCMP_STAT_BELOW n.val, bAbove := s.dev.onAt .WCMP_STAT_ABOVE n.val } ∧
    ((s.dev.cmp n.val).bBelow ≠ s.dev.onAt .WCMP_STAT_BELOW n.val → s.dev.raised e (160 + n.val))) ∧
  (∀ (s : State) (n : Fin 32), s.dev.onAt .WCMP_STAT_L2 n.val = false → Does s (.wcmpL2latClear .ferryman n)
    ({ flds := [.WCMP_STAT_L2LAT] } : Writes).access fun e => e.onAt .WCMP_STAT_L2LAT n.val = false) ∧
  (∀ (s : State) (n : Fin 32), s.dev.onAt .WCMP_RT1_H1 n.val = true → s.dev.onAt .WCMP_STAT_BELOW n.val = true → s.dev.onAt
    .WCMP_STAT_ABOVE n.val = false → s.dev.onAt .WCMP_STAT_L2 n.val = false → s.dev.rdAt .WCMP_STAT_ABOVE n.val = 0 → s.dev.gridPhase n.val
    = none → Does s (.channelHComparatorTrip n) ({ blks := [.SAF], flds := [.CLINK_STAT_BLKD], parts := [.saf, .conv] } : Writes).raising
    fun e => bitOf e.saf.latchH 2 = true ∧ e.on .SAF_STAT_INH = true) ∧
  (∀ (s : State), s.dev.on .SAF_STAT_CFGOK = true → Does s (.wcmpSealSet) { flds := [.WCMP_SEAL_SET] } fun e => e.on .WCMP_SEAL_SET = true)

/-- What in-service checks, the power-up hold and the DAC readback do: COMPARATOR_CHECK, COMPARATOR_CHECK_END, POWER_UP_HOLD_EVALUATION,
  WCMP_FAULT_CLEAR, WCMP_READBACK_START and DAC_READBACK_END complete as the clauses say: under the conditions named a form answers a next
  state with the values listed, and where a clause lists what it writes, nothing else changes. It rests on R160, R161, R162, R163. -/
def Obligations.ComparatorCheckCommands : Prop :=
  (∀ (s : State) (n : Fin 32), s.dev.rdAt .WCMP_CFG_MODE n.val = 1 → s.dev.onAt .WCMP_CFG_CHKEN n.val = true → s.dev.tide % 2 ^ s.dev.rdAt
    .WCMP_CFG_CHKK n.val = 0 → (s.dev.cmp n.val).frozen = 0 → Does s (.comparatorCheck n) { parts := [.conv] } fun e => (e.cmp n.val =
    { s.dev.cmp n.val with frozen := if n.val < 16 ∧ (s.dev.cmp n.val).runs % 2 = 1 then 2 else 1, runs := (s.dev.cmp n.val).runs + 1 })) ∧
  (∀ (s : State) (n : Fin 32) (tie : BitVec 2) (v : Nat), (s.dev.cmp n.val).frozen = 1 → tieSkips (tieCode (s.dev.cmp n.val).rot)
    (s.dev.rdAt .WCMP_THR_LO n.val) = false → tieSkips (tieCode (s.dev.cmp n.val).rot) (s.dev.rdAt .WCMP_THR_HI n.val) = false → bitOf
    tie.toNat 0 = decide (s.dev.rdAt .WCMP_THR_LO n.val < tieCode (s.dev.cmp n.val).rot) → bitOf tie.toNat 1 = decide (s.dev.rdAt
    .WCMP_THR_HI n.val < tieCode (s.dev.cmp n.val).rot) → Does s (.comparatorCheckEnd n true false tie v)
    ({ blks := [.WCMP, .SAF], flds := [.CLINK_STAT_BLKD, .FM_CDCTL_WAKEP], parts := [.conv, .saf] } : Writes).raising fun e => (e.cmp
    n.val).frozen = 0 ∧ (e.cmp n.val).rot = ((s.dev.cmp n.val).rot + 1) % 3 ∧ e.rdAt .WCMP_CHKCNT_PASS n.val = satAdd 0xFFFF (s.dev.rdAt
    .WCMP_CHKCNT_PASS n.val) 1) ∧
  (∀ (s : State) (n : Fin 32) (tie : BitVec 2) (v : Nat), (s.dev.cmp n.val).frozen = 1 → tieSkips (tieCode (s.dev.cmp n.val).rot)
    (s.dev.rdAt .WCMP_THR_LO n.val) = false → bitOf tie.toNat 0 ≠ decide (s.dev.rdAt .WCMP_THR_LO n.val < tieCode (s.dev.cmp n.val).rot) →
    Does s (.comparatorCheckEnd n true false tie v)
    ({ blks := [.WCMP, .SAF], flds := [.CLINK_STAT_BLKD, .FM_CDCTL_WAKEP], parts := [.conv, .saf] } : Writes).raising fun e => (e.cmp
    n.val).frozen = 0 ∧ e.onAt .WCMP_STAT_CHKF n.val = true ∧ s.dev.raised e (192 + n.val) ∧ (s.dev.onAt .WCMP_CFG_PROT n.val = true →
    s.dev.faulted e true 0x12 n.val)) ∧
  (∀ (s : State) (n : Fin 32) (v : Nat), s.dev.rdAt .WCMP_CFG_MODE n.val = 1 → s.dev.cmpLive n.val = true → Does s (.powerUpHoldEvaluation
    n v) ({ blks := [.WCMP, .SAF], flds := [.CLINK_STAT_BLKD, .FM_CDCTL_WAKEP], parts := [.conv, .saf] } : Writes).raising fun e => (∀ k <
    3, bitOf (e.cmp n.val).held k = (bitOf (s.dev.cmpHeld n.val) k && !bitOf (s.dev.cmpClear n.val v) k)) ∧ e.onAt .WCMP_STAT_PUH n.val =
    decide ((e.cmp n.val).held ≠ 0)) ∧
  (∀ (s : State) (n : Fin 32) (mask : BitVec 32), bitOf mask.toNat 28 = true → s.dev.onAt .WCMP_STAT_CHKF n.val = false → s.dev.onAt
    .WCMP_STAT_RBF n.val = false → Does s (.wcmpFaultClear .ferryman n mask)
    ({ flds := [.WCMP_STAT_THRE, .WCMP_STAT_CHKF, .WCMP_STAT_RBF] } : Writes).access fun e => e.onAt .WCMP_STAT_THRE n.val = false) ∧
  (∀ (s : State) (n : Fin 32) (mask : BitVec 32), bitOf mask.toNat 29 = true → s.dev.onAt .WCMP_STAT_CHKF n.val = true → s.dev.onAt
    .WCMP_STAT_RBF n.val = false → s.dev.rdAt .WCMP_CFG_MODE n.val ≠ 0 → Does s (.wcmpFaultClear .ferryman n mask)
    ({ blks := [.WCMP, .SAF], flds := [.CLINK_STAT_BLKD, .FM_CDCTL_WAKEP], parts := [.conv, .saf] } : Writes).raising.access fun e =>
    e.onAt .WCMP_STAT_CHKF n.val = false ∧ (e.cmp n.val).held = cmpAll n.val ∧ e.onAt .WCMP_STAT_PUH n.val = true) ∧
  (∀ (s : State), s.dev.on .WCMP_RBCTL_BUSY = false → s.dev.on .GWY_BENCH_ON = true ∨ s.dev.recovery = true → (s.dev.cell .converter
    3).owner = some .ferryman → Does s (.wcmpReadbackStart (some .ferryman))
    ({ flds := [.WCMP_RBCTL_BUSY, .WCMP_RBCTL_REF, .WCMP_RBRES_DONE, .ADC_ADSTAT_RBK], parts := [.conv] } : Writes).access fun e =>
    e.conv.rbStart = false ∧ e.on .WCMP_RBCTL_BUSY = true ∧ e.on .WCMP_RBRES_DONE = false ∧ e.onAt .ADC_ADSTAT_RBK 3 = true) ∧
  (∀ (s : State), s.dev.on .WCMP_RBCTL_BUSY = false → (s.dev.on .GWY_BENCH_ON = false ∧ s.dev.recovery = false) ∨ (s.dev.cell .converter
    3).owner ≠ some .ferryman → Does s (.wcmpReadbackStart (some .ferryman)) ({ flds := [.WCMP_RBCTL_REF] } : Writes).access fun e => e.on
    .WCMP_RBCTL_REF = true) ∧
  (∀ (s : State), s.dev.readbackDue = true → Does s (.wcmpReadbackStart none)
    { flds := [.WCMP_RBCTL_BUSY, .WCMP_RBCTL_REF, .WCMP_RBRES_DONE, .ADC_ADSTAT_RBK], parts := [.conv] } fun e => e.conv.rbStart = true ∧
    e.on .WCMP_RBCTL_BUSY = true ∧ e.on .WCMP_RBRES_DONE = false ∧ e.onAt .ADC_ADSTAT_RBK 3 = true) ∧
  (∀ (s : State) (fails : List (Fin 128)), s.dev.on .WCMP_RBCTL_BUSY = true → Does s (.dacReadbackEnd fails)
    ({ blks := [.WCMP, .SAF], flds := [.CLINK_STAT_BLKD, .FM_CDCTL_WAKEP, .ADC_ADSTAT_RBK], parts := [.conv, .saf] } : Writes).raising fun
    e => e.on .WCMP_RBCTL_BUSY = false ∧ e.on .WCMP_RBRES_DONE = true ∧ e.onAt .ADC_ADSTAT_RBK 3 = false ∧ e.rd .WCMP_RBRES_NFAIL = min
    0xFF ((fails.map Fin.val).filter (s.dev.dacRead s.dev.conv.rbStart)).length ∧ e.rd .WCMP_RBRES_FIRST = ((fails.map Fin.val).filter
    (s.dev.dacRead s.dev.conv.rbStart)).headD 0 ∧ (∀ n < 32, (fails.any fun f => decide (f.val / 4 = n) && s.dev.dacRead s.dev.conv.rbStart
    f.val) = true → e.onAt .WCMP_STAT_RBF n = true ∧ s.dev.raised e (192 + n)))

/-- What a Tide edge, the alarm and the latched reads do: TIDE_EDGE, TIDE_ALARM, TIDE_ALARM_SET, TIDE_COUNT_READ and PTP_CAPTURE_READ
  complete as the clauses say: under the conditions named a form answers a next state with the values listed, and where a clause lists what
  it writes, nothing else changes. It rests on R32, R33, R51, R52. -/
def Obligations.TideCommands : Prop :=
  (∀ (s : State) (lateF : BitVec 48) (lateA : BitVec 64) (held : Bool), s.dev.tt.opened = true → s.dev.tide + 1 < 2 ^ 64 → s.dev.on
    .ADC_DMACFG_EN = false → Does s (.tideEdge lateF lateA held)
    ({ blks := [.TIDE, .WCMP, .SDF, .ADC, .NODE, .TWIN, .ETH, .MTR], parts := [.sys, .fm, .ethn, .tt, .vcs, .conv, .twin, .node, .pager, .met, .adc, .cus, .prog] }
    : Writes).raising fun e => e.tide = s.dev.tide + 1 ∧ e.rd .TIDE_HPIDX_IDX = (s.dev.tide + 1) % 4096 ∧ ((s.dev.tide + 1) % 4096 = 0 →
    e.on .TIDE_STAT_BND = true ∧ s.dev.raised e 6) ∧ (s.dev.sys.cdReset = false → e.tt.ended = [] ∧ e.tt.landed = false ∧ e.tt.nextOrder =
    [] ∧ e.prog.seen = s.dev.prog.pub)) ∧
  (∀ (s : State) (lateF : BitVec 48) (lateA : BitVec 64) (held : Bool), s.dev.tt.opened = false → s.dev.tide < 2 ^ 64 → s.dev.on
    .ADC_DMACFG_EN = false → Does s (.tideEdge lateF lateA held)
    ({ blks := [.TIDE, .WCMP, .SDF, .ADC, .NODE, .TWIN, .ETH, .MTR], parts := [.sys, .fm, .ethn, .tt, .vcs, .conv, .twin, .node, .pager, .met, .adc, .cus, .prog] }
    : Writes).raising fun e => e.tide = s.dev.tide ∧ e.tt.opened = true) ∧
  (∀ (s : State), s.dev.on .TIDE_STAT_ALMEN = true → s.dev.tide = s.dev.rd64 .TIDE_ALMLO .TIDE_ALMHI → (∀ k ∈ s.dev.tt.almAt, k <
    s.dev.tide) → Does s (.tideAlarm) ({ flds := [.TIDE_STAT_ALM, .TIDE_STAT_ALMEN] } : Writes).raising fun e => e.on .TIDE_STAT_ALM = true
    ∧ e.on .TIDE_STAT_ALMEN = false ∧ s.dev.raised e 5) ∧
  (∀ (s : State) (value : BitVec 32), Does s (.tideAlarmSet .ferryman true value)
    ({ flds := [.TIDE_ALMHI, .TIDE_STAT_ALMEN], parts := [.tt] } : Writes).access fun e => e.rd .TIDE_ALMHI = value.toNat ∧ e.on
    .TIDE_STAT_ALMEN = false ∧ e.tt = { s.dev.tt with almAt := some s.dev.tide }) ∧
  (∀ (s : State) (value : BitVec 32), Does s (.tideAlarmSet .ferryman false value)
    ({ flds := [.TIDE_ALMLO, .TIDE_STAT_ALMEN], parts := [.tt] } : Writes).access fun e => e.rd .TIDE_ALMLO = value.toNat ∧ e.on
    .TIDE_STAT_ALMEN = false ∧ e.tt = { s.dev.tt with almAt := some s.dev.tide }) ∧
  (∀ (s : State) (req : Requester), Does s (.tideCountRead req) ({ parts := [.lat] } : Writes).access fun e => e.resp =
    { error := false, data := s.dev.rd .TIDE_CNTLO } ∧ e.lat.tideHi.at 0 req.id = s.dev.rd .TIDE_CNTHI) ∧
  (∀ (s : State) (req : Requester), s.dev.tt.ptpNext = none → Does s (.ptpCaptureRead req) ({ parts := [.tt] } : Writes).access fun e =>
    e.resp = { error := false, data := s.dev.rd .TIDE_PTPS0 } ∧ e.tt = { s.dev.tt with captureHeld := true }) ∧
  (∀ (s : State) (req : Requester) (sec ns : Nat), s.dev.tt.ptpNext = some (sec, ns) → Does s (.ptpCaptureRead req)
    ({ flds := [.TIDE_PTPS0, .TIDE_PTPS1, .TIDE_PTPNS], parts := [.tt] } : Writes).access fun e => e.resp =
    { error := false, data := sec % 2 ^ 32 } ∧ e.rd .TIDE_PTPS0 = sec % 2 ^ 32 ∧ e.rd .TIDE_PTPS1 = sec / 2 ^ 32 ∧ e.rd .TIDE_PTPNS = ns ∧
    e.tt = { s.dev.tt with captureHeld := true, ptpNext := none })

/-- What the load, admission, activation and cancellation of a timetable do: TTB_LOAD, ADMISSION_END, TTB_CANCEL, TIMETABLE_ACTIVATION and
  TTB_CLEAR_TASK complete as the clauses say: under the conditions named a form answers a next state with the values listed, and where a
  clause lists what it writes, nothing else changes. It rests on R39, R41, R42, R43, R54. -/
def Obligations.TimetableCommands : Prop :=
  (∀ (s : State), s.dev.sys.cdReset = false → s.dev.tt.admitting = none → s.dev.tt.pending = none → Does s (.ttbLoad .ferryman)
    ({ flds := [.TTB_ADMSTAT_BUSY], parts := [.tt] } : Writes).access fun e => e.on .TTB_ADMSTAT_BUSY = true ∧ e.tt.admitting = some
    (s.dev.rd .TTB_ADDRLO * 64 + 2 ^ 32 * s.dev.rd .TTB_ADDRHI)) ∧
  (∀ (s : State), s.dev.sys.cdReset = false → s.dev.tt.pending.isSome = true → Does s (.ttbLoad .ferryman) ({ blks := [.TTB] } :
    Writes).raising.access fun e => e.rd .TTB_ADMSTAT_CODE = 0x0B ∧ e.tt = s.dev.tt ∧ s.dev.raised e 8) ∧
  (∀ (s : State) (twinHas : Bool) (a : Nat), s.dev.sys.cdReset = false → s.dev.tt.admitting = some a → s.dev.ttPlaced s.mem a (ttHeader
    s.mem a) = false → Does s (.admissionEnd twinHas) ({ blks := [.TTB], parts := [.tt] } : Writes).raising fun e => e.on .TTB_ADMSTAT_BUSY
    = false ∧ e.tt = { s.dev.tt with admitting := none } ∧ e.rd .TTB_ADMSTAT_CODE = 0x01 ∧ s.dev.raised e 8) ∧
  (∀ (s : State) (twinHas : Bool) (a : Nat) (x : Timetable), s.dev.sys.cdReset = false → s.dev.tt.admitting = some a → s.dev.paired = false
    → ((((s.dev.onTt fun t => { t with admitting := none }).flag .TTB_ADMSTAT_BUSY false).ttCheck s.mem a twinHas).toOption = some x) →
    ((x.tasks.all fun t => t.claims.isEmpty) = true) → s.dev.tide < 2 ^ 60 → Does s (.admissionEnd twinHas)
    ({ blks := [.TTB], flds := [.TIDE_PERIOD_PEND, .TIDE_OFFSET_PEND], parts := [.tt] } : Writes).raising fun e => e.on .TTB_ADMSTAT_BUSY =
    false ∧ e.tt.pending = some x ∧ e.tt.actAt = nextBoundary s.dev.tide ∧ e.rd64 .TTB_ACTATLO .TTB_ACTATHI = nextBoundary s.dev.tide ∧
    e.on .TTB_ADMSTAT_PEND = true ∧ e.rd .TTB_PENDID = x.ttid ∧ e.rd .TTB_ADMSTAT_CODE = 0 ∧ e.rd .TIDE_PERIOD_PEND = x.period ∧
    s.dev.raised e 8) ∧
  (∀ (s : State) (x : Timetable), s.dev.sys.cdReset = false → (∀ b ∈ s.dev.actBoundary, s.dev.tide + 2 < b) → s.dev.tt.pending = some x →
    Does s (.ttbCancel .ferryman)
    ({ blks := [.TTB, .LEG, .CLINK, .CAP], flds := [.TIDE_PERIOD_PEND, .TIDE_OFFSET_PEND], parts := [.tt, .sys, .conv] } : Writes).access
    fun e => e.tt.pending = none ∧ e.on .TTB_ADMSTAT_PEND = false ∧ e.rd .TTB_PENDID = 0 ∧ e.rd .TIDE_PERIOD_PEND = 0 ∧ e.rd
    .TIDE_OFFSET_PEND = 0 ∧ e.tt.active = s.dev.tt.active ∧ e.rd64 .TTB_ACTATLO .TTB_ACTATHI = s.dev.tt.lastAct) ∧
  (∀ (s : State) (k : Nat), s.dev.sys.cdReset = false → s.dev.actBoundary = some k → k ≤ s.dev.tide + 2 → Does s (.ttbCancel .ferryman) ({}
    : Writes).access fun e => e.tt = s.dev.tt) ∧
  (∀ (s : State) (x : Timetable), s.dev.sys.cdReset = false → s.dev.twinned = false → s.dev.tt.pending = some x → s.dev.tt.opened = true →
    s.dev.tide % 4096 = 0 → s.dev.tt.actAt ≤ s.dev.tide → Does s (.timetableActivation)
    ({ blks := [.TTB, .LEG, .CLINK, .CAP, .BERTH, .TIDE], flds := [.FM_ACTSEL], parts := [.tt, .sys, .conv] } : Writes).raising fun e =>
    e.tt.active = some { x with granted := [], moves := [] } ∧ e.tt.pending = none ∧ e.tt.acts = [] ∧ e.tt.lastAct = s.dev.tide ∧ e.rd
    .TTB_ACTID = x.ttid ∧ e.rd .TTB_PENDID = 0 ∧ e.on .TTB_ADMSTAT_PEND = false ∧ e.rd .TIDE_PERIOD_ACT = x.period ∧ e.rd .TIDE_OFFSET_ACT
    = x.offset ∧ e.tide = s.dev.tide ∧ s.dev.raised e 7) ∧
  (∀ (s : State) (task : Fin 512), s.dev.sys.cdReset = false → Does s (.ttbClearTask .ferryman task)
    ({ flds := [.TTB_TSK_CONSEC, .TTB_TSK_TOTAL, .TTB_USE_OVR, .TTB_USE_MAXUSE, .TTB_USE_LAST], parts := [.tt] } : Writes).access fun e =>
    e.rdAt .TTB_TSK_CONSEC task.val = 0 ∧ e.rdAt .TTB_TSK_TOTAL task.val = 0 ∧ e.rdAt .TTB_USE_MAXUSE task.val = 0 ∧ e.rdAt .TTB_USE_LAST
    task.val = 0 ∧ e.onAt .TTB_USE_OVR task.val = false ∧ (∀ k < 6, k ≠ task.val → e.rdAt .TTB_TSK_TOTAL k = s.dev.rdAt .TTB_TSK_TOTAL k))

/-- What dispatch, an overrun, the landing phase and taking outputs into effect do: TASK_DISPATCH, SEGMENT_OVERRUN, LANDING_PHASE_CLOSE and
  OUTPUT_TAKE_EFFECT complete as the clauses say: under the conditions named a form answers a next state with the values listed, and where
  a clause lists what it writes, nothing else changes. It rests on R19, R34, R37, R38, R48, R96. -/
def Obligations.FrameCommands : Prop :=
  (∀ (s : State) (n : Fin 9) (x : Task), s.dev.sys.cdReset = false → (s.dev.engine n.val).running = false → s.dev.joining = false → n.val =
    8 ∨ s.dev.onAt .CE_DBG_HALT n.val = false → s.dev.nextTask n.val = some x → s.dev.tide % 2 ^ x.rate = x.phase → Does s (.taskDispatch
    n) { blks := [.CE, .SE], parts := [.tt, .vcs] } fun e => (e.engine n.val).running = true ∧ (e.engine n.val).pc = x.entry ∧ (e.engine
    n.val).task = x.id ∧ (e.engine n.val).seg = 0 ∧ (e.engine n.val).budget = x.budget ∧ (e.engine n.val).g = [] ∧ (e.engine n.val).v = []
    ∧ (e.engine n.val).p = 0 ∧ (e.engine n.val).issued = false ∧ e.tt.nextOrder.at 0 n.val = x.order + 1) ∧
  (∀ (s : State) (n : Fin 9), s.dev.sys.cdReset = false → (s.dev.engine n.val).running = true → (s.dev.engine n.val).halted = false → Does
    s (.segmentOverrun n) ({ blks := [.TTB, .CE, .SE], parts := [.tt, .vcs, .sys] } : Writes).raising fun e => e.bit .TTB_MISS n.val = true
    ∧ e.rdAt .TTB_TSK_CONSEC (s.dev.engine n.val).task = satAdd 255 (s.dev.rdAt .TTB_TSK_CONSEC (s.dev.engine n.val).task) 1 ∧ e.rdAt
    .TTB_TSK_TOTAL (s.dev.engine n.val).task = satAdd 65535 (s.dev.rdAt .TTB_TSK_TOTAL (s.dev.engine n.val).task) 1 ∧ e.onAt .TTB_USE_OVR
    (s.dev.engine n.val).task = true ∧ e.rdAt .TTB_USE_LAST (s.dev.engine n.val).task = (s.dev.engine n.val).budget ∧ (e.engine
    n.val).running = false ∧ (e.tt.acts.at {} (s.dev.engine n.val).task).abandoned = true ∧ (e.tt.acts.at {} (s.dev.engine
    n.val).task).staged = [] ∧ s.dev.raised e (16 + n.val)) ∧
  (∀ (s : State), s.dev.sys.cdReset = false → s.dev.tt.landed = false → s.dev.tt.opened = true → s.dev.tt.endedStores = [] → Does s
    (.landingPhaseClose) { flds := [.TWIN_DGSTLO, .TWIN_DGSTHI], parts := [.tt, .twin] } fun e => e.tt =
    { s.dev.tt with landed := true, outSet := s.dev.tt.ended } ∧ e.twin.dgstFrame = s.dev.tide) ∧
  (∀ (s : State) (x : LineByte), s.dev.sys.cdReset = false → s.dev.tt.landed = false → s.dev.tt.opened = true → s.dev.tt.endedStores = [x]
    → (s.dev.pager.lines.at {} x.node).res = true → (s.dev.pager.lines.at {} x.node).dmg = false → Completes s (.landingPhaseClose) fun t
    => (t.dev.tt.landed = true) ∧ (memByte t.mem ((s.dev.pager.lines.at {} x.node).addr x.off) = x.val) ∧ (∀ a, a ≠ (s.dev.pager.lines.at
    {} x.node).addr x.off → memByte t.mem a = memByte s.mem a) ∧ (bitOf (t.dev.pager.lines.at {} x.node).dirty (x.off / 32) = true)) ∧
  (∀ (s : State) (o : OutItem), s.dev.sys.cdReset = false → s.dev.tt.outSet = [o] → o.cls = 3 → Does s (.outputTakeEffect)
    { parts := [.conv, .tt] } fun e => e.conv.cmds.at 0 o.item = o.value.toNat % 2 ^ 16 ∧ e.tt.outSet = [] ∧ e.conv.legs = s.dev.conv.legs) ∧
  (∀ (s : State) (o : OutItem), s.dev.sys.cdReset = false → s.dev.tt.outSet = [o] → o.cls = 8 → o.item < 24 → Does s (.outputTakeEffect)
    { flds := [.LEG_STAT_OVWR, .LEG_CNT_OVERWR, .LEG_STAT_PEND], parts := [.conv, .tt] } fun e => (s.dev.onAt .LEG_STAT_PEND o.item = true
    → e.onAt .LEG_STAT_OVWR o.item = true) ∧ e.onAt .LEG_STAT_PEND o.item = true ∧ e.shadow o.item o.word = o.value.toNat ∧ e.tt.outSet =
    [])

/-- What the resets of the domains do: CONTROL_DOMAIN_RESET: every field of the control blocks but the levels of the GOK and FLT balls
  takes its reset value, no requester of the control die and no rank 3 to 6 on a leg holds a claim, engines, tasks, programs, node table,
  pager and links start anew, the SRAM of the control die reads as SRAM without contents (log entry 3), every other byte keeps, DRAM enters
  self-refresh. SELF_REFRESH_TIMEOUT: DRAM is lost, else nothing. SUPERVISOR_FABRIC_RESET and POWER_DOMAIN_RESET: the fields of their
  blocks take their reset values but for those that the fabric keeps, every claim is released, Ferryman starts at the boot ROM, its SRAM is
  lost too, on a power-domain reset DRAM also; the log, the calendar and custody keep. FERRYMAN_DOMAIN_RESET: Ferryman starts at the boot
  ROM, its claims end, its SRAM is lost, nothing else changes. RESET_PIN_LONG_HOLD leaves a power-domain reset pending.
  LAST_CROSSING_SAVE_COMPLETE commits the snapshot to the other slot and clears the marker; a failed check keeps the marker; the reset that
  waited takes place. All of them complete. It rests on R14, R16, R17, R288, R472, R473. -/
def Obligations.ResetCommands : Prop :=
  (∀ (s : State) (cause : CdCause), Completes s (.controlDomainReset cause) fun t => (t.dev.sys.cdReset = true) ∧ (t.dev.sys.cdResets = 0
    :: s.dev.sys.cdResets) ∧ (t.dev.sys.csFailed = decide (cause = .csLink)) ∧ (t.dev.rd .FM_RSTCAUSE_KIND = (if cause = .twinResync then 6
    else 5)) ∧ ((∀ f i, f.blk ∈ controlBlks → f ∉ [.PWM_GOKLO, .PWM_GOKHI, .PWM_FLT] → t.dev.rdAt f i = f.resetValue i)) ∧ ((∀ f i, f ∈
    [.PWM_GOKLO, .PWM_GOKHI, .PWM_FLT] → t.dev.rdAt f i = s.dev.rdAt f i)) ∧ ((s.dev.sys.cdReset = false → t.dev.sys.selfRefresh =
    .entering)) ∧ (t.dev.tt.active = none) ∧ (t.dev.tt.pending = none) ∧ ((∀ n, n ≠ 10 → t.dev.engine n = {})) ∧ (t.dev.engine 10 =
    s.dev.engine 10) ∧ (t.dev.vcs.ferry = s.dev.vcs.ferry) ∧ (t.dev.node = {}) ∧ (t.dev.pager = {}) ∧ (t.dev.prog = {}) ∧ (t.dev.conv.legs
    = []) ∧ (t.dev.conv.links = []) ∧ (t.dev.sys.dryPassed = false) ∧ ((∀ r n, ((t.dev.cell r n).owner.map Requester.onControlDie) ≠ some
    true)) ∧ ((∀ n q, (t.dev.cell .leg n).owner = some q → q.rank < 3)) ∧ (t.dev.cus.ring = s.dev.cus.ring) ∧ (t.dev.fm.log = s.dev.fm.log)
    ∧ ((∀ a, (((0x1000000000 ≤ a ∧ a < 0x1000240000) ∨ (berthSram ≤ a ∧ a < berthSram + 0x800000) ∨ (translationTable ≤ a ∧ a <
    translationTable + 0x100000)) → memByte t.mem a = 0) ∧ (¬((0x1000000000 ≤ a ∧ a < 0x1000240000) ∨ (berthSram ≤ a ∧ a < berthSram +
    0x800000) ∨ (translationTable ≤ a ∧ a < translationTable + 0x100000)) → memByte t.mem a = memByte s.mem a)))) ∧
  (∀ (s : State), s.dev.sys.selfRefresh = .entering → Completes s (.selfRefreshTimeout) fun t => (t.dev.sys =
    { s.dev.sys with selfRefresh := .failed, dramLost := true, dramLosses := s.dev.sys.dramLosses + 1 }) ∧ (s.dev.frame t.dev
    { parts := [.sys] }) ∧ ((∀ a, a < s.dev.dramEnd → memByte t.mem a = 0)) ∧ ((∀ a, s.dev.dramEnd ≤ a → memByte t.mem a = memByte s.mem
    a))) ∧
  (∀ (s : State), s.dev.sys.selfRefresh ≠ .entering → Completes s (.selfRefreshTimeout) fun t => (t.dev = s.dev) ∧ (t.mem = s.mem)) ∧
  (∀ (s : State) (cause : SfCause) (vin : Bool), Completes s (.supervisorFabricReset cause vin) fun t => (t.dev.rd .FM_RSTCAUSE_KIND =
    (match s.dev.sys.sfPending.getD cause with | .brownOut => 2 | .resetPin => 3)) ∧ (t.dev.sys.cdReset = true) ∧ (t.dev.sys.claimsOpen =
    false) ∧ (t.dev.sys.loaded = false) ∧ (t.dev.tide = 0) ∧ (t.dev.tt.opened = false) ∧ (t.dev.tt.active = none) ∧ ((∀ f i, f.blk ∈
    controlBlks ++ supervisorBlks → f.blk ≠ .MAN → f ∉ fabricKept → f ∉ [.PWM_GOKLO, .PWM_GOKHI, .PWM_FLT, .MTR_STAT_SEALED,
    .CLK_STAT_CKSEL, .FM_RSTCAUSE_KIND, .SAF_LATCH, .SAF_FLTH_VALID, .SAF_FLTH_CODE, .SAF_FLTH_ITEM, .SAF_FLTP_VALID, .SAF_FLTP_CODE,
    .SAF_FLTP_ITEM, .SAF_STAT_ON, .SAF_SOSTAT_SWH, .SAF_SOSTAT_SWP] → t.dev.rdAt f i = f.resetValue i)) ∧ ((∀ f i, f ∈ fabricKept → f ≠
    .CLK_LOCKCNT → t.dev.rdAt f i = s.dev.rdAt f i)) ∧ ((∀ r n, (t.dev.cell r n).owner = none)) ∧ (t.dev.vcs.ferry = {}) ∧ ((∀ n, n ≠ 10 →
    t.dev.engine n = {})) ∧ ((t.dev.engine 10).pc = 0x1010080000) ∧ (t.dev.fm.log = s.dev.fm.log) ∧ (t.dev.fm.cal = s.dev.fm.cal) ∧
    (t.dev.cus.ring = s.dev.cus.ring) ∧ (t.dev.cus.slotA = s.dev.cus.slotA) ∧ (t.dev.cus.slotB = s.dev.cus.slotB) ∧ (t.dev.cus.isSealed =
    s.dev.cus.isSealed) ∧ (t.dev.rd .CLK_LOCKCNT = s.dev.rd .CLK_LOCKCNT) ∧ ((∀ a, ((((0x1000000000 ≤ a ∧ a < 0x1000240000) ∨ (berthSram ≤
    a ∧ a < berthSram + 0x800000) ∨ (translationTable ≤ a ∧ a < translationTable + 0x100000)) ∨ (ferrymanSram ≤ a ∧ a < ferrymanSram +
    ferrymanSramSize)) → memByte t.mem a = 0) ∧ (¬(((0x1000000000 ≤ a ∧ a < 0x1000240000) ∨ (berthSram ≤ a ∧ a < berthSram + 0x800000) ∨
    (translationTable ≤ a ∧ a < translationTable + 0x100000)) ∨ (ferrymanSram ≤ a ∧ a < ferrymanSram + ferrymanSramSize)) → memByte t.mem a
    = memByte s.mem a)))) ∧
  (∀ (s : State) (cause : PdCause), Completes s (.powerDomainReset cause) fun t => (t.dev.rd .FM_RSTCAUSE_KIND =
    (match cause with | .powerOn => 1 | .brownOut => 2 | .resetPin => 3 | .supply => 7)) ∧ (t.dev.sys.cdReset = true) ∧
    (t.dev.sys.claimsOpen = false) ∧ (t.dev.sys.loaded = false) ∧ (t.dev.tide = 0) ∧ (t.dev.tt.opened = false) ∧ (t.dev.tt.active = none) ∧
    ((∀ f i, f.blk ∈ controlBlks ++ supervisorBlks ++ powerBlks → f.blk ≠ .MAN → f ∉ fabricKept → f ∉ [.PWM_GOKLO, .PWM_GOKHI, .PWM_FLT,
    .MTR_STAT_SEALED, .CLK_STAT_CKSEL, .FM_RSTCAUSE_KIND, .SAF_LATCH, .SAF_FLTH_VALID, .SAF_FLTH_CODE, .SAF_FLTH_ITEM, .SAF_FLTP_VALID,
    .SAF_FLTP_CODE, .SAF_FLTP_ITEM, .SAF_STAT_ON, .SAF_SOSTAT_SWH, .SAF_SOSTAT_SWP] → t.dev.rdAt f i = f.resetValue i)) ∧ ((∀ f i, f ∈
    fabricKept → f ≠ .CLK_LOCKCNT → t.dev.rdAt f i = s.dev.rdAt f i)) ∧ ((∀ r n, (t.dev.cell r n).owner = none)) ∧ (t.dev.vcs.ferry = {}) ∧
    ((∀ n, n ≠ 10 → t.dev.engine n = {})) ∧ ((t.dev.engine 10).pc = 0x1010080000) ∧ (t.dev.fm.log = s.dev.fm.log) ∧ (t.dev.fm.cal =
    s.dev.fm.cal) ∧ (t.dev.cus.ring = s.dev.cus.ring) ∧ (t.dev.cus.slotA = s.dev.cus.slotA) ∧ (t.dev.cus.slotB = s.dev.cus.slotB) ∧
    (t.dev.cus.isSealed = s.dev.cus.isSealed) ∧ (t.dev.sys.spFailed = false) ∧ (t.dev.sys.dramLost = false) ∧ (t.dev.twin.dflt = false) ∧
    (t.dev.rd .CLK_LOCKCNT = 0) ∧ (t.dev.pump = {}) ∧ ((∀ a, ((((0x1000000000 ≤ a ∧ a < 0x1000240000) ∨ (berthSram ≤ a ∧ a < berthSram +
    0x800000) ∨ (translationTable ≤ a ∧ a < translationTable + 0x100000)) ∨ (ferrymanSram ≤ a ∧ a < ferrymanSram + ferrymanSramSize) ∨ a <
    s.dev.dramEnd) → memByte t.mem a = 0) ∧ (¬(((0x1000000000 ≤ a ∧ a < 0x1000240000) ∨ (berthSram ≤ a ∧ a < berthSram + 0x800000) ∨
    (translationTable ≤ a ∧ a < translationTable + 0x100000)) ∨ (ferrymanSram ≤ a ∧ a < ferrymanSram + ferrymanSramSize) ∨ a <
    s.dev.dramEnd) → memByte t.mem a = memByte s.mem a)))) ∧
  (∀ (s : State), Completes s (.ferrymanDomainReset) fun t => (t.dev.vcs.ferry = {}) ∧ (t.dev.engine 10 = { pc := 0x1010080000 }) ∧ ((∀ n,
    n ≠ 10 → t.dev.engine n = s.dev.engine n)) ∧ (t.dev.rd .FM_RSTCAUSE_KIND = 4) ∧ (t.dev.on .ADC_DMACFG_EN = false) ∧ (t.dev.fm =
    { s.dev.fm with booted := false, flashBusy := [], ckptBusy := false }) ∧ ((∀ r n, (t.dev.cell r n).owner = (if (s.dev.cell r n).owner =
    some .ferryman then none else (s.dev.cell r n).owner))) ∧ (t.dev.sys.cdReset = s.dev.sys.cdReset) ∧ (s.dev.frame t.dev
    { flds := [.ADC_DMACFG_EN, .FM_RSTCAUSE_KIND], parts := [.sys, .vcs, .fm] }) ∧ ((∀ a, ((ferrymanSram ≤ a ∧ a < ferrymanSram +
    ferrymanSramSize) → memByte t.mem a = 0) ∧ (¬(ferrymanSram ≤ a ∧ a < ferrymanSram + ferrymanSramSize) → memByte t.mem a = memByte s.mem
    a)))) ∧
  (∀ (s : State), Does s (.resetPinLongHold) { parts := [.sys] } fun e => e.sys =
    { s.dev.sys with pinLong := true, pdPending := some (s.dev.sys.pdPending.getD .resetPin) }) ∧
  (∀ (s : State) (vin : Bool) (p : Nat) (q : Nat) (u : Nat), s.dev.cus.frozen = true → s.dev.cus.marker = some (p, q, u) →
    s.dev.sys.pdPending = none → s.dev.sys.sfPending = none → Completes s (.lastCrossingSaveComplete true vin) fun t => (t.dev.cus.marker =
    none) ∧ (t.dev.cus.slot = 1 - s.dev.cus.slot) ∧ (t.dev.on .TALLY_STAT_SLOT = decide (t.dev.cus.slot = 1)) ∧ (t.mem = s.mem)) ∧
  (∀ (s : State) (vin : Bool) (p : Nat) (q : Nat) (u : Nat), s.dev.cus.frozen = true → s.dev.cus.marker = some (p, q, u) →
    s.dev.sys.pdPending = none → s.dev.sys.sfPending = none → Completes s (.lastCrossingSaveComplete false vin) fun t => (t.dev.cus.marker
    = s.dev.cus.marker) ∧ (t.dev.cus.slot = s.dev.cus.slot) ∧ (t.dev.on .TALLY_STAT_CFAIL = true) ∧ (s.dev.raised t.dev 312) ∧ (t.mem =
    s.mem)) ∧
  (∀ (s : State) (pass : Bool) (vin : Bool) (k : PdCause), s.dev.counting = false → s.dev.sys.pdPending = some k → Completes s
    (.lastCrossingSaveComplete pass vin) fun t => (t.dev.rd .FM_RSTCAUSE_KIND =
    (match k with | .powerOn => 1 | .brownOut => 2 | .resetPin => 3 | .supply => 7)) ∧ (t.dev.sys.cdReset = true) ∧ (t.dev.sys.pdPending =
    none) ∧ (t.dev.tide = 0)) ∧
  (∀ (s : State) (pass : Bool) (vin : Bool) (k : SfCause), s.dev.counting = false → s.dev.sys.pdPending = none → s.dev.sys.sfPending = some
    k → Completes s (.lastCrossingSaveComplete pass vin) fun t => (t.dev.rd .FM_RSTCAUSE_KIND =
    (match k with | .brownOut => 2 | .resetPin => 3)) ∧ (t.dev.sys.cdReset = true) ∧ (t.dev.sys.sfPending = none) ∧ (t.dev.tide = 0))

/-- What holds, releases and arms the control die: CONTROL_DIE_HOLD, CONTROL_DIE_RELEASE, CONTROL_DOMAIN_AUTO_RELEASE, DRY_CROSSING_END,
  ARMING, CS_LINK_RETRANSMIT, CS_LINK_FAILURE and SP_LINK_FAILURE complete as the clauses say: under the conditions named a form answers a
  next state with the values listed, and where a clause lists what it writes, nothing else changes. It rests on R13, R402, R434, R477,
  R479, R480. -/
def Obligations.ControlDieCommands : Prop :=
  (∀ (s : State), s.dev.on .PWM_CTRL_ARM = true → Does s (.controlDieHold .ferryman) ({ flds := [.FM_STAT_CDREF] } : Writes).access fun e
    => e.on .FM_STAT_CDREF = true ∧ e.sys.cdReset = s.dev.sys.cdReset) ∧
  (∀ (s : State), s.dev.on .PWM_CTRL_ARM = false → Completes s (.controlDieHold .ferryman) fun t => (t.dev.on .FM_CDCTL_HOLD = true) ∧
    (t.dev.sys.cdReset = true) ∧ (t.dev.rd .FM_RSTCAUSE_KIND = 5) ∧ ((∀ a, a < 0x1000000000 → memByte t.mem a = memByte s.mem a))) ∧
  (∀ (s : State), s.dev.sys.cdReset = false → Does s (.controlDieRelease (some .ferryman)) ({ flds := [.FM_CDCTL_HOLD] } : Writes).access
    fun e => e.on .FM_CDCTL_HOLD = false) ∧
  (∀ (s : State), s.dev.sys.cdReset = true → s.dev.onAt .CAP_CLS_HELD 10 = true → Completes s (.controlDieRelease (some .ferryman)) fun t
    => (t.dev.on .FM_CDCTL_HOLD = false) ∧ (t.dev.sys.cdReset = false) ∧ (t.dev.sys.cdWant = false) ∧ (t.dev.on .DDR_STAT_UNREL =
    s.dev.sys.dramLost) ∧ (t.dev.rd .TWIN_ALIGN_CDLY = s.dev.sys.cdlyCopy) ∧ (t.dev.on .TWIN_STAT_INST = s.dev.straps.twinst) ∧ (t.dev.on
    .GWY_BENCH_STRAP = s.dev.straps.bench) ∧ ((∀ a, a < 0x1000000000 → memByte t.mem a = memByte s.mem a))) ∧
  (∀ (s : State), s.dev.sys.cdReset = true → s.dev.onAt .CAP_CLS_HELD 10 = false → 0 < s.dev.fareOf 10 → Does s (.controlDieRelease (some
    .ferryman)) ({ flds := [.FM_CDCTL_HOLD, .CAP_CLS_FARES, .CAP_CLS_PEND], parts := [.sys] } : Writes).access fun e => e.on .FM_CDCTL_HOLD
    = false ∧ e.sys = { s.dev.sys with cdWant := true } ∧ e.onAt .CAP_CLS_PEND 10 = true) ∧
  (∀ (s : State), s.dev.sys.cdReset = true → s.dev.onAt .CAP_CLS_HELD 10 = true → s.dev.on .FM_CDCTL_HOLD = true → s.dev.on
    .FM_CDCTL_AUTOWAKE = true → s.dev.on .FM_CDCTL_WAKEP = true → Completes s (.controlDieRelease none) fun t => (t.dev.on .FM_CDCTL_HOLD =
    false) ∧ (t.dev.sys.cdReset = false)) ∧
  (∀ (s : State), s.dev.sys.cdReset = true → s.dev.sys.csFailed = true → s.dev.fm.booted = true → s.dev.sys.cdResets.length < 3 →
    s.dev.onAt .CAP_CLS_HELD 10 = true → Completes s (.controlDomainAutoRelease) fun t => (t.dev.on .FM_CDCTL_HOLD = false) ∧
    (t.dev.sys.cdReset = false)) ∧
  (∀ (s : State), s.dev.sys.cdReset = true → s.dev.sys.csFailed = true → s.dev.fm.booted = true → 3 ≤ s.dev.sys.cdResets.length → Does s
    (.controlDomainAutoRelease) { flds := [.FM_CDCTL_HOLD], parts := [.fm] } fun e => e.on .FM_CDCTL_HOLD = true ∧ e.sys.cdReset = true ∧
    ((e.fm.logPend.any fun r => decide (r.src = 0x221 ∧ r.data = 2)) = true)) ∧
  (∀ (s : State), s.dev.sys.cdReset = false → s.dev.sys.dryEnd = some 0 → s.dev.fm.booted = true → Does s (.dryCrossingEnd)
    { parts := [.sys, .fm] } fun e => e.sys = { s.dev.sys with dryPassed := true, dryEnd := none }) ∧
  (∀ (s : State) (f : Nat), s.dev.sys.cdReset = false → s.dev.sys.dryEnd = some f → f ≠ 0 → s.dev.sys.dryAttempts ≠ 2 → s.dev.fm.booted =
    true → Does s (.dryCrossingEnd) { parts := [.sys] } fun e => e.sys =
    { s.dev.sys with dryAttempts := s.dev.sys.dryAttempts + 1, dryEnd := none }) ∧
  (∀ (s : State) (f : Nat), s.dev.sys.cdReset = false → s.dev.sys.dryEnd = some f → f ≠ 0 → s.dev.sys.dryAttempts = 2 → s.dev.fm.booted =
    true → Does s (.dryCrossingEnd) { parts := [.sys, .fm] } fun e => e.sys = { s.dev.sys with dryAttempts := 3, dryEnd := none } ∧
    ((e.fm.logPend.any fun r => decide (r.src = 0x228 ∧ r.data = f)) = true)) ∧
  (∀ (s : State), s.dev.sys.cdReset = false → s.dev.sys.dryEnd = none → Does s (.dryCrossingEnd) {} fun e => True) ∧
  (∀ (s : State), s.dev.fm.booted = false → Does s (.dryCrossingEnd) {} fun e => True) ∧
  (∀ (s : State), s.dev.sys.cdReset = false → s.dev.mayArm = true → s.dev.on .PWM_STAT_DLLLK = true → s.dev.on .GWY_BENCH_ON = false →
    s.dev.on .TWIN_STAT_DFLT = false → s.dev.fm.booted = true → Does s (.arming true) { flds := [.PWM_CTRL_ARM], parts := [.prog, .fm] }
    fun e => e.on .PWM_CTRL_ARM = true ∧ e.prog.starting = true) ∧
  (∀ (s : State), s.dev.sys.cdReset = false → s.dev.mayArm = false → Does s (.arming true) {} fun e => True) ∧
  (∀ (s : State), Does s (.arming false) {} fun e => True) ∧
  (∀ (s : State), s.dev.fm.booted = false → Does s (.arming true) {} fun e => True) ∧
  (∀ (s : State), Does s (.csLinkRetransmit .cs true) { parts := [.sys] } fun e => e.sys = { s.dev.sys with csAttempts := 1 }) ∧
  (∀ (s : State), s.dev.sys.csAttempts < 3 → Does s (.csLinkRetransmit .cs false) { parts := [.sys] } fun e => e.sys =
    { s.dev.sys with csAttempts := s.dev.sys.csAttempts + 1 }) ∧
  (∀ (s : State), s.dev.sys.csAttempts = 3 → Completes s (.csLinkRetransmit .cs false) fun t => (t.dev.sys.csFailed = true) ∧
    (t.dev.sys.cdReset = true) ∧ (t.dev.sys.csAttempts = 0) ∧ (t.dev.rd .FM_RSTCAUSE_KIND = 5)) ∧
  (∀ (s : State), s.dev.sys.spAttempts < 3 → Does s (.csLinkRetransmit .sp false) { parts := [.sys] } fun e => e.sys =
    { s.dev.sys with spAttempts := s.dev.sys.spAttempts + 1 }) ∧
  (∀ (s : State), s.dev.sys.spAttempts = 3 → s.dev.sys.spFailed = false → Does s (.csLinkRetransmit .sp false)
    ({ blks := [.SAF], flds := [.CLINK_STAT_BLKD], parts := [.sys, .saf, .conv] } : Writes).raising fun e => e.sys.spFailed = true ∧
    s.dev.faulted e true 0x05 0 ∧ s.dev.raised e 4) ∧
  (∀ (s : State), Completes s (.csLinkFailure) fun t => (t.dev.sys.csFailed = true) ∧ (t.dev.sys.cdReset = true) ∧ (t.dev.rd
    .FM_RSTCAUSE_KIND = 5) ∧ (s.dev.raised t.dev 3)) ∧
  (∀ (s : State), s.dev.sys.spFailed = false → Does s (.spLinkFailure)
    ({ blks := [.SAF], flds := [.CLINK_STAT_BLKD], parts := [.sys, .saf, .conv] } : Writes).raising fun e => e.sys.spFailed = true ∧
    s.dev.faulted e true 0x05 0 ∧ s.dev.raised e 4)

/-- What claims and releases do: CLAIM, RELEASE and CLAIMS_OPEN complete: a claim on a free resource is granted with code 0x1, a claim on a
  held one is refused and takes nothing away, a release by the holder frees the resource and the requester reads the code in its own
  STATUS; of two that claim a free resource in the same cycle the lower rank, then the lower identifier gets it; a claim of the Gangway is
  made in the name of test access; a leg whose claim ends may stop; claims of ranks 3 to 6 open once the safety configuration has been
  acted on, not before. It rests on R22, R23, R24, R26, R28. -/
def Obligations.ClaimCommands : Prop :=
  (∀ (s : State) (req : Requester) (res : Resource) (n : Nat), n < res.count → s.dev.sys.cdReset = false → res ≠ .gangway → (s.dev.cell res
    n).owner = none → (s.dev.cell res n).rsv = none → s.dev.claimsClosed req res = false → s.dev.rivalHeld res n = false → Does s (.claim
    [req] res n) ({ parts := [.sys] } : Writes).access fun e => e.cell res n =
    { s.dev.cell res n with owner := (some req), status := (s.dev.cell res n).status.set 0 req.id 0x1 } ∧ e.resp =
    { error := false, data := 0 } ∧ (∀ r k, r ≠ res ∨ k ≠ n → e.cell r k = s.dev.cell r k)) ∧
  (∀ (s : State) (req : Requester) (res : Resource) (n : Nat), n < res.count → s.dev.sys.cdReset = false → res ≠ .gangway → (s.dev.cell res
    n).owner = some req → Does s (.claim [req] res n) ({ parts := [.sys] } : Writes).access fun e => e.cell res n =
    { s.dev.cell res n with owner := (some req), status := (s.dev.cell res n).status.set 0 req.id 0x2 } ∧ e.resp =
    { error := false, data := 0 } ∧ (∀ r k, r ≠ res ∨ k ≠ n → e.cell r k = s.dev.cell r k)) ∧
  (∀ (s : State) (req : Requester) (res : Resource) (n : Nat) (o : Requester), n < res.count → s.dev.sys.cdReset = false → res ≠ .gangway →
    (s.dev.cell res n).owner = some o → o ≠ req → (s.dev.cell res n).rsv = none → s.dev.claimsClosed req res = false → Does s (.claim [req]
    res n) ({ parts := [.sys] } : Writes).access fun e => (e.cell res n =
    { s.dev.cell res n with status := (s.dev.cell res n).status.set 0 req.id (if o.rank < req.rank then 0x4 else 0x3) }) ∧ (∀ r k, r ≠ res
    ∨ k ≠ n → e.cell r k = s.dev.cell r k)) ∧
  (∀ (s : State) (req : Requester) (res : Resource) (n : Nat), n < res.count → s.dev.sys.cdReset = false → res ≠ .gangway → (s.dev.cell res
    n).rsv.isSome = true → (s.dev.cell res n).rsv ≠ some req.rank → (s.dev.cell res n).owner ≠ some req → Does s (.claim [req] res n)
    ({ parts := [.sys] } : Writes).access fun e => e.cell res n =
    { s.dev.cell res n with owner := (s.dev.cell res n).owner, status := (s.dev.cell res n).status.set 0 req.id 0x5 } ∧ e.resp =
    { error := false, data := 0 } ∧ (∀ r k, r ≠ res ∨ k ≠ n → e.cell r k = s.dev.cell r k)) ∧
  (∀ (s : State) (req : Requester) (res : Resource) (n : Nat), n < res.count → s.dev.sys.cdReset = false → res ≠ .gangway → (s.dev.cell res
    n).rsv = none → (s.dev.cell res n).owner ≠ some req → s.dev.sys.claimsOpen = false → 3 ≤ req.rank → Does s (.claim [req] res n)
    ({ parts := [.sys] } : Writes).access fun e => e.cell res n =
    { s.dev.cell res n with owner := (s.dev.cell res n).owner, status := (s.dev.cell res n).status.set 0 req.id 0xA } ∧ e.resp =
    { error := false, data := 0 } ∧ (∀ r k, r ≠ res ∨ k ≠ n → e.cell r k = s.dev.cell r k)) ∧
  (∀ (s : State) (req : Requester) (res : Resource) (n : Nat), n < res.count → s.dev.sys.cdReset = false → res ≠ .gangway → (s.dev.cell res
    n).owner = some req → (s.dev.cell res n).rsvSealed = false → res ≠ .leg → Does s (.release req res n) ({ parts := [.sys] } :
    Writes).access fun e => e.cell res n = { s.dev.cell res n with owner := none, status := (s.dev.cell res n).status.set 0 req.id 0x7 } ∧
    e.resp = { error := false, data := 0 } ∧ (∀ r k, r ≠ res ∨ k ≠ n → e.cell r k = s.dev.cell r k)) ∧
  (∀ (s : State) (req : Requester) (res : Resource) (n : Nat), n < res.count → s.dev.sys.cdReset = false → res ≠ .gangway → (s.dev.cell res
    n).owner ≠ some req → Does s (.release req res n) ({ parts := [.sys] } : Writes).access fun e => e.cell res n =
    { s.dev.cell res n with owner := (s.dev.cell res n).owner, status := (s.dev.cell res n).status.set 0 req.id 0x8 } ∧ e.resp =
    { error := false, data := 0 } ∧ (∀ r k, r ≠ res ∨ k ≠ n → e.cell r k = s.dev.cell r k)) ∧
  (∀ (s : State) (p : Requester) (q : Requester) (res : Resource) (n : Nat), n < res.count → s.dev.sys.cdReset = false → res ≠ .gangway → p
    ≠ q → q.rank < p.rank ∨ (q.rank = p.rank ∧ q.id < p.id) → (s.dev.cell res n).owner = none → (s.dev.cell res n).rsv = none →
    s.dev.claimsClosed p res = false → s.dev.claimsClosed q res = false → s.dev.rivalHeld res n = false → Does s (.claim [p, q] res n)
    ({ parts := [.sys] } : Writes).access fun e => (e.cell res n =
    { s.dev.cell res n with owner := some q, status := (((s.dev.cell res n).status.set 0 q.id 0x1).set 0 p.id (if q.rank < p.rank then 0x4 else 0x3)) })
    ∧ (∀ r k, r ≠ res ∨ k ≠ n → e.cell r k = s.dev.cell r k)) ∧
  (∀ (s : State) (req : Requester) (n : Nat), n < 10 → s.dev.sys.cdReset = false → (s.dev.cell .gangway n).owner = none → (s.dev.cell
    .gangway n).rsv = none → s.dev.sys.claimsOpen = true → Does s (.claim [req] .gangway n) ({ parts := [.sys] } : Writes).access fun e =>
    (e.cell .gangway n).owner = some .testAccess ∧ (e.cell .gangway n).status.at 0 Requester.testAccess.id = 0x1) ∧
  (∀ (s : State) (req : Requester) (n : Nat), n < 24 → s.dev.sys.cdReset = false → (s.dev.cell .leg n).owner = some req → (s.dev.cell .leg
    n).rsvSealed = false → Does s (.release req .leg n) ({ blks := [.LEG], parts := [.sys, .conv] } : Writes).raising.access fun e =>
    (e.cell .leg n).owner = none ∧ (e.cell .leg n).status.at 0 req.id = 0x7) ∧
  (∀ (s : State), s.dev.sys.claimsOpen = false → s.dev.sys.loaded = true → s.dev.cus.isSealed = false → Does s (.claimsOpen)
    { parts := [.sys] } fun e => e.sys = { s.dev.sys with claimsOpen := true }) ∧
  (∀ (s : State), s.dev.sys.loaded = false → Does s (.claimsOpen) {} fun e => e.sys = s.dev.sys)

/-- What register writes do: a narrow or misaligned write, and one to a block that only Ferryman may write by another requester, end with a
  bus error and change nothing (but a claim violation is raised where the register configures a resource that the writer does not hold); an
  address without a register also raises the event of an address error, a memory takes no register write (log entry 140, a choice of the
  model); REGISTER_WRITE of fields of each access code, of a Gangway selection (R463, R464) and of a CLKOUT ball (R445). It rests on R2,
  R3, R5, R6, R7, R25, R278, R463, R464, R445. -/
def Obligations.RegisterWrites : Prop :=
  (∀ (s : State) (req : Requester) (addr : BitVec 40) (size : Nat) (value : BitVec 32), inRegisters addr.toNat = true → registerAt
    addr.toNat = true → size ≠ 4 ∨ addr.toNat % 4 ≠ 0 → Does s (.registerWrite req addr size value) { parts := [.resp] } fun e => e.resp =
    { error := true, data := 0 }) ∧
  (∀ (s : State) (req : Requester) (addr : BitVec 40) (value : BitVec 32) (k : Blk) (x : FieldRow × Nat) (l : List (FieldRow × Nat)),
    inRegisters addr.toNat = true → addr.toNat % 4 = 0 → blkAt addr.toNat = some k → claimAt k (addr.toNat - k.base) = none → fieldsAt k
    (addr.toNat - k.base) = x :: l → req ≠ .ferryman → openBlk k x.1.fld = false → configures x.1.fld x.2 = none → Does s (.registerWrite
    req addr 4 value) { parts := [.resp] } fun e => e.resp = { error := true, data := 0 }) ∧
  (∀ (s : State) (req : Requester) (k : Fin 8) (value : BitVec 32), req ≠ .ferryman → (s.dev.cell .gangway k.val).owner ≠ some req → Does s
    (.registerWrite req (BitVec.ofNat 40 (0x200D000100 + 4 * k.val)) 4 value) ({ parts := [.resp] } : Writes).raising fun e => e.resp =
    { error := true, data := 0 } ∧ e.gwOut k.val = s.dev.gwOut k.val ∧ s.dev.raised e 2) ∧
  (∀ (s : State) (req : Requester) (addr : BitVec 40) (size : Nat) (value : BitVec 32), inRegisters addr.toNat = false → s.dev.memoryAt
    addr.toNat size = false → Does s (.registerWrite req addr size value) ({ parts := [.resp] } : Writes).raising fun e => e.resp =
    { error := true, data := 0 } ∧ s.dev.raised e 0) ∧
  (∀ (s : State) (req : Requester) (addr : BitVec 40) (size : Nat) (value : BitVec 32), inRegisters addr.toNat = true → registerAt
    addr.toNat = false → Does s (.registerWrite req addr size value) ({ parts := [.resp] } : Writes).raising fun e => e.resp =
    { error := true, data := 0 } ∧ s.dev.raised e 0) ∧
  (∀ (s : State) (req : Requester) (addr : BitVec 40) (size : Nat) (value : BitVec 32), inRegisters addr.toNat = false → s.dev.memoryAt
    addr.toNat size = true → Does s (.registerWrite req addr size value) { parts := [.resp] } fun e => e.resp =
    { error := true, data := 0 }) ∧
  (∀ (s : State) (value : BitVec 32), Does s (.registerWrite .ferryman 0x210000001C 4 value)
    ({ flds := [.TIDE_STAT_ALMEN, .TIDE_STAT_ALM, .TIDE_STAT_BND] } : Writes).access fun e => e.resp = { error := false, data := 0 } ∧ e.rd
    .TIDE_STAT_ALMEN = value.toNat / 4 % 2 ∧ (value.toNat / 2 % 2 = 1 → e.on .TIDE_STAT_ALM = false) ∧ (value.toNat / 2 % 2 = 0 → e.rd
    .TIDE_STAT_ALM = s.dev.rd .TIDE_STAT_ALM) ∧ (value.toNat % 2 = 1 → e.on .TIDE_STAT_BND = false) ∧ (value.toNat % 2 = 0 → e.rd
    .TIDE_STAT_BND = s.dev.rd .TIDE_STAT_BND)) ∧
  (∀ (s : State) (value : BitVec 32), s.dev.sys.cdReset = false → Does s (.registerWrite .ferryman 0x2000000028 4 value)
    ({ flds := [.TTB_MISSLIM_LIMIT] } : Writes).access fun e => e.resp = { error := false, data := 0 } ∧ e.rd .TTB_MISSLIM_LIMIT = max 1
    (value.toNat % 256)) ∧
  (∀ (s : State) (value : BitVec 32), s.dev.on .SAF_SEAL_SET = true → Does s (.registerWrite .ferryman 0x2108000020 4 value)
    ({ parts := [.resp] } : Writes).raising fun e => e.rd .SAF_SWSEXP = s.dev.rd .SAF_SWSEXP ∧ s.dev.raised e 1) ∧
  (∀ (s : State) (value : BitVec 32), s.dev.on .SAF_SEAL_SET = false → Does s (.registerWrite .ferryman 0x2108000020 4 value)
    ({ flds := [.SAF_SWSEXP] } : Writes).access fun e => e.rd .SAF_SWSEXP = value.toNat % 4096) ∧
  (∀ (s : State) (req : Requester) (n : Fin 48) (value : BitVec 32), s.dev.sys.cdReset = false → (s.dev.cell .filter n.val).owner = some
    req → Does s (.registerWrite req (BitVec.ofNat 40 (0x2008000004 + 64 * n.val)) 4 value) ({ flds := [.SDF_GAIN] } : Writes).access fun e
    => e.rdAt .SDF_GAIN n.val = value.toNat ∧ (∀ k < 48, k ≠ n.val → e.rdAt .SDF_GAIN k = s.dev.rdAt .SDF_GAIN k)) ∧
  (∀ (s : State) (req : Requester) (n : Fin 48) (value : BitVec 32), s.dev.sys.cdReset = false → (s.dev.cell .filter n.val).owner = none →
    Does s (.registerWrite req (BitVec.ofNat 40 (0x2008000004 + 64 * n.val)) 4 value) ({ parts := [.resp] } : Writes).raising fun e =>
    e.rdAt .SDF_GAIN n.val = s.dev.rdAt .SDF_GAIN n.val ∧ s.dev.raised e 2) ∧
  (∀ (s : State) (k : Fin 8) (value : BitVec 32), s.dev.sys.cdReset = false → (s.dev.cell .gangway k.val).owner = some .testAccess → Does s
    (.registerWrite .ferryman (BitVec.ofNat 40 (0x200D000100 + 4 * k.val)) 4 value) ({ flds := [.GWY_DSEL_EN, .GWY_DSEL_SEL] } :
    Writes).access fun e => (value.toNat / 2147483648 = 0 → e.gwOut k.val = some false) ∧ (value.toNat / 2147483648 = 1 → e.gwOut k.val =
    e.gwSignal (value.toNat % 1024))) ∧
  (∀ (s : State) (k : Fin 2) (value : BitVec 32), s.dev.sys.cdReset = false → (s.dev.cell .gangway (8 + k.val)).owner = some .testAccess →
    s.dev.cus.isSealed = true → Does s (.registerWrite .ferryman (BitVec.ofNat 40 (0x200D000120 + 4 * k.val)) 4 value)
    ({ flds := [.GWY_ASEL_EN, .GWY_ASEL_SEL, .GWY_STAT_ASEAL] } : Writes).access fun e => e.gwaNode k.val = none ∧ (value.toNat /
    2147483648 = 1 → e.on .GWY_STAT_ASEAL = true)) ∧
  (∀ (s : State) (k : Fin 4) (value : BitVec 32), Does s (.registerWrite .ferryman (BitVec.ofNat 40 (0x2101000020 + 4 * k.val)) 4 value)
    ({ flds := [.CLK_COUT_EN, .CLK_COUT_SRC, .CLK_COUT_DIV] } : Writes).access fun e => (e.rdAt .CLK_COUT_DIV k.val = (if value.toNat %
    4096 = 0 then 4096 else value.toNat % 4096)) ∧ (value.toNat / 2147483648 = 0 → e.clkout k.val = none) ∧ ((value.toNat / 2147483648 = 1
    ∧ value.toNat / 67108864 % 4 = 0) → e.clkout k.val = some (400000, e.rdAt .CLK_COUT_DIV k.val)))

/-- What the commands of queues 0, 14 and 15 do when a task consumes them: SET_PARAMETER, SET_BREAKPOINT, SET_TABLE_VALUE, COMMIT_TABLE,
  HOST_SET_POINT, STOP, CLEAR_STOP, PRM_F_FREQUENCY, COOLANT_STATUS, UNKNOWN_COMMAND and PARAMETER_TAKE_EFFECT complete: the task consumes
  the front of its queue, the outcome carries its SEQ and the code of Table 7-5. It rests on R167, R168, R170, R176, R179, R183, R188,
  R189, R212. -/
def Obligations.CommandTaskCommands : Prop :=
  (∀ (s : State) (x : HostCmd) (l : List HostCmd), s.dev.sys.cdReset = false → (s.dev.queue 0).items = x :: l → x.op = 0x01 →
    s.dev.paramCheck x.ident x.value = 0 → Does s (.setParameter) { parts := [.vcs, .prog, .tt] } fun e => e.queue 0 =
    { s.dev.queue 0 with items := l } ∧ e.prog.outcome = some (x.seq, 0) ∧ e.prog.changes = s.dev.prog.changes ++ [(s.dev.tide + 8, .param
    x.ident x.value)] ∧ e.prog.params = s.dev.prog.params) ∧
  (∀ (s : State) (x : HostCmd) (l : List HostCmd), s.dev.sys.cdReset = false → (s.dev.queue 0).items = x :: l → x.op = 0x01 → paramOf
    x.ident = none → Does s (.setParameter) { parts := [.vcs, .prog, .tt] } fun e => e.queue 0 = { s.dev.queue 0 with items := l } ∧ e.prog
    = { s.dev.prog with outcome := some (x.seq, 1) }) ∧
  (∀ (s : State) (x : HostCmd) (l : List HostCmd), s.dev.sys.cdReset = false → (s.dev.queue 0).items = x :: l → x.op = 0x01 →
    s.dev.paramCheck x.ident x.value = 2 → Does s (.setParameter) { parts := [.vcs, .prog, .tt] } fun e => e.queue 0 =
    { s.dev.queue 0 with items := l } ∧ e.prog = { s.dev.prog with outcome := some (x.seq, 2) }) ∧
  (∀ (s : State) (x : HostCmd) (l : List HostCmd), s.dev.sys.cdReset = false → (s.dev.queue 0).items = x :: l → x.op = 0x01 →
    s.dev.paramCheck x.ident x.value = 3 → Does s (.setParameter) { parts := [.vcs, .prog, .tt] } fun e => e.queue 0 =
    { s.dev.queue 0 with items := l } ∧ e.prog = { s.dev.prog with outcome := some (x.seq, 3) }) ∧
  (∀ (s : State) (x : HostCmd) (l : List HostCmd), s.dev.sys.cdReset = false → (s.dev.queue 0).items = x :: l → x.op = 0x02 → Does s
    (.setBreakpoint) { parts := [.vcs, .prog, .tt] } fun e => e.queue 0 = { s.dev.queue 0 with items := l } ∧ e.prog =
    { s.dev.prog with outcome := some (x.seq, 0), xs := s.dev.prog.xs.set none x.ident (some x.value) }) ∧
  (∀ (s : State) (x : HostCmd) (l : List HostCmd), s.dev.sys.cdReset = false → (s.dev.queue 0).items = x :: l → x.op = 0x03 → x.ident / 32
    ≠ 2 → x.ident / 32 ≠ 3 → Does s (.setTableValue) { parts := [.vcs, .prog, .tt] } fun e => e.queue 0 = { s.dev.queue 0 with items := l }
    ∧ e.prog = { s.dev.prog with outcome := some (x.seq, 0), ys := s.dev.prog.ys.set none x.ident (some x.value) }) ∧
  (∀ (s : State) (x : HostCmd) (l : List HostCmd), s.dev.sys.cdReset = false → (s.dev.queue 0).items = x :: l → x.op = 0x03 → x.ident / 32
    = 2 ∨ x.ident / 32 = 3 → fpLe 0 x.value = false ∨ fpLe x.value 0x40800000 = false → Does s (.setTableValue)
    { parts := [.vcs, .prog, .tt] } fun e => e.queue 0 = { s.dev.queue 0 with items := l } ∧ e.prog =
    { s.dev.prog with outcome := some (x.seq, 2) }) ∧
  (∀ (s : State) (x : HostCmd) (l : List HostCmd), s.dev.sys.cdReset = false → (s.dev.queue 0).items = x :: l → x.op = 0x04 → fpLe
    0x40000000 x.value = false ∨ fpLe x.value 0x42000000 = false → Does s (.commitTable) { parts := [.vcs, .prog, .tt] } fun e => e.queue 0
    = { s.dev.queue 0 with items := l } ∧ e.prog = { s.dev.prog with outcome := some (x.seq, 5) }) ∧
  (∀ (s : State) (x : HostCmd) (l : List HostCmd), s.dev.sys.cdReset = false → (s.dev.queue 0).items = x :: l → x.op = 0x04 → fpLe
    0x40000000 x.value = true → fpLe x.value 0x42000000 = true → (ascending ((List.range (fpInt x.value).toNat).map fun j => s.dev.tabX
    (x.ident / 32) j) = false) → Does s (.commitTable) { parts := [.vcs, .prog, .tt] } fun e => e.queue 0 =
    { s.dev.queue 0 with items := l } ∧ e.prog = { s.dev.prog with outcome := some (x.seq, 4) }) ∧
  (∀ (s : State) (x : HostCmd) (l : List HostCmd) (p : List (Nat × Nat)), s.dev.sys.cdReset = false → (s.dev.queue 0).items = x :: l → x.op
    = 0x04 → fpLe 0x40000000 x.value = true → fpLe x.value 0x42000000 = true → (p = (List.range (fpInt x.value).toNat).map fun j =>
    (s.dev.tabX (x.ident / 32) j, s.dev.tabY (x.ident / 32) j)) → ascending (p.map Prod.fst) = true → Does s (.commitTable)
    { parts := [.vcs, .prog, .tt] } fun e => e.queue 0 = { s.dev.queue 0 with items := l } ∧ e.prog.outcome = some (x.seq, 0) ∧ (s.dev.tide
    + 8, CtlChange.table (x.ident / 32) (tableOf p)) ∈ e.prog.changes ∧ e.prog.tables = s.dev.prog.tables) ∧
  (∀ (s : State) (x : HostCmd) (l : List HostCmd), s.dev.sys.cdReset = false → (s.dev.queue 0).items = x :: l → x.op = 0x05 → Does s
    (.hostSetPoint) { parts := [.vcs, .prog, .tt] } fun e => e.queue 0 = { s.dev.queue 0 with items := l } ∧ (e.prog =
    { s.dev.prog with host := (if x.value = 0x7F800000 then none else some (fClamp x.value (fMul (s.dev.param 0x30) s.dev.prated) s.dev.prated)), hostAt := s.dev.tide })) ∧
  (∀ (s : State) (x : HostCmd) (l : List HostCmd), s.dev.sys.cdReset = false → (s.dev.queue 0).items = x :: l → x.op = 0x06 →
    s.dev.prog.stop.causes = [] → x.value = 0x41200000 → Does s (.stop) { parts := [.vcs, .prog] } fun e => e.queue 0 =
    { s.dev.queue 0 with items := l } ∧ e.prog =
    { s.dev.prog with stop := { causes := [0x0A], ramp := false, staged := false }, pub := { s.dev.prog.pub with stop := { causes := [0x0A], ramp := false, staged := false } } }) ∧
  (∀ (s : State) (x : HostCmd) (l : List HostCmd), s.dev.sys.cdReset = false → (s.dev.queue 0).items = x :: l → x.op = 0x06 →
    s.dev.prog.stop.causes = [] → x.value = 0 → Does s (.stop) { parts := [.vcs, .prog] } fun e => e.queue 0 =
    { s.dev.queue 0 with items := l } ∧ e.prog =
    { s.dev.prog with stop := { causes := [1], ramp := true, staged := false }, pub := { s.dev.prog.pub with stop := { causes := [1], ramp := true, staged := false } } }) ∧
  (∀ (s : State) (x : HostCmd) (l : List HostCmd) (k : Nat), s.dev.sys.cdReset = false → (s.dev.queue 0).items = x :: l → x.op = 0x06 →
    s.dev.prog.stop = { causes := [k], ramp := true, staged := false } → x.value = 0x41200000 → Does s (.stop) { parts := [.vcs, .prog] }
    fun e => e.queue 0 = { s.dev.queue 0 with items := l } ∧ e.prog.stop = { causes := [k, 0x0A], ramp := false, staged := false }) ∧
  (∀ (s : State) (x : HostCmd) (l : List HostCmd), s.dev.sys.cdReset = false → (s.dev.queue 0).items = x :: l → x.op = 0x07 →
    s.dev.causePresent = false → s.dev.paramOn 0xB7 = true → Does s (.clearStop) { parts := [.vcs, .prog, .tt] } fun e => e.queue 0 =
    { s.dev.queue 0 with items := l } ∧ e.prog =
    { s.dev.prog with stop := {}, pub := { s.dev.prog.pub with stop := {} }, rearm := false, starting := s.dev.prog.starting || !s.dev.prog.stop.causes.isEmpty }) ∧
  (∀ (s : State) (x : HostCmd) (l : List HostCmd), s.dev.sys.cdReset = false → (s.dev.queue 0).items = x :: l → x.op = 0x07 →
    s.dev.causePresent = true → s.dev.paramOn 0xB7 = true → Does s (.clearStop) { parts := [.vcs] } fun e => e.queue 0 =
    { s.dev.queue 0 with items := l }) ∧
  (∀ (s : State) (x : HostCmd) (l : List HostCmd), s.dev.sys.cdReset = false → (s.dev.queue 0).items = x :: l → x.op = 0x07 →
    s.dev.causePresent = false → s.dev.paramOn 0xB7 = false → s.dev.prog.trip ≠ 0 → s.dev.gridGood = true → Does s (.clearStop)
    { parts := [.vcs, .prog, .tt] } fun e => e.queue 0 = { s.dev.queue 0 with items := l } ∧ e.prog.stop = {} ∧ e.prog.trip = 0 ∧
    e.prog.starting = false ∧ e.prog.enter = true ∧ e.prog.mod.service = true ∧ e.prog.pll.enterAt = s.dev.tide) ∧
  (∀ (s : State) (x : HostCmd) (l : List HostCmd), s.dev.sys.cdReset = false → (s.dev.queue 15).items = x :: l → x.op = 0x10 →
    s.dev.permitByFrequency = true → fpLe (fDiv (s.dev.param 0x43) 0x40000000) x.value = true → fpLe x.value (fMul (s.dev.param 0x44)
    0x3F866666) = true → Does s (.prmFFrequency) { parts := [.vcs, .prog, .tt] } fun e => e.queue 15 = { s.dev.queue 15 with items := l } ∧
    e.prog =
    { s.dev.prog with permitAt := s.dev.tide, permit := some (fMul (s.dev.param 0x41) (fClamp (fDiv (fSub x.value (s.dev.param 0x43)) (fSub (s.dev.param 0x44) (s.dev.param 0x43))) 0 0x3F800000)), permitOut := false, permitFault := false }) ∧
  (∀ (s : State) (x : HostCmd) (l : List HostCmd), s.dev.sys.cdReset = false → (s.dev.queue 15).items = x :: l → x.op = 0x10 →
    s.dev.permitByFrequency = true → fpLe (fDiv (s.dev.param 0x43) 0x40000000) x.value = false → Does s (.prmFFrequency)
    { parts := [.vcs, .prog, .tt] } fun e => e.queue 15 = { s.dev.queue 15 with items := l } ∧ (e.prog =
    { s.dev.prog with permitAt := s.dev.tide, permitOut := true, permitFrom := if s.dev.prog.permitOut then s.dev.prog.permitFrom else s.dev.tide })) ∧
  (∀ (s : State) (x : HostCmd) (l : List HostCmd), s.dev.sys.cdReset = false → (s.dev.queue 14).items = x :: l → x.op = 0x11 → x.value =
    0x3F800000 → Does s (.coolantStatus) { parts := [.vcs, .prog, .tt] } fun e => e.queue 14 = { s.dev.queue 14 with items := l } ∧ (e.prog
    = { s.dev.prog with coolAt := s.dev.tide, coolLost := false, coolTerm := if s.dev.prog.tempLost then s.dev.prog.coolTerm else none })) ∧
  (∀ (s : State) (x : HostCmd) (l : List HostCmd), s.dev.sys.cdReset = false → (s.dev.queue 14).items = x :: l → x.op = 0x11 → x.value = 0
    → s.dev.prog.coolTerm = none → Does s (.coolantStatus) { parts := [.vcs, .prog, .tt] } fun e => e.queue 14 =
    { s.dev.queue 14 with items := l } ∧ (e.prog =
    { s.dev.prog with coolAt := s.dev.tide, coolLost := true, coolFrom := s.dev.tide, coolTerm := some (if fpLe (s.dev.thermalAt s.dev.prog.pub.tHot) (fMul (s.dev.param 0x50) s.dev.prated) then (fMul (s.dev.param 0x50) s.dev.prated) else s.dev.thermalAt s.dev.prog.pub.tHot, s.dev.tide) })) ∧
  (∀ (s : State) (x : HostCmd) (l : List HostCmd), s.dev.sys.cdReset = false → (s.dev.queue 0).items = x :: l → knownOp 0 x.op = false →
    Does s (.unknownCommand 0) { parts := [.vcs, .prog, .tt] } fun e => e.queue 0 = { s.dev.queue 0 with items := l } ∧ e.prog =
    { s.dev.prog with outcome := some (x.seq, 1) }) ∧
  (∀ (s : State) (x : HostCmd) (l : List HostCmd), s.dev.sys.cdReset = false → (s.dev.queue 14).items = x :: l → knownOp 14 x.op = false →
    Does s (.unknownCommand 1) { parts := [.vcs, .prog, .tt] } fun e => e.queue 14 = { s.dev.queue 14 with items := l } ∧ e.prog =
    { s.dev.prog with outcome := some (x.seq, 1) }) ∧
  (∀ (s : State) (x : HostCmd) (l : List HostCmd), s.dev.sys.cdReset = false → (s.dev.queue 15).items = x :: l → knownOp 15 x.op = false →
    Does s (.unknownCommand 2) { parts := [.vcs, .prog, .tt] } fun e => e.queue 15 = { s.dev.queue 15 with items := l } ∧ e.prog =
    { s.dev.prog with outcome := some (x.seq, 1) }) ∧
  (∀ (s : State) (i v : Nat), s.dev.sys.cdReset = false → s.dev.prog.changes = [(s.dev.tide, .param i v)] → Does s (.parameterTakeEffect
    none) { parts := [.prog] } fun e => e.prog =
    { s.dev.prog with params := Store.set s.dev.prog.params (((paramOf i).map Param.dflt).getD 0) i v, changes := [] }) ∧
  (∀ (s : State) (n : Nat) (p : CtlTable) (k : Nat × CtlChange), s.dev.sys.cdReset = false → s.dev.prog.changes = [(s.dev.tide, .table n
    p), k] → s.dev.tide < k.1 → Does s (.parameterTakeEffect none) { parts := [.prog] } fun e => e.prog =
    { s.dev.prog with tables := s.dev.prog.tables.set none n (some p), changes := [k] })

/-- What the events and activations of the shipped control programs do: PRM_F_WINDOW_END, PERMIT_QUEUE_TIMEOUT, PERMIT_FAULT_TIMEOUT,
  COOLANT_STATUS_TIMEOUT, COOLANT_LOSS_STOP, HOST_SETPOINT_TIMEOUT, DC_LINK_OVERVOLTAGE_STOP, FEEDBACK_HOLD_LIMIT, STOP_RAMP_END,
  PERSISTENT_MISS_HANDLING and the activations of the competition, DC-link, cell report, thermal, grid support and modulation tasks and of
  field tracking (PARAMETER_TAKE_EFFECT) complete as the clauses say: under the conditions named a form answers a next state with the
  values listed, and where a clause lists what it writes, nothing else changes, under the condition of each; without it they change
  nothing. Where a lag is stated its difference equation is the choice of the model (log entry 146), the input entries of the tasks are
  those of log entry 145. It rests on R171, R172, R176, R177, R178, R179, R181, R183, R184, R186, R188, R189. -/
def Obligations.ControlProgramCommands : Prop :=
  (∀ (s : State) (n span : Nat), s.dev.pushCode 15 = 1 → n < 2 → s.dev.fm.booted = true → Does s (.prmFWindowEnd n span)
    { parts := [.vcs] } fun e => e.queue 15 =
    { items := (s.dev.queue 15).items ++ [⟨2 ^ 44, ((s.dev.queue 15).last + 1) % 2 ^ 15⟩], last := ((s.dev.queue 15).last + 1) % 2 ^ 15 }) ∧
  (∀ (s : State) (n span : Nat), s.dev.pushCode 15 = 1 → 2 ≤ n → 10000 * span ≤ (n - 1) * 10 ^ 9 → s.dev.fm.booted = true → Does s
    (.prmFWindowEnd n span) { parts := [.vcs] } fun e => e.queue 15 =
    { items := (s.dev.queue 15).items ++ [⟨2 ^ 44 + 0x461C4000, ((s.dev.queue 15).last + 1) % 2 ^ 15⟩], last := ((s.dev.queue 15).last + 1) % 2 ^ 15 }) ∧
  (∀ (s : State) (n span : Nat), s.dev.fm.booted = false → Does s (.prmFWindowEnd n span) {} fun e => True) ∧
  (∀ (s : State), s.dev.sys.cdReset = false → s.dev.permitByFrequency = true → s.dev.lasted (some s.dev.prog.permitAt) 0x3D4CCCCD = true →
    Does s (.permitQueueTimeout) { parts := [.prog] } fun e => (e.prog =
    { s.dev.prog with permitOut := true, permitFrom := if s.dev.prog.permitOut then s.dev.prog.permitFrom else s.dev.tide })) ∧
  (∀ (s : State), s.dev.sys.cdReset = false → s.dev.permitByFrequency = false ∨ s.dev.lasted (some s.dev.prog.permitAt) 0x3D4CCCCD = false
    → Does s (.permitQueueTimeout) {} fun e => True) ∧
  (∀ (s : State), s.dev.sys.cdReset = false → s.dev.prog.permitOut = true → fpEq (s.dev.param 0x40) 0 = false → s.dev.lasted (some
    s.dev.prog.permitFrom) (s.dev.param 0x46) = true → Does s (.permitFaultTimeout) { parts := [.prog] } fun e => e.prog =
    { s.dev.prog with permit := some (s.dev.param 0x45), permitFault := true }) ∧
  (∀ (s : State), s.dev.sys.cdReset = false → s.dev.prog.permitOut = false ∨ s.dev.lasted (some s.dev.prog.permitFrom) (s.dev.param 0x46) =
    false → Does s (.permitFaultTimeout) {} fun e => True) ∧
  (∀ (s : State), s.dev.sys.cdReset = false → s.dev.prog.coolTerm = none → s.dev.lasted (some s.dev.prog.coolAt) 0x3C23D70A = true → Does s
    (.coolantStatusTimeout) { parts := [.prog] } fun e => (e.prog =
    { s.dev.prog with coolLost := true, coolFrom := s.dev.tide, coolTerm := some (if fpLe (s.dev.thermalAt s.dev.prog.pub.tHot) (fMul (s.dev.param 0x50) s.dev.prated) then (fMul (s.dev.param 0x50) s.dev.prated) else s.dev.thermalAt s.dev.prog.pub.tHot, s.dev.tide) })) ∧
  (∀ (s : State), s.dev.sys.cdReset = false → s.dev.lasted (some s.dev.prog.coolAt) 0x3C23D70A = false → Does s (.coolantStatusTimeout) {}
    fun e => True) ∧
  (∀ (s : State), s.dev.sys.cdReset = false → s.dev.prog.coolTerm.isSome = true → s.dev.lasted (some s.dev.prog.coolFrom) (s.dev.param
    0x52) = true → s.dev.prog.stop.causes = [] → Does s (.coolantLossStop) { parts := [.prog] } fun e => e.prog =
    { s.dev.prog with stop := { causes := [3], ramp := true, staged := false }, pub := { s.dev.prog.pub with stop := { causes := [3], ramp := true, staged := false } } }) ∧
  (∀ (s : State), s.dev.sys.cdReset = false → s.dev.prog.coolTerm = none → Does s (.coolantLossStop) {} fun e => True) ∧
  (∀ (s : State), s.dev.sys.cdReset = false → s.dev.prog.host.isSome = true → s.dev.lasted (some s.dev.prog.hostAt) (s.dev.param 0x90) =
    true → Does s (.hostSetpointTimeout) { parts := [.prog] } fun e => e.prog =
    { s.dev.prog with host := some (fMul (s.dev.param 0x91) s.dev.prated) }) ∧
  (∀ (s : State), s.dev.sys.cdReset = false → s.dev.prog.host = none ∨ s.dev.lasted (some s.dev.prog.hostAt) (s.dev.param 0x90) = false →
    Does s (.hostSetpointTimeout) {} fun e => True) ∧
  (∀ (s : State), s.dev.sys.cdReset = false → s.dev.prog.comp.curtail = true → s.dev.paramNat 0xA1 < s.dev.prog.comp.ovpN →
    s.dev.prog.stop.causes = [] → Does s (.dcLinkOvervoltageStop) { parts := [.prog] } fun e => e.prog =
    { s.dev.prog with stop := { causes := [5], ramp := true, staged := false }, pub := { s.dev.prog.pub with stop := { causes := [5], ramp := true, staged := false } } }) ∧
  (∀ (s : State), s.dev.sys.cdReset = false → s.dev.prog.comp.curtail = false ∨ s.dev.prog.comp.ovpN ≤ s.dev.paramNat 0xA1 → Does s
    (.dcLinkOvervoltageStop) {} fun e => True) ∧
  (∀ (s : State), s.dev.sys.cdReset = false → s.dev.loopClosed = true → s.dev.prog.losses.contains .phaseCurrent = true → s.dev.holdLimit
    (lossRole .phaseCurrent) < s.dev.prog.holds.at 0 0 → Does s (.feedbackHoldLimit .phaseCurrent) { parts := [.prog] } fun e => e.prog =
    { s.dev.prog with derived := true }) ∧
  (∀ (s : State), s.dev.sys.cdReset = false → s.dev.loopClosed = true → s.dev.prog.losses.contains .phaseCurrents = true → s.dev.holdLimit
    (lossRole .phaseCurrents) < s.dev.prog.holds.at 0 0 → Does s (.feedbackHoldLimit .phaseCurrents) { parts := [.prog] } fun e => e.prog =
    { s.dev.prog with stop := { causes := [6], ramp := false, staged := false }, pub := { s.dev.prog.pub with stop := { causes := [6], ramp := false, staged := false } } }) ∧
  (∀ (s : State), s.dev.sys.cdReset = false → s.dev.loopClosed = true → s.dev.prog.losses.contains .dcLink = true → s.dev.holdLimit
    (lossRole .dcLink) < s.dev.prog.holds.at 0 0 → s.dev.paramNat 0xA4 = 255 → Does s (.feedbackHoldLimit .dcLink) { parts := [.prog] } fun
    e => e.prog =
    { s.dev.prog with stop := { causes := [7], ramp := true, staged := false }, pub := { s.dev.prog.pub with stop := { causes := [7], ramp := true, staged := false } } }) ∧
  (∀ (s : State), s.dev.sys.cdReset = false → s.dev.loopClosed = true → s.dev.prog.losses.contains .gridVoltage = true → s.dev.holdLimit
    (lossRole .gridVoltage) < s.dev.prog.holds.at 0 0 → Does s (.feedbackHoldLimit .gridVoltage) { parts := [.prog] } fun e => e.prog =
    { s.dev.prog with stop := { causes := [8], ramp := true, staged := false }, pub := { s.dev.prog.pub with stop := { causes := [8], ramp := true, staged := false } } }) ∧
  (∀ (s : State), s.dev.sys.cdReset = false → s.dev.loopClosed = true → s.dev.prog.losses.contains .permit = true → s.dev.holdLimit
    (lossRole .permit) < s.dev.prog.holds.at 0 9 → Does s (.feedbackHoldLimit .permit) { parts := [.prog] } fun e => (e.prog =
    { s.dev.prog with permitOut := true, permitFrom := if s.dev.prog.permitOut then s.dev.prog.permitFrom else s.dev.tide })) ∧
  (∀ (s : State), s.dev.sys.cdReset = false → s.dev.loopClosed = true → s.dev.prog.losses.contains .temperature = true → s.dev.holdLimit
    (lossRole .temperature) < s.dev.prog.holds.at 0 8 → s.dev.prog.coolTerm = none → Does s (.feedbackHoldLimit .temperature)
    { parts := [.prog] } fun e => (e.prog =
    { s.dev.prog with tempLost := true, coolFrom := s.dev.tide, coolTerm := some (if fpLe (s.dev.thermalAt s.dev.prog.pub.tHot) (fMul (s.dev.param 0x50) s.dev.prated) then (fMul (s.dev.param 0x50) s.dev.prated) else s.dev.thermalAt s.dev.prog.pub.tHot, s.dev.tide) })) ∧
  (∀ (s : State), s.dev.sys.cdReset = false → s.dev.loopClosed = true → s.dev.paramNat 0xA2 < s.dev.prog.mod.out.length → Does s
    (.feedbackHoldLimit .cells) { parts := [.prog] } fun e => e.prog =
    { s.dev.prog with stop := { causes := [9], ramp := false, staged := false }, pub := { s.dev.prog.pub with stop := { causes := [9], ramp := false, staged := false } } }) ∧
  (∀ (s : State) (item : FeedbackLoss), s.dev.sys.cdReset = false → s.dev.loopClosed = false → Does s (.feedbackHoldLimit item) {} fun e =>
    True) ∧
  (∀ (s : State), s.dev.sys.cdReset = false → s.dev.rampOver = true → Does s (.stopRampEnd) { parts := [.prog, .tt] } fun e => e.prog.stop
    = { s.dev.prog.stop with ramp := false, staged := true } ∧ e.prog.pub.stop = e.prog.stop ∧ e.prog.mod.service = false ∧
    e.prog.mod.running = false ∧ (∀ m, m ∈ s.dev.ownedItems 8 → ∃ o, o ∈ e.tt.ended ∧ o.cls = 8 ∧ o.item = m ∧ o.word = 3 ∧ bitOf
    o.value.toNat 0 = false) ∧ (∀ m, m ∈ s.dev.ownedItems 3 → (⟨3, m, 0, BitVec.ofInt 64 (fpInt (s.dev.param 0xA3))⟩ : OutItem) ∈
    e.tt.ended)) ∧
  (∀ (s : State), s.dev.sys.cdReset = false → s.dev.rampOver = false → Does s (.stopRampEnd) {} fun e => True) ∧
  (∀ (s : State) (task : Fin 512) (x : Task), s.dev.sys.cdReset = false → s.dev.taskOf task.val = some x → s.dev.isCompetition x = false →
    ((x.outs.any fun o => o.cls == 8 || o.cls == 3) = false) → s.dev.pushCode 0 = 1 → s.dev.fm.booted = true → Does s
    (.persistentMissHandling task) { parts := [.vcs] } fun e => e.queue 0 =
    { items := (s.dev.queue 0).items ++ [⟨payloadOf 6 0 0x40000000, ((s.dev.queue 0).last + 1) % 2 ^ 15⟩], last := ((s.dev.queue 0).last + 1) % 2 ^ 15 }) ∧
  (∀ (s : State) (task : Fin 512) (x : Task), s.dev.sys.cdReset = false → s.dev.taskOf task.val = some x → ((x.outs.any fun o => o.cls == 8
    || o.cls == 3) = true) → s.dev.pushCode 0 = 1 → s.dev.fm.booted = true → Does s (.persistentMissHandling task)
    { blks := [.CLINK, .PWM], parts := [.vcs, .conv, .fm, .prog] } fun e => e.on .PWM_CTRL_ARM = false ∧ e.prog.rearm = true ∧ e.queue 0 =
    { items := (s.dev.queue 0).items ++ [⟨payloadOf 6 0 0x41200000, ((s.dev.queue 0).last + 1) % 2 ^ 15⟩], last := ((s.dev.queue 0).last + 1) % 2 ^ 15 }
    ∧ (∀ k < 32, s.dev.onAt .CLINK_STAT_RUNNING k = true → e.onAt .CLINK_STAT_BLKD k = true)) ∧
  (∀ (s : State) (task : Fin 512), s.dev.sys.cdReset = false → s.dev.taskOf task.val = none → Does s (.persistentMissHandling task) {} fun
    e => True) ∧
  (∀ (s : State) (task : Fin 512), s.dev.fm.booted = false → Does s (.persistentMissHandling task) {} fun e => True) ∧
  (∀ (s : State) (id : Fin 512) (u : Nat) (p : Nat) (tk : Task), s.dev.sys.cdReset = false → s.dev.prog.changes = [] → s.dev.taskOf id.val
    = some tk → tk.rate ≤ 6 → s.dev.input .competition (tk.input 0 0) = (u, true) → (p = (if s.dev.prog.comp.fromMeasured || s.dev.stopped
    || s.dev.seenBit 27 then s.dev.prog.cur.power else s.dev.prog.comp.pstar)) → Does s (.parameterTakeEffect (some (.task .competition
    id))) { parts := [.prog, .tt] } fun e => e.prog.comp.tag = minChain (e.candidates p u) / 2 ^ 32 ∧ (e.prog.comp.tag ≠ 0xFFFFFFFF →
    e.prog.comp.pstar = fClamp (minChain (e.candidates p u) % 2 ^ 32) (fMul (s.dev.param 0x30) s.dev.prated) s.dev.prated) ∧
    (e.prog.comp.tag = 0xFFFFFFFF → e.prog.comp.pstar = 0) ∧ (e.prog.comp.tag = 0xFFFFFFFF → s.dev.prog.stop.causes = [] →
    e.prog.stop.causes = [4]) ∧ e.prog.comp.curtail = fpLt (fMul (s.dev.param 0x24) (s.dev.param 0x04)) u ∧ e.prog.pub.pstar =
    e.prog.comp.pstar ∧ e.prog.pub.tag = e.prog.comp.tag ∧ e.prog.pub.curtail = e.prog.comp.curtail ∧ e.prog.params = s.dev.prog.params ∧
    e.prog.seen = s.dev.prog.seen) ∧
  (∀ (s : State) (id : Fin 512) (u : Nat) (p : Nat) (tk : Task), s.dev.sys.cdReset = false → s.dev.prog.changes = [] → s.dev.taskOf id.val
    = some tk → tk.rate ≤ 6 → s.dev.input .competition (tk.input 0 0) = (u, true) → (p = (if s.dev.prog.comp.fromMeasured || s.dev.stopped
    || s.dev.seenBit 27 then s.dev.prog.cur.power else s.dev.prog.comp.pstar)) → minChain (s.dev.candidates p u) / 2 ^ 32 = 0xFFFFFFFF →
    Does s (.parameterTakeEffect (some (.task .competition id))) { parts := [.prog, .tt] } fun e => e.prog.comp.tag = minChain
    (e.candidates p u) / 2 ^ 32 ∧ (e.prog.comp.tag ≠ 0xFFFFFFFF → e.prog.comp.pstar = fClamp (minChain (e.candidates p u) % 2 ^ 32) (fMul
    (s.dev.param 0x30) s.dev.prated) s.dev.prated) ∧ (e.prog.comp.tag = 0xFFFFFFFF → e.prog.comp.pstar = 0) ∧ (e.prog.comp.tag = 0xFFFFFFFF
    → s.dev.prog.stop.causes = [] → e.prog.stop.causes = [4]) ∧ e.prog.comp.curtail = fpLt (fMul (s.dev.param 0x24) (s.dev.param 0x04)) u ∧
    e.prog.pub.pstar = e.prog.comp.pstar ∧ e.prog.pub.tag = e.prog.comp.tag ∧ e.prog.pub.curtail = e.prog.comp.curtail ∧ e.prog.params =
    s.dev.prog.params ∧ e.prog.seen = s.dev.prog.seen) ∧
  (∀ (s : State) (id : Fin 512) (u : Nat) (tk : Task), s.dev.sys.cdReset = false → s.dev.prog.changes = [] → s.dev.taskOf id.val = some tk
    → tk.rate = 0 → s.dev.input .dcLink (tk.input 0 0) = (u, true) → s.dev.prog.seen.tag ≠ 7 → Does s (.parameterTakeEffect (some (.task
    .dcLink id))) { parts := [.prog] } fun e => e.prog.comp.xTrk = fClamp (fFma (fMul (s.dev.param 0x21) (s.dev.seconds 1)) (fSub u (fMul
    (s.dev.param 0x61) (s.dev.param 0x04))) s.dev.prog.comp.xTrk) (fMin 0 (fFma (s.dev.param 0x31) s.dev.prated s.dev.prog.seen.pstar))
    (fFma (s.dev.param 0x31) s.dev.prated s.dev.prog.seen.pstar) ∧ e.prog.comp.trk = some (fFma (fMul (s.dev.param 0x20) (s.dev.look 3
    (fDiv (fpAbs (fSub u (fMul (s.dev.param 0x61) (s.dev.param 0x04)))) (s.dev.param 0x04)))) (fSub u (fMul (s.dev.param 0x61) (s.dev.param
    0x04))) e.prog.comp.xTrk) ∧ e.prog.comp.pstar = s.dev.prog.comp.pstar) ∧
  (∀ (s : State) (id : Fin 512) (u : Nat) (tk : Task), s.dev.sys.cdReset = false → s.dev.prog.changes = [] → s.dev.taskOf id.val = some tk
    → tk.rate = 0 → s.dev.input .dcLink (tk.input 0 0) = (u, true) → s.dev.prog.seen.tag = 7 → Does s (.parameterTakeEffect (some (.task
    .dcLink id))) { parts := [.prog] } fun e => e.prog.comp.xTrk = fClamp (fFma (fMul (s.dev.param 0x21) (s.dev.seconds 1)) (fSub u (fMul
    (s.dev.param 0x61) (s.dev.param 0x04))) s.dev.prog.comp.xTrk) (fMin 0 (fMul (s.dev.param 0x12) s.dev.prated)) (fMul (s.dev.param 0x12)
    s.dev.prated) ∧ e.prog.comp.trk = some (fFma (fMul (s.dev.param 0x20) (s.dev.look 3 (fDiv (fpAbs (fSub u (fMul (s.dev.param 0x61)
    (s.dev.param 0x04)))) (s.dev.param 0x04)))) (fSub u (fMul (s.dev.param 0x61) (s.dev.param 0x04))) e.prog.comp.xTrk) ∧ e.prog.comp.pstar
    = s.dev.prog.comp.pstar) ∧
  (∀ (s : State) (id : Fin 512) (h : Nat) (tk : Task), s.dev.sys.cdReset = false → s.dev.prog.changes = [] → s.dev.taskOf id.val = some tk
    → tk.inputsOf 2 = [] → s.dev.prog.seen.cellHot = some h → Does s (.parameterTakeEffect (some (.task .thermal id)))
    { parts := [.prog, .tt] } fun e => e.prog.pub.tHot = h ∧ e.prog.pub.therm = some (fMin (s.dev.thermalAt h) e.coolNow) ∧
    e.prog.pub.coolLost = e.prog.coolTerm.isSome) ∧
  (∀ (s : State) (id : Fin 512) (u : Nat) (tk : Task), s.dev.sys.cdReset = false → s.dev.prog.changes = [] → s.dev.taskOf id.val = some tk
    → s.dev.paramOn 0x40 = true → s.dev.input .support (some (2, 62)) = (u, true) → (tk.inputsOf 2).contains (2, 62) = true → fpLe
    0x3B79096C (fDiv (s.dev.pairVoltage 62 u) (s.dev.param 0x42)) = true → fpLe (fDiv (s.dev.pairVoltage 62 u) (s.dev.param 0x42))
    0x3CA7EF9E = true → Does s (.parameterTakeEffect (some (.task .support id))) { parts := [.prog, .tt] } fun e => e.prog.permit = some
    (fMul (s.dev.param 0x41) (fClamp (fDiv (fSub (fDiv (s.dev.pairVoltage 62 u) (s.dev.param 0x42)) 0x3B83126F) 0x3C83126F) 0 0x3F800000))
    ∧ e.prog.permitOut = false ∧ e.prog.pub.permit = e.prog.permit ∧ e.prog.pub.fw = e.prog.comp.fwY ∧ e.prog.pub.vw = e.prog.comp.vwY ∧
    e.prog.pub.permitFault = e.prog.permitFault) ∧
  (∀ (s : State) (id : Fin 512) (u : Nat) (tk : Task), s.dev.sys.cdReset = false → s.dev.prog.changes = [] → s.dev.taskOf id.val = some tk
    → s.dev.paramOn 0x40 = true → s.dev.input .support (some (2, 62)) = (u, true) → (tk.inputsOf 2).contains (2, 62) = true → fpLe
    0x3B6BEDFA (fDiv (s.dev.pairVoltage 62 u) (s.dev.param 0x42)) = false → fpLe 0x3B79096C (fDiv (s.dev.pairVoltage 62 u) (s.dev.param
    0x42)) = false → s.dev.prog.permitOut = true → s.dev.lasted (some s.dev.prog.permitFrom) (s.dev.param 0x46) = true → Does s
    (.parameterTakeEffect (some (.task .support id))) { parts := [.prog, .tt] } fun e => e.prog.permit = some (s.dev.param 0x45) ∧
    e.prog.permitOut = true ∧ e.prog.permitFault = true ∧ e.prog.pub.fw = e.prog.comp.fwY ∧ e.prog.pub.vw = e.prog.comp.vwY ∧
    e.prog.pub.permitFault = e.prog.permitFault) ∧
  (∀ (s : State) (id : Fin 512) (tk : Task), s.dev.sys.cdReset = false → s.dev.prog.changes = [] → s.dev.taskOf id.val = some tk → fpEq
    (s.dev.param 0x40) 0 = true → s.dev.paramOn 0x40 = false → s.dev.paramOn 0x80 = false → s.dev.paramOn 0x70 = true → fpLt (fAdd
    (s.dev.param 0xC0) (s.dev.param 0x71)) s.dev.prog.seen.grid.f = true → Does s (.parameterTakeEffect (some (.task .support id)))
    { parts := [.prog, .tt] } fun e => e.prog.pub.permit = none ∧ e.prog.comp.vwY = none ∧ e.prog.comp.ppre = some
    (s.dev.prog.comp.ppre.getD s.dev.prog.seen.pstar) ∧ e.prog.comp.fwY = some (lagStep (s.dev.prog.comp.fwY.getD
    (s.dev.prog.comp.ppre.getD s.dev.prog.seen.pstar)) (fSub (s.dev.prog.comp.ppre.getD s.dev.prog.seen.pstar) (fDiv (fMul s.dev.prated
    (fSub s.dev.prog.seen.grid.f (fAdd (s.dev.param 0xC0) (s.dev.param 0x71)))) (fMul (s.dev.param 0xC0) (s.dev.param 0x72))))
    (s.dev.seconds (2 ^ tk.rate)) (s.dev.lagOf 0x73)) ∧ e.prog.pub.fw = e.prog.comp.fwY ∧ e.prog.pub.vw = e.prog.comp.vwY ∧
    e.prog.pub.permitFault = e.prog.permitFault) ∧
  (∀ (s : State) (id : Fin 512) (tk : Task), s.dev.sys.cdReset = false → s.dev.prog.changes = [] → s.dev.taskOf id.val = some tk → fpEq
    (s.dev.param 0x40) 0 = true → s.dev.paramOn 0x40 = false → s.dev.paramOn 0x80 = true → Does s (.parameterTakeEffect (some (.task
    .support id))) { parts := [.prog, .tt] } fun e => e.prog.comp.vwY = some (lagStep (s.dev.prog.comp.vwY.getD (fMul s.dev.prated
    (s.dev.look 1 s.dev.prog.seen.grid.vmax))) (fMul s.dev.prated (s.dev.look 1 s.dev.prog.seen.grid.vmax)) (s.dev.seconds (2 ^ tk.rate))
    (s.dev.lagOf 0x81)) ∧ e.prog.pub.fw = e.prog.comp.fwY ∧ e.prog.pub.vw = e.prog.comp.vwY ∧ e.prog.pub.permitFault = e.prog.permitFault) ∧
  (∀ (s : State) (id : Fin 512) (n : Nat) (tk : Task), s.dev.sys.cdReset = false → s.dev.prog.changes = [] → s.dev.taskOf id.val = some tk
    → tk.inputsOf 3 = [(3, n)] → s.dev.itemFresh .cells (3, n) = true → Does s (.parameterTakeEffect (some (.task .cells id)))
    { parts := [.prog, .tt] } fun e => e.prog.pub.cellHot = some (s.dev.cellTemperature (s.dev.itemWord (3, n) % 2 ^ 26)) ∧
    e.prog.pub.cellStale = 0) ∧
  (∀ (s : State) (id : Fin 512) (n : Nat) (tk : Task), s.dev.sys.cdReset = false → s.dev.prog.changes = [] → s.dev.taskOf id.val = some tk
    → tk.inputsOf 3 = [(3, n)] → s.dev.itemFresh .cells (3, n) = false → Does s (.parameterTakeEffect (some (.task .cells id)))
    { parts := [.prog, .tt] } fun e => e.prog.pub.cellHot = none ∧ e.prog.pub.cellStale = 1) ∧
  (∀ (s : State) (id : Fin 512) (tk : Task), s.dev.sys.cdReset = false → s.dev.prog.changes = [] → s.dev.taskOf id.val = some tk → tk.rate
    = 0 → tk.inputsOf 3 = [] → s.dev.seenBit 27 = true → s.dev.prog.stop.causes = [] → s.dev.prog.stop.ramp = false → s.dev.prog.mod.out =
    [] → Does s (.parameterTakeEffect (some (.task .modulation id))) { parts := [.prog, .tt] } fun e => e.prog.mod.task = some id.val ∧
    e.prog.mod.service = false ∧ e.prog.mod.running = false ∧ (∀ m, m ∈ e.ownedItems 8 → ∃ o, o ∈ e.tt.ended ∧ o.cls = 8 ∧ o.item = m ∧
    o.word = 3 ∧ bitOf o.value.toNat 0 = false) ∧ (∀ m, m ∈ e.ownedItems 3 → (⟨3, m, 0, BitVec.ofInt 64 (fpInt (s.dev.param 0xA3))⟩ :
    OutItem) ∈ e.tt.ended)) ∧
  (∀ (s : State) (id : Fin 512) (tk : Task), s.dev.sys.cdReset = false → s.dev.prog.changes = [] → s.dev.taskOf id.val = some tk → tk.rate
    = 0 → tk.inputsOf 3 = [] → s.dev.seenBit 27 = false → s.dev.prog.stop.causes = [] → s.dev.prog.seen.stop.causes = [] →
    s.dev.prog.stop.ramp = false → s.dev.prog.mod.out = [] → s.dev.prog.mod.running = true → Does s (.parameterTakeEffect (some (.task
    .modulation id))) { parts := [.prog, .tt] } fun e => e.prog.mod.running = true ∧ (∀ m, m ∈ e.ownedItems 8 → ∃ o, o ∈ e.tt.ended ∧ o.cls
    = 8 ∧ o.item = m ∧ o.word = 3 ∧ bitOf o.value.toNat 0 = true) ∧ (∀ m, m ∈ e.ownedItems 3 → ∃ o, o ∈ e.tt.ended ∧ o.cls = 3 ∧ o.item =
    m)) ∧
  (∀ (s : State) (r : Role) (id : Fin 512), s.dev.sys.cdReset = false → s.dev.prog.changes = [] → s.dev.taskOf id.val = none → Does s
    (.parameterTakeEffect (some (.task r id))) {} fun e => True) ∧
  (∀ (s : State) (id : Fin 512), s.dev.sys.cdReset = false → s.dev.prog.changes = [] → s.dev.on .SAF_PGCFG_EN = false → Does s
    (.parameterTakeEffect (some (.safetyGrid id))) {} fun e => True) ∧
  (∀ (s : State), s.dev.sys.cdReset = false → s.dev.prog.changes = [] → ((∀ k, k < 512 → s.dev.onAt .NODE_LCFG_EN k = false)) →
    s.dev.prog.seen.tag ≠ 7 → Does s (.parameterTakeEffect (some .fieldTracking)) {} fun e => True) ∧
  (∀ (s : State) (n : Nat), s.dev.sys.cdReset = false → s.dev.prog.changes = [] → (List.range 512).flatMap s.dev.landingNodes = [n] →
    Dev.optimiserFresh s.mem s.dev n = true → s.dev.prog.seen.tag ≠ 7 → s.dev.prog.seen.curtail = false → (s.dev.prog.scans.at {} n).phase
    ≠ 3 → Does s (.parameterTakeEffect (some .fieldTracking)) { parts := [.tt, .prog] } fun e => (∀ k, k < 4 →
    ({ node := n, off := 8 + k, val := (leBytes 4 (fDiv (Dev.upValue s.mem s.dev n 0x14 4) (fAdd 0 (Dev.upValue s.mem s.dev n 0x14 4)))).getD k 0 }
    : LineByte) ∈ e.tt.endedStores))

/-- What the events and activations of the shipped grid programs do: SYNC_LOCK, SYNC_FREE_TIMEOUT, RIDE_THROUGH_ENTRY, RT_TIMER_RESET,
  FREQUENCY_TRIP, PERTURBATION_WINDOW_OPEN, PERTURBATION_WINDOW_CLOSE, ISLANDING_NEXT_POST, RECONNECTION_DELAY_EXPIRY,
  ENTER_SERVICE_RAMP_END and the activations of the grid synchronisation, supervision, detector and current-control tasks
  (PARAMETER_TAKE_EFFECT) complete as the clauses say: under the conditions named a form answers a next state with the values listed, and
  where a clause lists what it writes, nothing else changes, under the condition of each; without it they change nothing. Lags, quadrature
  filters and resonant terms have the difference equations of log entry 146, the input entries are those of log entry 145, both choices of
  the model. It rests on R169, R193, R194, R196, R199, R201, R203, R205, R206, R208, R210, R212. -/
def Obligations.GridProgramCommands : Prop :=
  (∀ (s : State), s.dev.sys.cdReset = false → s.dev.prog.sync = .searching → s.dev.lasted s.dev.prog.pll.lockFrom (s.dev.param 0xC3) = true
    → Does s (.syncLock .lock) { parts := [.prog] } fun e => e.prog = { s.dev.prog with sync := .locked }) ∧
  (∀ (s : State), s.dev.sys.cdReset = false → s.dev.prog.sync ≠ .searching → Does s (.syncLock .lock) {} fun e => True) ∧
  (∀ (s : State), s.dev.sys.cdReset = false → s.dev.prog.sync = .locked → fpLt s.dev.prog.grid.v1 (s.dev.param 0xC2) = true ∨
    s.dev.prog.pll.lost = true → Does s (.syncLock .lost) { parts := [.prog] } fun e => e.prog =
    { s.dev.prog with sync := .free, pll := { s.dev.prog.pll with freeFrom := some s.dev.tide } }) ∧
  (∀ (s : State), s.dev.sys.cdReset = false → s.dev.prog.sync ≠ .locked → Does s (.syncLock .lost) {} fun e => True) ∧
  (∀ (s : State), s.dev.sys.cdReset = false → s.dev.prog.sync = .free → s.dev.lockVoltage = true → s.dev.prog.pll.lost = false → Does s
    (.syncLock .regained) { parts := [.prog] } fun e => e.prog =
    { s.dev.prog with sync := .locked, pll := { s.dev.prog.pll with freeFrom := none } }) ∧
  (∀ (s : State), s.dev.sys.cdReset = false → s.dev.prog.sync ≠ .free → Does s (.syncLock .regained) {} fun e => True) ∧
  (∀ (s : State), s.dev.sys.cdReset = false → s.dev.prog.sync = .free → s.dev.lasted s.dev.prog.pll.freeFrom 0x40000000 = true → Does s
    (.syncFreeTimeout) { parts := [.prog] } fun e => e.prog =
    { s.dev.prog with sync := .searching, pll := { s.dev.prog.pll with freeFrom := none, lockFrom := none } }) ∧
  (∀ (s : State), s.dev.sys.cdReset = false → s.dev.prog.sync ≠ .free ∨ s.dev.lasted s.dev.prog.pll.freeFrom 0x40000000 = false → Does s
    (.syncFreeTimeout) {} fun e => True) ∧
  (∀ (s : State), s.dev.sys.cdReset = false → s.dev.paramNat 0xD6 ≤ s.dev.prog.cur.entN → s.dev.prog.ride = false → Does s
    (.rideThroughEntry) { parts := [.prog] } fun e => e.prog = { s.dev.prog with ride := true, pwin := false }) ∧
  (∀ (s : State), s.dev.sys.cdReset = false → s.dev.prog.cur.entN < s.dev.paramNat 0xD6 ∨ s.dev.prog.ride = true → Does s
    (.rideThroughEntry) {} fun e => True) ∧
  (∀ (s : State), s.dev.sys.cdReset = false → s.dev.prog.tu = true → fpLe (s.dev.param 0xD7) (s.dev.seconds s.dev.prog.watch.tuOff) = true
    → Does s (.rtTimerReset false) { parts := [.prog] } fun e => (e.prog =
    { s.dev.prog with tu := false, tuT := 0, watch := { s.dev.prog.watch with tuOff := 0, rtEnd := if s.dev.prog.tov then s.dev.prog.watch.rtEnd else some s.dev.tide } })) ∧
  (∀ (s : State), s.dev.sys.cdReset = false → s.dev.prog.tov = true → fpLe (s.dev.param 0xD7) (s.dev.seconds s.dev.prog.watch.tovOff) =
    true → Does s (.rtTimerReset true) { parts := [.prog] } fun e => (e.prog =
    { s.dev.prog with tov := false, tovT := 0, watch := { s.dev.prog.watch with tovOff := 0, rtEnd := if s.dev.prog.tu then s.dev.prog.watch.rtEnd else some s.dev.tide } })) ∧
  (∀ (s : State) (exceed : Bool), s.dev.sys.cdReset = false → ((if exceed then s.dev.prog.tov else s.dev.prog.tu) = false ∨ fpLe
    (s.dev.param 0xD7) (s.dev.seconds (if exceed then s.dev.prog.watch.tovOff else s.dev.prog.watch.tuOff)) = false) → Does s
    (.rtTimerReset exceed) {} fun e => True) ∧
  (∀ (s : State) (element : Fin 4), s.dev.sys.cdReset = false → s.dev.freqDue element.val = true → Does s (.frequencyTrip element)
    { parts := [.prog] } fun e => e.prog =
    { s.dev.prog with watch := { s.dev.prog.watch with causes := s.dev.prog.watch.causes ++ [3 + element.val] } }) ∧
  (∀ (s : State) (element : Fin 4), s.dev.sys.cdReset = false → s.dev.freqDue element.val = false → Does s (.frequencyTrip element) {} fun
    e => True) ∧
  (∀ (s : State), s.dev.sys.cdReset = false → s.dev.mayPerturb = true → s.dev.perturbDue = true → s.dev.prog.pwin = false → Does s
    (.perturbationWindowOpen) { parts := [.prog] } fun e => e.prog =
    { s.dev.prog with pwin := true, pll := { s.dev.prog.pll with winAt := some s.dev.tide } }) ∧
  (∀ (s : State), s.dev.sys.cdReset = false → s.dev.mayPerturb = false ∨ s.dev.perturbDue = false ∨ s.dev.prog.pwin = true → Does s
    (.perturbationWindowOpen) {} fun e => True) ∧
  (∀ (s : State), s.dev.sys.cdReset = false → s.dev.prog.pwin = true → s.dev.lasted s.dev.prog.pll.winAt (fDiv (s.dev.param 0xF2)
    0x447A0000) = true → s.dev.perturbPositive = false → Does s (.perturbationWindowClose) { parts := [.prog] } fun e => e.prog =
    { s.dev.prog with pwin := false, isln := 0 }) ∧
  (∀ (s : State), s.dev.sys.cdReset = false → s.dev.prog.pwin = true → s.dev.lasted s.dev.prog.pll.winAt (fDiv (s.dev.param 0xF2)
    0x447A0000) = true → s.dev.perturbPositive = true → Does s (.perturbationWindowClose) { parts := [.prog] } fun e => (e.prog =
    { s.dev.prog with pwin := false, isln := satAdd 15 s.dev.prog.isln 1, watch := { s.dev.prog.watch with causes := s.dev.prog.watch.causes ++ (if s.dev.paramNat 0xF5 ≤ satAdd 15 s.dev.prog.isln 1 then [7] else []) } })) ∧
  (∀ (s : State), s.dev.sys.cdReset = false → s.dev.prog.pwin = false → Does s (.perturbationWindowClose) {} fun e => True) ∧
  (∀ (s : State) (n : Nat), s.dev.nextWindow = some n → s.dev.paramOn 0xF9 = true → s.dev.on .ETH_PTPCTL_LOCKED = true → s.dev.pushCode 0 =
    1 → s.dev.fm.booted = true → Does s (.islandingNextPost) { parts := [.vcs] } fun e => e.queue 0 =
    { items := (s.dev.queue 0).items ++ [⟨payloadOf 1 0xF8 (fpOfInt (n % 2 ^ 24 : Nat)).1 % 2 ^ 48, ((s.dev.queue 0).last + 1) % 2 ^ 15⟩], last := ((s.dev.queue 0).last + 1) % 2 ^ 15 }) ∧
  (∀ (s : State), s.dev.nextWindow = none ∨ s.dev.paramOn 0xF9 = false ∨ s.dev.on .ETH_PTPCTL_LOCKED = false → Does s (.islandingNextPost)
    {} fun e => True) ∧
  (∀ (s : State), s.dev.fm.booted = false → Does s (.islandingNextPost) {} fun e => True) ∧
  (∀ (s : State), s.dev.sys.cdReset = false → s.dev.prog.trip ≠ 0 ∨ s.dev.prog.starting = true → s.dev.paramOn 0xB7 = true → s.dev.gridGood
    = true → s.dev.lasted s.dev.prog.pll.rcFrom (s.dev.param 0xB1) = true → s.dev.prog.stop.causes = [] → Does s (.reconnectionDelayExpiry)
    { parts := [.prog] } fun e => e.prog =
    { s.dev.prog with trip := 0, starting := false, enter := true, pll := { s.dev.prog.pll with rcFrom := none, enterAt := s.dev.tide }, mod := { s.dev.prog.mod with service := true } }) ∧
  (∀ (s : State), s.dev.sys.cdReset = false → s.dev.gridGood = false ∨ s.dev.paramOn 0xB7 = false ∨ s.dev.lasted s.dev.prog.pll.rcFrom
    (s.dev.param 0xB1) = false → Does s (.reconnectionDelayExpiry) {} fun e => True) ∧
  (∀ (s : State), s.dev.sys.cdReset = false → s.dev.prog.enter = true → s.dev.lasted (some s.dev.prog.pll.enterAt) (s.dev.param 0xB6) =
    true → Does s (.enterServiceRampEnd) { parts := [.prog] } fun e => e.prog = { s.dev.prog with enter := false }) ∧
  (∀ (s : State), s.dev.sys.cdReset = false → s.dev.prog.enter = false ∨ s.dev.lasted (some s.dev.prog.pll.enterAt) (s.dev.param 0xB6) =
    false → Does s (.enterServiceRampEnd) {} fun e => True) ∧
  (∀ (s : State) (id : Fin 512) (va vb vc : Nat) (tk : Task), s.dev.sys.cdReset = false → s.dev.prog.changes = [] → s.dev.taskOf id.val =
    some tk → s.dev.input .sync (tk.input 0 0) = (va, true) → s.dev.input .sync (tk.input 0 1) = (vb, true) → s.dev.input .sync (tk.input 0
    2) = (vc, true) → Does s (.parameterTakeEffect (some (.task .sync id))) { parts := [.prog, .tt] } fun e => e.prog.pll.sogi = sogiAll
    s.dev.prog.pll.sogi [va, vb, vc] (omegaT (s.dev.prog.pll.f.getD (s.dev.param 0xC0)) (s.dev.seconds (2 ^ tk.rate))) ∧ e.prog.grid.v1 =
    fDiv (lengthOf (sequences e.prog.pll.sogi).1) s.dev.phasePeak ∧ e.prog.grid.v2 = fDiv (lengthOf (sequences e.prog.pll.sogi).2)
    s.dev.phasePeak ∧ e.prog.grid.theta = s.dev.prog.pll.theta ∧ (e.prog.grid.ud, e.prog.grid.uq) = parkOf (sequences e.prog.pll.sogi).1
    s.dev.prog.pll.theta ∧ e.prog.pll.fe.isSome = true ∧ e.prog.pll.theta = (s.dev.prog.pll.theta + turnsOf (fMul (e.prog.pll.fe.getD 0)
    (s.dev.seconds (2 ^ tk.rate)))) % 2 ^ 32 ∧ (s.dev.prog.sync = .free → e.prog.pll.x = s.dev.prog.pll.x) ∧ e.prog.grid.f = lagStep
    (s.dev.prog.pll.f.getD (e.prog.pll.fe.getD 0)) (e.prog.pll.fe.getD 0) (s.dev.seconds (2 ^ tk.rate)) (s.dev.param 0xC4) ∧
    (e.prog.grid.qstar = (if e.prog.pwin then fFma (s.dev.param 0xF3) s.dev.prated e.reactive else e.reactive)) ∧ e.prog.pub.grid =
    e.prog.grid ∧ e.prog.pub.word = e.prog.gridWord (s.dev.ufrAt e.prog.grid.f) ∧ e.prog.ride = s.dev.prog.ride ∧ e.prog.params =
    s.dev.prog.params) ∧
  (∀ (s : State) (id : Fin 512) (va vb vc : Nat) (k : Nat) (tk : Task), s.dev.sys.cdReset = false → s.dev.prog.changes = [] → s.dev.taskOf
    id.val = some tk → s.dev.input .sync (tk.input 0 0) = (va, true) → s.dev.input .sync (tk.input 0 1) = (vb, true) → s.dev.input .sync
    (tk.input 0 2) = (vc, true) → s.dev.prog.watch.causes = [k] → s.dev.prog.trip = 0 → Does s (.parameterTakeEffect (some (.task .sync
    id))) { parts := [.prog, .tt] } fun e => e.prog.trip = k ∧ e.prog.enter = false) ∧
  (∀ (s : State) (id : Fin 512) (tk : Task), s.dev.sys.cdReset = false → s.dev.prog.changes = [] → s.dev.taskOf id.val = some tk →
    s.dev.prog.sync = .locked → (s.dev.input .sync (tk.input 0 0)).2 = false → Does s (.parameterTakeEffect (some (.task .sync id)))
    { parts := [.prog, .tt] } fun e => e.prog.sync = .free ∧ e.prog.pll.freeFrom = some s.dev.tide) ∧
  (∀ (s : State) (id : Fin 512) (tk : Task), s.dev.sys.cdReset = false → s.dev.prog.changes = [] → s.dev.taskOf id.val = some tk →
    s.dev.prog.tu = true → fpLt s.dev.prog.grid.vmin (s.dev.param 0xD4) = true → fpLt s.dev.prog.grid.vmin (s.dev.look 4 (s.dev.seconds
    (s.dev.prog.tuT + 2 ^ tk.rate))) = true → fpLe (s.dev.param 0xD7) (s.dev.seconds 0) = false → Does s (.parameterTakeEffect (some (.task
    .supervision id))) { parts := [.prog] } fun e => e.prog.tu = true ∧ e.prog.tuT = s.dev.prog.tuT + 2 ^ tk.rate ∧ 1 ∈ e.prog.watch.causes
    ∧ 1 ∈ e.prog.watch.tripping ∧ e.prog.pwin = false ∧ e.prog.trip = s.dev.prog.trip) ∧
  (∀ (s : State) (id : Fin 512) (tk : Task), s.dev.sys.cdReset = false → s.dev.prog.changes = [] → s.dev.taskOf id.val = some tk →
    s.dev.prog.tu = false → fpLt s.dev.prog.grid.vmin (s.dev.param 0xD4) = true → fpLe (s.dev.param 0xD7) (s.dev.seconds 0) = false → Does
    s (.parameterTakeEffect (some (.task .supervision id))) { parts := [.prog] } fun e => e.prog.tu = true ∧ e.prog.tuT = 0 ∧ e.prog.pwin =
    false) ∧
  (∀ (s : State) (id : Fin 512) (tk : Task), s.dev.sys.cdReset = false → s.dev.prog.changes = [] → s.dev.taskOf id.val = some tk →
    s.dev.prog.tu = false → s.dev.prog.tov = false → fpLt s.dev.prog.grid.vmin (s.dev.param 0xD4) = false → fpLt (s.dev.param 0xD5)
    s.dev.prog.grid.vmax = false → Does s (.parameterTakeEffect (some (.task .supervision id))) { parts := [.prog] } fun e => e.prog.tu =
    false ∧ e.prog.tov = false ∧ e.prog.pwin = s.dev.prog.pwin) ∧
  (∀ (s : State) (id : Fin 512) (tk : Task), s.dev.sys.cdReset = false → s.dev.prog.changes = [] → s.dev.taskOf id.val = some tk →
    s.dev.passiveBlocked = true → Does s (.parameterTakeEffect (some (.task .detectors id))) { parts := [.prog] } fun e =>
    e.prog.watch.rocN = 0 ∧ e.prog.watch.causes = s.dev.prog.watch.causes ∧ e.prog.trip = s.dev.prog.trip) ∧
  (∀ (s : State) (id : Fin 512) (tk : Task), s.dev.sys.cdReset = false → s.dev.prog.changes = [] → s.dev.taskOf id.val = some tk →
    s.dev.passiveBlocked = false → s.dev.paramOn 0xFA = true → fpLt (s.dev.param 0xFB) (fpAbs s.dev.prog.grid.rocof) = true → 2 ≤
    s.dev.prog.watch.rocN → Does s (.parameterTakeEffect (some (.task .detectors id))) { parts := [.prog] } fun e => e.prog.watch.rocN = 3
    ∧ 8 ∈ e.prog.watch.causes) ∧
  (∀ (s : State) (id : Fin 512) (o : Nat) (tk : Task), s.dev.sys.cdReset = false → s.dev.prog.changes = [] → s.dev.taskOf id.val = some tk
    → s.dev.passiveBlocked = false → s.dev.paramOn 0xFA = false → s.dev.paramOn 0xFD = true → s.dev.prog.watch.delta[(fpInt (fDiv (fDiv
    0x3F800000 (s.dev.param 0xC0)) (s.dev.seconds (2 ^ tk.rate)))).toNat - 1]? = some o → fpLt (s.dev.param 0xFE) (fMul (fpRat ((toSigned
    32 (atanTurn s.dev.prog.grid.uq s.dev.prog.grid.ud + 2 ^ 32 - o)).natAbs) (2 ^ 32)) 0x43B40000) = true → Does s (.parameterTakeEffect
    (some (.task .detectors id))) { parts := [.prog] } fun e => 9 ∈ e.prog.watch.causes ∧ e.prog.watch.rocN = 0) ∧
  (∀ (s : State) (id : Fin 512) (ia ib ic u va vb vc : Nat) (tk : Task), s.dev.sys.cdReset = false → s.dev.prog.changes = [] → s.dev.taskOf
    id.val = some tk → tk.rate = 0 → (currentInputs tk).map (s.dev.input .current) = [(ia, true), (ib, true), (ic, true), (u, true), (va,
    true), (vb, true), (vc, true)] → s.dev.seenBit 27 = true ∨ s.dev.seenBit 31 = false → Does s (.parameterTakeEffect (some (.task
    .current id))) { parts := [.prog] } fun e => e.prog.cur.idRef = 0 ∧ e.prog.cur.iqRef = 0 ∧ e.prog.trip = s.dev.prog.trip ∧ e.prog.grid
    = s.dev.prog.grid ∧ e.prog.stop = s.dev.prog.stop ∧ e.prog.udc = u) ∧
  (∀ (s : State) (id : Fin 512) (ia ib ic u va vb vc : Nat) (tk : Task), s.dev.sys.cdReset = false → s.dev.prog.changes = [] → s.dev.taskOf
    id.val = some tk → tk.rate = 0 → (currentInputs tk).map (s.dev.input .current) = [(ia, true), (ib, true), (ic, true), (u, true), (va,
    true), (vb, true), (vc, true)] → s.dev.prog.ride = false → fpLt (s.dev.vfast (clarkeOf va vb vc)) (s.dev.param 0xD4) = true →
    s.dev.paramNat 0xD6 ≤ satAdd 255 s.dev.prog.cur.entN 1 → Does s (.parameterTakeEffect (some (.task .current id))) { parts := [.prog] }
    fun e => e.prog.ride = true ∧ e.prog.pwin = false ∧ e.prog.cur.entN = satAdd 255 s.dev.prog.cur.entN 1) ∧
  (∀ (s : State) (id : Fin 512) (ia ib ic u va vb vc : Nat) (tk : Task), s.dev.sys.cdReset = false → s.dev.prog.changes = [] → s.dev.taskOf
    id.val = some tk → tk.rate = 0 → (currentInputs tk).map (s.dev.input .current) = [(ia, true), (ib, true), (ic, true), (u, true), (va,
    true), (vb, true), (vc, true)] → fpLt s.dev.prog.seen.grid.vmin (s.dev.param 0xD8) = true → Does s (.parameterTakeEffect (some (.task
    .current id))) { parts := [.prog] } fun e => e.prog.mc = true ∧ e.prog.cur.idRef = 0 ∧ e.prog.cur.iqRef = 0) ∧
  (∀ (s : State) (id : Fin 512) (ia ib ic u va vb vc : Nat) (n : Nat) (tk : Task), s.dev.sys.cdReset = false → s.dev.prog.changes = [] →
    s.dev.taskOf id.val = some tk → tk.rate = 0 → (currentInputs tk).map (s.dev.input .current) = [(ia, true), (ib, true), (ic, true), (u,
    true), (va, true), (vb, true), (vc, true)] → s.dev.seenBit 27 = false → s.dev.seenBit 29 = false → s.dev.seenBit 31 = true →
    s.dev.prog.ride = false → s.dev.prog.mc = false → s.dev.prog.cur.exit = none → s.dev.prog.cur.mcEnd = none →
    s.dev.prog.seen.stop.causes = [] → s.dev.prog.seen.stop.ramp = false → s.dev.paramOn 0xB8 = false → fpLt (s.dev.vfast (clarkeOf va vb
    vc)) (s.dev.param 0xD4) = false → fpLt (s.dev.param 0xD5) (s.dev.vfast (clarkeOf va vb vc)) = false → 1 ≤ s.dev.paramNat 0xD6 → fpLt
    s.dev.prog.seen.grid.vmin (s.dev.param 0xD8) = false → fpLt (s.dev.param 0xDA) s.dev.prog.seen.grid.vmax = false → n =
    (s.dev.prog.seen.grid.theta + turnsOf (fMul s.dev.prog.seen.grid.f (s.dev.seconds 1)) + s.dev.prog.seen.grid.thd) % 2 ^ 32 → Does s
    (.parameterTakeEffect (some (.task .current id))) { parts := [.prog] } fun e => (e.prog.cur.idRef, e.prog.cur.iqRef) = limitRefs (fMul
    (s.dev.param 0x12) s.dev.ratedPeak) (fDiv s.dev.prog.seen.pstar (fMul 0x3FC00000 (fMax s.dev.prog.seen.grid.ud (fMul 0x3D4CCCCD
    s.dev.phasePeak)))) (fpNeg (fDiv s.dev.prog.seen.grid.qstar (fMul 0x3FC00000 (fMax s.dev.prog.seen.grid.ud (fMul 0x3D4CCCCD
    s.dev.phasePeak))))) (s.dev.paramOn 0x13) ∧ e.prog.cur.xd = fClamp (fFma (fMul (s.dev.param 0x11) (s.dev.seconds 1)) (fSub
    e.prog.cur.idRef (parkOf (clarkeOf ia ib ic) n).1) s.dev.prog.cur.xd) (fpNeg (fDiv (fMul (s.dev.param 0x14) u) 0x40000000)) (fDiv (fMul
    (s.dev.param 0x14) u) 0x40000000) ∧ e.prog.cur.xq = fClamp (fFma (fMul (s.dev.param 0x11) (s.dev.seconds 1)) (fSub e.prog.cur.iqRef
    (parkOf (clarkeOf ia ib ic) n).2) s.dev.prog.cur.xq) (fpNeg (fDiv (fMul (s.dev.param 0x14) u) 0x40000000)) (fDiv (fMul (s.dev.param
    0x14) u) 0x40000000) ∧ e.prog.cur.refs.length = 3 ∧ e.prog.ride = false ∧ e.prog.mc = false)

/-- What the NODE block does with landings and rounds: NODE_RUN, LANDING_ENABLE, NODE_ROUND_START, HELLO, HELLOACK_SEND, LANDING_DOWN,
  NODE_COUNTER_CLEAR and BROADCAST_SEND complete as the clauses say: under the conditions named a form answers a next state with the values
  listed, and where a clause lists what it writes, nothing else changes; the layouts of the frames that carry messages are those of the
  Ethernet, IPv4 and UDP standards (log entry 155, from outside the spec). It rests on R219, R220, R221, R222, R225, R226, R231, R232,
  R240. -/
def Obligations.LandingCommands : Prop :=
  (∀ (s : State), s.dev.sys.cdReset = false → s.dev.landingsBad = false → (s.dev.rd .NODE_CFG_RETRY + 1) * s.dev.rd .NODE_CFG_RWIN <
    s.dev.rd .NODE_ROUND_MS → Does s (.nodeRun .ferryman true) ({ flds := [.NODE_CTRL_RUN] } : Writes).access fun e => e.on .NODE_CTRL_RUN
    = true) ∧
  (∀ (s : State), s.dev.sys.cdReset = false → s.dev.rd .NODE_ROUND_MS ≤ (s.dev.rd .NODE_CFG_RETRY + 1) * s.dev.rd .NODE_CFG_RWIN → Does s
    (.nodeRun .ferryman true) ({ flds := [.NODE_STAT_CFGE] } : Writes).access fun e => e.on .NODE_STAT_CFGE = true) ∧
  (∀ (s : State), s.dev.sys.cdReset = false → Does s (.nodeRun .ferryman false)
    ({ flds := [.NODE_CTRL_RUN, .NODE_STAT_RUNNING], parts := [.node] } : Writes).access fun e => e.on .NODE_CTRL_RUN = false ∧ e.on
    .NODE_STAT_RUNNING = false ∧ e.node = { s.dev.node with visits := [] }) ∧
  (∀ (s : State) (landing : Fin 512) (value : BitVec 32), s.dev.sys.cdReset = false → s.dev.onAt .NODE_LCFG_EN landing.val = false → bitOf
    value.toNat 31 = true → ((((s.dev.answer.lcfgFields landing.val value.toNat).flagAt .NODE_LCFG_EN landing.val true).wrAt
    .NODE_LCFG_STATE landing.val 0).landingsBad) = false → Does s (.landingEnable .ferryman landing value)
    ({ flds := [.NODE_LCFG_EN, .NODE_LCFG_STATE, .NODE_LCFG_TAG, .NODE_LCFG_PORT, .NODE_LCFG_PCP, .NODE_LCFG_COUNT, .NODE_LCFG_VID], parts := [.node] }
    : Writes).access fun e => e.onAt .NODE_LCFG_EN landing.val = true ∧ e.rdAt .NODE_LCFG_STATE landing.val = 0 ∧ e.rdAt .NODE_LCFG_COUNT
    landing.val = max 1 (min 1024 (value.toNat / 4096 % 2048)) ∧ e.rdAt .NODE_LCFG_VID landing.val = value.toNat % 4096 ∧ (∀ k < 512, k ≠
    landing.val → e.onAt .NODE_LCFG_EN k = s.dev.onAt .NODE_LCFG_EN k)) ∧
  (∀ (s : State) (landing : Fin 512) (value : BitVec 32), s.dev.sys.cdReset = false → s.dev.onAt .NODE_LCFG_EN landing.val = true → Does s
    (.landingEnable .ferryman landing value) ({ flds := [.NODE_STAT_CFGE] } : Writes).access fun e => e.on .NODE_STAT_CFGE = true) ∧
  (∀ (s : State) (landing : Fin 512) (value : BitVec 32), s.dev.sys.cdReset = false → s.dev.onAt .NODE_LCFG_EN landing.val = false → bitOf
    value.toNat 31 = true → s.dev.landBase landing.val < 1536 → Does s (.landingEnable .ferryman landing value)
    ({ flds := [.NODE_LCFG_EN, .NODE_LCFG_STATE, .NODE_LCFG_TAG, .NODE_LCFG_PORT, .NODE_LCFG_PCP, .NODE_LCFG_COUNT, .NODE_LCFG_VID, .NODE_STAT_CFGE] }
    : Writes).access fun e => e.on .NODE_STAT_CFGE = true ∧ e.onAt .NODE_LCFG_EN landing.val = false) ∧
  (∀ (s : State), s.dev.sys.cdReset = false → s.dev.on .NODE_CTRL_RUN = true → s.dev.on .NODE_STAT_RUNNING = false → s.dev.tt.opened = true
    → s.dev.tide % 4096 = 0 → s.dev.rd64 .NODE_RNDLO .NODE_RNDHI < 2 ^ 64 - 1 → Does s (.nodeRoundStart)
    { flds := [.NODE_RNDLO, .NODE_RNDHI, .NODE_RNDFR, .NODE_STAT_RUNNING], parts := [.node] } fun e => e.on .NODE_STAT_RUNNING = true ∧
    e.rd64 .NODE_RNDLO .NODE_RNDHI = s.dev.rd64 .NODE_RNDLO .NODE_RNDHI + 1 ∧ e.rd .NODE_RNDFR = s.dev.rd .NODE_ROUND_MS * 400000 /
    s.dev.rd .TIDE_PERIOD_ACT ∧ e.node.start = s.dev.tide ∧ e.node.visits = s.dev.node.visits) ∧
  (∀ (s : State), s.dev.sys.cdReset = false → s.dev.on .NODE_CTRL_RUN = true → s.dev.on .NODE_STAT_RUNNING = true → s.dev.node.start +
    s.dev.rd .NODE_RNDFR ≤ s.dev.tide → s.dev.rd64 .NODE_RNDLO .NODE_RNDHI < 2 ^ 64 - 1 → Does s (.nodeRoundStart)
    { flds := [.NODE_RNDLO, .NODE_RNDHI, .NODE_RNDFR, .NODE_STAT_RUNNING], parts := [.node] } fun e => e.on .NODE_STAT_RUNNING = true ∧
    e.rd64 .NODE_RNDLO .NODE_RNDHI = s.dev.rd64 .NODE_RNDLO .NODE_RNDHI + 1 ∧ e.rd .NODE_RNDFR = s.dev.rd .NODE_ROUND_MS * 400000 /
    s.dev.rd .TIDE_PERIOD_ACT ∧ e.node.start = s.dev.tide ∧ e.node.visits = s.dev.node.visits) ∧
  (∀ (s : State) (f : List (BitVec 8)) (m : List (BitVec 8)) (l : Nat), s.dev.sys.cdReset = false → s.dev.boardsPaired = false → m =
    (netFrame f).body → l = msgNat m 2 2 → s.dev.nalziaCheck (netFrame f) = 0 → msgNat m 1 1 = 3 → s.dev.landNext l = 0 → s.dev.rdAt
    .NODE_LCFG_STATE l = 0 → s.dev.onAt .NODE_LCFG_EN l = true → Does s (.hello f) { flds := [.NODE_LCFG_STATE], parts := [.node] } fun e
    => e.node = { s.dev.node with ackDue := s.dev.node.ackDue.set 0 l (s.dev.tide + 1) } ∧ e.rdAt .NODE_LCFG_STATE l = 1) ∧
  (∀ (s : State) (f : List (BitVec 8)) (m : List (BitVec 8)) (l : Nat), s.dev.sys.cdReset = false → s.dev.boardsPaired = false → m =
    (netFrame f).body → l = msgNat m 2 2 → s.dev.nalziaCheck (netFrame f) = 0 → msgNat m 1 1 = 3 → s.dev.landNext l ≠ 0 → Does s (.hello f)
    { parts := [.node] } fun e => e.node = { s.dev.node with ackDue := s.dev.node.ackDue.set 0 l (s.dev.tide + 1) }) ∧
  (∀ (s : State) (f : List (BitVec 8)), s.dev.sys.cdReset = false → s.dev.takesMirrored = true → Does s (.hello f) {} fun e => True) ∧
  (∀ (s : State) (f : List (BitVec 8)), s.dev.sys.cdReset = false → s.dev.takesMirrored = false → s.dev.nalziaCheck (netFrame f) = 1 → Does
    s (.hello f) { flds := [.NODE_ERRHDR] } fun e => e.rd .NODE_ERRHDR = satAdd (2 ^ 32 - 1) (s.dev.rd .NODE_ERRHDR) 1) ∧
  (∀ (s : State) (f : List (BitVec 8)), s.dev.sys.cdReset = false → s.dev.takesMirrored = false → s.dev.nalziaCheck (netFrame f) = 2 → Does
    s (.hello f) { flds := [.NODE_ERRCRC] } fun e => e.rd .NODE_ERRCRC = satAdd (2 ^ 32 - 1) (s.dev.rd .NODE_ERRCRC) 1) ∧
  (∀ (s : State) (f : List (BitVec 8)), s.dev.sys.cdReset = false → s.dev.takesMirrored = false → s.dev.nalziaCheck (netFrame f) = 3 → Does
    s (.hello f) {} fun e => True) ∧
  (∀ (s : State) (landing : Fin 512), s.dev.sys.cdReset = false → s.dev.boardsPaired = false → s.dev.node.ackDue.at 0 landing.val ≠ 0 →
    s.dev.on .PWM_STAT_LEAD = true → s.dev.landNext landing.val = 1 → s.dev.rd .NODE_PORTS_QUEUE = 0 → Does s (.helloackSend landing)
    { parts := [.node, .ethn] } fun e => e.node.ackDue.at 0 landing.val = 0 ∧ e.node.txSeq.at 0 landing.val = (s.dev.node.txSeq.at 0
    landing.val + 1) % 2 ^ 32 ∧ msgNat (e.node.sent.at [] landing.val) 1 1 = 4 ∧ msgNat (e.node.sent.at [] landing.val) 2 2 = landing.val ∧
    msgNat (e.node.sent.at [] landing.val) 0xE 2 = 32 ∧ e.node.states = s.dev.node.states ++ [(s.dev.tide + 1, landing.val, 2)] ∧
    (e.ethn.tx.at [] (8 * s.dev.rdAt .NODE_LCFG_PORT landing.val)).length = (s.dev.ethn.tx.at [] (8 * s.dev.rdAt .NODE_LCFG_PORT
    landing.val)).length + 1) ∧
  (∀ (s : State) (landing : Fin 512), s.dev.sys.cdReset = false → s.dev.node.ackDue.at 0 landing.val = 0 → Does s (.helloackSend landing)
    {} fun e => True) ∧
  (∀ (s : State) (landing : Fin 512), s.dev.sys.cdReset = false → s.dev.rdAt .NODE_LCFG_STATE landing.val = 2 → s.dev.onAt .NODE_LCFG_EN
    landing.val = true → s.dev.landNext landing.val = 2 → s.dev.rd .NODE_CFG_LOSTR < s.dev.node.silent.at 0 landing.val →
    s.dev.boardsPaired = false → Does s (.landingDown landing) ({ flds := [.NODE_LCFG_STATE, .NODE_STAT_NUP, .NODE_STAT_LDOWN] } :
    Writes).raising fun e => e.rdAt .NODE_LCFG_STATE landing.val = 0 ∧ e.rd .NODE_STAT_NUP = s.dev.rd .NODE_STAT_NUP - 1 ∧ e.on
    .NODE_STAT_LDOWN = true ∧ s.dev.raised e 424) ∧
  (∀ (s : State) (landing : Fin 512), s.dev.sys.cdReset = false → s.dev.rdAt .NODE_LCFG_STATE landing.val ≠ 2 ∨ s.dev.node.silent.at 0
    landing.val ≤ s.dev.rd .NODE_CFG_LOSTR → Does s (.landingDown landing) {} fun e => True) ∧
  (∀ (s : State), s.dev.sys.cdReset = false → Does s (.nodeCounterClear .ferryman)
    ({ flds := [.NODE_ERRHDR, .NODE_ERRCRC, .NODE_ERRREC, .NODE_DUP, .NODE_LATE, .NODE_RETRYCNT] } : Writes).access fun e => e.rd
    .NODE_ERRHDR = 0 ∧ e.rd .NODE_ERRCRC = 0 ∧ e.rd .NODE_ERRREC = 0 ∧ e.rd .NODE_DUP = 0 ∧ e.rd .NODE_LATE = 0 ∧ e.rd .NODE_RETRYCNT = 0) ∧
  (∀ (s : State), s.dev.sys.cdReset = false → s.dev.on .NODE_CTRL_BCEN = true → s.dev.on .PWM_STAT_LEAD = true → s.dev.node.bcLast = none →
    s.dev.tide % 2 ^ s.dev.rd .NODE_CFG_BCK = 0 → s.dev.rd .NODE_PORTS_ETH = 1 → s.dev.rd .NODE_PORTS_QUEUE = 0 → Does s (.broadcastSend)
    { parts := [.node, .ethn] } fun e => e.node.bcLast.map Prod.snd = some s.dev.tide ∧ msgNat (e.node.sent.at [] 0xFFFF) 1 1 = 5 ∧ msgNat
    (e.node.sent.at [] 0xFFFF) 0x10 8 = s.dev.tide % 2 ^ 64 ∧ (e.ethn.tx.at [] (8 * 0)).length = (s.dev.ethn.tx.at [] (8 * 0)).length + 1) ∧
  (∀ (s : State) (w : List (BitVec 8)) (n : Nat) (o : List (BitVec 8) × Nat), s.dev.sys.cdReset = false → s.dev.on .NODE_CTRL_BCEN = true →
    s.dev.on .PWM_STAT_LEAD = true → s.dev.tide % 2 ^ s.dev.rd .NODE_CFG_BCK ≠ 0 → s.dev.node.bcRead = some (w, n) → s.dev.node.bcLast =
    some o → o.1 = w.take 16 → 40000000 ≤ (s.dev.tide - o.2) * s.dev.rd .TIDE_PERIOD_ACT → s.dev.rd .NODE_PORTS_ETH = 1 → s.dev.rd
    .NODE_PORTS_QUEUE = 0 → Does s (.broadcastSend) { parts := [.node, .ethn] } fun e => e.node.bcLast = some (w.take 16, s.dev.tide) ∧
    msgNat (e.node.sent.at [] 0xFFFF) 0x10 8 = n % 2 ^ 64 ∧ (e.ethn.tx.at [] (8 * 0)).length = (s.dev.ethn.tx.at [] (8 * 0)).length + 1) ∧
  (∀ (s : State) (w : List (BitVec 8)) (n : Nat) (o : List (BitVec 8) × Nat), s.dev.sys.cdReset = false → s.dev.on .NODE_CTRL_BCEN = true →
    s.dev.tide % 2 ^ s.dev.rd .NODE_CFG_BCK ≠ 0 → s.dev.node.bcRead = some (w, n) → s.dev.node.bcLast = some o → o.1 = w.take 16 →
    (s.dev.tide - o.2) * s.dev.rd .TIDE_PERIOD_ACT < 40000000 → Does s (.broadcastSend) {} fun e => True) ∧
  (∀ (s : State), s.dev.on .NODE_CTRL_BCEN = false → Does s (.broadcastSend) {} fun e => True)

/-- What the visits of a round and their reports do: VISIT_SEND, VISIT_RETRY, VISIT_ANSWER_TIMEOUT, REPORT and REPORT_ENTRY complete as the
  clauses say: under the conditions named a form answers a next state with the values listed, and where a clause lists what it writes,
  nothing else changes; the layouts of the frames are those of their standards (log entry 155, from outside the spec). It rests on R217,
  R220, R222, R225, R227, R228, R229, R365. -/
def Obligations.VisitCommands : Prop :=
  (∀ (s : State) (landing : Fin 512) (block : Fin 32), s.dev.sys.cdReset = false → s.dev.on .NODE_STAT_RUNNING = true → s.dev.onAt
    .NODE_LCFG_EN landing.val = true → s.dev.blockLocals landing.val block.val ≠ [] → s.dev.visitFrame landing.val block.val = s.dev.tide →
    s.dev.rdAt .NODE_LCFG_STATE landing.val = 2 → ((∀ i, i ∈ s.dev.blockLocals landing.val block.val → s.dev.spanState (s.dev.lineAt
    (s.dev.landBase landing.val + i) 0) 32 = 0)) → s.dev.on .PWM_STAT_LEAD = true → s.dev.rd .NODE_PORTS_QUEUE = 0 → s.dev.node.joined =
    false → Completes s (.visitSend landing block) fun t => ((t.dev.visitOf landing.val block.val).map (fun v => (v.frame, v.retries,
    v.waiting.map Prod.fst, v.expired)) = some (s.dev.tide, 0, s.dev.blockLocals landing.val block.val, false)) ∧ (msgNat
    (t.dev.node.sent.at [] landing.val) 1 1 = 1) ∧ (msgNat (t.dev.node.sent.at [] landing.val) 2 2 = landing.val) ∧ (msgNat
    (t.dev.node.sent.at [] landing.val) 0xC 1 = block.val) ∧ (msgNat (t.dev.node.sent.at [] landing.val) 0xD 1 = (s.dev.blockLocals
    landing.val block.val).length) ∧ (msgNat (t.dev.node.sent.at [] landing.val) 8 4 = s.dev.round32 % 2 ^ 32) ∧ (t.dev.node.entries =
    s.dev.node.entries) ∧ ((t.dev.ethn.tx.at [] (8 * s.dev.rdAt .NODE_LCFG_PORT landing.val)).length = (s.dev.ethn.tx.at [] (8 * s.dev.rdAt
    .NODE_LCFG_PORT landing.val)).length + 1)) ∧
  (∀ (s : State) (landing : Fin 512) (block : Fin 32) (n : Nat) (x : Line), s.dev.sys.cdReset = false → s.dev.on .NODE_STAT_RUNNING = true
    → s.dev.onAt .NODE_LCFG_EN landing.val = true → s.dev.blockLocals landing.val block.val ≠ [] → s.dev.visitFrame landing.val block.val =
    s.dev.tide → s.dev.rdAt .NODE_LCFG_STATE landing.val ≠ 2 → s.dev.blockLocals landing.val block.val = [n] → s.dev.line (s.dev.landBase
    landing.val + n) = some x → x.res = true → Completes s (.visitSend landing block) fun t => (memByte t.mem (x.addr 0x2D) = BitVec.ofNat
    8 (min 255 ((memByte s.mem (x.addr 0x2D)).toNat + 1))) ∧ ((∀ a, a ≠ x.addr 0x2D → memByte t.mem a = memByte s.mem a)) ∧ (t.dev.node =
    s.dev.node)) ∧
  (∀ (s : State) (landing : Fin 512) (block : Fin 32), s.dev.on .NODE_STAT_RUNNING = false ∨ s.dev.visitFrame landing.val block.val ≠
    s.dev.tide → Does s (.visitSend landing block) {} fun e => True) ∧
  (∀ (s : State) (landing : Fin 512) (block : Fin 32) (v : Visit), s.dev.sys.cdReset = false → s.dev.visitOf landing.val block.val = some v
    → v.waiting ≠ [] → v.expired = false → v.retries < s.dev.rd .NODE_CFG_RETRY → s.dev.rwinPast v = true → v.landing = landing.val →
    v.block = block.val → s.dev.rdAt .NODE_LCFG_STATE landing.val = 2 → s.dev.on .PWM_STAT_LEAD = true → s.dev.rd .NODE_PORTS_QUEUE = 0 →
    Does s (.visitRetry landing block) { flds := [.NODE_RETRYCNT], parts := [.node, .ethn] } fun e => e.visitOf landing.val block.val =
    some { v with frame := s.dev.tide, retries := v.retries + 1 } ∧ e.rd .NODE_RETRYCNT = satAdd (2 ^ 32 - 1) (s.dev.rd .NODE_RETRYCNT) 1 ∧
    msgNat (e.node.sent.at [] landing.val) 0xC 1 = (v.block + 128) % 256 ∧ msgNat (e.node.sent.at [] landing.val) 0xD 1 = v.waiting.length
    % 256 ∧ (e.ethn.tx.at [] (8 * s.dev.rdAt .NODE_LCFG_PORT landing.val)).length = (s.dev.ethn.tx.at [] (8 * s.dev.rdAt .NODE_LCFG_PORT
    landing.val)).length + 1) ∧
  (∀ (s : State) (landing : Fin 512) (block : Fin 32) (v : Visit), s.dev.sys.cdReset = false → s.dev.visitOf landing.val block.val = some v
    → v.waiting ≠ [] → v.expired = false → v.retries < s.dev.rd .NODE_CFG_RETRY → s.dev.rwinPast v = true → v.landing = landing.val →
    v.block = block.val → s.dev.rdAt .NODE_LCFG_STATE landing.val = 2 → s.dev.on .PWM_STAT_LEAD = false → Does s (.visitRetry landing
    block) { parts := [.node] } fun e => e.visitOf landing.val block.val = some { v with frame := s.dev.tide, retries := v.retries + 1 } ∧
    e.node.txSeq.at 0 landing.val = (s.dev.node.txSeq.at 0 landing.val + 1) % 2 ^ 32 ∧ e.node.sent = s.dev.node.sent) ∧
  (∀ (s : State) (landing : Fin 512) (block : Fin 32) (v : Visit), s.dev.sys.cdReset = false → s.dev.visitOf landing.val block.val = some v
    → s.dev.rd .NODE_CFG_RETRY ≤ v.retries → Does s (.visitRetry landing block) {} fun e => True) ∧
  (∀ (s : State) (landing : Fin 512) (block : Fin 32) (v : Visit) (w : Nat × List (BitVec 8)) (x : Line), s.dev.sys.cdReset = false →
    s.dev.visitOf landing.val block.val = some v → v.waiting = [w] → v.expired = false → s.dev.rd .NODE_CFG_RETRY ≤ v.retries ∨ s.dev.rdAt
    .NODE_LCFG_STATE landing.val ≠ 2 → s.dev.rwinPast v = true → v.landing = landing.val → v.block = block.val → s.dev.line (s.dev.landBase
    landing.val + w.1) = some x → x.res = true → Completes s (.visitAnswerTimeout landing block) fun t => (t.dev.visitOf landing.val
    block.val = some { v with expired := true }) ∧ (memByte t.mem (x.addr 0x2D) = BitVec.ofNat 8 (min 255 ((memByte s.mem (x.addr
    0x2D)).toNat + 1))) ∧ ((∀ a, a ≠ x.addr 0x2D → memByte t.mem a = memByte s.mem a)) ∧ (s.dev.frame t.dev { parts := [.node, .pager] })) ∧
  (∀ (s : State) (f : List (BitVec 8)) (m : List (BitVec 8)) (l : Nat) (k : Nat) (v : Visit) (w : Nat × List (BitVec 8)), s.dev.sys.cdReset
    = false → s.dev.boardsPaired = false → m = (netFrame f).body → l = msgNat m 2 2 → s.dev.nalziaCheck (netFrame f) = 0 → msgNat m 1 1 = 2
    → msgNat m 0xD 1 = 1 → s.dev.rdAt .NODE_LCFG_STATE l = 2 → msgNat m 8 4 = s.dev.round32 ∨ (msgNat m 8 4 + 1) % 2 ^ 32 = s.dev.round32 →
    k = msgNat m 0xC 1 % 128 → k < 32 → s.dev.visitOf l k = some v → v.landing = l → v.block = k → v.expired = false → v.answered = [] →
    v.waiting = [w] → w.1 = msgNat m 16 2 → msgNat w.2 3 1 = msgNat m 19 1 → 32 * k ≤ w.1 → w.1 ≤ 32 * k + 31 → w.1 < s.dev.landCount l →
    reportClass (msgNat m 20 1) = true → Does s (.report f) { flds := [.NODE_LRX], parts := [.node] } fun e => e.visitOf l k = some
    { v with waiting := [], answered := [w] } ∧ e.node.entries = s.dev.node.entries ++
    [{ edge := s.dev.tide + 1, node := s.dev.landBase l + w.1, round := msgNat m 8 4, during := s.dev.round32, body := (m.drop 16).take 72 }]
    ∧ e.rdAt .NODE_LRX l = satAdd (2 ^ 32 - 1) (s.dev.rdAt .NODE_LRX l) 1 ∧ e.node.silent.at 0 l = 0) ∧
  (∀ (s : State) (f : List (BitVec 8)) (m : List (BitVec 8)) (l : Nat), s.dev.sys.cdReset = false → s.dev.boardsPaired = false → m =
    (netFrame f).body → l = msgNat m 2 2 → s.dev.nalziaCheck (netFrame f) = 0 → msgNat m 1 1 = 2 → s.dev.rdAt .NODE_LCFG_STATE l ≠ 2 ∨ 32 ≤
    msgNat m 0xC 1 % 128 → Does s (.report f) { flds := [.NODE_ERRHDR] } fun e => e.rd .NODE_ERRHDR = satAdd (2 ^ 32 - 1) (s.dev.rd
    .NODE_ERRHDR) 1) ∧
  (∀ (s : State) (f : List (BitVec 8)) (m : List (BitVec 8)) (l : Nat) (k : Nat), s.dev.sys.cdReset = false → s.dev.boardsPaired = false →
    m = (netFrame f).body → l = msgNat m 2 2 → s.dev.nalziaCheck (netFrame f) = 0 → msgNat m 1 1 = 2 → msgNat m 0xD 1 = 1 → s.dev.rdAt
    .NODE_LCFG_STATE l = 2 → msgNat m 8 4 = s.dev.round32 → k = msgNat m 0xC 1 % 128 → k < 32 → s.dev.visitOf l k = none → Does s (.report
    f) { flds := [.NODE_ERRREC], parts := [.node] } fun e => e.rd .NODE_ERRREC = satAdd (2 ^ 32 - 1) (s.dev.rd .NODE_ERRREC) 1 ∧ e.node =
    { s.dev.node with silent := s.dev.node.silent.set 0 l 0 }) ∧
  (∀ (s : State) (x : Entry) (l : Line), s.dev.sys.cdReset = false → s.dev.node.entries = [x] → s.dev.node.raised = [] → x.edge ≤
    s.dev.tide → s.dev.line x.node = some l → l.res = true → x.body.length = 72 → s.dev.tide < 2 ^ 64 → Completes s (.reportEntry) fun t =>
    (t.dev.node.entries = []) ∧ (t.dev.node.entered.at 0 x.node = x.round) ∧ (t.dev.node.accepted.at 0 x.node = x.during) ∧ (x.node ∈
    t.dev.node.sample) ∧ (memNat t.mem (l.addr 0x20) 8 = s.dev.tide) ∧ (memNat t.mem (l.addr 0x28) 2 = memNat s.mem (l.addr 0x28) 2) ∧ ((∀
    k, k < 64 → memByte t.mem (l.addr (0x40 + k)) = x.body.getD (8 + k) 0)) ∧ (memNat t.mem (l.addr 0x2A) 1 = msgNat x.body 5 1) ∧ (memNat
    t.mem (l.addr 0x2B) 1 = msgNat x.body 4 1) ∧ ((∀ a, a < l.addr 0x20 ∨ l.addr 0x80 ≤ a → memByte t.mem a = memByte s.mem a))) ∧
  (∀ (s : State) (k : Nat) (l : Line), s.dev.sys.cdReset = false → s.dev.node.entries = [] → s.dev.node.raised = [k] → s.dev.landCount k =
    1 → s.dev.line (s.dev.landBase k) = some l → l.res = true → Completes s (.reportEntry) fun t => (t.dev.node =
    { s.dev.node with raised := [] }) ∧ (memByte t.mem (l.addr 0x2B) = 0) ∧ ((∀ a, a ≠ l.addr 0x2B → memByte t.mem a = memByte s.mem a))) ∧
  (∀ (s : State), s.dev.sys.cdReset = false → ((∀ x, x ∈ s.dev.node.entries → s.dev.tide < x.edge)) → s.dev.node.raised = [] → Does s
    (.reportEntry) {} fun e => True)

/-- What the Ethernet ports and the IEEE 1588 clock do: ETH_FRAME_RECEIVE, ARP_REQUEST, ETH_LINK_CHANGE, PTP_CLOCK_LOAD, PTP_ADJUST,
  PTP_CLOCK_READ, TIMESTAMP_POP and TIMESTAMP_STATUS_READ complete as the clauses say: under the conditions named a form answers a next
  state with the values listed, and where a clause lists what it writes, nothing else changes. It rests on R221, R234, R235, R241. -/
def Obligations.EthernetCommands : Prop :=
  (∀ (s : State) (port : Fin 4) (f : List (BitVec 8)) (full : Bool) (ns : BitVec 17), s.dev.sys.cdReset = false → s.dev.onAt .ETH_CTRL_EN
    port.val = true → frameGood f = false → Does s (.ethFrameReceive port f full ns) { flds := [.ETH_RXERR, .ETH_STAT_RXERR] } fun e =>
    e.onAt .ETH_STAT_RXERR port.val = true ∧ e.rdAt .ETH_RXERR port.val = satAdd (2 ^ 32 - 1) (s.dev.rdAt .ETH_RXERR port.val) 1) ∧
  (∀ (s : State) (port : Fin 4) (f : List (BitVec 8)) (full : Bool) (ns : BitVec 17), s.dev.sys.cdReset = false → s.dev.onAt .ETH_CTRL_EN
    port.val = false → Does s (.ethFrameReceive port f full ns) {} fun e => True) ∧
  (∀ (s : State) (port : Fin 4) (f : List (BitVec 8)) (full : Bool) (ns : BitVec 17), s.dev.sys.cdReset = false → s.dev.onAt .ETH_CTRL_EN
    port.val = true → frameGood f = true → full = true ∨ s.dev.vlanDrops port.val (netFrame f) = true → (netFrame f).ptp = none → Does s
    (.ethFrameReceive port f full ns) { flds := [.ETH_RXFR, .ETH_DROP] } fun e => e.rdAt .ETH_RXFR port.val = satAdd (2 ^ 32 - 1)
    (s.dev.rdAt .ETH_RXFR port.val) 1 ∧ e.rdAt .ETH_DROP port.val = satAdd (2 ^ 32 - 1) (s.dev.rdAt .ETH_DROP port.val) 1) ∧
  (∀ (s : State) (port : Fin 4) (f : List (BitVec 8)) (full : Bool) (ns : BitVec 17), s.dev.sys.cdReset = false → s.dev.onAt .ETH_CTRL_EN
    port.val = true → frameGood f = true → full = false → (netFrame f).ptp = none → (netFrame f).vid = none → s.dev.onAt .ETH_VLAN_TAGIN
    port.val = false → s.dev.onAt .ETH_VLAN_FILT port.val = false → (∀ q < 8, s.dev.onAt .ETH_QCFG_EN (8 * port.val + q) = false) → Does s
    (.ethFrameReceive port f full ns) { flds := [.ETH_RXFR], parts := [.ethn] } fun e => e.ethn =
    { s.dev.ethn with rx := s.dev.ethn.rx.set [] (8 * port.val) (s.dev.ethn.rx.at [] (8 * port.val) ++ [{ bytes := f }]) } ∧ e.rdAt
    .ETH_RXFR port.val = satAdd (2 ^ 32 - 1) (s.dev.rdAt .ETH_RXFR port.val) 1) ∧
  (∀ (s : State) (port : Fin 4) (f : List (BitVec 8)) (full : Bool) (ns : BitVec 17), s.dev.sys.cdReset = false → s.dev.onAt .ETH_CTRL_EN
    port.val = true → frameGood f = true → full = false → (netFrame f).ptp = none → (netFrame f).vid = none → s.dev.onAt .ETH_VLAN_TAGIN
    port.val = false → s.dev.onAt .ETH_VLAN_FILT port.val = false → s.dev.queueMatches port.val 7 (netFrame f) = true → Does s
    (.ethFrameReceive port f full ns) { flds := [.ETH_RXFR], parts := [.ethn] } fun e => e.ethn =
    { s.dev.ethn with rx := s.dev.ethn.rx.set [] (8 * port.val + 7) (s.dev.ethn.rx.at [] (8 * port.val + 7) ++ [{ bytes := f }]) } ∧ e.rdAt
    .ETH_RXFR port.val = satAdd (2 ^ 32 - 1) (s.dev.rdAt .ETH_RXFR port.val) 1) ∧
  (∀ (s : State) (port : Fin 4) (f : List (BitVec 8)) (full : Bool) (ns : BitVec 17) (typ : Nat) (seq : Nat), s.dev.sys.cdReset = false →
    s.dev.onAt .ETH_CTRL_EN port.val = true → frameGood f = true → full = true → (netFrame f).ptp = some (typ, seq, true) → seq < 2 ^ 16 →
    s.dev.on .ETH_PTPCTL_EN = true → s.dev.ethn.stamps.at [] port.val = [] → Does s (.ethFrameReceive port f full ns)
    { flds := [.ETH_RXFR, .ETH_DROP, .ETH_TSSTAT_COUNT, .ETH_TSDAT0, .ETH_TSDAT1, .ETH_TSDAT2_DIR, .ETH_TSDAT2_TYPE, .ETH_TSDAT2_SEQ], parts := [.ethn] }
    fun e => e.ethn.stamps.at [] port.val =
    [{ sec := s.dev.ethn.sec + (s.dev.ethn.ns + ns.toNat) / 1000000000, ns := (s.dev.ethn.ns + ns.toNat) % 1000000000 / 8 * 8, tx := false, typ := typ, seq := seq }]
    ∧ e.rdAt .ETH_TSSTAT_COUNT port.val = 1) ∧
  (∀ (s : State) (port : Fin 4) (ip : BitVec 32) (mac : BitVec 48) (sender : BitVec 32), s.dev.sys.cdReset = false → s.dev.onAt
    .ETH_CTRL_EN port.val = true → s.dev.rdAt .ETH_IP port.val = ip.toNat → Does s (.arpRequest port ip mac sender) { parts := [.ethn] }
    fun e => e.ethn =
    { s.dev.ethn with arp := some (port.val, ip.toNat), tx := s.dev.ethn.tx.set [] (8 * port.val) (s.dev.ethn.tx.at [] (8 * port.val) ++ [s.dev.arpAnswer port.val mac.toNat sender.toNat]) }) ∧
  (∀ (s : State) (port : Fin 4) (ip : BitVec 32) (mac : BitVec 48) (sender : BitVec 32), s.dev.rdAt .ETH_IP port.val ≠ ip.toNat → Does s
    (.arpRequest port ip mac sender) {} fun e => True) ∧
  (∀ (s : State) (port : Fin 4) (up anDone : Bool), s.dev.sys.cdReset = false → s.dev.onAt .ETH_CTRL_EN port.val = true → s.dev.onAt
    .CAP_CLS_HELD (16 + port.val) = true → s.dev.onAt .ETH_STAT_LINK port.val ≠ up → Does s (.ethLinkChange port up anDone)
    ({ flds := [.ETH_STAT_ANDONE, .ETH_STAT_LINK, .ETH_STAT_LCHG] } : Writes).raising fun e => e.onAt .ETH_STAT_LINK port.val = up ∧ e.onAt
    .ETH_STAT_LCHG port.val = true ∧ e.onAt .ETH_STAT_ANDONE port.val = anDone ∧ s.dev.raised e (425 + port.val)) ∧
  (∀ (s : State) (port : Fin 4) (anDone : Bool), s.dev.onAt .CAP_CLS_HELD (16 + port.val) = false → s.dev.onAt .ETH_STAT_LINK port.val =
    false → Does s (.ethLinkChange port true anDone) { flds := [.ETH_STAT_ANDONE] } fun e => e.onAt .ETH_STAT_LINK port.val = false) ∧
  (∀ (s : State), s.dev.sys.cdReset = false → Does s (.ptpClockLoad .ferryman) ({ parts := [.ethn] } : Writes).access fun e => e.ethn =
    { s.dev.ethn with sec := s.dev.rd .ETH_PTPSEC0 + 2 ^ 32 * s.dev.rd .ETH_PTPSEC1, ns := s.dev.rd .ETH_PTPNS, frac := 0 }) ∧
  (∀ (s : State) (ns : BitVec 32), s.dev.sys.cdReset = false → s.dev.ethn.adj = none → Does s (.ptpAdjust .ferryman ns)
    ({ parts := [.ethn] } : Writes).access fun e => e.ethn = { s.dev.ethn with adj := some ns.toInt }) ∧
  (∀ (s : State) (req : Requester), Does s (.ptpClockRead req) ({ parts := [.lat] } : Writes).access fun e => e.resp =
    { error := false, data := s.dev.ethn.sec % 2 ^ 32 } ∧ e.lat.ptpSec1.at 0 req.id = s.dev.ethn.sec / 2 ^ 32 ∧ e.lat.ptpNs.at 0 req.id =
    s.dev.ethn.ns) ∧
  (∀ (s : State) (port : Fin 4) (x : Stamp) (l : List Stamp), s.dev.ethn.stamps.at [] port.val = x :: l → Does s (.timestampPop port)
    ({ flds := [.ETH_TSSTAT_COUNT, .ETH_TSDAT0, .ETH_TSDAT1, .ETH_TSDAT2_DIR, .ETH_TSDAT2_TYPE, .ETH_TSDAT2_SEQ], parts := [.ethn] } :
    Writes).access fun e => e.ethn.stamps.at [] port.val = l ∧ e.rdAt .ETH_TSSTAT_COUNT port.val = l.length ∧ e.resp.data = s.dev.stampWord
    port.val) ∧
  (∀ (s : State) (port : Fin 4), Does s (.timestampStatusRead port) ({ flds := [.ETH_TSSTAT_OVF] } : Writes).access fun e => e.onAt
    .ETH_TSSTAT_OVF port.val = false ∧ e.resp =
    { error := false, data := 2 ^ 31 * s.dev.rdAt .ETH_TSSTAT_OVF port.val + s.dev.rdAt .ETH_TSSTAT_COUNT port.val })

/-- What the pager does with lines, history and reinitialisation: LINE_BRING_IN, LINE_BRING_IN_COMPLETE, BRING_IN_LATE, LINE_WRITE_BACK,
  HISTORY_APPEND, BERTH_REINIT, BERTH_REINIT_DONE and BERTH_COUNTER_CLEAR complete as the clauses say: under the conditions named a form
  answers a next state with the values listed, and where a clause lists what it writes, nothing else changes. It rests on R248, R250, R251,
  R252, R255, R257. -/
def Obligations.PagerCommands : Prop :=
  (∀ (s : State) (node : BitVec 18), s.dev.ddrOn = true → node.toNat < s.dev.nodeCount → s.dev.residency node.toNat = true → s.dev.line
    node.toNat = none → node.toNat < 1536 → Does s (.lineBringIn node) { parts := [.pager] } fun e => e.line node.toNat = some
    { berth := node.toNat } ∧ (∀ k < 20, k ≠ node.toNat → e.line k = s.dev.line k)) ∧
  (∀ (s : State) (node : BitVec 18), s.dev.ddrOn = true → node.toNat < s.dev.nodeCount → s.dev.residency node.toNat = true → s.dev.line
    node.toNat = none → 1536 ≤ node.toNat → s.dev.pager.lines = [] → Does s (.lineBringIn node) { parts := [.pager] } fun e => (∃ k, 1536 ≤
    k ∧ k < 32768 ∧ e.line node.toNat = some { berth := k })) ∧
  (∀ (s : State) (node : BitVec 18), s.dev.ddrOn = false ∨ s.dev.nodeCount ≤ node.toNat ∨ (s.dev.line node.toNat).isSome = true ∨
    s.dev.residency node.toNat = false → Does s (.lineBringIn node) {} fun e => True) ∧
  (∀ (s : State) (node : BitVec 18) (x : Line), s.dev.ddrOn = true → s.dev.line node.toNat = some x → x.res = false → x.queued = [] →
    s.dev.spanState (s.dev.nodeRecord node.toNat) 256 = 0 → s.dev.rd .TWIN_STAT_STATE ≠ 2 → Completes s (.lineBringInComplete node) fun t
    => (t.dev.line node.toNat = some { x with res := true }) ∧ ((∀ k, k < 256 → memByte t.mem (x.addr 0 + k) = memByte s.mem
    (s.dev.nodeRecord node.toNat + k))) ∧ ((∀ a, a < x.addr 0 ∨ x.addr 0 + 256 ≤ a → memByte t.mem a = memByte s.mem a)) ∧ (t.dev.rd
    .BERTH_FETCHCNT = satAdd (2 ^ 32 - 1) (s.dev.rd .BERTH_FETCHCNT) 1)) ∧
  (∀ (s : State) (node : BitVec 18) (x : Line), s.dev.sys.cdReset = false → s.dev.line node.toNat = some x → x.res = false → x.late = false
    → s.dev.residentDue node.toNat = true → Does s (.bringInLate node)
    ({ flds := [.BERTH_LATECNT, .BERTH_STAT_LATE], parts := [.pager, .twin, .sys] } : Writes).raising fun e => e.rd .BERTH_LATECNT = satAdd
    (2 ^ 32 - 1) (s.dev.rd .BERTH_LATECNT) 1 ∧ e.on .BERTH_STAT_LATE = true ∧ bitOf e.twin.lerr 2 = true ∧ s.dev.raised e 52 ∧ e.line
    node.toNat = some { x with late := true } ∧ (∀ k < 20, k ≠ node.toNat → e.line k = s.dev.line k)) ∧
  (∀ (s : State) (node : BitVec 18), s.dev.sys.cdReset = false → s.dev.line node.toNat = none → node.toNat < 1536 → node.toNat <
    s.dev.nodeCount → s.dev.residentDue node.toNat = true → Does s (.bringInLate node)
    ({ flds := [.BERTH_LATECNT, .BERTH_STAT_LATE], parts := [.pager, .twin, .sys] } : Writes).raising fun e => e.rd .BERTH_LATECNT = satAdd
    (2 ^ 32 - 1) (s.dev.rd .BERTH_LATECNT) 1 ∧ e.on .BERTH_STAT_LATE = true ∧ bitOf e.twin.lerr 2 = true ∧ s.dev.raised e 52 ∧ e.line
    node.toNat = some { berth := node.toNat, late := true }) ∧
  (∀ (s : State) (node : BitVec 18) (x : Line), s.dev.line node.toNat = some x → x.res = true ∨ x.late = true ∨ s.dev.residentDue
    node.toNat = false → Does s (.bringInLate node) {} fun e => True) ∧
  (∀ (s : State) (node : BitVec 18) (x : Line), s.dev.ddrOn = true → s.dev.line node.toNat = some x → x.res = true → x.dirty = 0 →
    s.dev.residency node.toNat = true → Does s (.lineWriteBack node) {} fun e => True) ∧
  (∀ (s : State) (node : BitVec 18) (x : Line), s.dev.ddrOn = true → s.dev.line node.toNat = some x → x.res = true → x.dirty = 0 →
    s.dev.residency node.toNat = false → Does s (.lineWriteBack node)
    { flds := [.BERTH_STAT_USED, .BERTH_PEAK_USEDMAX], parts := [.pager, .eccm] } fun e => e.wordState (translationTable + 4 * node.toNat)
    = 0 ∧ e.pager = { s.dev.pager with lines := Store.erase node.toNat s.dev.pager.lines } ∧ (e.rd .BERTH_STAT_USED = (e.pager.lines.filter
    fun l => l.2.res).length)) ∧
  (∀ (s : State) (node : BitVec 18) (x : Line) (k : Fin 8), s.dev.ddrOn = true → s.dev.line node.toNat = some x → x.res = true → x.dirty =
    2 ^ k.val → s.dev.residency node.toNat = true → s.dev.spanState (x.addr (32 * k.val)) 32 = 0 → s.dev.rd .TWIN_STAT_STATE ≠ 2 →
    Completes s (.lineWriteBack node) fun t => (t.dev.line node.toNat = some { x with dirty := 0 }) ∧ (t.dev.rd .BERTH_WBCNT = satAdd (2 ^
    32 - 1) (s.dev.rd .BERTH_WBCNT) 1) ∧ ((∀ j, j < 32 → memByte t.mem (s.dev.nodeRecord node.toNat + 32 * k.val + j) = memByte s.mem
    (x.addr (32 * k.val) + j))) ∧ ((∀ a, a < s.dev.nodeRecord node.toNat + 32 * k.val ∨ s.dev.nodeRecord node.toNat + 32 * k.val + 32 ≤ a →
    memByte t.mem a = memByte s.mem a))) ∧
  (∀ (s : State) (node : BitVec 18) (x : Line) (n : Nat), s.dev.ddrOn = true → n = node.toNat → n < 1536 → s.dev.line n = some x → x.usable
    = true → x.res = true → s.dev.on .BERTH_CFG_CHEN = true → s.dev.tide % 64 = 0 → s.dev.rd .TWIN_STAT_STATE ≠ 2 → Completes s
    (.historyAppend node) fun t => (memNat t.mem (s.dev.nodeRecord n + 0x1000 + 16 * (s.dev.tide / 64 % 2 ^ 32 % 256)) 4 = s.dev.tide / 64
    % 2 ^ 32) ∧ ((∀ k, k < 12 → memByte t.mem (s.dev.nodeRecord n + 0x1000 + 16 * (s.dev.tide / 64 % 2 ^ 32 % 256) + 4 + k) = memByte s.mem
    (x.addr (s.dev.rd .BERTH_HOFF_HOFFC) + k))) ∧ ((∀ a, a < s.dev.nodeRecord n + 0x1000 + 16 * (s.dev.tide / 64 % 2 ^ 32 % 256) ∨
    s.dev.nodeRecord n + 0x1000 + 16 * (s.dev.tide / 64 % 2 ^ 32 % 256) + 16 ≤ a → memByte t.mem a = memByte s.mem a)) ∧ (t.dev.rd
    .BERTH_HAPPCNT = satAdd (2 ^ 32 - 1) (s.dev.rd .BERTH_HAPPCNT) 1)) ∧
  (∀ (s : State) (node : BitVec 18), s.dev.sys.cdReset = false → s.dev.pager.reinit = none → s.dev.nodeCount ≤ node.toNat → Does s
    (.berthReinit .ferryman node) ({ flds := [.BERTH_STAT_RESTAT] } : Writes).access fun e => e.rd .BERTH_STAT_RESTAT = 4) ∧
  (∀ (s : State) (node : BitVec 18), s.dev.sys.cdReset = false → s.dev.pager.reinit = none → node.toNat < s.dev.nodeCount → (s.dev.line
    node.toNat).isSome = true → Does s (.berthReinit .ferryman node) ({ flds := [.BERTH_STAT_RESTAT] } : Writes).access fun e => e.rd
    .BERTH_STAT_RESTAT = 2) ∧
  (∀ (s : State) (node : BitVec 18), s.dev.sys.cdReset = false → s.dev.pager.reinit = none → node.toNat < s.dev.nodeCount → s.dev.line
    node.toNat = none → (((s.dev.tt.active.toList ++ s.dev.tt.pending.toList).any fun x => x.names node.toNat) = true) → Does s
    (.berthReinit .ferryman node) ({ flds := [.BERTH_STAT_RESTAT] } : Writes).access fun e => e.rd .BERTH_STAT_RESTAT = 3) ∧
  (∀ (s : State) (node : BitVec 18), s.dev.sys.cdReset = false → s.dev.pager.reinit = none → node.toNat < s.dev.nodeCount → s.dev.line
    node.toNat = none → s.dev.timetabled = false → Does s (.berthReinit .ferryman node)
    ({ flds := [.BERTH_STAT_RESTAT, .BERTH_STAT_REBUSY], parts := [.pager] } : Writes).access fun e => e.rd .BERTH_STAT_RESTAT = 0 ∧ e.on
    .BERTH_STAT_REBUSY = true ∧ e.pager = { s.dev.pager with reinit := some node.toNat }) ∧
  (∀ (s : State) (n : Nat), s.dev.pager.reinit = some n → s.dev.rd .TWIN_STAT_STATE ≠ 2 → Completes s (.berthReinitDone) fun t =>
    (t.dev.pager = { s.dev.pager with reinit := none }) ∧ (t.dev.on .BERTH_STAT_REBUSY = false) ∧ (t.dev.rd .BERTH_STAT_RESTAT = 1) ∧ ((∀
    a, (s.dev.nodeRecord n ≤ a ∧ a < s.dev.nodeRecord n + 256) ∨ (s.dev.nodeRecord n + 0x1000 ≤ a ∧ a < s.dev.nodeRecord n + 0x2000) →
    memByte t.mem a = 0)) ∧ ((∀ a, a < s.dev.nodeRecord n ∨ (s.dev.nodeRecord n + 256 ≤ a ∧ a < s.dev.nodeRecord n + 0x1000) ∨
    s.dev.nodeRecord n + 0x2000 ≤ a → memByte t.mem a = memByte s.mem a))) ∧
  (∀ (s : State), s.dev.sys.cdReset = false → Does s (.berthCounterClear .ferryman)
    ({ flds := [.BERTH_FETCHCNT, .BERTH_WBCNT, .BERTH_LATECNT, .BERTH_DMGCNT, .BERTH_HAPPCNT, .BERTH_PEAK_USEDMAX] } : Writes).access fun e
    => e.rd .BERTH_FETCHCNT = 0 ∧ e.rd .BERTH_WBCNT = 0 ∧ e.rd .BERTH_LATECNT = 0 ∧ e.rd .BERTH_DMGCNT = 0 ∧ e.rd .BERTH_HAPPCNT = 0 ∧ e.rd
    .BERTH_PEAK_USEDMAX = 0)

/-- What the DDR4 controller, the fill engine and a channel restart do: DDR_INIT_DONE, DDR_TRAINING_DONE, DDR_RETRAIN, DDR_FILL,
  DDR_FILL_COMPLETE, DDR_FILL_ABORT and DMA_CHANNEL_RESTART complete as the clauses say: under the conditions named a form answers a next
  state with the values listed, and where a clause lists what it writes, nothing else changes. It rests on R356, R357, R362, R365, R371. -/
def Obligations.DdrCommands : Prop :=
  (∀ (s : State), s.dev.sys.cdReset = false → s.dev.rd .DDR_STAT_STATE = 0 → Does s (.ddrInitDone) { flds := [.DDR_STAT_STATE] } fun e =>
    e.rd .DDR_STAT_STATE = 1) ∧
  (∀ (s : State), s.dev.rd .DDR_STAT_STATE ≠ 0 → Does s (.ddrInitDone) {} fun e => True) ∧
  (∀ (s : State) (pass : Bool), s.dev.sys.cdReset = false → s.dev.rd .DDR_STAT_STATE = 1 → s.dev.rd .DDR_CFG_DENS ≠ 2 → Does s
    (.ddrTrainingDone pass) { flds := [.DDR_STAT_STATE] } fun e => (e.rd .DDR_STAT_STATE = (if pass then 2 else 4))) ∧
  (∀ (s : State) (pass : Bool), s.dev.sys.cdReset = false → s.dev.rd .DDR_STAT_STATE = 1 → s.dev.rd .DDR_CFG_DENS = 2 → s.dev.on
    .DDR_CFG_RANKS = true → Does s (.ddrTrainingDone pass) { flds := [.DDR_STAT_STATE] } fun e => e.rd .DDR_STAT_STATE = 4) ∧
  (∀ (s : State), s.dev.sys.cdReset = false → s.dev.rd .DDR_STAT_STATE = 2 → Does s (.ddrRetrain .ferryman) ({ flds := [.DDR_STAT_STATE] }
    : Writes).access fun e => e.rd .DDR_STAT_STATE = 1) ∧
  (∀ (s : State) (a n : Nat), s.dev.sys.cdReset = false → s.dev.on .DDR_STAT_FBUSY = false → a = s.dev.rd .DDR_FILLADLO * 64 + 2 ^ 32 *
    s.dev.rd .DDR_FILLADHI → n = 64 * s.dev.rd .DDR_FILLLEN → s.dev.fillRange a n = true → s.dev.timetabled = false → s.dev.rd
    .DDR_STAT_STATE = 2 → Does s (.ddrFill .ferryman)
    ({ flds := [.DDR_STAT_FBUSY, .DDR_STAT_FSTAT, .CAP_CLS_FARES, .CAP_CLS_PEND, .CAP_CLS_HELD, .CAP_CLS_BLOCK, .CAP_COMMIT_PEAK], parts := [.eccm] }
    : Writes).access fun e => e.on .DDR_STAT_FBUSY = true ∧ e.rd .DDR_STAT_FSTAT = 0 ∧ e.eccm =
    { s.dev.eccm with fill := some (a, n, s.dev.rd64 .DDR_FILLPATLO .DDR_FILLPATHI) } ∧ (e.onAt .CAP_CLS_HELD 11 = true ∨ e.onAt
    .CAP_CLS_PEND 11 = true)) ∧
  (∀ (s : State) (a n : Nat), s.dev.sys.cdReset = false → s.dev.on .DDR_STAT_FBUSY = false → a = s.dev.rd .DDR_FILLADLO * 64 + 2 ^ 32 *
    s.dev.rd .DDR_FILLADHI → n = 64 * s.dev.rd .DDR_FILLLEN → s.dev.fillRange a n = false → Does s (.ddrFill .ferryman)
    ({ flds := [.DDR_STAT_FSTAT] } : Writes).access fun e => e.rd .DDR_STAT_FSTAT = 3) ∧
  (∀ (s : State) (a n : Nat), s.dev.sys.cdReset = false → s.dev.on .DDR_STAT_FBUSY = false → a = s.dev.rd .DDR_FILLADLO * 64 + 2 ^ 32 *
    s.dev.rd .DDR_FILLADHI → n = 64 * s.dev.rd .DDR_FILLLEN → s.dev.fillRange a n = true → s.dev.timetabled = true → s.dev.touchesLines a
    (a + n) = true → Does s (.ddrFill .ferryman) ({ flds := [.DDR_STAT_FSTAT] } : Writes).access fun e => e.rd .DDR_STAT_FSTAT = 4) ∧
  (∀ (s : State) (a n : Nat), s.dev.sys.cdReset = false → s.dev.on .DDR_STAT_FBUSY = false → a = s.dev.rd .DDR_FILLADLO * 64 + 2 ^ 32 *
    s.dev.rd .DDR_FILLADHI → n = 64 * s.dev.rd .DDR_FILLLEN → s.dev.fillRange a n = true → s.dev.timetabled = false → s.dev.rd
    .DDR_STAT_STATE ≠ 2 → Does s (.ddrFill .ferryman) ({ flds := [.DDR_STAT_FSTAT] } : Writes).access fun e => e.rd .DDR_STAT_FSTAT = 5) ∧
  (∀ (s : State), s.dev.sys.cdReset = false → s.dev.on .DDR_STAT_FBUSY = true → Does s (.ddrFill .ferryman) { parts := [.resp] } fun e =>
    True) ∧
  (∀ (s : State) (a n p : Nat), s.dev.sys.cdReset = false → s.dev.onAt .CAP_CLS_HELD 11 = true → s.dev.eccm.fill = some (a, n, p) → n % 64
    = 0 → n ≤ 2 ^ 40 → a ≠ 0 → Completes s (.ddrFillComplete) fun t => (t.dev.eccm.fill = none) ∧ (t.dev.on .DDR_STAT_FBUSY = false) ∧
    (t.dev.rd .DDR_STAT_FSTAT = 1) ∧ (t.dev.onAt .CAP_CLS_HELD 11 = false) ∧ ((∀ k, k < n → memByte t.mem (a + k) = (leBytes 8 p).getD (k %
    8) 0)) ∧ ((∀ x, x < a ∨ a + n ≤ x → memByte t.mem x = memByte s.mem x))) ∧
  (∀ (s : State) (done a n p : Nat), s.dev.sys.cdReset = false → s.dev.eccm.fill = some (a, n, p) → n % 64 = 0 → a ≠ 0 → Completes s
    (.ddrFillAbort .ferryman done) fun t => (t.dev.eccm.fill = none) ∧ (t.dev.on .DDR_STAT_FBUSY = false) ∧ (t.dev.rd .DDR_STAT_FSTAT = 6)
    ∧ ((∀ k, k < min n (64 * done) → memByte t.mem (a + k) = (leBytes 8 p).getD (k % 8) 0)) ∧ ((∀ x, x < a ∨ a + min n (64 * done) ≤ x →
    memByte t.mem x = memByte s.mem x))) ∧
  (∀ (s : State) (ch : Fin 9), s.dev.sys.cdReset = false → s.dev.bit .DDR_HALT ch.val = true → s.dev.eccm.halts.at 0 ch.val = 0 ∨
    s.dev.wordState (s.dev.eccm.halts.at 0 ch.val - 1) < 2 → Does s (.dmaChannelRestart .ferryman ch)
    ({ flds := [.DDR_HALT], parts := [.eccm] } : Writes).access fun e => e.bit .DDR_HALT ch.val = false ∧ e.eccm.halts.at 0 ch.val = 0 ∧
    e.eccm = { s.dev.eccm with halts := e.eccm.halts } ∧ (∀ k < 9, k ≠ ch.val → e.bit .DDR_HALT k = s.dev.bit .DDR_HALT k)) ∧
  (∀ (s : State) (ch : Fin 9) (a : Nat), s.dev.sys.cdReset = false → s.dev.bit .DDR_HALT ch.val = true → s.dev.eccm.halts.at 0 ch.val = a +
    1 → 2 ≤ s.dev.wordState a → Does s (.dmaChannelRestart .ferryman ch) ({ blks := [.ECC], parts := [.twin, .eccm, .resp] } :
    Writes).raising fun e => e.rd .DDR_HALT = s.dev.rd .DDR_HALT ∧ e.eccm.halts.at 0 ch.val = a + 1 ∧ e.on .ECC_STAT_UE = true ∧ e.rd
    .ECC_UECNT = satAdd (2 ^ 32 - 1) (s.dev.rd .ECC_UECNT) 1 ∧ s.dev.raised e 55 ∧ s.dev.raised e 58 ∧ bitOf e.twin.lerr 1 = true) ∧
  (∀ (s : State) (ch : Fin 9), s.dev.bit .DDR_HALT ch.val = false → Does s (.dmaChannelRestart .ferryman ch) { parts := [.resp] } fun e =>
    True)

/-- What error correction and the scrubbers do: SCRUB_STEP, DRAM_DEVICE_FAILURE, ECC_SELF_TEST, ECC_COUNTER_CLEAR and ECC_INJECT complete
  as the clauses say: under the conditions named a form answers a next state with the values listed, and where a clause lists what it
  writes, nothing else changes. It rests on R360, R365, R366, R367, R368, R370, R373. -/
def Obligations.EccCommands : Prop :=
  (∀ (s : State) (lane : Option (Fin 18)) (a : Nat), s.dev.sys.cdReset = false → s.dev.fm.diffAct = false → s.dev.on .DDR_SCRUB_EN = true →
    s.dev.rd .DDR_STAT_STATE = 2 → s.dev.eccm.fill = none → a = s.dev.rd .DDR_SCRPOSLO + 2 ^ 32 * s.dev.rd .DDR_SCRPOSHI → a < 0x1000000000
    → s.dev.wordState a = 0 → Does s (.scrubStep true 0 lane) { flds := [.DDR_SCRPOSLO, .DDR_SCRPOSHI] } fun e => (e.rd .DDR_SCRPOSLO + 2 ^
    32 * e.rd .DDR_SCRPOSHI = (if a + 8 < s.dev.dramEnd then a + 8 else 0))) ∧
  (∀ (s : State) (a : Nat), s.dev.sys.cdReset = false → s.dev.fm.diffAct = false → s.dev.on .DDR_SCRUB_EN = true → s.dev.rd .DDR_STAT_STATE
    = 2 → s.dev.eccm.fill = none → a = s.dev.rd .DDR_SCRPOSLO + 2 ^ 32 * s.dev.rd .DDR_SCRPOSHI → a < 0x1000000000 → s.dev.wordState a = 0
    → Completes s (.scrubStep true 1 none) fun t => (t.dev.rd .DDR_SCRPOSLO + 2 ^ 32 * t.dev.rd .DDR_SCRPOSHI = (if a + 8 < s.dev.dramEnd
    then a + 8 else 0)) ∧ (t.dev.rd .ECC_CECNT = satAdd (2 ^ 32 - 1) (s.dev.rd .ECC_CECNT) 1) ∧ (t.dev.on .ECC_STAT_CE = true) ∧
    (s.dev.raised t.dev 54) ∧ (t.mem = s.mem)) ∧
  (∀ (s : State) (lane : Option (Fin 18)) (a : Nat), s.dev.sys.cdReset = false → s.dev.fm.diffAct = false → s.dev.on .DDR_SCRUB_EN = true →
    s.dev.rd .DDR_STAT_STATE = 2 → s.dev.eccm.fill = none → a = s.dev.rd .DDR_SCRPOSLO + 2 ^ 32 * s.dev.rd .DDR_SCRPOSHI → a < 0x1000000000
    → a % 8 = 0 → s.dev.wordState a = 0 → s.dev.eccm.list.length < 4096 → Completes s (.scrubStep true 2 lane) fun t => (t.dev.rd
    .DDR_SCRPOSLO + 2 ^ 32 * t.dev.rd .DDR_SCRPOSHI = (if a + 8 < s.dev.dramEnd then a + 8 else 0)) ∧ (t.dev.rd .ECC_UECNT = satAdd (2 ^ 32
    - 1) (s.dev.rd .ECC_UECNT) 1) ∧ (t.dev.on .ECC_STAT_UE = true) ∧ (t.dev.on .ECC_STAT_SCRUE = true) ∧ (s.dev.raised t.dev 55) ∧
    (t.dev.wordState a = 3) ∧ (a / 8 ∈ t.dev.eccm.list) ∧ (memNat t.mem a 8 = 0x7FC000007FC00000) ∧ ((∀ x, x < a ∨ a + 8 ≤ x → memByte
    t.mem x = memByte s.mem x))) ∧
  (∀ (s : State) (lane : Option (Fin 18)) (a : Nat), s.dev.eccm.sramPos = a → a ≠ 0 → s.dev.engineBusy a = false → s.dev.wordState a = 0 →
    a < 2 ^ 40 → Does s (.scrubStep false 0 lane) { parts := [.eccm] } fun e => e.eccm = { s.dev.eccm with sramPos := sramNext a }) ∧
  (∀ (s : State) (upset : Fin 3) (lane : Option (Fin 18)) (a : Nat), s.dev.eccm.sramPos = a → a ≠ 0 → s.dev.engineBusy a = true → Does s
    (.scrubStep false upset lane) {} fun e => True) ∧
  (∀ (s : State) (lane : Option (Fin 18)) (a : Nat), s.dev.eccm.sramPos = a → ferrymanSram ≤ a → a < 2 ^ 40 → s.dev.engineBusy a = false →
    s.dev.wordState a = 0 → Does s (.scrubStep false 1 lane) ({ flds := [.ECC_CECNT, .ECC_STAT_CE], parts := [.eccm] } : Writes).raising
    fun e => e.rd .ECC_CECNT = satAdd (2 ^ 32 - 1) (s.dev.rd .ECC_CECNT) 1 ∧ e.on .ECC_STAT_CE = true ∧ s.dev.raised e 54 ∧ e.eccm.sramPos
    = sramNext a ∧ e.wordState a = 0) ∧
  (∀ (s : State) (k : Fin 64), s.dev.sys.cdReset = true → s.dev.on .ECC_STAT_STF = false → Does s (.eccSelfTest (some k))
    { flds := [.ECC_STAT_STF, .ECC_STAT_STFID] } fun e => e.on .ECC_STAT_STF = true ∧ e.rd .ECC_STAT_STFID = k.val) ∧
  (∀ (s : State) (k : Fin 64), s.dev.sys.cdReset = true → s.dev.on .ECC_STAT_STF = true → Does s (.eccSelfTest (some k)) {} fun e => e.rd
    .ECC_STAT_STFID = s.dev.rd .ECC_STAT_STFID) ∧
  (∀ (s : State) (k : Fin 64), s.dev.sys.cdReset = false → s.dev.on .ECC_STAT_STF = false → Completes s (.eccSelfTest (some k)) fun t =>
    (t.dev.on .ECC_STAT_STF = true) ∧ (t.dev.rd .ECC_STAT_STFID = k.val) ∧ (t.dev.sys.cdReset = true) ∧ (t.dev.on .FM_CDCTL_HOLD = true) ∧
    (t.dev.rd .FM_RSTCAUSE_KIND = 5)) ∧
  (∀ (s : State), Does s (.eccSelfTest none) {} fun e => True) ∧
  (∀ (s : State), Does s (.eccCounterClear .ferryman) ({ flds := [.ECC_CECNT, .ECC_UECNT, .ECC_LANE_UE, .ECC_LANE_CE] } : Writes).access
    fun e => e.rd .ECC_CECNT = 0 ∧ e.rd .ECC_UECNT = 0 ∧ (∀ k < 18, e.rdAt .ECC_LANE_UE k = 0 ∧ e.rdAt .ECC_LANE_CE k = 0)) ∧
  (∀ (s : State) (arm : Bool) (mask : BitVec 8), s.dev.on .GWY_BENCH_ON = true → Does s (.eccInject .ferryman arm mask)
    ({ flds := [.ECC_INJ_ARM, .ECC_INJ_MASK] } : Writes).access fun e => e.on .ECC_INJ_ARM = arm ∧ e.rd .ECC_INJ_MASK = mask.toNat) ∧
  (∀ (s : State) (arm : Bool) (mask : BitVec 8), s.dev.on .GWY_BENCH_ON = false → Does s (.eccInject .ferryman arm mask)
    { parts := [.resp] } fun e => True)

/-- What modulator inputs and control filters do: MODULATOR_LOSS, MODULATOR_LOSS_CLEAR, CONTROL_FILTER_OUTPUT, METERING_SAMPLE and
  ZERO_CROSSING_TIMEOUT complete as the clauses say: under the conditions named a form answers a next state with the values listed, and
  where a clause lists what it writes, nothing else changes. It rests on R261, R262, R263, R264, R265, R273. -/
def Obligations.FilterCommands : Prop :=
  (∀ (s : State) (n : Fin 48), s.dev.cfg .MTR_SDCFG_CLK n.val < 6 → s.dev.sdLoss n.val = false → Does s (.modulatorLoss n)
    ({ flds := [.MTR_SDLOSS0, .MTR_SDLOSS1, .SDF_STAT_LOSS, .SDF_STAT_LOSSS, .SDF_STAT_FROZEN, .SDF_STAT_FRZS], parts := [.met] } :
    Writes).raising fun e => e.sdLoss n.val = true ∧ s.dev.raised e (256 + n.val) ∧ (s.dev.sys.cdReset = false → e.onAt .SDF_STAT_LOSS
    n.val = true ∧ e.onAt .SDF_STAT_FROZEN n.val = true) ∧ (∀ k, k < 48 → k ≠ n.val → e.sdLoss k = s.dev.sdLoss k) ∧ (∀ k, k < 28 →
    s.dev.cfgOn .MTR_CHSEL_EN k = true → s.dev.cfg .MTR_CHSEL_SD k = n.val → s.dev.cfgOn .MTR_MPCFG_EN (k / 7) = true → e.met.lossW.at
    false (k / 7) = true)) ∧
  (∀ (s : State) (n : Fin 48), 6 ≤ s.dev.cfg .MTR_SDCFG_CLK n.val → Does s (.modulatorLoss n) {} fun e => True) ∧
  (∀ (s : State) (n : Fin 48), Does s (.modulatorLossClear n) { flds := [.MTR_SDLOSS0, .MTR_SDLOSS1, .SDF_STAT_LOSS] } fun e => e.sdLoss
    n.val = false ∧ (s.dev.sys.cdReset = false → e.onAt .SDF_STAT_LOSS n.val = false) ∧ e.onAt .SDF_STAT_FROZEN n.val = s.dev.onAt
    .SDF_STAT_FROZEN n.val ∧ (∀ k < 48, k ≠ n.val → e.sdLoss k = s.dev.sdLoss k)) ∧
  (∀ (s : State) (n : Fin 48) (k : Nat) (bits : List Bool) (r : Nat), s.dev.sys.cdReset = false → s.dev.onAt .SDF_CFG_EN n.val = true →
    s.dev.clockRuns (s.dev.cfg .MTR_SDCFG_CLK n.val) = true → r = s.dev.rdAt .SDF_CFG_OSR n.val → k % r = 0 → 3 * (r - 1) + 1 ≤ k → 3 * (r
    - 1) + 1 ≤ bits.length → (s.dev.onAt .SDF_STAT_RUN n.val = true → k = (s.dev.filter n.val).edge + r) → Does s (.controlFilterOutput n k
    bits)
    { flds := [.SDF_STAT_SEQ, .SDF_RAW, .SDF_STAT_RUN, .SDF_STAT_LOSS, .SDF_STAT_LOSSS, .SDF_STAT_FROZEN, .SDF_STAT_FRZS], parts := [.met] }
    fun e => e.rdAt .SDF_STAT_SEQ n.val = (s.dev.rdAt .SDF_STAT_SEQ n.val + 1) % 2 ^ 16 ∧ e.onAt .SDF_STAT_RUN n.val = true ∧ e.rdAt
    .SDF_RAW n.val = ofSigned 32 (sinc3Acc r bits) ∧ (e.filter n.val).sample = (fpFma (s.dev.rdAt .SDF_GAIN n.val) (fpDiv (fpOfInt
    (sinc3Acc r bits)).1 (fpOfInt ((r * r * r : Nat) : Int)).1).1 (s.dev.rdAt .SDF_OFF n.val)).1 ∧ (e.filter n.val).edge = k ∧ (∀ j < 48, j
    ≠ n.val → e.filter j = s.dev.filter j)) ∧
  (∀ (s : State) (n : Fin 48) (k : Nat) (bits : List Bool), s.dev.onAt .SDF_CFG_EN n.val = false ∨ s.dev.clockRuns (s.dev.cfg
    .MTR_SDCFG_CLK n.val) = false ∨ k % s.dev.rdAt .SDF_CFG_OSR n.val ≠ 0 ∨ k < 3 * (s.dev.rdAt .SDF_CFG_OSR n.val - 1) + 1 → Does s
    (.controlFilterOutput n k bits) {} fun e => True) ∧
  (∀ (s : State) (n : Fin 28) (bits : List Bool) (m : Nat), s.dev.chanRuns n.val = true → bits.length = 5 * s.dev.stageRatio n.val → m =
    n.val / 7 → s.dev.cfgOn .MTR_MPCFG_EN m = false ∨ n.val % 7 ≠ s.dev.cfg .MTR_MPCFG_ZCSRC m → Does s (.meteringSample n bits)
    { parts := [.met] } fun e => (e.met.q.at 0 n.val = (if 8388607 < (s.dev.filterWord n.val bits).1 then 8388607 else if (s.dev.filterWord
    n.val bits).1 < -8388607 then -8388607 else (s.dev.filterWord n.val bits).1)) ∧ ((e.chan n.val).words = ((if 8388607 <
    (s.dev.filterWord n.val bits).1 then 8388607 else if (s.dev.filterWord n.val bits).1 < -8388607 then -8388607 else (s.dev.filterWord
    n.val bits).1) :: (s.dev.chan n.val).words).take 32) ∧ (e.chan n.val).vals = delayed (s.dev.met.comp.at {} n.val) (e.chan n.val).words
    :: (s.dev.chan n.val).vals ∧ (e.chan n.val).count = (s.dev.chan n.val).count + 1 ∧ (∀ u : Int × Int, u = ((s.dev.chan n.val).stages
    (s.dev.stageRatio n.val) 5 bits).firOut (s.dev.stageRatio n.val) → 0 < u.2 → (2 * ((s.dev.filterWord n.val bits).1 * u.2 - u.1 * 2 ^
    23)).natAbs ≤ u.2.natAbs) ∧ ((8388607 < (s.dev.filterWord n.val bits).1 ∨ (s.dev.filterWord n.val bits).1 < -8388607) → e.met.clipW.at
    false m = true) ∧ (∀ k < 28, k ≠ n.val → e.chan k = s.dev.chan k)) ∧
  (∀ (s : State) (n : Fin 28) (bits : List Bool) (m : Nat), s.dev.chanRuns n.val = true → bits.length = 5 * s.dev.stageRatio n.val → m =
    n.val / 7 → s.dev.cfgOn .MTR_MPCFG_EN m = true → n.val % 7 = s.dev.cfg .MTR_MPCFG_ZCSRC m → s.dev.onAt .MTR_MPSTAT_ZCTO m = false →
    Does s (.meteringSample n bits) { flds := [.MTR_MPSTAT_ZCTO], parts := [.met] } fun e => (e.met.q.at 0 n.val = (if 8388607 <
    (s.dev.filterWord n.val bits).1 then 8388607 else if (s.dev.filterWord n.val bits).1 < -8388607 then -8388607 else (s.dev.filterWord
    n.val bits).1)) ∧ ((e.chan n.val).words = ((if 8388607 < (s.dev.filterWord n.val bits).1 then 8388607 else if (s.dev.filterWord n.val
    bits).1 < -8388607 then -8388607 else (s.dev.filterWord n.val bits).1) :: (s.dev.chan n.val).words).take 32) ∧ (e.chan n.val).vals =
    delayed (s.dev.met.comp.at {} n.val) (e.chan n.val).words :: (s.dev.chan n.val).vals ∧ (e.chan n.val).count = (s.dev.chan n.val).count
    + 1 ∧ (∀ u : Int × Int, u = ((s.dev.chan n.val).stages (s.dev.stageRatio n.val) 5 bits).firOut (s.dev.stageRatio n.val) → 0 < u.2 → (2
    * ((s.dev.filterWord n.val bits).1 * u.2 - u.1 * 2 ^ 23)).natAbs ≤ u.2.natAbs) ∧ (∀ a b : Int, a = (s.dev.chan n.val).vals.headD 0 *
    (s.dev.chanScale n.val (s.dev.met.comp.at {} n.val)).1 → b = (e.chan n.val).vals.headD 0 * (s.dev.chanScale n.val (s.dev.met.comp.at {}
    n.val)).1 → (s.dev.point m).armed = true → a < 0 → 0 ≤ b → (e.point m).armed = false ∧ (∃ x : Nat, (e.point m).last = some x ∧ ((x :
    Int) * (b - a) - 256 * (((s.dev.chan n.val).count - 1 : Nat) * (b - a) - a)).natAbs < (b - a).natAbs) ∧ (e.point m).blocks =
    (s.dev.point m).blocks ++ [((s.dev.chan n.val).count, s.dev.pointComps m, false)] ∧ ((s.dev.point m).begun = true → (s.dev.point
    m).cycles + 1 < (if s.dev.cfgOn .MTR_MPCFG_FNOM m then 12 else 10) → (e.point m).cycles = (s.dev.point m).cycles + 1)) ∧ ((s.dev.point
    m).armed = false → (e.point m).blocks = (s.dev.point m).blocks ∧ (e.point m).last = (s.dev.point m).last ∧ e.onAt .MTR_MPSTAT_ZCTO m =
    false)) ∧
  (∀ (s : State) (n : Fin 28) (bits : List Bool), s.dev.chanRuns n.val = false ∨ bits.length ≠ 5 * s.dev.stageRatio n.val → Does s
    (.meteringSample n bits) {} fun e => True) ∧
  (∀ (s : State) (m : Fin 4) (k : Nat), s.dev.cfgOn .MTR_MPCFG_EN m.val = true → s.dev.onAt .MTR_MPSTAT_ZCTO m.val = false → k =
    (s.dev.chan (7 * m.val + s.dev.cfg .MTR_MPCFG_ZCSRC m.val)).count → ((s.dev.point m.val).last.getD 0 + 256 * (if s.dev.cfgOn
    .MTR_MPCFG_FNOM m.val then 400 else 480) ≤ 256 * k) → Does s (.zeroCrossingTimeout m)
    ({ flds := [.MTR_MPSTAT_ZCTO, .MTR_MPSTAT_ZCTOS, .MTR_FREQ], parts := [.met] } : Writes).raising fun e => e.onAt .MTR_MPSTAT_ZCTO m.val
    = true ∧ e.onAt .MTR_MPSTAT_ZCTOS m.val = true ∧ e.rdAt .MTR_FREQ m.val = 0 ∧ s.dev.raised e (304 + m.val) ∧ (e.point m.val).timeout =
    k ∧ (e.point m.val).blocks = (s.dev.point m.val).blocks ++ [(k, s.dev.pointComps m.val, false)] ∧ (e.point m.val).start = k ∧ (e.point
    m.val).begun = true) ∧
  (∀ (s : State) (m : Fin 4), s.dev.cfgOn .MTR_MPCFG_EN m.val = false ∨ s.dev.onAt .MTR_MPSTAT_ZCTO m.val = true ∨ s.dev.crossingLate m.val
    = false → Does s (.zeroCrossingTimeout m) {} fun e => True)

/-- What metering points, temperatures and the configuration do: METERING_WINDOW_END, STEERING_BLOCK_END, MTR_LOAD, METERING_CONFIG_APPLY,
  TEMPERATURE_UPDATE, TEMPERATURE_STALE, MPSTAT_READ and MCLK_TAKEOVER complete as the clauses say: under the conditions named a form
  answers a next state with the values listed, and where a clause lists what it writes, nothing else changes. It rests on R268, R269, R270,
  R271, R274, R275, R282, R330. -/
def Obligations.MeteringCommands : Prop :=
  (∀ (s : State) (m : Fin 4) (w : WindowEnd) (l : List WindowEnd), s.dev.cfgOn .MTR_MPCFG_EN m.val = true → s.dev.cus.started = true →
    s.dev.cus.frozen = false → (s.dev.point m.val).wins = w :: l → w.upto ≤ s.dev.pointCount m.val → Does s (.meteringWindowEnd m)
    { blks := [.MTR], parts := [.met, .cus] } fun e => e.onAt .MTR_MPSTAT_VALID m.val = true ∧ e.rdAt .MTR_WCNT m.val = (s.dev.rdAt
    .MTR_WCNT m.val + 1) % 2 ^ 32 ∧ (∀ k < 3, e.rdAt .MTR_VRMS (3 * m.val + k) = (s.dev.quantities m.val w).1.vrms.getD k 0) ∧ (∀ k < 4,
    e.rdAt .MTR_IRMS (4 * m.val + k) = (s.dev.quantities m.val w).1.irms.getD k 0) ∧ (∀ k < 3, e.rdAt .MTR_P (4 * m.val + k) =
    (s.dev.quantities m.val w).1.p.getD k 0) ∧ (∀ k < 3, e.rdAt .MTR_S (4 * m.val + k) = (fpMul ((s.dev.quantities m.val w).1.vrms.getD k
    0) ((s.dev.quantities m.val w).1.irms.getD k 0)).1) ∧ e.rdAt .MTR_P (4 * m.val + 3) = fpSum3 (s.dev.quantities m.val w).1.p ∧ e.onAt
    .MTR_MPSTAT_LOSS m.val = w.loss ∧ e.onAt .MTR_MPSTAT_CLIP m.val = w.clip ∧ e.onAt .MTR_MPSTAT_FIRST m.val = w.isFirst ∧ e.onAt
    .MTR_MPSTAT_ANGV m.val = (s.dev.quantities m.val w).1.angv ∧ (e.point m.val).wins = l) ∧
  (∀ (s : State) (m : Fin 4) (w : WindowEnd) (l : List WindowEnd) (n k : Nat), s.dev.cfgOn .MTR_MPCFG_EN m.val = true → s.dev.cus.started =
    true → s.dev.cus.frozen = false → (s.dev.point m.val).wins = w :: l → w.upto ≤ s.dev.pointCount m.val → n = w.cycles * 2048000000 → k =
    w.last - w.first → Does s (.meteringWindowEnd m) { blks := [.MTR], parts := [.met, .cus] } fun e => (w.cycles = 0 ∨ k = 0 → e.rdAt
    .MTR_FREQ m.val = 0) ∧ (w.cycles ≠ 0 → k ≠ 0 → e.rdAt .MTR_FREQ m.val = n / k % 2 ^ 32 ∨ (n % k ≠ 0 ∧ e.rdAt .MTR_FREQ m.val = (n / k +
    1) % 2 ^ 32)) ∧ (∀ x : Nat, x < 3 → ∀ y : Nat × Nat, y = s.dev.meanSquare (7 * m.val + x) w → e.rdAt .MTR_VRMS (3 * m.val + x) =
    fpOfRoot y.1 y.2 ∨ fpNearRoot 100 y.1 y.2 (e.rdAt .MTR_VRMS (3 * m.val + x)) = true) ∧ (∀ x : Nat, x < 3 → ∀ y : Int × Nat, y =
    s.dev.meanProduct (7 * m.val + x) (7 * m.val + 3 + x) (s.dev.valuesOf (7 * m.val + x) w.start w.upto) w → e.rdAt .MTR_P (4 * m.val + x)
    = fpOfRatio y.1 y.2 ∨ fpNear 500 y.1 y.2 (e.rdAt .MTR_P (4 * m.val + x)) = true)) ∧
  (∀ (s : State) (m : Fin 4), s.dev.cfgOn .MTR_MPCFG_EN m.val = false ∨ (s.dev.point m.val).wins = [] ∨ s.dev.counting = false → Does s
    (.meteringWindowEnd m) {} fun e => True) ∧
  (∀ (s : State) (m : Fin 4) (n : Nat) (comps : List Comp) (fixed : Bool) (r : List (Nat × List Comp × Bool)), s.dev.cfgOn .MTR_MPCFG_EN
    m.val = true → s.dev.cus.started = true → s.dev.cus.frozen = false → (s.dev.point m.val).blocks = (n, comps, fixed) :: r → n ≤
    s.dev.pointCount m.val → Does s (.steeringBlockEnd m) { parts := [.cus, .met] } fun e => (∀ (l : List BlockEnergy) (u : BlockEnergy), l
    = (s.dev.blockEnergy m.val (s.dev.point m.val).blockAt n comps).1 → u = totalEnergy l → (∀ p < 3, e.cus.tl.at 0 (32 * m.val + 8 * p +
    0) = (if 0 ≤ (l.getD p {}).ep then (s.dev.cus.tl.at 0 (32 * m.val + 8 * p + 0) + (l.getD p {}).ep.toNat) % 2 ^ 128 else s.dev.cus.tl.at
    0 (32 * m.val + 8 * p + 0))) ∧ (∀ p < 3, e.cus.tl.at 0 (32 * m.val + 8 * p + 1) = (if (l.getD p {}).ep < 0 then (s.dev.cus.tl.at 0 (32
    * m.val + 8 * p + 1) + (-(l.getD p {}).ep).toNat) % 2 ^ 128 else s.dev.cus.tl.at 0 (32 * m.val + 8 * p + 1))) ∧ (∀ p < 3, e.cus.tl.at 0
    (32 * m.val + 8 * p + 2) = (if 0 ≤ (l.getD p {}).ep ∧ 0 ≤ (l.getD p {}).eq then (s.dev.cus.tl.at 0 (32 * m.val + 8 * p + 2) + (l.getD p
    {}).eq.toNat) % 2 ^ 128 else s.dev.cus.tl.at 0 (32 * m.val + 8 * p + 2))) ∧ (∀ p < 3, e.cus.tl.at 0 (32 * m.val + 8 * p + 3) = (if
    (l.getD p {}).ep < 0 ∧ 0 ≤ (l.getD p {}).eq then (s.dev.cus.tl.at 0 (32 * m.val + 8 * p + 3) + (l.getD p {}).eq.toNat) % 2 ^ 128 else
    s.dev.cus.tl.at 0 (32 * m.val + 8 * p + 3))) ∧ (∀ p < 3, e.cus.tl.at 0 (32 * m.val + 8 * p + 4) = (if (l.getD p {}).ep < 0 ∧ (l.getD p
    {}).eq < 0 then (s.dev.cus.tl.at 0 (32 * m.val + 8 * p + 4) + (-(l.getD p {}).eq).toNat) % 2 ^ 128 else s.dev.cus.tl.at 0 (32 * m.val +
    8 * p + 4))) ∧ (∀ p < 3, e.cus.tl.at 0 (32 * m.val + 8 * p + 5) = (if 0 ≤ (l.getD p {}).ep ∧ (l.getD p {}).eq < 0 then (s.dev.cus.tl.at
    0 (32 * m.val + 8 * p + 5) + (-(l.getD p {}).eq).toNat) % 2 ^ 128 else s.dev.cus.tl.at 0 (32 * m.val + 8 * p + 5))) ∧ (∀ p < 3,
    e.cus.tl.at 0 (32 * m.val + 8 * p + 6) = (if 0 ≤ (l.getD p {}).ep then (s.dev.cus.tl.at 0 (32 * m.val + 8 * p + 6) + (l.getD p {}).es)
    % 2 ^ 128 else s.dev.cus.tl.at 0 (32 * m.val + 8 * p + 6))) ∧ (∀ p < 3, e.cus.tl.at 0 (32 * m.val + 8 * p + 7) = (if (l.getD p {}).ep <
    0 then (s.dev.cus.tl.at 0 (32 * m.val + 8 * p + 7) + (l.getD p {}).es) % 2 ^ 128 else s.dev.cus.tl.at 0 (32 * m.val + 8 * p + 7))) ∧
    (e.cus.tl.at 0 (32 * m.val + 24 + 0) = (if 0 ≤ u.ep then (s.dev.cus.tl.at 0 (32 * m.val + 24 + 0) + u.ep.toNat) % 2 ^ 128 else
    s.dev.cus.tl.at 0 (32 * m.val + 24 + 0))) ∧ (e.cus.tl.at 0 (32 * m.val + 24 + 1) = (if u.ep < 0 then (s.dev.cus.tl.at 0 (32 * m.val +
    24 + 1) + (-u.ep).toNat) % 2 ^ 128 else s.dev.cus.tl.at 0 (32 * m.val + 24 + 1))) ∧ (e.cus.tl.at 0 (32 * m.val + 24 + 2) = (if 0 ≤ u.ep
    ∧ 0 ≤ u.eq then (s.dev.cus.tl.at 0 (32 * m.val + 24 + 2) + u.eq.toNat) % 2 ^ 128 else s.dev.cus.tl.at 0 (32 * m.val + 24 + 2))) ∧
    (e.cus.tl.at 0 (32 * m.val + 24 + 3) = (if u.ep < 0 ∧ 0 ≤ u.eq then (s.dev.cus.tl.at 0 (32 * m.val + 24 + 3) + u.eq.toNat) % 2 ^ 128
    else s.dev.cus.tl.at 0 (32 * m.val + 24 + 3))) ∧ (e.cus.tl.at 0 (32 * m.val + 24 + 4) = (if u.ep < 0 ∧ u.eq < 0 then (s.dev.cus.tl.at 0
    (32 * m.val + 24 + 4) + (-u.eq).toNat) % 2 ^ 128 else s.dev.cus.tl.at 0 (32 * m.val + 24 + 4))) ∧ (e.cus.tl.at 0 (32 * m.val + 24 + 5)
    = (if 0 ≤ u.ep ∧ u.eq < 0 then (s.dev.cus.tl.at 0 (32 * m.val + 24 + 5) + (-u.eq).toNat) % 2 ^ 128 else s.dev.cus.tl.at 0 (32 * m.val +
    24 + 5))) ∧ (e.cus.tl.at 0 (32 * m.val + 24 + 6) = (if 0 ≤ u.ep then (s.dev.cus.tl.at 0 (32 * m.val + 24 + 6) + u.es) % 2 ^ 128 else
    s.dev.cus.tl.at 0 (32 * m.val + 24 + 6))) ∧ (e.cus.tl.at 0 (32 * m.val + 24 + 7) = (if u.ep < 0 then (s.dev.cus.tl.at 0 (32 * m.val +
    24 + 7) + u.es) % 2 ^ 128 else s.dev.cus.tl.at 0 (32 * m.val + 24 + 7))) ∧ (∀ p : Nat, p < 3 → (fun (x y : Int × Nat) => 144 * x.2 *
    y.2 = 0 ∨ ((l.getD p {}).ep * (144 * x.2 * y.2 : Nat) - dot (s.dev.valuesOf (7 * m.val + p) (s.dev.point m.val).blockAt n)
    (s.dev.valuesOf (7 * m.val + 3 + p) (s.dev.point m.val).blockAt n) * (x.1 * y.1 * 5 * 2 ^ 32)).natAbs < 144 * x.2 * y.2)
    (s.dev.chanScale (7 * m.val + p) (comps.getD p {})) (s.dev.chanScale (7 * m.val + 3 + p) (comps.getD (3 + p) {}))) ∧ (u.ep = (l.getD 0
    {}).ep + (l.getD 1 {}).ep + (l.getD 2 {}).ep)) ∧ (∀ n < 160, (n < 32 * m.val ∨ 32 * m.val + 32 ≤ n) → e.cus.tl.at 0 n = s.dev.cus.tl.at
    0 n) ∧ (e.point m.val).blockAt = n ∧ (e.point m.val).blocks = r) ∧
  (∀ (s : State) (m : Fin 4), s.dev.cfgOn .MTR_MPCFG_EN m.val = false ∨ s.dev.counting = false ∨ (s.dev.point m.val).blocks = [] → Does s
    (.steeringBlockEnd m) {} fun e => True) ∧
  (∀ (s : State) (req : Requester), s.dev.cus.isSealed = false → s.dev.loadFaults = [] → Does s (.mtrLoad req)
    ({ flds := [.MTR_STAT_CFGE, .MTR_STAT_CODE, .MTR_STAT_ITEM], parts := [.met] } : Writes).access fun e => e.on .MTR_STAT_CFGE = false ∧
    e.rd .MTR_STAT_CODE = 0 ∧ e.met = { s.dev.met with load := some s.dev.lockFields } ∧ e.resp = { error := false, data := 0 }) ∧
  (∀ (s : State) (req : Requester) (x : Nat × Nat), s.dev.cus.isSealed = false → s.dev.loadFaults = [x] → x.1 ≠ 0 → Does s (.mtrLoad req)
    ({ flds := [.MTR_STAT_CFGE, .MTR_STAT_CODE, .MTR_STAT_ITEM], parts := [.met] } : Writes).access fun e => e.on .MTR_STAT_CFGE = true ∧
    e.rd .MTR_STAT_CODE = x.1 ∧ e.rd .MTR_STAT_ITEM = x.2 ∧ e.met = { s.dev.met with loadOk := false }) ∧
  (∀ (s : State) (req : Requester), s.dev.cus.isSealed = true → Does s (.mtrLoad req)
    ({ flds := [.MTR_STAT_CFGE, .MTR_STAT_CODE, .MTR_STAT_ITEM], parts := [.met, .resp] } : Writes).raising fun e => e.on .MTR_STAT_CFGE =
    true ∧ e.rd .MTR_STAT_CODE = 1 ∧ e.met = { s.dev.met with loadOk := false } ∧ s.dev.raised e 1) ∧
  (∀ (s : State) (k : Store (Fld × Nat) Nat), s.dev.sys.cdReset = false → s.dev.met.load = some k → Does s (.meteringConfigApply)
    ({ blks := [.MTR, .SDF, .MAN], parts := [.met, .cus, .sys, .twin, .fm] } : Writes).raising fun e => e.met.load = none ∧ e.met.act = k ∧
    e.met.loadOk = true ∧ (∀ j < 6, bitOf e.met.mclkRun j = e.cfgOn .MTR_MCLK_EN j) ∧ (∀ m < 4, e.cfgOn .MTR_MPCFG_EN m = true →
    e.met.firstW.at false m = true ∧ e.onAt .MTR_MPSTAT_VALID m = false)) ∧
  (∀ (s : State), s.dev.met.load = none → Does s (.meteringConfigApply) {} fun e => True) ∧
  (∀ (s : State) (k : Fin 28) (a : Nat), s.dev.cfgOn .MTR_CHSEL_EN k.val = true → s.dev.cfg .MTR_CHTS_TSRC k.val = a → a ≠ 0x7F →
    s.dev.onAt .ADC_STAT_OPEN a = true → Does s (.temperatureUpdate k) { parts := [.met] } fun e => e.met =
    { s.dev.met with tseq := s.dev.met.tseq.set 0 k.val (s.dev.rdAt .ADC_STAT_SEQ a + 1) }) ∧
  (∀ (s : State) (k : Fin 28) (a u : Nat), s.dev.cfgOn .MTR_CHSEL_EN k.val = true → s.dev.cfg .MTR_CHTS_TSRC k.val = a → a ≠ 0x7F →
    s.dev.met.tseq.at 0 k.val ≠ s.dev.rdAt .ADC_STAT_SEQ a + 1 → s.dev.onAt .ADC_STAT_OPEN a = false → u = (fpFma (s.dev.cfg .MTR_CHTA
    k.val) (fpOfInt (s.dev.adc.code.at 0 a)).1 (s.dev.cfg .MTR_CHTB k.val)).1 → s.dev.boardsPaired = false → Does s (.temperatureUpdate k)
    { flds := [.MTR_CHTMP, .MTR_CHST_TRANGE, .MTR_CHST_TSTALE, .MTR_MPSTAT_TSTALE], parts := [.met] } fun e => e.rdAt .MTR_CHTMP k.val = u
    ∧ e.onAt .MTR_CHST_TRANGE k.val = s.dev.outside k.val u ∧ e.onAt .MTR_CHST_TSTALE k.val = false ∧ e.met.tseq.at 0 k.val = s.dev.rdAt
    .ADC_STAT_SEQ a + 1) ∧
  (∀ (s : State) (k : Fin 28) (a u : Nat), s.dev.cfgOn .MTR_CHSEL_EN k.val = true → s.dev.cfg .MTR_CHTS_TSRC k.val = a → a ≠ 0x7F →
    s.dev.met.tseq.at 0 k.val ≠ s.dev.rdAt .ADC_STAT_SEQ a + 1 → s.dev.onAt .ADC_STAT_OPEN a = false → u = (fpFma (s.dev.cfg .MTR_CHTA
    k.val) (fpOfInt (s.dev.adc.code.at 0 a)).1 (s.dev.cfg .MTR_CHTB k.val)).1 → s.dev.boardsPaired = true → s.dev.on .PWM_STAT_LEAD = true
    → u ≠ s.dev.rdAt .MTR_CHTMP k.val → Does s (.temperatureUpdate k)
    { flds := [.MTR_CHST_TSTALE, .MTR_MPSTAT_TSTALE], parts := [.met, .twin] } fun e => e.twin =
    { s.dev.twin with tempWait := s.dev.twin.tempWait.set 0 k.val u } ∧ e.onAt .MTR_CHST_TSTALE k.val = false ∧ e.met.tseq.at 0 k.val =
    s.dev.rdAt .ADC_STAT_SEQ a + 1) ∧
  (∀ (s : State) (k : Fin 28) (a u : Nat), s.dev.cfgOn .MTR_CHSEL_EN k.val = true → s.dev.cfg .MTR_CHTS_TSRC k.val = a → a ≠ 0x7F →
    s.dev.met.tseq.at 0 k.val ≠ s.dev.rdAt .ADC_STAT_SEQ a + 1 → s.dev.onAt .ADC_STAT_OPEN a = false → u = (fpFma (s.dev.cfg .MTR_CHTA
    k.val) (fpOfInt (s.dev.adc.code.at 0 a)).1 (s.dev.cfg .MTR_CHTB k.val)).1 → s.dev.boardsPaired = true → s.dev.on .PWM_STAT_LEAD = false
    → Does s (.temperatureUpdate k) { flds := [.MTR_CHST_TSTALE, .MTR_MPSTAT_TSTALE], parts := [.met] } fun e => e.onAt .MTR_CHST_TSTALE
    k.val = false ∧ e.met.tseq.at 0 k.val = s.dev.rdAt .ADC_STAT_SEQ a + 1) ∧
  (∀ (s : State) (k : Fin 28), s.dev.cfgOn .MTR_CHSEL_EN k.val = false ∨ s.dev.cfg .MTR_CHTS_TSRC k.val = 0x7F → Does s (.temperatureUpdate
    k) {} fun e => True) ∧
  (∀ (s : State) (k : Fin 28), s.dev.cfgOn .MTR_CHSEL_EN k.val = true → s.dev.cfg .MTR_CHTS_TSRC k.val ≠ 0x7F → s.dev.onAt .MTR_CHST_TSTALE
    k.val = false → Does s (.temperatureStale k) ({ flds := [.MTR_CHST_TSTALE, .MTR_MPSTAT_TSTALE], parts := [.met] } : Writes).raising fun
    e => e.onAt .MTR_CHST_TSTALE k.val = true ∧ e.onAt .MTR_MPSTAT_TSTALE (k.val / 7) = true ∧ e.met.tstaleW.at false (k.val / 7) = true ∧
    s.dev.raised e (308 + k.val / 7)) ∧
  (∀ (s : State) (req : Requester) (m : Fin 4), Does s (.mpstatRead req m) ({ parts := [.lat] } : Writes).access fun e => e.resp =
    { error := false, data := s.dev.mpstatWord m.val } ∧ e.lat.mtr.at [] (256 * req.id + m.val) = s.dev.resultWords m.val) ∧
  (∀ (s : State) (k : Fin 6), s.dev.straps.twinst = true → s.dev.cfgOn .MTR_MCLK_EN k.val = true → Does s (.mclkTakeover k)
    { parts := [.met] } fun e => bitOf e.met.mclkOwn k.val = true ∧ (∀ j < 6, j ≠ k.val → bitOf e.met.mclkOwn j = bitOf s.dev.met.mclkOwn
    j))

/-- What pulses, commits, intervals and the last crossing do: PULSE_EDGE, QUADRATURE_DECISION, COMMIT, COMMIT_COMPLETE,
  TALLY_COMMIT_REQUEST, TALLY_READ, LAST_CROSSING_FREEZE, TALLY_RESTART and INTERVAL_CLOSE complete as the clauses say: under the
  conditions named a form answers a next state with the values listed, and where a clause lists what it writes, nothing else changes. It
  rests on R284, R285, R286, R287, R288, R289, R292, R302. -/
def Obligations.TallyCommands : Prop :=
  (∀ (s : State) (j : Fin 16) (exceed : Bool), s.dev.cus.started = true → s.dev.cus.frozen = false → s.dev.paired = false → s.dev.trackB
    j.val = false → s.dev.cfg .TALLY_PUCFG_MODE j.val = 1 → Does s (.pulseEdge j true exceed)
    { flds := [.TALLY_PUST_LEVEL, .TALLY_PUST_OVR], parts := [.cus, .met] } fun e => e.cus.tl.at 0 (128 + (2 * j.val)) = (s.dev.cus.tl.at 0
    (128 + (2 * j.val)) + 2 ^ 32) % 2 ^ 128 ∧ e.met.pulses.at 0 j.val = (s.dev.met.pulses.at 0 j.val + 1) % 2 ^ 32 ∧ e.met.pulseRev.at
    false j.val = false ∧ e.onAt .TALLY_PUST_LEVEL j.val = true ∧ (exceed = true → e.onAt .TALLY_PUST_OVR j.val = true)) ∧
  (∀ (s : State) (j : Fin 16) (exceed : Bool), s.dev.cus.started = true → s.dev.cus.frozen = false → s.dev.paired = false → s.dev.trackB
    j.val = false → s.dev.cfg .TALLY_PUCFG_MODE j.val = 2 → Does s (.pulseEdge j true exceed)
    { flds := [.TALLY_PUST_LEVEL, .TALLY_PUST_OVR], parts := [.cus, .met] } fun e => e.cus.tl.at 0 (128 + (2 * j.val + 1)) =
    (s.dev.cus.tl.at 0 (128 + (2 * j.val + 1)) + 2 ^ 32) % 2 ^ 128 ∧ e.met.pulses.at 0 j.val = (s.dev.met.pulses.at 0 j.val + 1) % 2 ^ 32 ∧
    e.met.pulseRev.at false j.val = true ∧ e.onAt .TALLY_PUST_LEVEL j.val = true ∧ (exceed = true → e.onAt .TALLY_PUST_OVR j.val = true)) ∧
  (∀ (s : State) (j : Fin 16) (exceed : Bool), Does s (.pulseEdge j false exceed) { flds := [.TALLY_PUST_LEVEL] } fun e => e.onAt
    .TALLY_PUST_LEVEL j.val = false) ∧
  (∀ (s : State) (j : Fin 16) (exceed : Bool), s.dev.cus.started = true → s.dev.cus.frozen = false → s.dev.trackB j.val = false → s.dev.cfg
    .TALLY_PUCFG_MODE j.val = 3 → Does s (.pulseEdge j true exceed) { flds := [.TALLY_PUST_LEVEL], parts := [.met] } fun e => e.met =
    { s.dev.met with quad := s.dev.met.quad.set 0 j.val (1 + s.dev.rdAt .TALLY_PUST_LEVEL (j.val + 1)) }) ∧
  (∀ (s : State) (j : Fin 16), s.dev.cus.started = true → s.dev.cus.frozen = false → s.dev.paired = false → s.dev.met.quad.at 0 j.val ≠ 0 →
    Does s (.quadratureDecision j false false) { parts := [.cus, .met] } fun e => e.met.quad.at 0 j.val = 0 ∧ (e.cus.tl.at 0 (128 + 2 *
    j.val + (if s.dev.met.quad.at 0 j.val = 1 then 1 else 0)) = (s.dev.cus.tl.at 0 (128 + 2 * j.val + (if s.dev.met.quad.at 0 j.val = 1
    then 1 else 0)) + 2 ^ 32) % 2 ^ 128)) ∧
  (∀ (s : State) (j : Fin 16) (exceed : Bool), s.dev.cus.started = true → s.dev.cus.frozen = false → s.dev.met.quad.at 0 j.val ≠ 0 → Does s
    (.quadratureDecision j true exceed) { flds := [.TALLY_PUST_BADQ], parts := [.cus, .met] } fun e => e.met =
    { s.dev.met with quad := s.dev.met.quad.set 0 j.val 0 } ∧ e.onAt .TALLY_PUST_BADQ j.val = true ∧ e.cus.tl = s.dev.cus.tl) ∧
  (∀ (s : State), s.dev.cus.started = true → s.dev.cus.frozen = false → s.dev.cus.writing = none → (s.dev.cus.due = true ∨
    (s.dev.twin.commitEdge = none ∧ s.dev.cfg .TALLY_CFG_CP * 40000000 ≤ s.dev.cus.since) ∨ (s.dev.twin.commitEdge.any fun x => decide (x ≤
    s.dev.tide)) = true) → Does s (.commit) { flds := [.TALLY_STAT_CBUSY], parts := [.cus, .met, .twin, .fm] } fun e => e.on
    .TALLY_STAT_CBUSY = true ∧ e.cus.due = false ∧ e.cus.since = 0 ∧ ((e.cus.writing.map fun x => (x.1, x.2.cseq, x.2.tide, x.2.time,
    x.2.lc)) = some (1 - s.dev.cus.slot, s.dev.cseq + 1, s.dev.tide, s.dev.now, false)) ∧ ((e.cus.writing.map fun x => (x.2.reg, x.2.iv,
    x.2.act)) = some (e.cus.tl, e.cus.iv, s.dev.met.act)) ∧ ((e.cus.writing.map fun x => x.2.closing) = some e.cus.closing) ∧
    ((e.cus.writing.map fun x => x.2.blocks.map Prod.fst) = some ((List.range 4).filter fun m => s.dev.cfgOn .MTR_MPCFG_EN m)) ∧
    e.cus.slotAt (1 - s.dev.cus.slot) = none ∧ e.cus.ctl = s.dev.cus.ctl ∧ e.twin = { s.dev.twin with commitEdge := none }) ∧
  (∀ (s : State), s.dev.cus.started = false ∨ s.dev.cus.frozen = true ∨ s.dev.cus.writing.isSome = true ∨ s.dev.commitDue = false → Does s
    (.commit) {} fun e => True) ∧
  (∀ (s : State) (k : Nat) (x : Snapshot), s.dev.cus.writing = some (k, x) → Does s (.commitComplete false)
    ({ flds := [.TALLY_STAT_CBUSY, .TALLY_STAT_CFAIL], parts := [.cus] } : Writes).raising fun e => e.cus =
    { s.dev.cus with writing := none } ∧ e.on .TALLY_STAT_CBUSY = false ∧ e.on .TALLY_STAT_CFAIL = true ∧ s.dev.raised e 312) ∧
  (∀ (s : State) (k : Nat) (x : Snapshot), s.dev.cus.writing = some (k, x) → x.closing = [] → k < 2 → x.cseq < 2 ^ 64 → Does s
    (.commitComplete true)
    { flds := [.TALLY_STAT_CBUSY, .TALLY_CSEQLO, .TALLY_CSEQHI, .TALLY_STAT_SLOT, .MTR_STAT_SEALED], blks := [.MAN], parts := [.cus] } fun
    e => e.cus.writing = none ∧ e.cus.slot = k ∧ e.cus.slotAt k = some x ∧ e.cus.ctl = x.reg ∧ e.cseq = x.cseq ∧ e.cus.tl = s.dev.cus.tl ∧
    e.on .TALLY_STAT_CBUSY = false) ∧
  (∀ (s : State), Does s (.tallyCommitRequest .ferryman) ({ parts := [.cus] } : Writes).access fun e => e.cus =
    { s.dev.cus with due := true }) ∧
  (∀ (s : State) (req : Requester) (committed : Bool) (n : Fin 160), Does s (.tallyRead req committed n) ({ parts := [.lat] } :
    Writes).access fun e => (e.resp =
    { error := false, data := (if committed then s.dev.cus.ctl.at 0 n.val else s.dev.cus.tl.at 0 n.val) / 2 ^ 32 % 2 ^ 32 }) ∧
    (e.lat.tally.at 0 (65536 * req.id + 0x1000 * bit01 committed + n.val) = (if committed then s.dev.cus.ctl.at 0 n.val else
    s.dev.cus.tl.at 0 n.val))) ∧
  (∀ (s : State), s.dev.cus.started = true → s.dev.cus.frozen = false → s.dev.sys.sfPending.isSome = true ∨ s.dev.sys.pdPending.isSome =
    true → Does s (.lastCrossingFreeze) { flds := [.TALLY_STAT_CBUSY], parts := [.cus, .met] } fun e => e.cus.frozen = true ∧ e.cus.writing
    = none ∧ e.cus.marker = some (s.dev.cseq, s.dev.tide, s.dev.now) ∧ e.on .TALLY_STAT_CBUSY = false ∧ e.cus.ring = s.dev.cus.ring ∧
    e.cus.ctl = s.dev.cus.ctl) ∧
  (∀ (s : State), s.dev.cus.started = true → s.dev.cus.frozen = false → s.dev.sys.sfPending.isSome = true ∨ s.dev.sys.pdPending.isSome =
    true → (∀ m < 4, s.dev.cfgOn .MTR_MPCFG_EN m = false) → Does s (.lastCrossingFreeze) { flds := [.TALLY_STAT_CBUSY], parts := [.cus] }
    fun e => e.cus = { s.dev.cus with frozen := true, writing := none, marker := some (s.dev.cseq, s.dev.tide, s.dev.now) }) ∧
  (∀ (s : State), s.dev.cus.frozen = true ∨ s.dev.cus.started = false ∨ (s.dev.sys.sfPending = none ∧ s.dev.sys.pdPending = none) → Does s
    (.lastCrossingFreeze) {} fun e => True) ∧
  (∀ (s : State) (cover : Option Nat), s.dev.cus.started = false → s.dev.cus.slotA = none → s.dev.cus.slotB = none → s.dev.cus.marker =
    none → s.dev.cus.closing = [] → s.dev.straps.twinst = false → Does s (.tallyRestart cover)
    { flds := [.TALLY_STAT_LCOK, .MTR_STAT_SEALED], blks := [.MAN], parts := [.cus, .met] } fun e => e.cus.started = true ∧ e.cus.frozen =
    false ∧ e.cus.due = true ∧ e.on .TALLY_STAT_LCOK = false ∧ e.cus.ring = s.dev.cus.ring ∧ ((e.cus.iv.map fun v => v.start) = some
    s.dev.now)) ∧
  (∀ (s : State) (cover : Option Nat) (x : Snapshot), s.dev.cus.started = false → s.dev.cus.slotA = some x → s.dev.cus.slotB = none →
    s.dev.cus.marker = none → x.lc = true → x.rst = false → x.closing = [] → x.blocks = [] → s.dev.straps.twinst = true → (s.dev.now <
    (x.iv.map fun v => v.nominal).getD 0) → x.cseq < 2 ^ 64 → Does s (.tallyRestart cover)
    { flds := [.TALLY_STAT_LCOK, .TALLY_CSEQLO, .TALLY_CSEQHI, .TALLY_STAT_SLOT, .MTR_STAT_SEALED], blks := [.MAN], parts := [.cus, .met] }
    fun e => e.cus.started = true ∧ e.on .TALLY_STAT_LCOK = true ∧ e.cus.tl = x.reg ∧ e.cus.ctl = x.reg ∧ e.cseq = x.cseq ∧ e.cus.slot = 0
    ∧ (e.cus.heldRestart.map (fun h => h.row) = some 2)) ∧
  (∀ (s : State) (cover : Option Nat), s.dev.cus.started = true → Does s (.tallyRestart cover) {} fun e => True) ∧
  (∀ (s : State) (v : Interval), s.dev.cus.started = true → s.dev.cus.frozen = false → s.dev.firstPoint = none → s.dev.cus.iv = some v →
    v.nominal ≤ s.dev.now → Does s (.intervalClose) { parts := [.cus] } fun e => e.cus.closing = s.dev.cus.closing ++ [s.dev.closedOf v
    s.dev.now] ∧ e.cus.due = true ∧ ((e.cus.iv.map fun x => x.start) = some s.dev.now) ∧ (s.dev.cus.anchorDay < s.dev.now / 86400000000 + 1
    → e.cus.anchorDue = some (s.dev.now / 86400000000)) ∧ e.cus.tl = s.dev.cus.tl) ∧
  (∀ (s : State) (v : Interval) (m : Fin 4) (n : Nat) (comps : List Comp) (fixed : Bool) (r : List (Nat × List Comp × Bool)),
    s.dev.cus.started = true → s.dev.cus.frozen = false → s.dev.firstPoint = some m.val → (s.dev.point m.val).blocks = (n, comps, fixed) ::
    r → n ≤ s.dev.pointCount m.val → s.dev.cus.iv = some v → v.nominal ≤ s.dev.now → Does s (.intervalClose) { parts := [.cus, .met] } fun
    e => e.cus.closing.length = s.dev.cus.closing.length + 1 ∧ e.cus.due = true ∧ ((e.cus.iv.map fun x => x.start) = some s.dev.now) ∧
    (e.point m.val).blockAt = n ∧ (e.point m.val).blocks = r) ∧
  (∀ (s : State) (v : Interval), s.dev.firstPoint = none → s.dev.cus.iv = some v → s.dev.now < v.nominal → Does s (.intervalClose) {} fun e
    => True)

/-- What the Manifest and the metrology seal do: ANCHOR_APPEND, RECORD_ACCEPTED, PENDING_RECORD_APPEND, MAN_ACK, MAN_SEAL, MAN_BREAK,
  BREAK_VERIFY_COMPLETE, MSEAL_CHANGE and MAN_RECORD_READ complete as the clauses say: under the conditions named a form answers a next
  state with the values listed, and where a clause lists what it writes, nothing else changes. It rests on R293, R295, R296, R297, R298,
  R299, R300, R303. -/
def Obligations.ManifestCommands : Prop :=
  (∀ (s : State) (day : Nat), s.dev.cus.anchorDue = some day → s.dev.cus.anchorReady = true → s.dev.cus.pend ≠ [] → Does s (.anchorAppend)
    { blks := [.MAN], flds := [.MTR_STAT_SEALED], parts := [.cus] } fun e => e.cus =
    { s.dev.cus with anchorDue := none, anchorReady := false, missed := satAdd 65535 s.dev.cus.missed 1 }) ∧
  (∀ (s : State) (day : Nat), s.dev.cus.anchorDue = some day → s.dev.cus.anchorReady = true → s.dev.cus.pend = [] → s.dev.cus.coal = none →
    2200 ≤ s.dev.ringFree → s.dev.cus.ring = [] → Does s (.anchorAppend)
    { blks := [.MAN], flds := [.MTR_STAT_SEALED], parts := [.cus, .twin, .fm] } fun e => e.cus.anchorDue = none ∧ e.cus.anchorReady = false
    ∧ e.cus.missed = 0 ∧ e.cus.lost = 0 ∧ ((e.cus.ring.map fun r => (r.seq, r.bytes.length, msgNat r.bytes 0 1)) = [(1, 2200, 4)])) ∧
  (∀ (s : State), s.dev.cus.head < s.dev.lastRecord.1 → s.dev.paired = false → Does s (.recordAccepted)
    { blks := [.MAN], flds := [.MTR_STAT_SEALED], parts := [.cus] } fun e => e.cus = { s.dev.cus with head := s.dev.cus.head + 1 } ∧
    (s.dev.cus.head + 1 < 2 ^ 64 → e.rd64 .MAN_HEADLO .MAN_HEADHI = s.dev.cus.head + 1)) ∧
  (∀ (s : State), s.dev.lastRecord.1 ≤ s.dev.cus.head → Does s (.recordAccepted) {} fun e => True) ∧
  (∀ (s : State), s.dev.paired = true → s.dev.cus.confirmed ≤ s.dev.cus.head → Does s (.recordAccepted) {} fun e => True) ∧
  (∀ (s : State), s.dev.cus.pend = [] → s.dev.cus.coal = none → Does s (.pendingRecordAppend)
    { blks := [.MAN], flds := [.MTR_STAT_SEALED], parts := [.cus] } fun e => e.cus = s.dev.cus) ∧
  (∀ (s : State) (r : List (BitVec 8)), s.dev.cus.pend = [r] → s.dev.cus.coal = none → s.dev.cus.ring = [] → r.length + 32 ≤ 2097152 → 24 ≤
    r.length → s.dev.hawserUp = false → Does s (.pendingRecordAppend) { blks := [.MAN], flds := [.MTR_STAT_SEALED], parts := [.cus, .fm] }
    fun e => e.cus.pend = [] ∧ ((e.cus.ring.map fun x => (x.seq, x.bytes.length)) = [(1, r.length + 32)])) ∧
  (∀ (s : State) (r : Rec), s.dev.rd64 .MAN_ACKLO .MAN_ACKHI ≤ s.dev.cus.head → s.dev.cus.land < s.dev.rd64 .MAN_ACKLO .MAN_ACKHI →
    ((s.dev.cus.ring.find? fun r => decide (r.seq = s.dev.rd64 .MAN_ACKLO .MAN_ACKHI)) = some r) → (r.bytes.drop (r.bytes.length -
    32)).take 8 = leBytes 4 (s.dev.rd .MAN_ACKDG0) ++ leBytes 4 (s.dev.rd .MAN_ACKDG1) → Does s (.manAck .ferryman)
    { blks := [.MAN], flds := [.MTR_STAT_SEALED], parts := [.cus, .resp] } fun e => e.cus =
    { s.dev.cus with land := s.dev.rd64 .MAN_ACKLO .MAN_ACKHI }) ∧
  (∀ (s : State), s.dev.cus.head < s.dev.rd64 .MAN_ACKLO .MAN_ACKHI → Does s (.manAck .ferryman) ({ flds := [.MAN_STAT_ACKE] } :
    Writes).access fun e => e.on .MAN_STAT_ACKE = true ∧ e.cus.land = s.dev.cus.land) ∧
  (∀ (s : State), s.dev.cus.isSealed = true → Does s (.manSeal .ferryman) ({ flds := [.MAN_STAT_SEALE, .MAN_STAT_SCODE] } : Writes).access
    fun e => e.on .MAN_STAT_SEALE = true ∧ e.rd .MAN_STAT_SCODE = 9 ∧ e.cus = s.dev.cus) ∧
  (∀ (s : State), s.dev.cus.isSealed = false → s.dev.cus.breaking.isSome = true → Does s (.manSeal .ferryman)
    ({ flds := [.MAN_STAT_SEALE, .MAN_STAT_SCODE] } : Writes).access fun e => e.on .MAN_STAT_SEALE = true ∧ e.rd .MAN_STAT_SCODE = 10 ∧
    e.cus = s.dev.cus) ∧
  (∀ (s : State), s.dev.cus.isSealed = false → s.dev.cus.breaking = none → s.dev.cus.jumper ≠ some true → Does s (.manSeal .ferryman)
    ({ flds := [.MAN_STAT_SEALE, .MAN_STAT_SCODE] } : Writes).access fun e => e.on .MAN_STAT_SEALE = true ∧ e.rd .MAN_STAT_SCODE = 3 ∧
    e.cus = s.dev.cus) ∧
  (∀ (s : State), s.dev.cus.isSealed = false → s.dev.cus.breaking = none → s.dev.cus.jumper = some true → s.dev.rd .MAN_SEALCHK =
    s.dev.rdAt .MTR_DGST 0 → s.dev.met.loadOk = false → Does s (.manSeal .ferryman) ({ flds := [.MAN_STAT_SEALE, .MAN_STAT_SCODE] } :
    Writes).access fun e => e.on .MAN_STAT_SEALE = true ∧ e.rd .MAN_STAT_SCODE = 7 ∧ e.cus = s.dev.cus) ∧
  (∀ (s : State), s.dev.cus.isSealed = false → s.dev.cus.breaking = none → s.dev.cus.jumper = some true → s.dev.rd .MAN_SEALCHK ≠
    s.dev.rdAt .MTR_DGST 0 → Does s (.manSeal .ferryman) ({ flds := [.MAN_STAT_SEALE, .MAN_STAT_SCODE] } : Writes).access fun e => e.on
    .MAN_STAT_SEALE = true ∧ e.rd .MAN_STAT_SCODE = 4 ∧ e.cus = s.dev.cus) ∧
  (∀ (s : State), s.dev.cus.isSealed = false → s.dev.cus.breaking = none → s.dev.cus.jumper = some true → s.dev.rd .MAN_SEALCHK =
    s.dev.rdAt .MTR_DGST 0 → s.dev.met.loadOk = true → ((s.dev.meteringNames.any fun r => (s.dev.cell r.1 r.2).owner != none && (s.dev.cell
    r.1 r.2).owner != some .metering) = false) → Does s (.manSeal .ferryman)
    ({ blks := [.MAN], flds := [.MTR_STAT_SEALED, .GWY_ASEL_EN, .GWY_STAT_ASEAL], parts := [.cus, .sys, .twin, .resp] } : Writes).raising
    fun e => e.cus.isSealed = true ∧ e.cus.sealConfig = s.dev.met.act ∧ e.cus.sealDigest = s.dev.shownDigest ∧ e.rd .MAN_STAT_SCODE = 1 ∧
    e.on .MAN_STAT_SEALED = true ∧ (∀ k < 2, e.onAt .GWY_ASEL_EN k = false)) ∧
  (∀ (s : State), s.dev.cus.breaking = none → Does s (.manBreak .ferryman)
    { blks := [.MAN], flds := [.MTR_STAT_SEALED], parts := [.cus, .resp] } fun e => (e.cus =
    { s.dev.cus with breaking := some (((List.range 44).map fun i => leBytes 4 (s.dev.rdAt .MAN_CMD i)).flatten) })) ∧
  (∀ (s : State), s.dev.cus.breaking.isSome = true → Does s (.manBreak .ferryman) ({ flds := [.MAN_STAT_SEALE, .MAN_STAT_SCODE] } :
    Writes).access fun e => e.on .MAN_STAT_SEALE = true ∧ (e.rd .MAN_STAT_SCODE = (if s.dev.cus.isSealed then 10 else 11))) ∧
  (∀ (s : State) (sigOk : Bool) (m : List (BitVec 8)), s.dev.cus.breaking = some m → s.dev.breakCode m sigOk ≠ 0 → s.dev.cus.ackWait =
    false → Does s (.breakVerifyComplete sigOk) { blks := [.MAN], flds := [.MTR_STAT_SEALED], parts := [.cus] } fun e => e.on
    .MAN_STAT_SEALE = true ∧ e.rd .MAN_STAT_SCODE = s.dev.breakCode m sigOk ∧ e.cus.breaking = none ∧ e.cus.isSealed = s.dev.cus.isSealed ∧
    e.cus.sbcnt = s.dev.cus.sbcnt) ∧
  (∀ (s : State) (m : List (BitVec 8)), s.dev.cus.breaking = some m → s.dev.breakCode m true = 0 → s.dev.cus.ackWait = false → Does s
    (.breakVerifyComplete true) ({ blks := [.MAN], flds := [.MTR_STAT_SEALED], parts := [.cus, .sys, .twin, .fm] } : Writes).raising fun e
    => e.rd .MAN_STAT_SCODE = 2 ∧ e.cus.breaking = none ∧ e.cus.isSealed = false ∧ e.cus.sbcnt = s.dev.cus.sbcnt + 1 ∧ e.on
    .MAN_STAT_SEALED = false) ∧
  (∀ (s : State) (fitted : Bool), s.dev.cus.isSealed = false → Does s (.msealChange fitted)
    { blks := [.MAN], flds := [.MTR_STAT_SEALED], parts := [.cus] } fun e => e.cus =
    { s.dev.cus with jumper := some fitted, jumperKept := fitted } ∧ e.on .MAN_STAT_JMP = fitted) ∧
  (∀ (s : State), s.dev.cus.isSealed = true → s.dev.cus.jumper.getD s.dev.cus.jumperKept = true → s.dev.cus.pend = [] → s.dev.cus.ring = []
    → s.dev.hawserUp = false → Does s (.msealChange false) ({ blks := [.MAN], flds := [.MTR_STAT_SEALED], parts := [.cus, .fm] } :
    Writes).raising fun e => e.cus.jumper = some false ∧ s.dev.raised e 315 ∧ ((e.cus.ring.map fun r => (r.seq, msgNat r.bytes 0 1, msgNat
    r.bytes 0x28 1)) = [(1, 5, 3)])) ∧
  (∀ (s : State) (high : Bool) (v : BitVec 32) (r : Rec), ((s.dev.cus.ring.find? fun x => decide (x.seq = (if high then s.dev.rd
    .MAN_RDSEQLO + 2 ^ 32 * v.toNat else v.toNat + 2 ^ 32 * s.dev.rd .MAN_RDSEQHI))) = some r) → Does s (.manRecordRead .ferryman high v)
    ({ flds := [.MAN_RDSEQLO, .MAN_RDSEQHI, .MAN_RDSTAT_VALID, .MAN_RDSTAT_LEN], parts := [.cus] } : Writes).access fun e => e.on
    .MAN_RDSTAT_VALID = true ∧ e.rd .MAN_RDSTAT_LEN = r.bytes.length ∧ e.cus = { s.dev.cus with rdwin := r.bytes }) ∧
  (∀ (s : State) (v : BitVec 32), s.dev.cus.ring = [] → Does s (.manRecordRead .ferryman false v)
    ({ flds := [.MAN_RDSEQLO, .MAN_RDSTAT_VALID, .MAN_RDSTAT_LEN], parts := [.cus] } : Writes).access fun e => e.on .MAN_RDSTAT_VALID =
    false ∧ e.rd .MAN_RDSTAT_LEN = 0)

/-- What the auxiliary converters do: ADC_SCAN_START and ADC_CONVERSION complete: the result word, SEQ and the open-wire bits of the input
  follow the code, the queue takes an entry, and the scan goes on. It rests on R374, R375, R376, R378, R379, R383. -/
def Obligations.ConverterInputCommands : Prop :=
  (∀ (s : State) (k : Fin 4), s.dev.onAt .ADC_ADSTAT_BUSY k.val = true → s.dev.onAt .ADC_ADCFG_SYNC k.val = true → s.dev.tide % 2 ^
    s.dev.rdAt .ADC_ADCFG_SCANK k.val = 0 → Does s (.adcScanStart k) ({ flds := [.ADC_ADSTAT_OVR] } : Writes).raising fun e => e.onAt
    .ADC_ADSTAT_OVR k.val = true ∧ s.dev.raised e (384 + k.val) ∧ e.adc = s.dev.adc) ∧
  (∀ (s : State) (k : Fin 4), s.dev.onAt .ADC_ADCFG_SYNC k.val = true → s.dev.tide % 2 ^ s.dev.rdAt .ADC_ADCFG_SCANK k.val ≠ 0 → Does s
    (.adcScanStart k) {} fun e => True) ∧
  (∀ (s : State) (k : Fin 4) (i : Nat), s.dev.onAt .ADC_ADSTAT_BUSY k.val = false → s.dev.onAt .ADC_ADCFG_SYNC k.val = false ∨ s.dev.tide %
    2 ^ s.dev.rdAt .ADC_ADCFG_SCANK k.val = 0 → s.dev.adcNext k.val (s.dev.rdAt .ADC_ADCFG_INT k.val) 0 = some i → i < 16 → s.dev.onAt
    .ADC_ADSTAT_RBK k.val = false → Does s (.adcScanStart k)
    { flds := [.ADC_ADSTAT_BUSY, .ADC_ADSTAT_NCONV, .ADC_ADSTAT_SCANS], parts := [.adc] } fun e => e.onAt .ADC_ADSTAT_BUSY k.val = true ∧
    e.adc.conv.at {} k.val =
    { cur := some i, pos := i, align := s.dev.onAt .ADC_CFG_ALIGN (k.val + 4 * i), diff := s.dev.onAt .ADC_CFG_DIFF (k.val + 4 * i), pull := s.dev.rdAt .ADC_CFG_PULL (k.val + 4 * i), int := s.dev.rdAt .ADC_ADCFG_INT k.val, count := 0 }) ∧
  (∀ (s : State) (k : Fin 4), s.dev.onAt .ADC_ADSTAT_BUSY k.val = false → s.dev.adcNext k.val (s.dev.rdAt .ADC_ADCFG_INT k.val) 0 = none →
    Does s (.adcScanStart k) {} fun e => True) ∧
  (∀ (s : State) (k : Fin 4) (v : Int) (i : Nat) (n : Nat) (x : AdcConv), s.dev.onAt .ADC_ADSTAT_BUSY k.val = true → s.dev.adc.conv.at {}
    k.val = x → x.cur = some i → i < 16 → n = k.val + 4 * i → s.dev.on .ADC_DMACFG_EN = false → s.dev.onAt .ADC_ADCFG_SYNC k.val = true →
    s.dev.onAt .ADC_STAT_OPEN n = false → atRail x.diff x.pull (adcCode x.diff v) = false → Does s (.adcConversion k v)
    { flds := [.ADC_RES, .ADC_STAT_SEQ, .ADC_STAT_OPEN, .ADC_ADSTAT_BUSY, .ADC_ADSTAT_NCONV, .ADC_ADSTAT_SCANS], parts := [.adc] } fun e =>
    e.rdAt .ADC_RES n = adcWord x.align (adcCode x.diff v) ∧ e.rdAt .ADC_STAT_SEQ n = (s.dev.rdAt .ADC_STAT_SEQ n + 1) % 2 ^ 16 ∧
    e.adc.code.at 0 n = adcCode x.diff v ∧ e.adc.prevWord.at 0 n = s.dev.rdAt .ADC_RES n ∧ e.onAt .ADC_STAT_OPEN n = false ∧ (∀ j < 64, j ≠
    n → e.rdAt .ADC_RES j = s.dev.rdAt .ADC_RES j)) ∧
  (∀ (s : State) (k : Fin 4) (v : Int) (i : Nat) (n : Nat) (x : AdcConv), s.dev.onAt .ADC_ADSTAT_BUSY k.val = true → s.dev.adc.conv.at {}
    k.val = x → x.cur = some i → i < 16 → n = k.val + 4 * i → s.dev.on .ADC_DMACFG_EN = false → s.dev.onAt .ADC_ADCFG_SYNC k.val = true →
    s.dev.onAt .ADC_STAT_OPEN n = false → atRail x.diff x.pull (adcCode x.diff v) = true → s.dev.adc.rail.at 0 n = 3 → s.dev.adc.pull.at 0
    n = x.pull → Does s (.adcConversion k v)
    ({ flds := [.ADC_RES, .ADC_STAT_SEQ, .ADC_STAT_OPEN, .ADC_STAT_OPENS, .ADC_ADSTAT_BUSY, .ADC_ADSTAT_NCONV, .ADC_ADSTAT_SCANS], parts := [.adc] }
    : Writes).raising fun e => e.onAt .ADC_STAT_OPEN n = true ∧ e.onAt .ADC_STAT_OPENS n = true ∧ s.dev.raised e (320 + n)) ∧
  (∀ (s : State) (k : Fin 4) (v : Int) (i : Nat) (x : AdcConv), s.dev.onAt .ADC_ADSTAT_BUSY k.val = true → s.dev.adc.conv.at {} k.val = x →
    x.cur = some i → 16 ≤ i → i < 19 → s.dev.onAt .ADC_ADCFG_SYNC k.val = true → s.dev.sys.selfTestPassed = true ∨ (adcCode false v -
    internalCode (i - 16)).natAbs ≤ 8 → Does s (.adcConversion k v)
    { flds := [.ADC_INTR_INPUT, .ADC_INTR_CODE, .ADC_ADSTAT_BUSY, .ADC_ADSTAT_NCONV, .ADC_ADSTAT_SCANS], parts := [.adc] } fun e => e.rdAt
    .ADC_INTR_INPUT k.val = i - 16 ∧ e.rdAt .ADC_INTR_CODE k.val = (adcCode false v).toNat ∧ e.adc.failed = s.dev.adc.failed ∧ (∀ j < 64,
    e.rdAt .ADC_RES j = s.dev.rdAt .ADC_RES j)) ∧
  (∀ (s : State) (k : Fin 4) (v : Int) (i : Nat) (x : AdcConv), s.dev.onAt .ADC_ADSTAT_BUSY k.val = true → s.dev.adc.conv.at {} k.val = x →
    x.cur = some i → 16 ≤ i → i < 19 → s.dev.onAt .ADC_ADCFG_SYNC k.val = true → s.dev.sys.selfTestPassed = false → bitOf s.dev.adc.failed
    k.val = false → 8 < (adcCode false v - internalCode (i - 16)).natAbs → Does s (.adcConversion k v)
    { flds := [.ADC_INTR_INPUT, .ADC_INTR_CODE, .ADC_ADSTAT_BUSY, .ADC_ADSTAT_NCONV, .ADC_ADSTAT_SCANS], parts := [.adc, .fm] } fun e =>
    e.rdAt .ADC_INTR_CODE k.val = (adcCode false v).toNat ∧ bitOf e.adc.failed k.val = true ∧ e.fm.logPend.length = s.dev.fm.logPend.length
    + 1)

/-- What the events of the coolant pump drive do: HALL_CHANGE, PUMP_CARRIER_PERIOD, PUMP_GATE_TURN_ON, PUMP_HANDSHAKE_TIMEOUT, VDS_FAULT,
  BOOTSTRAP_REFRESH, BOOTSTRAP_UNDERVOLTAGE, PUMP_FARE_TIMEOUT, PUMP_START_END, PUMP_STALL, FLOW_TIMEOUT and COOLANT_STATUS_POST complete
  as the clauses say: under the conditions named a form answers a next state with the values listed, and where a clause lists what it
  writes, nothing else changes; a fault turns every gate off. It rests on R387, R388, R389, R390, R391, R393, R394, R395, R396. -/
def Obligations.PumpEventCommands : Prop :=
  (∀ (s : State) (code : BitVec 3) (span : Nat), code = 0 ∨ code = 7 → s.dev.pump.hall ≠ some code.toNat → Does s (.hallChange code span)
    ({ flds := [.COOL_STAT_STATE, .COOL_STAT_HALLE, .COOL_CNT_FLT, .COOL_CTRL_RUN, .COOL_STAT_DIAGOK, .COOL_STAT_FLOW, .COOL_STAT_FSW, .COOL_SPD_HALL, .COOL_SPD_T6, .CAP_CLS_PEND, .CAP_CLS_BLOCK, .CAP_CLS_HELD, .CAP_CLS_FARES], parts := [.pump] }
    : Writes).raising fun e => e.rd .COOL_STAT_STATE = 3 ∧ e.on .COOL_STAT_HALLE = true ∧ e.pump.on = 0 ∧ e.pump.wait = 0 ∧ e.pump.step =
    .off ∧ e.on .COOL_CTRL_RUN = false ∧ e.on .COOL_STAT_FLOW = false ∧ e.on .COOL_STAT_DIAGOK = false ∧ e.rd .COOL_CNT_FLT = satAdd 65535
    (s.dev.rd .COOL_CNT_FLT) 1 ∧ e.onAt .CAP_CLS_HELD 9 = false ∧ s.dev.raised e 454 ∧ e.pump.hall = some code.toNat) ∧
  (∀ (s : State) (code : BitVec 3) (span : Nat), s.dev.pump.hall = some code.toNat → Does s (.hallChange code span) {} fun e => True) ∧
  (∀ (s : State) (code : BitVec 3) (span : Nat) (o : Nat), s.dev.pump.hall = some o → o ≠ code.toNat → (hallPhases o).isSome = true →
    (hallPhases code.toNat).isSome = true → hallAdjacent o code.toNat = false → Does s (.hallChange code span)
    ({ flds := [.COOL_STAT_STATE, .COOL_STAT_HALLE, .COOL_CNT_FLT, .COOL_CTRL_RUN, .COOL_STAT_DIAGOK, .COOL_STAT_FLOW, .COOL_STAT_FSW, .COOL_SPD_HALL, .COOL_SPD_T6, .CAP_CLS_PEND, .CAP_CLS_BLOCK, .CAP_CLS_HELD, .CAP_CLS_FARES], parts := [.pump] }
    : Writes).raising fun e => e.rd .COOL_STAT_STATE = 3 ∧ e.on .COOL_STAT_HALLE = true ∧ e.pump.on = 0 ∧ e.pump.wait = 0 ∧ e.pump.step =
    .off ∧ e.on .COOL_CTRL_RUN = false ∧ e.on .COOL_STAT_FLOW = false ∧ e.on .COOL_STAT_DIAGOK = false ∧ e.rd .COOL_CNT_FLT = satAdd 65535
    (s.dev.rd .COOL_CNT_FLT) 1 ∧ e.onAt .CAP_CLS_HELD 9 = false ∧ s.dev.raised e 454) ∧
  (∀ (s : State) (code : BitVec 3) (span : Nat) (o : Nat) (x y : Nat), s.dev.pump.hall = some o → hallPhases code.toNat = some (x, y) →
    hallAdjacent o code.toNat = true → s.dev.pump.step = .running → s.dev.on .COOL_CTRL_DIR = false → s.dev.pump.high = true →
    s.dev.pump.spans.length < 5 → Does s (.hallChange code span) { flds := [.COOL_SPD_HALL, .COOL_SPD_T6], parts := [.pump] } fun e => e.rd
    .COOL_SPD_HALL = code.toNat ∧ e.rd .COOL_SPD_T6 = 65535 ∧ e.pump.hall = some code.toNat ∧ e.pump.spans = span :: s.dev.pump.spans ∧
    e.pump.on = Nat.land (s.dev.pump.on % 64) (2 ^ (2 * x) + 2 ^ (2 * y + 1)) ∧ e.pump.wait = 2 ^ (2 * x) + 2 ^ (2 * y + 1) - e.pump.on) ∧
  (∀ (s : State), s.dev.pump.stopping = true → Does s (.pumpCarrierPeriod false)
    { flds := [.COOL_STAT_STATE, .COOL_STAT_DIAGOK, .CAP_CLS_PEND, .CAP_CLS_BLOCK, .CAP_CLS_HELD, .CAP_CLS_FARES], parts := [.pump] } fun e
    => e.rd .COOL_STAT_STATE = 0 ∧ e.pump.on = 0 ∧ e.pump.wait = 0 ∧ e.pump.step = .off ∧ e.onAt .CAP_CLS_HELD 9 = false ∧ e.on
    .COOL_STAT_DIAGOK = false) ∧
  (∀ (s : State), s.dev.pump.stopping = false → s.dev.pump.step = .precharge → Does s (.pumpCarrierPeriod false)
    { flds := [.COOL_STAT_FLOW], parts := [.pump] } fun e => e.pump.step = .running ∧ e.pump.duty = s.dev.rd .COOL_DUTY ∧ e.pump.high =
    decide (0 < s.dev.rd .COOL_DUTY) ∧ e.on .COOL_STAT_FLOW = true) ∧
  (∀ (s : State), s.dev.pump.step = .running → s.dev.pump.duty < 1024 → Does s (.pumpCarrierPeriod true) { parts := [.pump] } fun e =>
    e.pump.high = false ∧ e.pump.duty = s.dev.pump.duty) ∧
  (∀ (s : State) (g : Fin 6), bitOf s.dev.pump.wait g.val = true → Does s (.pumpGateTurnOn g) { parts := [.pump] } fun e => bitOf
    e.pump.wait g.val = false ∧ bitOf e.pump.on g.val = true ∧ (∀ k < 6, k ≠ g.val → bitOf e.pump.on k = bitOf s.dev.pump.on k)) ∧
  (∀ (s : State) (g : Fin 6), bitOf s.dev.pump.wait g.val = false → Does s (.pumpGateTurnOn g) {} fun e => True) ∧
  (∀ (s : State) (g : Fin 6), bitOf s.dev.pump.wait g.val = true → Does s (.pumpHandshakeTimeout g)
    ({ flds := [.COOL_STAT_STATE, .COOL_STAT_GTO, .COOL_CNT_FLT, .COOL_CTRL_RUN, .COOL_STAT_DIAGOK, .COOL_STAT_FLOW, .COOL_STAT_FSW, .COOL_SPD_HALL, .COOL_SPD_T6, .CAP_CLS_PEND, .CAP_CLS_BLOCK, .CAP_CLS_HELD, .CAP_CLS_FARES], parts := [.pump] }
    : Writes).raising fun e => e.rd .COOL_STAT_STATE = 3 ∧ e.on .COOL_STAT_GTO = true ∧ e.pump.on = 0 ∧ e.pump.wait = 0 ∧ e.pump.step =
    .off ∧ e.on .COOL_CTRL_RUN = false ∧ e.on .COOL_STAT_FLOW = false ∧ e.on .COOL_STAT_DIAGOK = false ∧ e.rd .COOL_CNT_FLT = satAdd 65535
    (s.dev.rd .COOL_CNT_FLT) 1 ∧ e.onAt .CAP_CLS_HELD 9 = false ∧ s.dev.raised e 454 ∧ (s.dev.on .COOL_STAT_GTO = false ∧ s.dev.on
    .COOL_STAT_VDS = false → e.rd .COOL_STAT_FSW = g.val)) ∧
  (∀ (s : State) (g : Fin 6), bitOf s.dev.pump.on g.val = true → Does s (.vdsFault g)
    ({ flds := [.COOL_STAT_STATE, .COOL_STAT_VDS, .COOL_CNT_FLT, .COOL_CTRL_RUN, .COOL_STAT_DIAGOK, .COOL_STAT_FLOW, .COOL_STAT_FSW, .COOL_SPD_HALL, .COOL_SPD_T6, .CAP_CLS_PEND, .CAP_CLS_BLOCK, .CAP_CLS_HELD, .CAP_CLS_FARES], parts := [.pump] }
    : Writes).raising fun e => e.rd .COOL_STAT_STATE = 3 ∧ e.on .COOL_STAT_VDS = true ∧ e.pump.on = 0 ∧ e.pump.wait = 0 ∧ e.pump.step =
    .off ∧ e.on .COOL_CTRL_RUN = false ∧ e.on .COOL_STAT_FLOW = false ∧ e.on .COOL_STAT_DIAGOK = false ∧ e.rd .COOL_CNT_FLT = satAdd 65535
    (s.dev.rd .COOL_CNT_FLT) 1 ∧ e.onAt .CAP_CLS_HELD 9 = false ∧ s.dev.raised e 454 ∧ (s.dev.on .COOL_STAT_GTO = false ∧ s.dev.on
    .COOL_STAT_VDS = false → e.rd .COOL_STAT_FSW = g.val)) ∧
  (∀ (s : State) (phase : Fin 3), bitOf s.dev.pump.on (2 * phase.val) = true → s.dev.pump.duty = 1024 → s.dev.pump.refresh = none → Does s
    (.bootstrapRefresh phase none false) { flds := [.COOL_STAT_BSREF, .COOL_CNT_REF], parts := [.pump] } fun e => bitOf e.pump.on (2 *
    phase.val) = false ∧ bitOf e.pump.wait (2 * phase.val + 1) = true ∧ e.pump.refresh = some phase.val ∧ e.on .COOL_STAT_BSREF = true ∧
    e.rd .COOL_CNT_REF = satAdd 65535 (s.dev.rd .COOL_CNT_REF) 1) ∧
  (∀ (s : State) (phase : Fin 3) (us : Nat), us < 100 → Does s (.bootstrapRefresh phase (some us) false) {} fun e => True) ∧
  (∀ (s : State) (phase : Fin 3), bitOf s.dev.pump.on (2 * phase.val) = true → Does s (.bootstrapUndervoltage phase)
    ({ flds := [.COOL_STAT_STATE, .COOL_STAT_BSUV, .COOL_CNT_FLT, .COOL_CTRL_RUN, .COOL_STAT_DIAGOK, .COOL_STAT_FLOW, .COOL_STAT_FSW, .COOL_SPD_HALL, .COOL_SPD_T6, .CAP_CLS_PEND, .CAP_CLS_BLOCK, .CAP_CLS_HELD, .CAP_CLS_FARES], parts := [.pump] }
    : Writes).raising fun e => e.rd .COOL_STAT_STATE = 3 ∧ e.on .COOL_STAT_BSUV = true ∧ e.pump.on = 0 ∧ e.pump.wait = 0 ∧ e.pump.step =
    .off ∧ e.on .COOL_CTRL_RUN = false ∧ e.on .COOL_STAT_FLOW = false ∧ e.on .COOL_STAT_DIAGOK = false ∧ e.rd .COOL_CNT_FLT = satAdd 65535
    (s.dev.rd .COOL_CNT_FLT) 1 ∧ e.onAt .CAP_CLS_HELD 9 = false ∧ s.dev.raised e 454) ∧
  (∀ (s : State), s.dev.pump.step = .fare → Does s (.pumpFareTimeout)
    ({ flds := [.COOL_STAT_STATE, .COOL_STAT_FARE, .COOL_CNT_FLT, .COOL_CTRL_RUN, .COOL_STAT_DIAGOK, .COOL_STAT_FLOW, .COOL_STAT_FSW, .COOL_SPD_HALL, .COOL_SPD_T6, .CAP_CLS_PEND, .CAP_CLS_BLOCK, .CAP_CLS_HELD, .CAP_CLS_FARES], parts := [.pump] }
    : Writes).raising fun e => e.rd .COOL_STAT_STATE = 3 ∧ e.on .COOL_STAT_FARE = true ∧ e.pump.on = 0 ∧ e.pump.wait = 0 ∧ e.pump.step =
    .off ∧ e.on .COOL_CTRL_RUN = false ∧ e.on .COOL_STAT_FLOW = false ∧ e.on .COOL_STAT_DIAGOK = false ∧ e.rd .COOL_CNT_FLT = satAdd 65535
    (s.dev.rd .COOL_CNT_FLT) 1 ∧ e.onAt .CAP_CLS_HELD 9 = false ∧ s.dev.raised e 454) ∧
  (∀ (s : State), s.dev.pumpState = 1 → s.dev.pump.step = .running → s.dev.pump.stopping = false → Does s (.pumpStartEnd)
    { flds := [.COOL_STAT_STATE, .COOL_STAT_FLOW] } fun e => e.rd .COOL_STAT_STATE = 2 ∧ e.on .COOL_STAT_FLOW = true) ∧
  (∀ (s : State), s.dev.pumpState = 2 → 0 < s.dev.pump.duty → Does s (.pumpStall)
    ({ flds := [.COOL_STAT_STATE, .COOL_STAT_STALL, .COOL_CNT_FLT, .COOL_CTRL_RUN, .COOL_STAT_DIAGOK, .COOL_STAT_FLOW, .COOL_STAT_FSW, .COOL_SPD_HALL, .COOL_SPD_T6, .CAP_CLS_PEND, .CAP_CLS_BLOCK, .CAP_CLS_HELD, .CAP_CLS_FARES], parts := [.pump] }
    : Writes).raising fun e => e.rd .COOL_STAT_STATE = 3 ∧ e.on .COOL_STAT_STALL = true ∧ e.pump.on = 0 ∧ e.pump.wait = 0 ∧ e.pump.step =
    .off ∧ e.on .COOL_CTRL_RUN = false ∧ e.on .COOL_STAT_FLOW = false ∧ e.on .COOL_STAT_DIAGOK = false ∧ e.rd .COOL_CNT_FLT = satAdd 65535
    (s.dev.rd .COOL_CNT_FLT) 1 ∧ e.onAt .CAP_CLS_HELD 9 = false ∧ s.dev.raised e 454) ∧
  (∀ (s : State), s.dev.pumpState = 2 → s.dev.on .COOL_CTRL_RUN = true → s.dev.rd .COOL_FLOW_TMAX < s.dev.rd .COOL_SPD_T6 ∨ s.dev.pump.duty
    = 0 → Does s (.flowTimeout true) { flds := [.COOL_STAT_FLOW] } fun e => e.on .COOL_STAT_FLOW = false) ∧
  (∀ (s : State), s.dev.pumpState = 2 → s.dev.on .COOL_CTRL_RUN = true → s.dev.rd .COOL_SPD_T6 ≤ s.dev.rd .COOL_FLOW_TMAX → Does s
    (.flowTimeout false) { flds := [.COOL_STAT_FLOW] } fun e => e.on .COOL_STAT_FLOW = true) ∧
  (∀ (s : State) (low : Bool), s.dev.pumpState ≠ 2 ∨ s.dev.on .COOL_CTRL_RUN = false ∨ s.dev.speedMay low = false → Does s (.flowTimeout
    low) {} fun e => True) ∧
  (∀ (s : State), s.dev.sys.spFailed = false → s.dev.pushCode 14 = 1 → s.dev.fm.booted = true → Does s (.coolantStatusPost)
    { parts := [.vcs] } fun e => (e.queue 14 =
    { items := (s.dev.queue 14).items ++ [⟨payloadOf 0x11 0 (if s.dev.on .COOL_STAT_FLOW then 0x3F800000 else 0), ((s.dev.queue 14).last + 1) % 2 ^ 15⟩], last := ((s.dev.queue 14).last + 1) % 2 ^ 15 })) ∧
  (∀ (s : State), s.dev.sys.spFailed = true → Does s (.coolantStatusPost) {} fun e => True) ∧
  (∀ (s : State), s.dev.fm.booted = false → Does s (.coolantStatusPost) {} fun e => True)

/-- What the writes to the coolant pump drive do: PUMP_DIAG, PUMP_DIAG_COMPLETE, PUMP_RUN, PUMP_STOP and PUMP_FAULT_CLEAR complete as the
  clauses say: under the conditions named a form answers a next state with the values listed, and where a clause lists what it writes,
  nothing else changes. It rests on R392, R393, R394, R396. -/
def Obligations.PumpCommands : Prop :=
  (∀ (s : State) (vbus : BitVec 16), s.dev.sys.spFailed = false → s.dev.pumpState = 0 → 8000 < vbus.toNat → Does s (.pumpDiag .ferryman
    vbus) ({ flds := [.COOL_VBUS, .COOL_STAT_DBUSY] } : Writes).access fun e => e.rd .COOL_VBUS = vbus.toNat ∧ e.on .COOL_STAT_DBUSY =
    true) ∧
  (∀ (s : State) (vbus : BitVec 16), s.dev.sys.spFailed = false → s.dev.pumpState ≠ 0 ∨ vbus.toNat ≤ 8000 → Does s (.pumpDiag .ferryman
    vbus) ({ flds := [.COOL_VBUS, .COOL_STAT_DIAGF] } : Writes).access fun e => e.rd .COOL_VBUS = vbus.toNat ∧ e.on .COOL_STAT_DIAGF = true
    ∧ e.on .COOL_STAT_DBUSY = s.dev.on .COOL_STAT_DBUSY) ∧
  (∀ (s : State) (x1 y1 x2 y2 x3 y3 : Nat) (a b2 e3 : Nat), s.dev.on .COOL_STAT_DBUSY = true → diagCode x1 y1 = some a → diagCode x2 y2 =
    some b2 → diagCode x3 y3 = some e3 → Does s (.pumpDiagComplete x1 y1 x2 y2 x3 y3)
    { flds := [.COOL_STAT_DBUSY, .COOL_STAT_DIAGOK, .COOL_STAT_DIAGF, .COOL_DIAGR_M1, .COOL_DIAGR_M2, .COOL_DIAGR_M3] } fun e => e.on
    .COOL_STAT_DBUSY = false ∧ e.rd .COOL_DIAGR_M1 = a ∧ e.rd .COOL_DIAGR_M2 = b2 ∧ e.rd .COOL_DIAGR_M3 = e3 ∧ e.on .COOL_STAT_DIAGOK =
    (decide (a = 1) && decide (b2 = 1) && decide (e3 = 1)) ∧ ((a ≠ 1 ∨ b2 ≠ 1 ∨ e3 ≠ 1) → e.on .COOL_STAT_DIAGF = true)) ∧
  (∀ (s : State), s.dev.sys.spFailed = false → s.dev.pumpState = 0 → s.dev.on .COOL_STAT_DIAGOK = true → s.dev.on .COOL_STAT_DBUSY = false
    → s.dev.onAt .CAP_CLS_HELD 9 = false → 0 < s.dev.fareOf 9 → Does s (.pumpRun .ferryman)
    ({ flds := [.COOL_CTRL_RUN, .COOL_STAT_STATE, .COOL_SPD_T6, .CAP_CLS_FARES, .CAP_CLS_PEND], parts := [.pump] } : Writes).access fun e
    => e.on .COOL_CTRL_RUN = true ∧ e.rd .COOL_STAT_STATE = 1 ∧ e.rd .COOL_SPD_T6 = 65535 ∧ e.pump =
    { s.dev.pump with step := .fare, spans := [] } ∧ e.onAt .CAP_CLS_PEND 9 = true) ∧
  (∀ (s : State), s.dev.sys.spFailed = false → s.dev.pumpState = 0 → s.dev.on .COOL_STAT_DIAGOK = false → Does s (.pumpRun .ferryman)
    ({ flds := [.COOL_STAT_DIAGF] } : Writes).access fun e => e.on .COOL_STAT_DIAGF = true ∧ e.rd .COOL_STAT_STATE = 0) ∧
  (∀ (s : State), s.dev.sys.spFailed = false → s.dev.pump.step = .running ∨ s.dev.pump.step = .precharge → Does s (.pumpStop .ferryman)
    ({ flds := [.COOL_CTRL_RUN, .COOL_STAT_FLOW], parts := [.pump] } : Writes).access fun e => e.on .COOL_CTRL_RUN = false ∧ e.on
    .COOL_STAT_FLOW = false ∧ e.pump = { s.dev.pump with stopping := true }) ∧
  (∀ (s : State), s.dev.sys.spFailed = false → s.dev.pump.step = .fare → Does s (.pumpStop .ferryman)
    ({ flds := [.COOL_CTRL_RUN, .COOL_STAT_FLOW, .COOL_STAT_STATE, .COOL_STAT_DIAGOK, .CAP_CLS_PEND, .CAP_CLS_BLOCK, .CAP_CLS_HELD, .CAP_CLS_FARES], parts := [.pump] }
    : Writes).access fun e => e.rd .COOL_STAT_STATE = 0 ∧ e.pump.step = .off ∧ e.pump.on = 0 ∧ e.onAt .CAP_CLS_PEND 9 = false) ∧
  (∀ (s : State), s.dev.sys.spFailed = false → s.dev.pump.step = .off → s.dev.pumpState = 0 ∨ s.dev.pumpState = 3 → Does s (.pumpStop
    .ferryman) ({ flds := [.COOL_CTRL_RUN, .COOL_STAT_FLOW] } : Writes).access fun e => e.on .COOL_CTRL_RUN = false ∧ e.on .COOL_STAT_FLOW
    = false) ∧
  (∀ (s : State), s.dev.sys.spFailed = false → s.dev.pump.step = .off → s.dev.pumpState = 1 ∨ s.dev.pumpState = 2 → Does s (.pumpStop
    .ferryman)
    ({ flds := [.COOL_CTRL_RUN, .COOL_STAT_FLOW, .COOL_STAT_STATE, .COOL_STAT_DIAGOK, .CAP_CLS_PEND, .CAP_CLS_BLOCK, .CAP_CLS_HELD, .CAP_CLS_FARES], parts := [.pump] }
    : Writes).access fun e => e.rd .COOL_STAT_STATE = 0 ∧ e.on .COOL_STAT_DIAGOK = false ∧ e.pump.on = 0) ∧
  (∀ (s : State), s.dev.sys.spFailed = false → s.dev.pumpState = 3 → s.dev.pumpFaultPresent = false → Does s (.pumpFaultClear .ferryman)
    ({ flds := [.COOL_STAT_STATE] } : Writes).access fun e => e.rd .COOL_STAT_STATE = 0) ∧
  (∀ (s : State), s.dev.sys.spFailed = false → s.dev.pumpState = 3 → s.dev.pumpFaultPresent = true → Does s (.pumpFaultClear .ferryman)
    { parts := [.resp] } fun e => True)

/-- What boot, the watchdog, host queues, sensors and the log do: BOOT, WATCHDOG_KICK, WATCHDOG_EXPIRY, HOST_QUEUE_PUSH, SENSOR_SAMPLE,
  LOG_WRITE, LOG_ENTRY and LIFETIME_SECOND complete as the clauses say: under the conditions named a form answers a next state with the
  values listed, and where a clause lists what it writes, nothing else changes. It rests on R399, R400, R401, R403, R404, R406, R408, R409.
  -/
def Obligations.BootCommands : Prop :=
  (∀ (s : State) (sigA sigB : Bool), s.dev.fm.booted = true ∨ s.dev.vcs.ferry.halted = true → Does s (.boot sigA sigB) {} fun e => True) ∧
  (∀ (s : State) (sigA sigB : Bool), s.dev.fm.booted = false → s.dev.vcs.ferry.halted = false → s.dev.sys.cdReset = true → memNat s.mem
    (flashBase + 0) 4 ≠ 0x4D495653 → memNat s.mem (flashBase + 0x2000000) 4 ≠ 0x4D495653 → Completes s (.boot sigA sigB) fun t =>
    (t.dev.vcs.ferry.halted = true) ∧ (t.dev.on .FM_STAT_BOOTF = true) ∧ (t.dev.on .FM_CDCTL_HOLD = true) ∧ (s.dev.raised t.dev 456) ∧
    (t.dev.fm.booted = false) ∧ (t.mem = s.mem)) ∧
  (∀ (s : State) (sigA sigB : Bool), s.dev.fm.booted = false → s.dev.vcs.ferry.halted = false → (s.dev.bootChoice s.mem).1 = 0 → Completes
    s (.boot sigA sigB) fun t => ((s.dev.imageCode s.mem 0 0 sigA = 0 → t.dev.fm.booted = true ∧ t.dev.on .FM_STAT_BOOTB = false ∧
    t.dev.engine 10 = { pc := ferrymanSram } ∧ (∀ k, k < imageLen s.mem (imageAt 0 0) → memByte t.mem (ferrymanSram + k) = memByte s.mem
    (imageAt 0 0 + 0x200 + k)) ∧ (∀ a, a < ferrymanSram ∨ ferrymanSram + imageLen s.mem (imageAt 0 0) ≤ a → memByte t.mem a = memByte s.mem
    a)))) ∧
  (∀ (s : State), Does s (.watchdogKick .ferryman 0xC35A) { parts := [.resp] } fun e => True) ∧
  (∀ (s : State) (value : BitVec 32), value ≠ 0xC35A → s.dev.on .FM_WDTCFG_EN = true → Completes s (.watchdogKick .ferryman value) fun t =>
    (t.dev.rd .FM_RSTCAUSE_KIND = 4) ∧ (t.dev.vcs.ferry = {}) ∧ (t.dev.engine 10 = { pc := 0x1010080000 }) ∧ (s.dev.raised t.dev 457) ∧
    (t.dev.fm.life.at 0 0x018 = satAdd (2 ^ 64 - 1) (s.dev.fm.life.at 0 0x018) 1) ∧ (t.dev.sys.cdReset = s.dev.sys.cdReset)) ∧
  (∀ (s : State), s.dev.on .FM_WDTCFG_EN = true → Completes s (.watchdogExpiry) fun t => (t.dev.rd .FM_RSTCAUSE_KIND = 4) ∧
    (t.dev.vcs.ferry = {}) ∧ (t.dev.engine 10 = { pc := 0x1010080000 }) ∧ (s.dev.raised t.dev 457) ∧ (t.dev.fm.life.at 0 0x018 = satAdd (2
    ^ 64 - 1) (s.dev.fm.life.at 0 0x018) 1)) ∧
  (∀ (s : State), s.dev.on .FM_WDTCFG_EN = false → Does s (.watchdogExpiry) {} fun e => True) ∧
  (∀ (s : State) (value : BitVec 32) (q : Nat), bitOf value.toNat 31 = true → q = value.toNat % 16 → s.dev.pushCode q = 1 → Does s
    (.hostQueuePush .ferryman value) ({ flds := [.FM_HQSTAT_STATUS, .FM_HQSTAT_SEQ], parts := [.vcs] } : Writes).access fun e => e.rd
    .FM_HQSTAT_STATUS = 1 ∧ e.rd .FM_HQSTAT_SEQ = ((s.dev.queue q).last + 1) % 2 ^ 15 ∧ e.queue q =
    { items := (s.dev.queue q).items ++ [⟨(s.dev.rd .FM_HQLO + 2 ^ 32 * s.dev.rd .FM_HQHI) % 2 ^ 48, ((s.dev.queue q).last + 1) % 2 ^ 15⟩], last := ((s.dev.queue q).last + 1) % 2 ^ 15 }
    ∧ (∀ k < 16, k ≠ q → e.queue k = s.dev.queue k)) ∧
  (∀ (s : State) (value : BitVec 32) (q : Nat), bitOf value.toNat 31 = true → q = value.toNat % 16 → s.dev.pushCode q ≠ 1 → Does s
    (.hostQueuePush .ferryman value) ({ flds := [.FM_HQSTAT_STATUS, .FM_HQSTAT_SEQ], parts := [.vcs] } : Writes).access fun e => e.rd
    .FM_HQSTAT_STATUS = s.dev.pushCode q ∧ e.rd .FM_HQSTAT_SEQ = 0 ∧ e.vcs = s.dev.vcs) ∧
  (∀ (s : State) (value : BitVec 32), bitOf value.toNat 31 = false → Does s (.hostQueuePush .ferryman value) { parts := [.resp] } fun e =>
    True) ∧
  (∀ (s : State), Does s (.sensorSample []) ({ flds := [.CAP_HUPV, .CAP_STAT_OVB, .CAP_CNT_OVB], parts := [.fm, .pump] } : Writes).raising
    fun e => e.rd .CAP_HUPV = min 65535 (s.dev.rdAt .FM_SEN_VALUE 13)) ∧
  (∀ (s : State) (v : BitVec 20), Completes s (.sensorSample [v]) fun t => (t.dev.rdAt .FM_SEN_VALUE 0 = v.toNat) ∧ (t.dev.onAt
    .FM_SEN_VALID 0 = true) ∧ ((∀ k, 0 < k → t.dev.rdAt .FM_SEN_VALUE k = s.dev.rdAt .FM_SEN_VALUE k)) ∧ (t.mem = s.mem)) ∧
  (∀ (s : State), Does s (.logWrite .ferryman) ({ parts := [.fm] } : Writes).access fun e => e.fm =
    { s.dev.fm with logPend := s.dev.fm.logPend ++ [{ src := s.dev.rd .FM_LOGWSRC_SRC, lvl := s.dev.rd .FM_LOGWSRC_LVL, fw := true, data := s.dev.rd64 .FM_LOGWD0 .FM_LOGWD1 }] }) ∧
  (∀ (s : State) (beyond : Bool) (r : LogReq) (l : List LogReq), s.dev.fm.logPend = r :: l → s.dev.logExceeds r.src beyond = false → Does s
    (.logEntry beyond) { flds := [.FM_LOGHEAD], parts := [.fm] } fun e => e.fm.logPend = l ∧ e.fm.logLost = false ∧ e.fm.log.at {}
    (s.dev.rd .FM_LOGHEAD % 16384) =
    { time := s.dev.now, tide := s.dev.tide, seq := s.dev.rd .FM_LOGHEAD, src := r.src, lvl := r.lvl, flags := bit01 s.dev.fm.logLost + 2 * bit01 r.fw, data := r.data }
    ∧ e.rd .FM_LOGHEAD = (s.dev.rd .FM_LOGHEAD + 1) % 2 ^ 32 ∧ (∀ k < 10, k ≠ s.dev.rd .FM_LOGHEAD % 16384 → e.fm.log.at {} k =
    s.dev.fm.log.at {} k)) ∧
  (∀ (s : State) (beyond : Bool) (r : LogReq) (l : List LogReq), s.dev.fm.logPend = r :: l → s.dev.logExceeds r.src beyond = true → Does s
    (.logEntry beyond) { flds := [.FM_LOGLOST], parts := [.fm] } fun e => e.fm = { s.dev.fm with logPend := l, logLost := true } ∧ e.rd
    .FM_LOGLOST = satAdd (2 ^ 32 - 1) (s.dev.rd .FM_LOGLOST) 1) ∧
  (∀ (s : State) (beyond : Bool), s.dev.fm.logPend = [] → Does s (.logEntry beyond) {} fun e => True) ∧
  (∀ (s : State), Does s (.lifetimeSecond) { parts := [.fm, .sys] } fun e => e.fm.life.at 0 0x008 = satAdd (2 ^ 64 - 1) (s.dev.fm.life.at 0
    0x008) 1 ∧ e.sys = { s.dev.sys with cdResets := (s.dev.sys.cdResets.map (· + 1)).filter (· < 600) } ∧ (∀ k < 3, e.fm.life.at 0 (0x100 +
    128 * k + 8 * tempBin (s.dev.hottest k)) = satAdd (2 ^ 64 - 1) (s.dev.fm.life.at 0 (0x100 + 128 * k + 8 * tempBin (s.dev.hottest k)))
    1))

/-- What the calendar and storage do: CALENDAR_SET, CALENDAR_END, CALENDAR_READ, CALENDAR_DISCIPLINE, XSPI_COMMAND, XSPI_OPERATION_COMPLETE
  and CHECKPOINT complete as the clauses say: under the conditions named a form answers a next state with the values listed, and where a
  clause lists what it writes, nothing else changes. It rests on R411, R412, R413, R415, R426. -/
def Obligations.CalendarAndStorageCommands : Prop :=
  (∀ (s : State) (v : Nat), v = s.dev.rd64 .FM_CALSETLO .FM_CALSETHI → v < calendarEnd → ((v : Int) - s.dev.fm.cal).natAbs < 1000000 → Does
    s (.calendarSet .ferryman) ({ parts := [.fm] } : Writes).access fun e => e.fm =
    { s.dev.fm with cal := v, calFrac := 0, calStopped := false }) ∧
  (∀ (s : State) (v : Nat), v = s.dev.rd64 .FM_CALSETLO .FM_CALSETHI → v < calendarEnd → 1000000 ≤ ((v : Int) - s.dev.fm.cal).natAbs → Does
    s (.calendarSet .ferryman) ({ flds := [.FM_CALSTAT_STEP], parts := [.fm, .cus, .resp] } : Writes).raising fun e => e.fm.cal = v ∧
    e.fm.calFrac = 0 ∧ e.fm.calStopped = false ∧ e.on .FM_CALSTAT_STEP = true ∧ s.dev.raised e 316 ∧ (∀ m < 4, (e.cus.iv.map fun i => bitOf
    i.qflags (8 * m + 7)) = s.dev.cus.iv.map fun _ => true)) ∧
  (∀ (s : State), s.dev.fm.calStopped = false → s.dev.sys.cdReset = true ∨ calendarEnd ≤ s.dev.now + s.dev.rd .TIDE_PERIOD_ACT / 400 + 1 →
    Does s (.calendarEnd) ({ flds := [.FM_CALSTAT_END], parts := [.fm] } : Writes).raising fun e => e.fm.cal = calendarEnd ∧
    e.fm.calStopped = true ∧ e.on .FM_CALSTAT_END = true ∧ s.dev.raised e 317) ∧
  (∀ (s : State), s.dev.fm.calStopped = true ∨ (s.dev.sys.cdReset = false ∧ s.dev.now + s.dev.rd .TIDE_PERIOD_ACT / 400 + 1 < calendarEnd)
    → Does s (.calendarEnd) {} fun e => True) ∧
  (∀ (s : State) (req : Requester), Does s (.calendarRead req) ({ parts := [.lat] } : Writes).access fun e => e.resp =
    { error := false, data := s.dev.fm.cal % 2 ^ 32 } ∧ e.lat.calHi.at 0 req.id = s.dev.fm.cal / 2 ^ 32 % 2 ^ 32) ∧
  (∀ (s : State) (utc : BitVec 64), s.dev.on .ETH_PTPCTL_LOCKED = true → utc.toNat = s.dev.fm.cal → s.dev.fm.booted = true → Does s
    (.calendarDiscipline utc) { flds := [.FM_CALSTAT_DISC] } fun e => e.on .FM_CALSTAT_DISC = true) ∧
  (∀ (s : State) (utc : BitVec 64), s.dev.on .ETH_PTPCTL_LOCKED = true → s.dev.fm.cal < utc.toNat → utc.toNat < s.dev.fm.cal + 1000000 →
    s.dev.fm.booted = true → Does s (.calendarDiscipline utc) { flds := [.FM_CALSTAT_DISC, .FM_CALTRIM] } fun e => e.on .FM_CALSTAT_DISC =
    true ∧ e.rd .FM_CALTRIM ≤ 5000) ∧
  (∀ (s : State) (utc : BitVec 64), s.dev.on .ETH_PTPCTL_LOCKED = true → s.dev.fm.cal + 1000000 ≤ utc.toNat → utc.toNat < calendarEnd →
    s.dev.fm.booted = true → Does s (.calendarDiscipline utc) ({ flds := [.FM_CALSTAT_DISC, .FM_CALSTAT_STEP], parts := [.fm, .cus] } :
    Writes).raising fun e => e.on .FM_CALSTAT_DISC = true ∧ e.on .FM_CALSTAT_STEP = true ∧ e.fm.cal = utc.toNat ∧ s.dev.raised e 316) ∧
  (∀ (s : State) (utc : BitVec 64), s.dev.on .ETH_PTPCTL_LOCKED = false → Does s (.calendarDiscipline utc) {} fun e => True) ∧
  (∀ (s : State) (utc : BitVec 64), s.dev.fm.booted = false → Does s (.calendarDiscipline utc) {} fun e => True) ∧
  (∀ (s : State) (value : BitVec 32), Does s (.xspiCommand .ferryman value .other) ({ flds := [.FM_XSCMD] } : Writes).access fun e => e.rd
    .FM_XSCMD = value.toNat) ∧
  (∀ (s : State) (value : BitVec 32) (off : Nat) (data : List (BitVec 8)), off + data.length ≤ 0x4000000 → 0 < data.length → Completes s
    (.xspiCommand .ferryman value (.program off data)) fun t => (t.dev.rd .FM_XSCMD = value.toNat) ∧ ((∀ k, k < data.length → memByte t.mem
    (flashBase + off + k) = data.getD k 0)) ∧ ((∀ a, a < flashBase + off ∨ flashBase + off + data.length ≤ a → memByte t.mem a = memByte
    s.mem a)) ∧ (t.dev.fm.flashBusy.at false (off / 0x2000000) = true)) ∧
  (∀ (s : State) (value : BitVec 32) (off len : Nat), off + len ≤ 0x4000000 → 0 < len → Completes s (.xspiCommand .ferryman value (.erase
    off len)) fun t => (t.dev.rd .FM_XSCMD = value.toNat) ∧ ((∀ a, a < flashBase + off ∨ flashBase + off + len ≤ a → memByte t.mem a =
    memByte s.mem a)) ∧ (t.dev.fm.flashBusy.at false (off / 0x2000000) = true)) ∧
  (∀ (s : State) (bank : Fin 2), Does s (.xspiOperationComplete bank) { parts := [.fm] } fun e => e.fm =
    { s.dev.fm with flashBusy := s.dev.fm.flashBusy.set false bank.val false }) ∧
  (∀ (s : State) (k : Nat), s.dev.sys.cdReset = false → s.dev.on .FM_CKPCFG_EN = true → s.dev.now / 60000000 % 1440 = 60 * s.dev.rd
    .FM_CKPCFG_HOUR + s.dev.rd .FM_CKPCFG_MIN → s.dev.fm.ckptDay ≠ s.dev.now / 86400000000 + 1 → s.dev.fm.diffAct = false → s.dev.bit
    .DDR_HALT 7 = false → s.dev.eccm.bad = [] → (k = (match s.dev.newestCheckpoint with | some (i, _) => 1 - i | none => 0)) →
    s.dev.fm.booted = true → Does s (.checkpoint true) { flds := [.FM_CKPSTAT_COUNT, .FM_CKPSTAT_SLOT], parts := [.fm] } fun e =>
    (e.fm.slots.at {} k).valid = true ∧ (e.fm.slots.at {} k).ntsize = s.dev.rd .BERTH_CFG_NTSIZE ∧ (e.fm.slots.at {} k).time = s.dev.now ∧
    ((e.fm.slots.at {} k).ckseq = ((s.dev.newestCheckpoint.map fun x => x.2.ckseq).getD 0) + 1) ∧ e.rd .FM_CKPSTAT_COUNT = (s.dev.rd
    .FM_CKPSTAT_COUNT + 1) % 65536 ∧ e.on .FM_CKPSTAT_SLOT = decide (k = 1) ∧ e.fm.ckptDay = s.dev.now / 86400000000 + 1 ∧ e.fm.slots.at {}
    (1 - k) = s.dev.fm.slots.at {} (1 - k)) ∧
  (∀ (s : State) (whole : Bool) (k : Nat), s.dev.sys.cdReset = false → s.dev.on .FM_CKPCFG_EN = true → s.dev.now / 60000000 % 1440 = 60 *
    s.dev.rd .FM_CKPCFG_HOUR + s.dev.rd .FM_CKPCFG_MIN → s.dev.fm.ckptDay ≠ s.dev.now / 86400000000 + 1 → s.dev.fm.diffAct = false →
    s.dev.bit .DDR_HALT 7 = true → (k = (match s.dev.newestCheckpoint with | some (i, _) => 1 - i | none => 0)) → s.dev.fm.booted = true →
    Does s (.checkpoint whole) { flds := [.FM_CKPSTAT_COUNT, .FM_CKPSTAT_SLOT], parts := [.fm] } fun e => (e.fm.slots.at {} k).valid =
    false ∧ e.rd .FM_CKPSTAT_COUNT = s.dev.rd .FM_CKPSTAT_COUNT ∧ e.fm.ckptDay = s.dev.now / 86400000000 + 1 ∧ e.fm.slots.at {} (1 - k) =
    s.dev.fm.slots.at {} (1 - k)) ∧
  (∀ (s : State) (whole : Bool), s.dev.checkpointDue = false ∨ s.dev.fm.diffAct = true ∨ s.dev.sys.cdReset = true → Does s (.checkpoint
    whole) {} fun e => True) ∧
  (∀ (s : State) (whole : Bool), s.dev.fm.booted = false → Does s (.checkpoint whole) {} fun e => True)

/-- What image verification, activation, confirmation and attestation do: IMAGE_VERIFY, IMAGE_VERIFY_COMPLETE, IMAGE_ACTIVATE,
  IMAGE_COPY_COMPLETE, IMAGE_CONFIRM, ATTEST and ATTEST_COMPLETE complete as the clauses say: under the conditions named a form answers a
  next state with the values listed, and where a clause lists what it writes, nothing else changes. It rests on R419, R420, R421, R423,
  R424. -/
def Obligations.ImageCommands : Prop :=
  (∀ (s : State), s.dev.on .FM_UPDSTAT_BUSY = false → Does s (.imageVerify .ferryman) ({ flds := [.FM_UPDSTAT_BUSY], parts := [.fm] } :
    Writes).access fun e => e.fm = { s.dev.fm with verifying := some (s.dev.rd .FM_UPDCFG_CLS, s.dev.rd .FM_UPDCFG_BANK) } ∧ e.on
    .FM_UPDSTAT_BUSY = true) ∧
  (∀ (s : State), s.dev.on .FM_UPDSTAT_BUSY = true → Does s (.imageVerify .ferryman) { parts := [.resp] } fun e => True) ∧
  (∀ (s : State) (sigOk : Bool) (k q : Nat), s.dev.fm.verifying = some (k, q) → s.dev.imageCode s.mem k q sigOk ≠ 0 → s.dev.fm.pendBank.at
    none k ≠ some q → Does s (.imageVerifyComplete sigOk)
    { flds := [.FM_UPDSTAT_BUSY, .FM_UPDSTAT_CODE, .FM_UPDSTAT_PEND], parts := [.fm] } fun e => e.on .FM_UPDSTAT_BUSY = false ∧ e.rd
    .FM_UPDSTAT_CODE = s.dev.imageCode s.mem k q sigOk ∧ e.fm = { s.dev.fm with verifying := none }) ∧
  (∀ (s : State) (sigOk : Bool) (k q : Nat), s.dev.fm.verifying = some (k, q) → k ≠ 1 → k ≠ 2 → Does s (.imageVerifyComplete sigOk)
    { flds := [.FM_UPDSTAT_BUSY, .FM_UPDSTAT_CODE, .FM_UPDSTAT_PEND], parts := [.fm] } fun e => e.on .FM_UPDSTAT_BUSY = false ∧ e.rd
    .FM_UPDSTAT_CODE = s.dev.imageCode s.mem k q sigOk ∧ (s.dev.imageCode s.mem k q sigOk = 0 → e.fm =
    { s.dev.fm with verifying := none, pendBank := s.dev.fm.pendBank.set none k (some q) }) ∧ (s.dev.imageCode s.mem k q sigOk = 0 → k < 5
    → e.on .FM_UPDSTAT_PEND = true)) ∧
  (∀ (s : State), s.dev.on .FM_UPDSTAT_BUSY = false → s.dev.fm.pendBank.at none (s.dev.rd .FM_UPDCFG_CLS) = none → Does s (.imageActivate
    .ferryman) ({ flds := [.FM_UPDSTAT_CODE] } : Writes).access fun e => e.rd .FM_UPDSTAT_CODE = 7) ∧
  (∀ (s : State) (q : Nat), s.dev.on .FM_UPDSTAT_BUSY = false → s.dev.rd .FM_UPDCFG_CLS = 0 → s.dev.fm.pendBank.at none 0 = some q → Does s
    (.imageActivate .ferryman) ({ flds := [.FM_UPDSTAT_CODE, .FM_UPDSTAT_PEND, .FM_ACTSEL, .FM_STAT_TRIES], parts := [.fm] } :
    Writes).access fun e => e.rd .FM_UPDSTAT_CODE = 0 ∧ e.bit .FM_ACTSEL 0 = decide (q = 1) ∧ e.rd .FM_STAT_TRIES = 0 ∧ e.fm =
    { s.dev.fm with pendBank := s.dev.fm.pendBank.set none 0 none }) ∧
  (∀ (s : State) (q : Nat), s.dev.on .FM_UPDSTAT_BUSY = false → s.dev.rd .FM_UPDCFG_CLS = 4 → s.dev.fm.pendBank.at none 4 = some q → Does s
    (.imageActivate .ferryman) ({ flds := [.FM_UPDSTAT_CODE, .FM_UPDSTAT_PEND, .FM_UPDSTAT_BUSY], parts := [.fm] } : Writes).access fun e
    => e.rd .FM_UPDSTAT_CODE = 0 ∧ e.on .FM_UPDSTAT_BUSY = true ∧ e.fm =
    { s.dev.fm with pendBank := s.dev.fm.pendBank.set none 4 none, copying := some (4, q) }) ∧
  (∀ (s : State) (q : Nat), s.dev.on .FM_UPDSTAT_BUSY = false → s.dev.rd .FM_UPDCFG_CLS = 1 → s.dev.fm.pendBank.at none 1 = some q →
    s.dev.halfInUse (imageHalf s.mem (imageAt 1 q)) = true → Does s (.imageActivate .ferryman) ({ flds := [.FM_UPDSTAT_CODE] } :
    Writes).access fun e => e.rd .FM_UPDSTAT_CODE = 8) ∧
  (∀ (s : State) (scfg : ScfgImage) (q : Nat), s.dev.fm.copying = some (4, q) → Does s (.imageCopyComplete scfg)
    { flds := [.FM_UPDSTAT_BUSY, .FM_ACTSEL], parts := [.fm, .saf] } fun e => e.fm = { s.dev.fm with copying := none } ∧ e.on
    .FM_UPDSTAT_BUSY = false ∧ e.saf = { s.dev.saf with cfgPart := some (scfgOf scfg (memBytes s.mem (imageAt 4 q + 0x28) 32)) } ∧ e.bit
    .FM_ACTSEL 4 = decide (q = 1)) ∧
  (∀ (s : State) (scfg : ScfgImage), s.dev.fm.copying = none → Does s (.imageCopyComplete scfg) {} fun e => True) ∧
  (∀ (s : State) (k a : Nat), s.dev.rd .FM_UPDCFG_BANK = s.dev.activeBank (s.dev.rd .FM_UPDCFG_CLS) → a = imageAt (s.dev.rd .FM_UPDCFG_CLS)
    (s.dev.rd .FM_UPDCFG_BANK) → k = 64 * s.dev.rd .FM_UPDCFG_CLS + imageIdx s.mem a % 64 → Does s (.imageConfirm .ferryman)
    ({ flds := [.FM_STAT_TRIES], parts := [.fm] } : Writes).access fun e => e.rd .FM_STAT_TRIES = 0 ∧ e.fm.rollback.at 0 k = max
    (s.dev.fm.rollback.at 0 k) (imageVal s.mem a) ∧ e.fm.confirmed.at false (2 * s.dev.rd .FM_UPDCFG_CLS + s.dev.rd .FM_UPDCFG_BANK) = true
    ∧ e.fm.life.at 0 (0xB0 + 8 * s.dev.rd .FM_UPDCFG_CLS) = satAdd (2 ^ 64 - 1) (s.dev.fm.life.at 0 (0xB0 + 8 * s.dev.rd .FM_UPDCFG_CLS))
    1) ∧
  (∀ (s : State), s.dev.rd .FM_UPDCFG_BANK ≠ s.dev.activeBank (s.dev.rd .FM_UPDCFG_CLS) → Does s (.imageConfirm .ferryman)
    { parts := [.resp] } fun e => True) ∧
  (∀ (s : State), Does s (.attest .ferryman) ({ flds := [.FM_ATTSTAT_BUSY, .FM_ATTSTAT_DONE], parts := [.fm] } : Writes).access fun e =>
    e.fm = { s.dev.fm with attesting := true } ∧ e.on .FM_ATTSTAT_BUSY = true ∧ e.on .FM_ATTSTAT_DONE = false) ∧
  (∀ (s : State), s.dev.fm.attesting = true → Does s (.attestComplete) { flds := [.FM_ATTSTAT_BUSY, .FM_ATTSTAT_DONE], parts := [.fm] } fun
    e => e.on .FM_ATTSTAT_BUSY = false ∧ e.on .FM_ATTSTAT_DONE = true ∧ e.fm.attesting = false ∧ e.fm.report.length = 864 ∧
    e.fm.report.take 0x2E0 = s.dev.reportBody s.mem) ∧
  (∀ (s : State), s.dev.fm.attesting = false → Does s (.attestComplete) {} fun e => True)

/-- What events, captures, counters, tags and windows do: EVENT_RISE, SOFTWARE_EVENT, CAPTURE_READ, COUNTER_OVERFLOW, COUNTER_FREEZE,
  COUNTER_READ, TAG_RECORD, TAG_RECORD_READ and BANDWIDTH_WINDOW_END complete as the clauses say: under the conditions named a form answers
  a next state with the values listed, and where a clause lists what it writes, nothing else changes. It rests on R451, R453, R457, R458,
  R459, R460, R461, R462. -/
def Obligations.EventCommands : Prop :=
  (∀ (s : State) (n : Fin 512) (data : BitVec 64), n.val ≠ 453 → reservedSource n.val = false → controlSource n.val = false ∨
    s.dev.sys.cdReset = false → Does s (.eventRise n data) ({} : Writes).raising fun e => s.dev.raised e n.val ∧ (s.dev.onAt .EVT_RT_FM
    n.val = true ∧ s.dev.onAt .EVT_RT_PEND n.val = true → e.onAt .EVT_RT_OVR n.val = true)) ∧
  (∀ (s : State) (n : Fin 512) (data : BitVec 64), n.val ≠ 453 → reservedSource n.val = true ∨ (controlSource n.val = true ∧
    s.dev.sys.cdReset = true) → Does s (.eventRise n data) {} fun e => True) ∧
  (∀ (s : State) (data : BitVec 64), Does s (.eventRise 453 data) ({ flds := [.CLK_STAT_LOCK, .CLK_STAT_LOLS] } : Writes).raising fun e =>
    e.on .CLK_STAT_LOCK = false ∧ e.on .CLK_STAT_LOLS = true ∧ s.dev.raised e 453) ∧
  (∀ (s : State) (bits : BitVec 16), Does s (.softwareEvent .ferryman bits) ({ parts := [.resp] } : Writes).raising fun e => (∀ i < 16,
    bitOf bits.toNat i = true → s.dev.raised e (496 + i))) ∧
  (∀ (s : State) (req : Requester) (u : Fin 16), Does s (.captureRead req u) ({ parts := [.lat] } : Writes).access fun e => e.resp =
    { error := false, data := s.dev.rdAt .EVT_CAPTLO u.val } ∧ e.lat.capHi.at 0 (256 * req.id + u.val) = s.dev.rdAt .EVT_CAPTHI u.val ∧
    e.lat.capTick.at 0 (256 * req.id + u.val) = s.dev.rdAt .EVT_CAPTICK_TICK u.val + 2 ^ 31 * s.dev.rdAt .EVT_CAPTICK_VALID u.val) ∧
  (∀ (s : State) (n : Fin 64), s.dev.sys.cdReset = false → s.dev.on .PCNT_CTRL_EN = true → s.dev.on .PCNT_CTRL_FRZ = false → s.dev.onAt
    .PCNT_CFG_EN n.val = true → (s.dev.onAt .PCNT_CFG_LVLM n.val = true ∧ s.dev.rdAt .PCNT_CFG_SRC n.val < 0x200) ∨ (0x294 ≤ s.dev.rdAt
    .PCNT_CFG_SRC n.val ∧ s.dev.rdAt .PCNT_CFG_SRC n.val ≤ 0x296) → s.dev.ctChained n.val = false → s.dev.onAt .PCNT_CFG_CHAIN n.val =
    false ∨ n.val % 2 = 1 → s.dev.ct n.val ≤ 2 ^ 48 → Does s (.counterOverflow n) ({} : Writes).raising fun e => e.ct n.val = 0 ∧ ((if
    n.val < 32 then e.bit .PCNT_OVFLO n.val else e.bit .PCNT_OVFHI (n.val - 32)) = true)) ∧
  (∀ (s : State) (n : Fin 64) (w : Nat), s.dev.sys.cdReset = false → s.dev.on .PCNT_CTRL_EN = true → s.dev.on .PCNT_CTRL_FRZ = false →
    s.dev.onAt .PCNT_CFG_EN n.val = true → 0x294 ≤ s.dev.rdAt .PCNT_CFG_SRC n.val ∧ s.dev.rdAt .PCNT_CFG_SRC n.val ≤ 0x296 → s.dev.onAt
    .PCNT_CFG_CHAIN n.val = true → n.val % 2 = 0 → s.dev.ct n.val ≤ 2 ^ 48 → w = s.dev.ct (n.val + 1) + 1 → w < 2 ^ 48 → Does s
    (.counterOverflow n) { flds := [.PCNT_CTLO, .PCNT_CTHI] } fun e => e.ct n.val = 0 ∧ e.ct (n.val + 1) = w) ∧
  (∀ (s : State) (n : Fin 64), s.dev.sys.cdReset = true ∨ s.dev.ctRuns n.val = false ∨ s.dev.ctOpen n.val = false ∨ s.dev.ctChained n.val =
    true → Does s (.counterOverflow n) {} fun e => True) ∧
  (∀ (s : State) (frozen : Bool), s.dev.sys.cdReset = false → Does s (.counterFreeze .ferryman frozen) ({ flds := [.PCNT_CTRL_FRZ] } :
    Writes).access fun e => e.on .PCNT_CTRL_FRZ = frozen) ∧
  (∀ (s : State) (req : Requester) (n : Fin 64), ¬ (s.dev.onAt .PCNT_CFG_LVLM n.val = true ∧ s.dev.rdAt .PCNT_CFG_SRC n.val < 512) → ¬ (660
    ≤ s.dev.rdAt .PCNT_CFG_SRC n.val ∧ s.dev.rdAt .PCNT_CFG_SRC n.val ≤ 662) → Does s (.counterRead req n) ({ parts := [.lat] } :
    Writes).access fun e => e.resp = { error := false, data := s.dev.rdAt .PCNT_CTLO n.val } ∧ e.lat.ctHi.at 0 (256 * req.id + n.val) =
    s.dev.rdAt .PCNT_CTHI n.val) ∧
  (∀ (s : State) (ovr : Bool) (r : TagRec) (l : List TagRec), s.dev.sys.cdReset = false → s.dev.evt.tagPend = r :: l →
    s.dev.evt.tags.length < 16 → Does s (.tagRecord ovr) { flds := [.PCNT_TAGSTAT_QUEUED], parts := [.evt] } fun e => e.evt =
    { s.dev.evt with tagPend := l, tags := s.dev.evt.tags ++ [{ r with b := setBit r.b 1 (ovr || bitOf r.b 1) }] } ∧ e.rd
    .PCNT_TAGSTAT_QUEUED = s.dev.evt.tags.length + 1) ∧
  (∀ (s : State) (ovr : Bool) (r : TagRec) (l : List TagRec), s.dev.sys.cdReset = false → s.dev.evt.tagPend = r :: l → 16 ≤
    s.dev.evt.tags.length → Does s (.tagRecord ovr) { flds := [.PCNT_TAGSTAT_DROP], parts := [.evt] } fun e => e.evt =
    { s.dev.evt with tagPend := l } ∧ e.rd .PCNT_TAGSTAT_DROP = satAdd 65535 (s.dev.rd .PCNT_TAGSTAT_DROP) 1) ∧
  (∀ (s : State) (r : TagRec) (l : List TagRec), s.dev.evt.tags = r :: l → Does s (.tagRecordRead)
    ({ flds := [.PCNT_TAGSTAT_QUEUED], parts := [.evt] } : Writes).access fun e => e.evt = { s.dev.evt with tags := l } ∧ e.rd
    .PCNT_TAGSTAT_QUEUED = l.length ∧ e.resp = { error := false, data := r.b }) ∧
  (∀ (s : State), s.dev.evt.tags = [] → Does s (.tagRecordRead) { parts := [.resp] } fun e => e.resp = { error := false, data := 0 }) ∧
  (∀ (s : State) (p : Fin 16) (bytes : Nat), s.dev.sys.cdReset = false → s.dev.onAt .PCNT_BWCFG_EN p.val = true → Does s
    (.bandwidthWindowEnd p bytes) { flds := [.PCNT_BWLAST, .PCNT_BWPEAK] } fun e => e.rdAt .PCNT_BWLAST p.val = min (2 ^ 32 - 1) (bytes /
    8) ∧ e.rdAt .PCNT_BWPEAK p.val = max (s.dev.rdAt .PCNT_BWPEAK p.val) (min (2 ^ 32 - 1) (bytes / 8)))

/-- What bench mode, boundary scan and the debug registers do: BENCH_ENTER, BENCH_EXIT, JTAG_INSTRUCTION, CE_TRAP_CLEAR, CE_CLEAR_ECC,
  CE_CLEAR_HOLD, CE_CLEAR_NFCNT, CE_HALT, CE_STEP and SE_CLEAR_ECC complete as the clauses say: under the conditions named a form answers a
  next state with the values listed, and where a clause lists what it writes, nothing else changes. It rests on R114, R115, R116, R465,
  R467. -/
def Obligations.BenchAndDebugCommands : Prop :=
  (∀ (s : State), s.dev.sys.cdReset = false → s.dev.benchRefusal = 0 → Does s (.benchEnter .ferryman)
    ({ flds := [.GWY_BENCH_REF, .GWY_BENCH_ON] } : Writes).access fun e => e.rd .GWY_BENCH_REF = 0 ∧ e.on .GWY_BENCH_ON = true) ∧
  (∀ (s : State), s.dev.sys.cdReset = false → s.dev.benchRefusal ≠ 0 → Does s (.benchEnter .ferryman) ({ flds := [.GWY_BENCH_REF] } :
    Writes).access fun e => e.rd .GWY_BENCH_REF = s.dev.benchRefusal) ∧
  (∀ (s : State), s.dev.sys.cdReset = false → s.dev.on .GWY_BENCH_ON = true → Completes s (.benchExit (some .ferryman)) fun t =>
    (t.dev.sys.cdReset = true) ∧ (t.dev.on .GWY_BENCH_ON = false) ∧ (t.dev.rd .FM_RSTCAUSE_KIND = 5)) ∧
  (∀ (s : State), s.dev.sys.cdReset = false → s.dev.on .GWY_BENCH_ON = true → s.dev.benchRefusal ≠ 0 → Completes s (.benchExit none) fun t
    => (t.dev.sys.cdReset = true) ∧ (t.dev.on .GWY_BENCH_ON = false) ∧ (t.dev.rd .FM_RSTCAUSE_KIND = 5)) ∧
  (∀ (s : State), s.dev.benchRefusal = 0 → Does s (.benchExit none) {} fun e => True) ∧
  (∀ (s : State) (die : Fin 3) (op : JtagOp), drivesBalls op = true → s.dev.on .GWY_BENCH_ON = false → s.dev.sys.cdReset = false → Does s
    (.jtagInstruction die op) { flds := [.GWY_STAT_JREF], parts := [.evt] } fun e => e.evt =
    { s.dev.evt with tap := s.dev.evt.tap.set .idcode die.val .bypass } ∧ e.on .GWY_STAT_JREF = true) ∧
  (∀ (s : State) (die : Fin 3) (op : JtagOp), drivesBalls op = false ∨ s.dev.on .GWY_BENCH_ON = true → Does s (.jtagInstruction die op)
    { parts := [.evt] } fun e => e.evt = { s.dev.evt with tap := s.dev.evt.tap.set .idcode die.val op }) ∧
  (∀ (s : State) (n : Fin 8), s.dev.sys.cdReset = false → Does s (.ceTrapClear .ferryman n) ({ flds := [.CE_TRAP_VALID, .CE_TRAP_COUNT] } :
    Writes).access fun e => e.onAt .CE_TRAP_VALID n.val = false ∧ e.rdAt .CE_TRAP_COUNT n.val = 0 ∧ (∀ k < 8, k ≠ n.val → e.rdAt
    .CE_TRAP_COUNT k = s.dev.rdAt .CE_TRAP_COUNT k)) ∧
  (∀ (s : State) (n : Fin 8), s.dev.sys.cdReset = false → Does s (.ceClearEcc .ferryman n) ({ flds := [.CE_ECC_DCOR, .CE_ECC_ICOR] } :
    Writes).access fun e => e.rdAt .CE_ECC_DCOR n.val = 0 ∧ e.rdAt .CE_ECC_ICOR n.val = 0 ∧ (∀ k < 8, k ≠ n.val → e.rdAt .CE_ECC_DCOR k =
    s.dev.rdAt .CE_ECC_DCOR k)) ∧
  (∀ (s : State) (n : Fin 8), s.dev.sys.cdReset = false → Does s (.ceClearHold .ferryman n) ({ flds := [.CE_HOLDCNT] } : Writes).access fun
    e => e.rdAt .CE_HOLDCNT n.val = 0 ∧ (∀ k < 8, k ≠ n.val → e.rdAt .CE_HOLDCNT k = s.dev.rdAt .CE_HOLDCNT k)) ∧
  (∀ (s : State) (n : Fin 8), s.dev.sys.cdReset = false → Does s (.ceClearNfcnt .ferryman n) ({ flds := [.CE_NFCNT] } : Writes).access fun
    e => e.rdAt .CE_NFCNT n.val = 0 ∧ (∀ k < 8, k ≠ n.val → e.rdAt .CE_NFCNT k = s.dev.rdAt .CE_NFCNT k)) ∧
  (∀ (s : State) (n : Fin 8) (halt : Bool), s.dev.sys.cdReset = false → s.dev.on .GWY_BENCH_ON = true → Does s (.ceHalt .ferryman n halt)
    ({ flds := [.CE_DBG_HALT, .CE_DBG_HALTED, .CE_STAT_STATE], parts := [.vcs] } : Writes).access fun e => e.engine n.val =
    { s.dev.engine n.val with halted := halt, step := false } ∧ e.onAt .CE_DBG_HALT n.val = halt ∧ e.onAt .CE_DBG_HALTED n.val = halt ∧
    ((s.dev.engine n.val).running = true → e.rdAt .CE_STAT_STATE n.val = (if halt then 2 else 1))) ∧
  (∀ (s : State) (n : Fin 8) (halt : Bool), s.dev.sys.cdReset = false → s.dev.on .GWY_BENCH_ON = false → Does s (.ceHalt .ferryman n halt)
    { parts := [.resp] } fun e => True) ∧
  (∀ (s : State) (n : Fin 8), s.dev.sys.cdReset = false → s.dev.on .GWY_BENCH_ON = true → (s.dev.engine n.val).halted = true → Does s
    (.ceStep .ferryman n) ({ parts := [.vcs] } : Writes).access fun e => e.engine n.val =
    { s.dev.engine n.val with step := true, stepCycle := none }) ∧
  (∀ (s : State), s.dev.sys.cdReset = false → Does s (.seClearEcc .ferryman) ({ flds := [.SE_ECC_DCOR, .SE_ECC_ICOR] } : Writes).access fun
    e => e.rd .SE_ECC_DCOR = 0 ∧ e.rd .SE_ECC_ICOR = 0)

/-- What the messages between twins do: HEART, MIRROR, CELLST, CELLFILL, NODEMIR, MANREC, MANCONF, BULK, STORE, HAWSER_ACK and
  HAWSER_RESEND complete: a message that passes its checks is used once and a bulk one is answered with an ACK. It rests on R333, R334,
  R336, R337, R338, R339, R342, R345, R349, R350, R367. -/
def Obligations.TwinMessageCommands : Prop :=
  (∀ (s : State) (msg : List (BitVec 8)) (toggled : Bool) (pherr : BitVec 16), s.dev.sys.cdReset = false → s.dev.hawserPasses 1 msg = true
    → Completes s (.heart msg toggled pherr) fun t => (t.dev.rd .TWIN_STAT_PEER = hwNat (hwBody msg) 8 1 % 16) ∧ (t.dev.twin.rx =
    s.dev.twin.rx.set 0 1 (hwNat msg 0xC 4 + 1)) ∧ (t.dev.twin.heart = hwNat msg 4 8 + 1) ∧ (t.dev.twin.contact = true) ∧
    (t.dev.twin.peerCseq = hwNat (hwBody msg) 0x10 8) ∧ (t.dev.twin.peerHead = hwNat (hwBody msg) 0x18 8) ∧ (t.dev.twin.peerTtPend = hwNat
    (hwBody msg) 0x24 4) ∧ (t.dev.on .TWIN_STAT_TWROK = toggled) ∧ (toggled = true → t.dev.rd .TWIN_ALIGN_PHERR = pherr.toNat) ∧ (t.mem =
    s.mem)) ∧
  (∀ (s : State) (msg : List (BitVec 8)) (pherr : BitVec 16), s.dev.sys.cdReset = false → s.dev.hawserPasses 1 msg = true → s.dev.on
    .PWM_STAT_LEAD = false → s.dev.rd .TWIN_STAT_STATE = 4 → s.dev.twin.dgstFrame + 1 = hwNat msg 4 8 → s.dev.twin.dgst ≠ hwNat (hwBody
    msg) 0 8 → hwNat (hwBody msg) 8 1 = 3 → Nat.lor (hwNat (hwBody msg) 9 1) s.dev.twin.peerLerr = 0 → Completes s (.heart msg true pherr)
    fun t => (t.dev.rd .TWIN_STAT_STATE = 7) ∧ (t.dev.on .TWIN_STAT_DIVS = true) ∧ (t.dev.rd .TWIN_CNT1_DIVERGENCES = satAdd 65535
    (s.dev.rd .TWIN_CNT1_DIVERGENCES) 1) ∧ (t.dev.rd64 .TWIN_DIVLO .TWIN_DIVHI = hwNat msg 4 8 - 1) ∧ (t.dev.on .TWIN_STAT_EXP = true) ∧
    (s.dev.raised t.dev 408) ∧ (t.mem = s.mem)) ∧
  (∀ (s : State) (msg : List (BitVec 8)), s.dev.sys.cdReset = false → s.dev.hawserPasses 2 msg = true → s.dev.rd .TWIN_STAT_STATE = 4 →
    hwNat (hwBody msg) 0 8 = s.dev.tide + 1 → Does s (.mirror msg false) { parts := [.twin] } fun e => e.twin.rx = s.dev.twin.rx.set 0 2
    (hwNat msg 0xC 4 + 1) ∧ e.twin.mirrorFor = some (s.dev.tide + 1) ∧ e.twin.mirnNext = (hwBody msg).length ∧ e.twin.mirror =
    (s.dev.mirrorIn (hwBody msg)).twin.mirror ∧ e.twin.fills = s.dev.twin.fills) ∧
  (∀ (s : State) (msg : List (BitVec 8)), s.dev.sys.cdReset = false → s.dev.hawserPasses 2 msg = true → Does s (.mirror msg true)
    { parts := [.twin] } fun e => e.twin = { s.dev.twin with rx := s.dev.twin.rx.set 0 2 (hwNat msg 0xC 4 + 1) }) ∧
  (∀ (s : State) (msg : List (BitVec 8)), s.dev.sys.cdReset = false → s.dev.hawserPasses 3 msg = true → Does s (.cellst msg)
    { parts := [.twin] } fun e => e.twin.rx = s.dev.twin.rx.set 0 3 (hwNat msg 0xC 4 + 1) ∧ e.twin.peerMap = some ((hwBody msg).take 192) ∧
    (e.twin.sent.at [] 4).take 1 = [4] ∧ e.twin.mirror = s.dev.twin.mirror) ∧
  (∀ (s : State) (msg : List (BitVec 8)), s.dev.sys.cdReset = false → s.dev.hawserPasses 4 msg = true → (hwBody msg).length = 6 → Does s
    (.cellfill msg) { parts := [.twin] } fun e => e.twin.rx = s.dev.twin.rx.set 0 4 (hwNat msg 0xC 4 + 1) ∧ e.twin.fills =
    s.dev.twin.fills.set 0 (hwNat (hwBody msg) 0 2) (hwNat (hwBody msg) 2 4 + 1)) ∧
  (∀ (s : State) (mseq : BitVec 32) (edge : Nat) (states : List (Fin 512 × Fin 3)), s.dev.sys.cdReset = false → s.dev.takesMirrored = true
    → s.dev.twin.rx.at 0 5 ≠ mseq.toNat + 1 → Does s (.nodemir mseq edge [] states) { parts := [.twin, .node] } fun e => e.twin =
    { s.dev.twin with rx := s.dev.twin.rx.set 0 5 (mseq.toNat + 1) } ∧ (e.node =
    { s.dev.node with states := s.dev.node.states ++ states.map fun x => (edge, x.1.val, x.2.val) })) ∧
  (∀ (s : State) (msg : List (BitVec 8)), s.dev.sys.cdReset = false → s.dev.hawserPasses 6 msg = true → Does s (.manrec msg)
    { parts := [.twin] } fun e => e.twin.rx = s.dev.twin.rx.set 0 6 (hwNat msg 0xC 4 + 1) ∧ (e.twin.sent.at [] 0xB).take 1 = [0xB] ∧
    (e.twin.sent.at [] 7).take 1 = [7] ∧ e.twin.tx.at 0 7 = (s.dev.twin.tx.at 0 7 + 1) % 2 ^ 32 ∧ (s.dev.twin.mirrorArea = [] → (hwBody
    msg).length ≤ 1048576 → e.twin.mirrorArea = [(hwNat (hwBody msg) 8 8, hwBody msg)])) ∧
  (∀ (s : State) (msg : List (BitVec 8)), s.dev.sys.cdReset = false → s.dev.hawserPasses 7 msg = true → Does s (.manconf msg)
    { parts := [.twin, .cus] } fun e => e.twin.rx = s.dev.twin.rx.set 0 7 (hwNat msg 0xC 4 + 1) ∧ (e.cus = if s.dev.cus.ring.any fun r =>
    decide (r.seq = hwNat (hwBody msg) 0 8) && decide ((r.bytes.drop (r.bytes.length - 32)).take 8 = ((hwBody msg).drop 8).take 8) then
    { s.dev.cus with confirmed := max s.dev.cus.confirmed (hwNat (hwBody msg) 0 8) } else s.dev.cus)) ∧
  (∀ (s : State) (msg : List (BitVec 8)), s.dev.sys.cdReset = false → s.dev.hawserPasses 8 msg = true → s.dev.rd .TWIN_STAT_STATE ≠ 2 ∨
    s.dev.rd .TWIN_RSSTAT_PHASE ≠ 3 → s.dev.paired = false → Does s (.bulk none msg) { parts := [.twin] } fun e => e.twin.rx =
    s.dev.twin.rx.set 0 8 (hwNat msg 0xC 4 + 1) ∧ (e.twin.sent.at [] 0xB).take 1 = [0xB]) ∧
  (∀ (s : State) (msg : List (BitVec 8)), s.dev.sys.cdReset = false → s.dev.hawserPasses 8 msg = true → s.dev.rd .TWIN_STAT_STATE = 2 →
    s.dev.rd .TWIN_RSSTAT_PHASE = 3 → hwNat (hwBody msg) 8 8 % 8 = 0 → hwNat (hwBody msg) 8 8 + 256 ≤ s.dev.dramEnd → (hwBody msg).length =
    272 → s.dev.twin.wrote = [] → Completes s (.bulk none msg) fun t => ((∀ k, k < 256 → memByte t.mem (hwNat (hwBody msg) 8 8 + k) =
    (hwBody msg).getD (16 + k) 0)) ∧ ((∀ a, a < hwNat (hwBody msg) 8 8 ∨ hwNat (hwBody msg) 8 8 + 256 ≤ a → memByte t.mem a = memByte s.mem
    a)) ∧ (t.dev.twin.bulk = s.dev.twin.bulk + 256) ∧ (t.dev.rd .TWIN_RSSTAT_PCT = min 100 (100 * (s.dev.twin.bulk + 256) /
    s.dev.copySize))) ∧
  (∀ (s : State) (msg : List (BitVec 8)), s.dev.sys.cdReset = false → s.dev.hawserPasses 8 msg = true → s.dev.paired = true → hwNat (hwBody
    msg) 8 8 % 8 = 0 → hwNat (hwBody msg) 8 8 + 256 ≤ s.dev.dramEnd → (hwBody msg).length = 272 → Completes s (.bulk none msg) fun t => ((∀
    k, k < 32 → 2 ≤ s.dev.wordState (hwNat (hwBody msg) 8 8 + 8 * k) → t.dev.wordState (hwNat (hwBody msg) 8 8 + 8 * k) = 0 ∧ memBytes
    t.mem (hwNat (hwBody msg) 8 8 + 8 * k) 8 = ((hwBody msg).drop (16 + 8 * k)).take 8)) ∧ ((∀ a, s.dev.wordState a < 2 ∨ a < hwNat (hwBody
    msg) 8 8 ∨ hwNat (hwBody msg) 8 8 + 256 ≤ a → memByte t.mem a = memByte s.mem a)) ∧ (t.dev.twin.bulk = s.dev.twin.bulk)) ∧
  (∀ (s : State) (a : BitVec 40) (msg : List (BitVec 8)), s.dev.sys.cdReset = false → s.dev.hawserUp = true → a.toNat % 256 = 0 → s.dev.bit
    .DDR_HALT 5 = false → s.dev.eccm.bad = [] → s.dev.rd .TWIN_STAT_STATE = 6 → s.dev.copies = true → s.dev.copyUnit a.toNat = true → Does
    s (.bulk (some a) msg) { flds := [.TWIN_RSSTAT_PCT], parts := [.twin] } fun e => e.twin.sent.at [] 8 = s.dev.hawserMessage 8 (leBytes 8
    s.dev.tide ++ leBytes 8 a.toNat ++ memBytes s.mem a.toNat 256) ∧ (8, s.dev.twin.tx.at 0 8, e.twin.sent.at [] 8) ∈ e.twin.unacked ∧
    e.twin.bulk = s.dev.twin.bulk + 256 ∧ e.rd .TWIN_RSSTAT_PCT = min 100 (100 * (s.dev.twin.bulk + 256) / s.dev.copySize)) ∧
  (∀ (s : State) (a : BitVec 40) (msg : List (BitVec 8)), s.dev.sys.cdReset = false → s.dev.hawserUp = true → a.toNat % 256 = 0 → s.dev.bit
    .DDR_HALT 5 = false → s.dev.eccm.bad = [] → s.dev.paired = true → a.toNat < 0x1000200000 → Does s (.bulk (some a) msg)
    { parts := [.twin] } fun e => e.twin.sent.at [] 8 = s.dev.hawserMessage 8 (leBytes 8 s.dev.tide ++ leBytes 8 a.toNat ++ memBytes s.mem
    a.toNat 256) ∧ (8, s.dev.twin.tx.at 0 8, e.twin.sent.at [] 8) ∈ e.twin.unacked ∧ e.twin.bulk = s.dev.twin.bulk) ∧
  (∀ (s : State) (mseq : BitVec 32) (l : List TwinStore) (x : TwinStore) (r : List TwinStore), s.dev.sys.cdReset = false → s.dev.hawserUp =
    true → s.dev.rd .TWIN_STAT_STATE = 6 → s.dev.twin.stores = x :: r → Does s (.store true mseq l) { parts := [.twin] } fun e =>
    e.twin.stores = (x :: r).drop 3276 ∧ e.twin.tx.at 0 9 = (s.dev.twin.tx.at 0 9 + 1) % 2 ^ 32 ∧ (e.twin.sent.at [] 9).take 1 = [9] ∧ (9,
    s.dev.twin.tx.at 0 9, e.twin.sent.at [] 9) ∈ e.twin.unacked) ∧
  (∀ (s : State) (mseq : BitVec 32) (x : TwinStore), s.dev.sys.cdReset = false → s.dev.on .TWIN_STAT_INST = true → s.dev.twin.rx.at 0 9 ≠
    mseq.toNat + 1 → s.dev.rd .TWIN_STAT_STATE = 2 → s.dev.twin.wrote.at 0 ((dataSram x.engine.val + x.addr % 0x20000 / 8 * 8) / 8) ≤
    x.tide + 1 → Completes s (.store false mseq [x]) fun t => (memBytes t.mem (dataSram x.engine.val + x.addr % 0x20000 / 8 * 8) 8 =
    leBytes 8 x.data.toNat) ∧ (t.dev.twin.rx = s.dev.twin.rx.set 0 9 (mseq.toNat + 1)) ∧ ((t.dev.twin.sent.at [] 0xB).take 1 = [0xB]) ∧ ((∀
    a, a < dataSram x.engine.val + x.addr % 0x20000 / 8 * 8 ∨ dataSram x.engine.val + x.addr % 0x20000 / 8 * 8 + 8 ≤ a → memByte t.mem a =
    memByte s.mem a))) ∧
  (∀ (s : State) (msg : List (BitVec 8)), s.dev.sys.cdReset = false → s.dev.hawserPasses 11 msg = true → Does s (.hawserAck msg)
    { parts := [.twin] } fun e => (e.twin =
    { s.dev.twin with rx := s.dev.twin.rx.set 0 11 (hwNat msg 0xC 4 + 1), unacked := s.dev.twin.unacked.filter fun k => (k.1, k.2.1) ≠ (hwNat (hwBody msg) 0 1, hwNat (hwBody msg) 4 4) })) ∧
  (∀ (s : State) (typ : Fin 12) (mseq : BitVec 32) (k : Nat × Nat × List (BitVec 8)), s.dev.sys.cdReset = false → s.dev.hawserUp = true →
    ((s.dev.twin.unacked.find? fun x => decide (x.1 = typ.val) && decide (x.2.1 = mseq.toNat)) = some k) → Does s (.hawserResend typ mseq)
    { parts := [.twin] } fun e => e.twin =
    { s.dev.twin with resends := s.dev.twin.resends + 1, sent := s.dev.twin.sent.set [] typ.val k.2.2 }) ∧
  (∀ (s : State) (typ : Fin 12) (mseq : BitVec 32), ((s.dev.twin.unacked.find? fun x => decide (x.1 = typ.val) && decide (x.2.1 =
    mseq.toNat)) = none ∨ s.dev.hawserUp = false) → Does s (.hawserResend typ mseq) {} fun e => True)

/-- What joins, handovers, takeovers and the role lines do: PAIR, HANDOVER, TTACT, YIELD, CUT, HANDOVER_EDGE, DEPOSE, TAKEOVER,
  LEADERSHIP_CLAIM, TWIN_JOIN, TWIN_HANDOVER, TWIN_LEAVE, TWIN_DFCLR and TWIN_COUNTER_CLEAR complete as the clauses say: under the
  conditions named a form answers a next state with the values listed, and where a clause lists what it writes, nothing else changes; the
  new leader pulls CROSS low. It rests on R337, R343, R344, R345, R346, R347, R348, R353, R355. -/
def Obligations.TwinLeadCommands : Prop :=
  (∀ (s : State) (msg : List (BitVec 8)), s.dev.sys.cdReset = false → s.dev.rd .TWIN_STAT_STATE = 6 → s.dev.hawserUp = true → s.dev.tide <
    ctlEdge (hwBody msg) → Does s (.pair true msg) { flds := [.TWIN_RSSTAT_PHASE], parts := [.twin] } fun e => e.twin.pairAt = ctlEdge
    (hwBody msg) ∧ e.rd .TWIN_RSSTAT_PHASE = 1 ∧ (e.twin.unacked.take s.dev.twin.unacked.length) = s.dev.twin.unacked ∧
    (((e.twin.unacked.drop s.dev.twin.unacked.length).map fun x => (x.1, (hwBody x.2.2).take 2)) = [(10, [1, 0]), (10, [1, 1]), (10, [1,
    2]), (10, [1, 3])]) ∧ (((e.twin.unacked.drop s.dev.twin.unacked.length).map fun x => hwNat (hwBody x.2.2) 16 16) = (s.dev.pairWords
    (ctlEdge (hwBody msg))).map (· % 2 ^ 128))) ∧
  (∀ (s : State) (msg : List (BitVec 8)), s.dev.sys.cdReset = false → s.dev.hawserPasses 10 msg = true → s.dev.rd .TWIN_STAT_STATE = 2 →
    ctlCmd (hwBody msg) = 1 → ctlPart (hwBody msg) < 4 → s.dev.twin.pairAt = ctlEdge (hwBody msg) → Does s (.pair false msg)
    { parts := [.twin] } fun e => e.twin.parts = s.dev.twin.parts.set [] (ctlPart (hwBody msg)) (ctlArg (hwBody msg)) ∧ e.twin.rx =
    s.dev.twin.rx.set 0 10 (hwNat msg 0xC 4 + 1) ∧ (e.twin.sent.at [] 0xB).take 1 = [0xB]) ∧
  (∀ (s : State) (msg : List (BitVec 8)), s.dev.sys.cdReset = false → s.dev.hawserPasses 10 msg = true → s.dev.rd .TWIN_STAT_STATE = 4 →
    ctlCmd (hwBody msg) = 2 → Does s (.handover msg) { parts := [.twin] } fun e => e.twin.handover = some (ctlEdge (hwBody msg), false) ∧
    e.twin.rx = s.dev.twin.rx.set 0 10 (hwNat msg 0xC 4 + 1) ∧ (e.twin.sent.at [] 0xB).take 1 = [0xB]) ∧
  (∀ (s : State) (msg : List (BitVec 8)), s.dev.sys.cdReset = false → s.dev.hawserPasses 10 msg = true → s.dev.rd .TWIN_STAT_STATE = 4 →
    ctlCmd (hwBody msg) = 4 → Does s (.yield msg) { parts := [.twin] } fun e => e.twin.handover = some (ctlEdge (hwBody msg), true) ∧
    e.twin.rx = s.dev.twin.rx.set 0 10 (hwNat msg 0xC 4 + 1) ∧ (e.twin.sent.at [] 0xB).take 1 = [0xB]) ∧
  (∀ (s : State) (msg : List (BitVec 8)) (p : Timetable), s.dev.sys.cdReset = false → s.dev.tt.pending = some p → s.dev.rd .TWIN_STAT_STATE
    = 3 → s.dev.hawserUp = true → s.dev.twin.peerTtPend = p.ttid → ctlEdge (hwBody msg) % 4096 = 0 → s.dev.tide + 256 ≤ ctlEdge (hwBody
    msg) → ctlEdge (hwBody msg) < 2 ^ 64 → Does s (.ttact true msg) { flds := [.TTB_ACTATLO, .TTB_ACTATHI], parts := [.twin, .tt] } fun e
    => e.twin.ttact = some (ctlEdge (hwBody msg), p.ttid) ∧ e.tt = { s.dev.tt with actAt := ctlEdge (hwBody msg) } ∧ e.rd64 .TTB_ACTATLO
    .TTB_ACTATHI = ctlEdge (hwBody msg) ∧ (e.twin.sent.at [] 10).take 1 = [10]) ∧
  (∀ (s : State) (msg : List (BitVec 8)), s.dev.sys.cdReset = false → s.dev.hawserPasses 10 msg = true → s.dev.rd .TWIN_STAT_STATE = 4 →
    ctlCmd (hwBody msg) = 3 → s.dev.tt.pending = none → Does s (.ttact false msg) { parts := [.twin] } fun e => e.twin.ttact = some
    (ctlEdge (hwBody msg), hwNat (ctlArg (hwBody msg)) 0 8) ∧ e.twin.rx = s.dev.twin.rx.set 0 10 (hwNat msg 0xC 4 + 1) ∧ (e.twin.sent.at []
    0xB).take 1 = [0xB]) ∧
  (∀ (s : State) (msg : List (BitVec 8)) (l : List (BitVec 128)), s.dev.sys.cdReset = false → s.dev.rd .TWIN_STAT_STATE = 6 →
    s.dev.hawserUp = true → s.dev.rd .TWIN_RSSTAT_PHASE = 3 → s.dev.copySize ≤ s.dev.twin.bulk → s.dev.twin.stores = [] → (s.dev.tide + 1)
    % 4096 = 0 → Does s (.cut true msg l) { flds := [.TWIN_RSSTAT_PHASE], parts := [.twin] } fun e => e.twin.cutAt = some (s.dev.tide + 1)
    ∧ e.rd .TWIN_RSSTAT_PHASE = 4 ∧ (e.twin.sent.at [] 10).take 1 = [10]) ∧
  (∀ (s : State) (msg : List (BitVec 8)) (values : List (BitVec 128)), s.dev.sys.cdReset = false → s.dev.hawserPasses 10 msg = true →
    s.dev.rd .TWIN_STAT_STATE = 2 → ctlCmd (hwBody msg) = 5 → s.dev.rd .TWIN_RSSTAT_PHASE = 3 → Does s (.cut false msg values)
    { flds := [.TWIN_RSSTAT_PHASE], parts := [.twin] } fun e => e.twin.cutAt = some (ctlEdge (hwBody msg)) ∧ e.rd .TWIN_RSSTAT_PHASE = 4 ∧
    (e.twin.adopt = if s.dev.cus.cover && !values.isEmpty then some (values.map BitVec.toNat) else none) ∧ e.twin.rx = s.dev.twin.rx.set 0
    10 (hwNat msg 0xC 4 + 1) ∧ (e.twin.sent.at [] 0xB).take 1 = [0xB]) ∧
  (∀ (s : State) (x : Bool), s.dev.sys.cdReset = false → s.dev.twin.handover = some (s.dev.tide, x) → s.dev.rd .TWIN_STAT_STATE = 3 →
    Completes s (.handoverEdge) fun t => (t.dev.rd .TWIN_STAT_STATE = (if x = true then 7 else 4)) ∧ (t.dev.on .PWM_STAT_LEAD = false) ∧
    (t.dev.rd .TWIN_CNT0_HANDOVERS = satAdd 65535 (s.dev.rd .TWIN_CNT0_HANDOVERS) 1) ∧ (t.dev.fm.life.at 0 0x090 = satAdd (2 ^ 64 - 1)
    (s.dev.fm.life.at 0 0x090) 1) ∧ (t.dev.twin.handover = none) ∧ (s.dev.raised t.dev 413) ∧ (t.mem = s.mem)) ∧
  (∀ (s : State) (x : Bool), s.dev.sys.cdReset = false → s.dev.twin.handover = some (s.dev.tide, x) → s.dev.rd .TWIN_STAT_STATE = 4 →
    Completes s (.handoverEdge) fun t => (t.dev.rd .TWIN_STAT_STATE = 3) ∧ (t.dev.on .PWM_STAT_LEAD = true) ∧ (t.dev.on .TWIN_STAT_CROSS =
    false) ∧ (t.dev.rd .TWIN_CNT0_HANDOVERS = satAdd 65535 (s.dev.rd .TWIN_CNT0_HANDOVERS) 1) ∧ (t.dev.twin.handover = none) ∧
    (s.dev.raised t.dev 413) ∧ (t.mem = s.mem)) ∧
  (∀ (s : State), s.dev.sys.cdReset = false → s.dev.straps.twinst = true → Completes s (.depose) fun t => (t.dev.sys.cdReset = true) ∧
    (t.dev.on .PWM_STAT_LEAD = false) ∧ (t.dev.rd .FM_RSTCAUSE_KIND = 5)) ∧
  (∀ (s : State), s.dev.straps.twinst = false → Does s (.depose) {} fun e => True) ∧
  (∀ (s : State), s.dev.sys.cdReset = false → s.dev.twin.declared = true → s.dev.rd .TWIN_STAT_STATE = 4 → s.dev.tide = s.dev.twin.missAt →
    Completes s (.takeover true) fun t => (t.dev.rd .TWIN_STAT_STATE = 5) ∧ (t.dev.on .PWM_STAT_LEAD = true) ∧ (t.dev.on .TWIN_STAT_CROSS =
    false) ∧ (t.dev.on .TWIN_STAT_TKOV = true) ∧ (t.dev.rd .TWIN_CNT0_TAKEOVERS = satAdd 65535 (s.dev.rd .TWIN_CNT0_TAKEOVERS) 1) ∧
    (t.dev.fm.life.at 0 0x088 = satAdd (2 ^ 64 - 1) (s.dev.fm.life.at 0 0x088) 1) ∧ (t.dev.twin.depose = false) ∧ (s.dev.raised t.dev 409)
    ∧ (t.mem = s.mem)) ∧
  (∀ (s : State), s.dev.sys.cdReset = false → s.dev.twin.declared = true → s.dev.rd .TWIN_STAT_STATE = 4 → s.dev.tide = s.dev.twin.missAt →
    Completes s (.takeover false) fun t => (t.dev.rd .TWIN_STAT_STATE = 8) ∧ (t.dev.twin.dflt = true) ∧ (t.dev.on .PWM_CTRL_ARM = false) ∧
    (s.dev.raised t.dev 412) ∧ (t.mem = s.mem)) ∧
  (∀ (s : State), s.dev.sys.cdReset = false → s.dev.rd .TWIN_STAT_STATE = 1 → s.dev.twin.contact = false → Completes s (.leadershipClaim
    true) fun t => (t.dev.rd .TWIN_STAT_STATE = 5) ∧ (t.dev.on .PWM_STAT_LEAD = true) ∧ (t.dev.on .TWIN_STAT_CROSS = false) ∧ (t.mem =
    s.mem)) ∧
  (∀ (s : State), s.dev.sys.cdReset = false → s.dev.rd .TWIN_STAT_STATE = 1 → s.dev.twin.contact = false → s.dev.on .PWM_STAT_LEAD = false
    → Does s (.leadershipClaim false) { flds := [.TWIN_STAT_STATE], parts := [.twin] } fun e => e.rd .TWIN_STAT_STATE = 7 ∧ e.twin =
    { s.dev.twin with handover := none, ttact := none }) ∧
  (∀ (s : State) (x : Bool), s.dev.rd .TWIN_STAT_STATE ≠ 1 ∨ s.dev.twin.contact = true → Does s (.leadershipClaim x) {} fun e => True) ∧
  (∀ (s : State), s.dev.sys.cdReset = false → s.dev.rd .TWIN_STAT_STATE = 7 → s.dev.twin.dflt = false → s.dev.rd .TWIN_STAT_PEER = 5 → Does
    s (.twinJoin .ferryman) ({ flds := [.TWIN_STAT_STATE, .TWIN_RSSTAT_PHASE, .TWIN_RSSTAT_CODE, .TWIN_RSSTAT_PCT], parts := [.twin] } :
    Writes).access fun e => e.rd .TWIN_STAT_STATE = 2 ∧ e.rd .TWIN_RSSTAT_PHASE = 1 ∧ e.rd .TWIN_RSSTAT_CODE = 0 ∧ e.rd .TWIN_RSSTAT_PCT =
    0 ∧ e.twin = { s.dev.twin with attempts := 0, bulk := 0, copyFrom := none, cutAt := none, parts := [], wrote := [] }) ∧
  (∀ (s : State), s.dev.sys.cdReset = false → s.dev.rd .TWIN_STAT_STATE = 7 → s.dev.twin.dflt = true → Does s (.twinJoin .ferryman)
    ({ flds := [.TWIN_STAT_RSF, .TWIN_RSSTAT_CODE, .TWIN_RSSTAT_PHASE], parts := [.twin] } : Writes).raising.access fun e => e.rd
    .TWIN_RSSTAT_CODE = 8 ∧ e.on .TWIN_STAT_RSF = true ∧ e.rd .TWIN_RSSTAT_PHASE = 0 ∧ s.dev.raised e 414) ∧
  (∀ (s : State), s.dev.sys.cdReset = false → s.dev.rd .TWIN_STAT_STATE ≠ 7 → Does s (.twinJoin .ferryman) { parts := [.resp] } fun e =>
    True) ∧
  (∀ (s : State), s.dev.sys.cdReset = false → s.dev.rd .TWIN_STAT_STATE = 3 → Does s (.twinHandover .ferryman) ({ parts := [.twin] } :
    Writes).access fun e => e.twin.handover = some (s.dev.tide + 8, false) ∧ (e.twin.sent.at [] 10).take 1 = [10] ∧ e.twin.unacked =
    s.dev.twin.unacked ++ [(10, s.dev.twin.tx.at 0 10, e.twin.sent.at [] 10)]) ∧
  (∀ (s : State), s.dev.sys.cdReset = false → s.dev.rd .TWIN_STAT_STATE ≠ 3 → Does s (.twinHandover .ferryman) { parts := [.resp] } fun e
    => True) ∧
  (∀ (s : State), s.dev.sys.cdReset = false → s.dev.rd .TWIN_STAT_STATE = 4 → s.dev.on .PWM_STAT_LEAD = false → Does s (.twinLeave
    .ferryman) ({ flds := [.TWIN_STAT_STATE], parts := [.twin] } : Writes).access fun e => e.rd .TWIN_STAT_STATE = 7 ∧ e.twin =
    { s.dev.twin with handover := none, ttact := none }) ∧
  (∀ (s : State), s.dev.sys.cdReset = false → s.dev.rd .TWIN_STAT_STATE ≠ 4 → Does s (.twinLeave .ferryman) { parts := [.resp] } fun e =>
    True) ∧
  (∀ (s : State), s.dev.sys.cdReset = false → Does s (.twinDfclr .ferryman)
    ({ flds := [.TWIN_STAT_DFLT, .TWIN_STAT_STATE], parts := [.twin] } : Writes).access fun e => e.on .TWIN_STAT_DFLT = false ∧ (e.rd
    .TWIN_STAT_STATE = (if s.dev.rd .TWIN_STAT_STATE = 8 then 1 else s.dev.rd .TWIN_STAT_STATE)) ∧ e.twin =
    { s.dev.twin with dflt := false }) ∧
  (∀ (s : State), s.dev.sys.cdReset = false → Does s (.twinCounterClear .ferryman)
    ({ flds := [.TWIN_CNT0_TAKEOVERS, .TWIN_CNT0_HANDOVERS, .TWIN_CNT1_DIVERGENCES, .TWIN_CNT1_LANEFAILS, .TWIN_CNT2_MISSES, .TWIN_CNT2_RESTARTS] }
    : Writes).access fun e => e.rd .TWIN_CNT0_TAKEOVERS = 0 ∧ e.rd .TWIN_CNT0_HANDOVERS = 0 ∧ e.rd .TWIN_CNT1_DIVERGENCES = 0 ∧ e.rd
    .TWIN_CNT1_LANEFAILS = 0 ∧ e.rd .TWIN_CNT2_MISSES = 0 ∧ e.rd .TWIN_CNT2_RESTARTS = 0)

/-- What lane failures, missed heartbeats, resynchronisation and double faults do: LANE_FAILURE, LANE_RECOVERY, HEARTBEAT_MISS,
  DOUBLE_FAULT, ALIGNMENT_LOSS, DRAM_DEVICE_FAILURE, TWIN_RESYNC_RESET, RESYNC_RESTART and RESTART_RECORD_TIMEOUT complete as the clauses
  say: under the conditions named a form answers a next state with the values listed, and where a clause lists what it writes, nothing else
  changes. It rests on R331, R332, R336, R345, R349, R350, R353, R368. -/
def Obligations.TwinFaultCommands : Prop :=
  (∀ (s : State), s.dev.sys.cdReset = false → s.dev.on .TWIN_STAT_LN0 = true → s.dev.on .TWIN_STAT_LN1 = true → Does s (.laneFailure 1)
    ({ flds := [.TWIN_STAT_LN0, .TWIN_STAT_LANEF, .TWIN_CNT1_LANEFAILS, .TWIN_STAT_EXP, .TWIN_EXPO_OPEN], parts := [.twin] } :
    Writes).raising fun e => e.on .TWIN_STAT_LN0 = false ∧ e.on .TWIN_STAT_LN1 = true ∧ e.on .TWIN_STAT_LANEF = true ∧ e.rd
    .TWIN_CNT1_LANEFAILS = satAdd 65535 (s.dev.rd .TWIN_CNT1_LANEFAILS) 1 ∧ (s.dev.paired = true → e.on .TWIN_STAT_EXP = true) ∧
    s.dev.raised e 411) ∧
  (∀ (s : State), s.dev.sys.cdReset = false → s.dev.on .TWIN_STAT_LN0 = false → s.dev.on .TWIN_STAT_LN1 = true → s.dev.on .TWIN_STAT_EXP =
    true → Completes s (.laneFailure 2) fun t => (t.dev.on .TWIN_STAT_LN1 = false) ∧ (t.dev.rd .TWIN_STAT_STATE = 8) ∧ (t.dev.twin.dflt =
    true) ∧ (t.dev.on .TWIN_STAT_DFLT = true) ∧ (t.dev.on .PWM_CTRL_ARM = false) ∧ (t.dev.on .PWM_STAT_LEAD = false) ∧ ((∀ l, l < 32 →
    t.dev.onAt .CLINK_STAT_BLKD l = true)) ∧ (s.dev.raised t.dev 412) ∧ (t.mem = s.mem)) ∧
  (∀ (s : State) (lanes : BitVec 2), s.dev.on .TWIN_STAT_LN0 = false → s.dev.on .TWIN_STAT_LN1 = false → Does s (.laneFailure lanes) {} fun
    e => True) ∧
  (∀ (s : State), s.dev.sys.cdReset = false → s.dev.on .TWIN_STAT_INST = true → s.dev.onAt .CAP_CLS_HELD 20 = true → Does s (.laneRecovery
    1) { flds := [.TWIN_STAT_LN1, .TWIN_STAT_EXP, .TWIN_EXPO_OPEN] } fun e => e.on .TWIN_STAT_LN1 = true) ∧
  (∀ (s : State) (lane : Fin 2), s.dev.on .TWIN_STAT_INST = false ∨ s.dev.onAt .CAP_CLS_HELD 20 = false → Does s (.laneRecovery lane) {}
    fun e => True) ∧
  (∀ (s : State) (toggled : Bool), s.dev.sys.cdReset = false → s.dev.twin.heart ≠ s.dev.tide + 1 → s.dev.rd .TWIN_STAT_STATE = 4 →
    s.dev.twin.missAt ≠ s.dev.tide → Does s (.heartbeatMiss toggled)
    ({ flds := [.TWIN_STAT_HBM, .TWIN_CNT2_MISSES, .TWIN_STAT_TWROK], parts := [.twin] } : Writes).raising fun e => e.on .TWIN_STAT_HBM =
    true ∧ e.rd .TWIN_CNT2_MISSES = satAdd 65535 (s.dev.rd .TWIN_CNT2_MISSES) 1 ∧ e.twin = { s.dev.twin with missAt := s.dev.tide + 1 } ∧
    e.on .TWIN_STAT_TWROK = toggled ∧ s.dev.raised e 410) ∧
  (∀ (s : State), s.dev.sys.cdReset = false → s.dev.twin.heart ≠ s.dev.tide + 1 → s.dev.rd .TWIN_STAT_STATE = 4 → s.dev.twin.missAt =
    s.dev.tide → 0 < s.dev.tide → s.dev.on .TWIN_STAT_LN0 = true → Completes s (.heartbeatMiss false) fun t => (t.dev.twin.depose = true) ∧
    (t.dev.twin.declared = true) ∧ (t.dev.twin.handover = none) ∧ (t.dev.rd .TWIN_STAT_STATE = 4) ∧ (s.dev.raised t.dev 410) ∧ (t.mem =
    s.mem)) ∧
  (∀ (s : State), s.dev.sys.cdReset = false → s.dev.on .TWIN_STAT_INST = true → s.dev.on .TWIN_STAT_EXP = true → Completes s (.doubleFault)
    fun t => (t.dev.rd .TWIN_STAT_STATE = 8) ∧ (t.dev.twin.dflt = true) ∧ (t.dev.on .TWIN_STAT_DFLT = true) ∧ (t.dev.on .PWM_CTRL_ARM =
    false) ∧ (t.dev.on .PWM_STAT_LEAD = false) ∧ ((∀ l, l < 32 → t.dev.onAt .CLINK_STAT_BLKD l = true)) ∧ (s.dev.raised t.dev 412) ∧ (t.mem
    = s.mem) ∧ (∀ n < 48, ((t.dev.leg (n / 2)).out (decide (n % 2 = 0))).gate = (((s.dev.leg (n / 2)).out (decide (n % 2 = 0))).gate &&
    ((s.dev.leg (n / 2)).out (decide (n % 2 = 0))).on && (((s.dev.leg (n / 2)).out (decide (n % 2 = 0))).delayed || s.dev.legSched (n / 2)
    (decide (n % 2 = 0)))))) ∧
  (∀ (s : State), s.dev.on .TWIN_STAT_INST = false ∨ s.dev.on .TWIN_STAT_EXP = false → Does s (.doubleFault) {} fun e => True) ∧
  (∀ (s : State), s.dev.sys.cdReset = false → s.dev.rd .TWIN_STAT_STATE = 4 → s.dev.on .PWM_STAT_LEAD = false → Does s (.alignmentLoss)
    { flds := [.TWIN_STAT_ALGN, .TWIN_STAT_STATE, .TWIN_STAT_EXP, .TWIN_EXPO_OPEN], parts := [.twin] } fun e => e.on .TWIN_STAT_ALGN =
    false ∧ e.rd .TWIN_STAT_STATE = 7) ∧
  (∀ (s : State), s.dev.sys.cdReset = false → s.dev.rd .TWIN_STAT_STATE = 3 → Does s (.alignmentLoss) { flds := [.TWIN_STAT_ALGN] } fun e
    => e.on .TWIN_STAT_ALGN = false) ∧
  (∀ (s : State) (l : Nat), s.dev.sys.cdReset = false → s.dev.failingLane = some l → s.dev.on .TWIN_STAT_INST = false → s.dev.rd
    .TWIN_STAT_STATE < 3 → s.dev.fm.booted = true → Completes s (.dramDeviceFailure) fun t => (t.dev.on .DDR_STAT_DEVF = true) ∧
    (t.dev.sys.devFailed = true) ∧ (t.dev.eccm.deadLanes = s.dev.eccm.deadLanes ++ [l]) ∧ (t.dev.on .PWM_CTRL_ARM = false) ∧ ((∀ l, l < 32
    → s.dev.onAt .CLINK_STAT_RUNNING l = true → t.dev.onAt .CLINK_STAT_BLKD l = true)) ∧ (s.dev.raised t.dev 56) ∧ (t.mem = s.mem)) ∧
  (∀ (s : State) (l : Nat), s.dev.sys.cdReset = false → s.dev.failingLane = some l → s.dev.on .TWIN_STAT_INST = false → s.dev.rd
    .TWIN_STAT_STATE < 3 → s.dev.fm.booted = false → Completes s (.dramDeviceFailure) fun t => (t.dev.on .DDR_STAT_DEVF = true) ∧
    (t.dev.sys.devFailed = true) ∧ (t.dev.on .PWM_CTRL_ARM = s.dev.on .PWM_CTRL_ARM) ∧ (s.dev.raised t.dev 56) ∧ (t.mem = s.mem)) ∧
  (∀ (s : State) (l : Nat), s.dev.sys.cdReset = false → s.dev.failingLane = some l → s.dev.on .TWIN_STAT_INST = true → s.dev.on
    .TWIN_STAT_EXP = false → s.dev.rd .TWIN_STAT_STATE = 3 → Completes s (.dramDeviceFailure) fun t => (t.dev.on .DDR_STAT_DEVF = true) ∧
    (t.dev.sys.devFailed = true) ∧ (t.dev.eccm.deadLanes = s.dev.eccm.deadLanes ++ [l]) ∧ (t.dev.twin.handover = some (s.dev.tide + 2,
    true)) ∧ ((t.dev.twin.sent.at [] 10).take 1 = [10]) ∧ (t.dev.on .TWIN_EXPO_OPEN = true) ∧ (s.dev.raised t.dev 56) ∧ (t.mem = s.mem)) ∧
  (∀ (s : State) (l : Nat), s.dev.sys.cdReset = false → s.dev.failingLane = some l → s.dev.on .TWIN_STAT_INST = true → s.dev.sys.devFailed
    = true → s.dev.on .TWIN_STAT_EXP = true → Completes s (.dramDeviceFailure) fun t => (t.dev.rd .TWIN_STAT_STATE = 8) ∧
    (t.dev.eccm.deadLanes = s.dev.eccm.deadLanes ++ [l]) ∧ (t.dev.twin.dflt = true) ∧ (s.dev.raised t.dev 56) ∧ (s.dev.raised t.dev 412) ∧
    (t.mem = s.mem)) ∧
  (∀ (s : State), s.dev.sys.cdReset = true ∨ s.dev.failingLane = none → Does s (.dramDeviceFailure) {} fun e => True) ∧
  (∀ (s : State), s.dev.sys.cdReset = false → s.dev.rd .TWIN_STAT_STATE = 2 → (∀ k < 4, s.dev.twin.parts.at [] k ≠ []) → s.dev.twin.pairAt
    < 2 ^ 64 → Completes s (.twinResyncReset) fun t => (t.dev.rd .TWIN_STAT_STATE = 2) ∧ (t.dev.rd .FM_RSTCAUSE_KIND = 6) ∧
    (t.dev.twin.resync = true) ∧ (t.dev.twin.parts = []) ∧ (t.dev.twin.commitEdge = some (hwNat (s.dev.twin.parts.at [] 0) 0 8)) ∧
    (t.dev.tide = s.dev.twin.pairAt) ∧ (t.dev.tt.opened = false) ∧ (t.dev.sys.cdResets = 0 :: s.dev.sys.cdResets) ∧ (t.dev.tt.active =
    none)) ∧
  (∀ (s : State), s.dev.sys.cdReset = true ∨ s.dev.rd .TWIN_STAT_STATE ≠ 2 → Does s (.twinResyncReset) {} fun e => True) ∧
  (∀ (s : State), s.dev.sys.cdReset = false → s.dev.rd .TWIN_STAT_STATE = 2 ∨ (s.dev.rd .TWIN_STAT_STATE = 6 ∧ 262144 < 20 *
    s.dev.twin.stores.length) → s.dev.twin.attempts < 2 → Does s (.resyncRestart) { flds := [.TWIN_CNT2_RESTARTS], parts := [.twin] } fun e
    => e.rd .TWIN_CNT2_RESTARTS = satAdd 65535 (s.dev.rd .TWIN_CNT2_RESTARTS) 1 ∧ e.twin =
    { s.dev.twin with attempts := s.dev.twin.attempts + 1, bulk := 0, stores := [], cutAt := none, copyFrom := some ((s.dev.tide / 4096 + 1) * 4096) }) ∧
  (∀ (s : State), s.dev.sys.cdReset = false → s.dev.rd .TWIN_STAT_STATE = 2 ∨ (s.dev.rd .TWIN_STAT_STATE = 6 ∧ 262144 < 20 *
    s.dev.twin.stores.length) → (s.dev.rd .TWIN_STAT_STATE = 2 → s.dev.on .PWM_STAT_LEAD = false) → s.dev.twin.attempts = 2 → Does s
    (.resyncRestart)
    ({ flds := [.TWIN_CNT2_RESTARTS, .TWIN_STAT_RSF, .TWIN_RSSTAT_CODE, .TWIN_RSSTAT_PHASE, .TWIN_STAT_STATE], parts := [.twin] } :
    Writes).raising fun e => e.rd .TWIN_RSSTAT_CODE = 5 ∧ e.on .TWIN_STAT_RSF = true ∧ (e.rd .TWIN_STAT_STATE = (if s.dev.rd
    .TWIN_STAT_STATE = 2 then 7 else 5)) ∧ s.dev.raised e 414) ∧
  (∀ (s : State), s.dev.sys.cdReset = true ∨ (s.dev.rd .TWIN_STAT_STATE ≠ 2 ∧ s.dev.rd .TWIN_STAT_STATE ≠ 6) ∨ (s.dev.rd .TWIN_STAT_STATE =
    6 ∧ s.dev.twin.stores = []) → Does s (.resyncRestart) {} fun e => True) ∧
  (∀ (s : State) (cover : Option Nat), s.dev.cus.heldRestart = none → Does s (.restartRecordTimeout none cover) {} fun e => True) ∧
  (∀ (s : State) (cover : Option Nat) (k : HeldRestart), s.dev.cus.heldRestart = some k → Completes s (.restartRecordTimeout none cover)
    fun t => (t.dev.cus.heldRestart = none) ∧ (t.mem = s.mem)) ∧
  (∀ (s : State) (cover : Option Nat), s.dev.sys.cdReset = false → s.dev.cus.heldRestart = none → s.dev.rd .TWIN_STAT_STATE = 6 → s.dev.rd
    .TWIN_MIRB_USED ≤ s.dev.rd .TWIN_MIRB_LIMIT → s.dev.holdShort = false → Does s (.restartRecordTimeout (some 0) cover)
    { flds := [.TWIN_RSSTAT_PHASE], parts := [.twin] } fun e => e.rd .TWIN_RSSTAT_PHASE = 3 ∧ e.twin =
    { s.dev.twin with copyFrom := some ((s.dev.tide / 4096 + 1) * 4096) }) ∧
  (∀ (s : State) (cover : Option Nat), s.dev.sys.cdReset = false → s.dev.cus.heldRestart = none → s.dev.rd .TWIN_STAT_STATE = 2 → s.dev.rd
    .TWIN_MIRB_USED ≤ s.dev.rd .TWIN_MIRB_LIMIT → s.dev.holdShort = false → Does s (.restartRecordTimeout (some 0) cover)
    { flds := [.TWIN_RSSTAT_PHASE, .NODE_RNDLO, .NODE_RNDHI, .NODE_RNDFR, .NODE_STAT_RUNNING], parts := [.twin, .node] } fun e => e.rd
    .TWIN_RSSTAT_PHASE = 3 ∧ e.twin = { s.dev.twin with copyFrom := some ((s.dev.tide / 4096 + 1) * 4096) } ∧ e.node.joined = true ∧
    (s.dev.on .NODE_CTRL_RUN = false → e.node = { s.dev.node with joined := true }) ∧ (s.dev.on .NODE_CTRL_RUN = true → e.on
    .NODE_STAT_RUNNING = true ∧ e.rd .NODE_RNDFR = s.dev.rd .NODE_ROUND_MS * 400000 / s.dev.rd .TIDE_PERIOD_ACT)) ∧
  (∀ (s : State) (q : Fin 10) (cover : Option Nat), s.dev.sys.cdReset = false → s.dev.cus.heldRestart = none → s.dev.rd .TWIN_STAT_STATE =
    6 → q ≠ 0 → Does s (.restartRecordTimeout (some q) cover)
    ({ flds := [.TWIN_STAT_RSF, .TWIN_RSSTAT_CODE, .TWIN_RSSTAT_PHASE, .TWIN_STAT_STATE], parts := [.twin] } : Writes).raising fun e =>
    e.rd .TWIN_RSSTAT_CODE = q.val ∧ e.on .TWIN_STAT_RSF = true ∧ e.rd .TWIN_STAT_STATE = 5 ∧ s.dev.raised e 414)

/-- What the integer instructions compute: ADD to REMU (Table 3-7) complete: rd takes the value of the row, g0 discards it, the flags
  accumulate, pc advances by 4, every other register, flag, special register and byte of memory keeps. It rests on R55, R57, R58, R62, R66,
  R73. -/
def Obligations.IntegerResults : Prop :=
  (∀ (s : State) (i : Issue) (rd ra rb : Fin 32), s.dev.issues i (opABC rd ra rb) → s.dev.predicated i = true → Issued s (.vcsAdd i rd ra
    rb) i (opABC rd ra rb) [.g rd (((s.dev.unit i).gr ra) + ((s.dev.unit i).gr rb))] (fl := (Nat.lor · 0))) ∧
  (∀ (s : State) (i : Issue) (rd ra rb : Fin 32), s.dev.issues i (opABC rd ra rb) → s.dev.predicated i = true → Issued s (.vcsSub i rd ra
    rb) i (opABC rd ra rb) [.g rd (((s.dev.unit i).gr ra) - ((s.dev.unit i).gr rb))] (fl := (Nat.lor · 0))) ∧
  (∀ (s : State) (i : Issue) (rd ra rb : Fin 32), s.dev.issues i (opABC rd ra rb) → s.dev.predicated i = true → Issued s (.vcsAnd i rd ra
    rb) i (opABC rd ra rb) [.g rd (((s.dev.unit i).gr ra) &&& ((s.dev.unit i).gr rb))] (fl := (Nat.lor · 0))) ∧
  (∀ (s : State) (i : Issue) (rd ra rb : Fin 32), s.dev.issues i (opABC rd ra rb) → s.dev.predicated i = true → Issued s (.vcsOr i rd ra
    rb) i (opABC rd ra rb) [.g rd (((s.dev.unit i).gr ra) ||| ((s.dev.unit i).gr rb))] (fl := (Nat.lor · 0))) ∧
  (∀ (s : State) (i : Issue) (rd ra rb : Fin 32), s.dev.issues i (opABC rd ra rb) → s.dev.predicated i = true → Issued s (.vcsXor i rd ra
    rb) i (opABC rd ra rb) [.g rd (((s.dev.unit i).gr ra) ^^^ ((s.dev.unit i).gr rb))] (fl := (Nat.lor · 0))) ∧
  (∀ (s : State) (i : Issue) (rd ra rb : Fin 32), s.dev.issues i (opABC rd ra rb) → s.dev.predicated i = true → Issued s (.vcsSll i rd ra
    rb) i (opABC rd ra rb) [.g rd (((s.dev.unit i).gr ra) <<< (((s.dev.unit i).gr rb).toNat % 64))] (fl := (Nat.lor · 0))) ∧
  (∀ (s : State) (i : Issue) (rd ra rb : Fin 32), s.dev.issues i (opABC rd ra rb) → s.dev.predicated i = true → Issued s (.vcsSrl i rd ra
    rb) i (opABC rd ra rb) [.g rd (((s.dev.unit i).gr ra) >>> (((s.dev.unit i).gr rb).toNat % 64))] (fl := (Nat.lor · 0))) ∧
  (∀ (s : State) (i : Issue) (rd ra rb : Fin 32), s.dev.issues i (opABC rd ra rb) → s.dev.predicated i = true → Issued s (.vcsSra i rd ra
    rb) i (opABC rd ra rb) [.g rd (((s.dev.unit i).gr ra).sshiftRight (((s.dev.unit i).gr rb).toNat % 64))] (fl := (Nat.lor · 0))) ∧
  (∀ (s : State) (i : Issue) (rd ra rb : Fin 32), s.dev.issues i (opABC rd ra rb) → s.dev.predicated i = true → Issued s (.vcsAddsW i rd ra
    rb) i (opABC rd ra rb) [.g rd ((sat32Result (s32 ((s.dev.unit i).gr ra) + s32 ((s.dev.unit i).gr rb))).1)] (fl := (Nat.lor ·
    ((sat32Result (s32 ((s.dev.unit i).gr ra) + s32 ((s.dev.unit i).gr rb))).2)))) ∧
  (∀ (s : State) (i : Issue) (rd ra rb : Fin 32), s.dev.issues i (opABC rd ra rb) → s.dev.predicated i = true → Issued s (.vcsSubsW i rd ra
    rb) i (opABC rd ra rb) [.g rd ((sat32Result (s32 ((s.dev.unit i).gr ra) - s32 ((s.dev.unit i).gr rb))).1)] (fl := (Nat.lor ·
    ((sat32Result (s32 ((s.dev.unit i).gr ra) - s32 ((s.dev.unit i).gr rb))).2)))) ∧
  (∀ (s : State) (i : Issue) (rd ra rb : Fin 32), s.dev.issues i (opABC rd ra rb) → s.dev.predicated i = true → Issued s (.vcsMin i rd ra
    rb) i (opABC rd ra rb) [.g rd (if ((s.dev.unit i).gr rb).slt ((s.dev.unit i).gr ra) then ((s.dev.unit i).gr rb) else ((s.dev.unit i).gr
    ra))] (fl := (Nat.lor · 0))) ∧
  (∀ (s : State) (i : Issue) (rd ra rb : Fin 32), s.dev.issues i (opABC rd ra rb) → s.dev.predicated i = true → Issued s (.vcsMax i rd ra
    rb) i (opABC rd ra rb) [.g rd (if ((s.dev.unit i).gr ra).slt ((s.dev.unit i).gr rb) then ((s.dev.unit i).gr rb) else ((s.dev.unit i).gr
    ra))] (fl := (Nat.lor · 0))) ∧
  (∀ (s : State) (i : Issue) (rd ra rb : Fin 32), s.dev.issues i (opABC rd ra rb) → s.dev.predicated i = true → Issued s (.vcsClamp i rd ra
    rb) i (opABC rd ra rb) [.g rd (clamp64 ((s.dev.unit i).gr ra) ((((s.dev.unit i).gr rb).setWidth 32).signExtend 64) (((((s.dev.unit
    i).gr rb) >>> 32).setWidth 32).signExtend 64))] (fl := (Nat.lor · 0))) ∧
  (∀ (s : State) (i : Issue) (rd ra : Fin 32) (imm : BitVec 12), s.dev.issues i (opAB rd ra) → s.dev.predicated i = true → Issued s
    (.vcsAddi i rd ra imm) i (opAB rd ra) [.g rd (((s.dev.unit i).gr ra) + imm.signExtend 64)] (fl := (Nat.lor · 0))) ∧
  (∀ (s : State) (i : Issue) (rd ra : Fin 32) (imm : BitVec 12), s.dev.issues i (opAB rd ra) → s.dev.predicated i = true → Issued s
    (.vcsAndi i rd ra imm) i (opAB rd ra) [.g rd (((s.dev.unit i).gr ra) &&& imm.setWidth 64)] (fl := (Nat.lor · 0))) ∧
  (∀ (s : State) (i : Issue) (rd ra : Fin 32) (imm : BitVec 12), s.dev.issues i (opAB rd ra) → s.dev.predicated i = true → Issued s
    (.vcsOri i rd ra imm) i (opAB rd ra) [.g rd (((s.dev.unit i).gr ra) ||| imm.setWidth 64)] (fl := (Nat.lor · 0))) ∧
  (∀ (s : State) (i : Issue) (rd ra : Fin 32) (imm : BitVec 12), s.dev.issues i (opAB rd ra) → s.dev.predicated i = true → Issued s
    (.vcsXori i rd ra imm) i (opAB rd ra) [.g rd (((s.dev.unit i).gr ra) ^^^ imm.setWidth 64)] (fl := (Nat.lor · 0))) ∧
  (∀ (s : State) (i : Issue) (rd ra : Fin 32) (n : Fin 64), s.dev.issues i (opAB rd ra) → s.dev.predicated i = true → Issued s (.vcsSlli i
    rd ra n) i (opAB rd ra) [.g rd (((s.dev.unit i).gr ra) <<< n.val)] (fl := (Nat.lor · 0))) ∧
  (∀ (s : State) (i : Issue) (rd ra : Fin 32) (n : Fin 64), s.dev.issues i (opAB rd ra) → s.dev.predicated i = true → Issued s (.vcsSrli i
    rd ra n) i (opAB rd ra) [.g rd (((s.dev.unit i).gr ra) >>> n.val)] (fl := (Nat.lor · 0))) ∧
  (∀ (s : State) (i : Issue) (rd ra : Fin 32) (n : Fin 64), s.dev.issues i (opAB rd ra) → s.dev.predicated i = true → Issued s (.vcsSrai i
    rd ra n) i (opAB rd ra) [.g rd (((s.dev.unit i).gr ra).sshiftRight n.val)] (fl := (Nat.lor · 0))) ∧
  (∀ (s : State) (i : Issue) (rd : Fin 32) (k : Fin 4) (imm : BitVec 16), s.dev.issues i ({ writes := [rd], safety := true }) →
    s.dev.predicated i = true → Issued s (.vcsMovz i rd k imm) i ({ writes := [rd], safety := true }) [.g rd (imm.setWidth 64 <<< (16 *
    k.val))] (fl := (Nat.lor · 0))) ∧
  (∀ (s : State) (i : Issue) (rd : Fin 32) (k : Fin 4) (imm : BitVec 16), s.dev.issues i
    ({ reads := [rd], writes := [rd], safety := true }) → s.dev.predicated i = true → Issued s (.vcsMovk i rd k imm) i
    ({ reads := [rd], writes := [rd], safety := true }) [.g rd ((((s.dev.unit i).gr rd) &&& ~~~((0xFFFF#64) <<< (16 * k.val))) |||
    (imm.setWidth 64 <<< (16 * k.val)))] (fl := (Nat.lor · 0))) ∧
  (∀ (s : State) (i : Issue) (rd ra rb : Fin 32), s.dev.issues i (opABC rd ra rb 3) → s.dev.predicated i = true → Issued s (.vcsMul i rd ra
    rb) i (opABC rd ra rb 3) [.g rd (((s.dev.unit i).gr ra) * ((s.dev.unit i).gr rb))] (fl := (Nat.lor · 0))) ∧
  (∀ (s : State) (i : Issue) (rd ra rb : Fin 32), s.dev.issues i (opABC rd ra rb 3) → s.dev.predicated i = true → Issued s (.vcsMulh i rd
    ra rb) i (opABC rd ra rb 3) [.g rd (BitVec.ofInt 64 (((s.dev.unit i).gr ra).toInt * ((s.dev.unit i).gr rb).toInt / 2 ^ 64))] (fl :=
    (Nat.lor · 0))) ∧
  (∀ (s : State) (i : Issue) (rd ra rb : Fin 32), s.dev.issues i (opABC rd ra rb 3) → s.dev.predicated i = true → Issued s (.vcsMulhu i rd
    ra rb) i (opABC rd ra rb 3) [.g rd (BitVec.ofNat 64 (((s.dev.unit i).gr ra).toNat * ((s.dev.unit i).gr rb).toNat / 2 ^ 64))] (fl :=
    (Nat.lor · 0))) ∧
  (∀ (s : State) (i : Issue) (rd ra rb : Fin 32), s.dev.issues i (opABC rd ra rb 3) → s.dev.predicated i = true → Issued s (.vcsMulq i rd
    ra rb) i (opABC rd ra rb 3) [.g rd ((sat32Result (s32 ((s.dev.unit i).gr ra) * s32 ((s.dev.unit i).gr rb) / 2 ^ 31)).1)] (fl :=
    (Nat.lor · ((sat32Result (s32 ((s.dev.unit i).gr ra) * s32 ((s.dev.unit i).gr rb) / 2 ^ 31)).2)))) ∧
  (∀ (s : State) (i : Issue) (rd ra rb : Fin 32), s.dev.issues i (opABC rd ra rb 18 true) → s.dev.predicated i = true → Issued s (.vcsDiv i
    rd ra rb) i (opABC rd ra rb 18 true) [.g rd (BitVec.ofNat 64 (divide ((s.dev.unit i).gr ra).toNat ((s.dev.unit i).gr rb).toNat
    true).1)] (fl := (Nat.lor · ((divide ((s.dev.unit i).gr ra).toNat ((s.dev.unit i).gr rb).toNat true).2.2)))) ∧
  (∀ (s : State) (i : Issue) (rd ra rb : Fin 32), s.dev.issues i (opABC rd ra rb 18 true) → s.dev.predicated i = true → Issued s (.vcsDivu
    i rd ra rb) i (opABC rd ra rb 18 true) [.g rd (BitVec.ofNat 64 (divide ((s.dev.unit i).gr ra).toNat ((s.dev.unit i).gr rb).toNat
    false).1)] (fl := (Nat.lor · ((divide ((s.dev.unit i).gr ra).toNat ((s.dev.unit i).gr rb).toNat false).2.2)))) ∧
  (∀ (s : State) (i : Issue) (rd ra rb : Fin 32), s.dev.issues i (opABC rd ra rb 18 true) → s.dev.predicated i = true → Issued s (.vcsRem i
    rd ra rb) i (opABC rd ra rb 18 true) [.g rd (BitVec.ofNat 64 (divide ((s.dev.unit i).gr ra).toNat ((s.dev.unit i).gr rb).toNat
    true).2.1)] (fl := (Nat.lor · ((divide ((s.dev.unit i).gr ra).toNat ((s.dev.unit i).gr rb).toNat true).2.2)))) ∧
  (∀ (s : State) (i : Issue) (rd ra rb : Fin 32), s.dev.issues i (opABC rd ra rb 18 true) → s.dev.predicated i = true → Issued s (.vcsRemu
    i rd ra rb) i (opABC rd ra rb 18 true) [.g rd (BitVec.ofNat 64 (divide ((s.dev.unit i).gr ra).toNat ((s.dev.unit i).gr rb).toNat
    false).2.1)] (fl := (Nat.lor · ((divide ((s.dev.unit i).gr ra).toNat ((s.dev.unit i).gr rb).toNat false).2.2))))

/-- What compares, predicate operations, transfers and special-register moves do: CMP, CMPI, PAND, POR, PXOR, PANDN, BR, JL, JR, MFS and
  MTS complete: pd takes the condition and p0 stays 1, a taken transfer goes to its target and the next instruction issues three cycles on,
  special registers are read and written. It rests on R57, R58, R59, R71, R74, R75, R105, R106. -/
def Obligations.CompareAndTransferResults : Prop :=
  (∀ (s : State) (i : Issue) (cc : Cond) (pd : Fin 8) (ra rb : Fin 32), s.dev.issues i
    ({ reads := [ra, rb], writes := [regP pd], safety := true }) → s.dev.predicated i = true → Issued s (.vcsCmp i cc pd ra rb) i
    ({ reads := [ra, rb], writes := [regP pd], safety := true }) [.p pd
    (match cc with | .eq => ((s.dev.unit i).gr ra) == ((s.dev.unit i).gr rb) | .ne => ((s.dev.unit i).gr ra) != ((s.dev.unit i).gr rb) | .lt => ((s.dev.unit i).gr ra).slt ((s.dev.unit i).gr rb) | .ge => !((s.dev.unit i).gr ra).slt ((s.dev.unit i).gr rb) | .ltu => ((s.dev.unit i).gr ra).ult ((s.dev.unit i).gr rb) | .geu => !((s.dev.unit i).gr ra).ult ((s.dev.unit i).gr rb))]
    (fl := (Nat.lor · 0))) ∧
  (∀ (s : State) (i : Issue) (cc : Cond) (pd : Fin 8) (ra : Fin 32) (imm : BitVec 9), s.dev.issues i
    ({ reads := [ra], writes := [regP pd], safety := true }) → s.dev.predicated i = true → Issued s (.vcsCmpi i cc pd ra imm) i
    ({ reads := [ra], writes := [regP pd], safety := true }) [.p pd (condHolds cc ((s.dev.unit i).gr ra) (imm.signExtend 64))] (fl :=
    (Nat.lor · 0))) ∧
  (∀ (s : State) (i : Issue) (pd pa pb : Fin 8), s.dev.issues i ({ reads := [regP pa, regP pb], writes := [regP pd], safety := true }) →
    s.dev.predicated i = true → Issued s (.vcsPand i pd pa pb) i ({ reads := [regP pa, regP pb], writes := [regP pd], safety := true }) [.p
    pd ((s.dev.unit i).pr pa && (s.dev.unit i).pr pb)] (fl := (Nat.lor · 0))) ∧
  (∀ (s : State) (i : Issue) (pd pa pb : Fin 8), s.dev.issues i ({ reads := [regP pa, regP pb], writes := [regP pd], safety := true }) →
    s.dev.predicated i = true → Issued s (.vcsPor i pd pa pb) i ({ reads := [regP pa, regP pb], writes := [regP pd], safety := true }) [.p
    pd ((s.dev.unit i).pr pa || (s.dev.unit i).pr pb)] (fl := (Nat.lor · 0))) ∧
  (∀ (s : State) (i : Issue) (pd pa pb : Fin 8), s.dev.issues i ({ reads := [regP pa, regP pb], writes := [regP pd], safety := true }) →
    s.dev.predicated i = true → Issued s (.vcsPxor i pd pa pb) i ({ reads := [regP pa, regP pb], writes := [regP pd], safety := true }) [.p
    pd ((s.dev.unit i).pr pa != (s.dev.unit i).pr pb)] (fl := (Nat.lor · 0))) ∧
  (∀ (s : State) (i : Issue) (pd pa pb : Fin 8), s.dev.issues i ({ reads := [regP pa, regP pb], writes := [regP pd], safety := true }) →
    s.dev.predicated i = true → Issued s (.vcsPandn i pd pa pb) i ({ reads := [regP pa, regP pb], writes := [regP pd], safety := true })
    [.p pd ((s.dev.unit i).pr pa && !(s.dev.unit i).pr pb)] (fl := (Nat.lor · 0))) ∧
  (∀ (s : State) (i : Issue) (off : BitVec 22) (k : Nat), s.dev.issues i ({ lat := 0, branch := true, safety := true }) → s.dev.predicated
    i = true → k = ((((s.dev.unit i).pc : Int) + 4 * off.toInt) % 2 ^ 64).toNat → k % 4 = 0 → i.eng = .ferryman ∨ k ≤ 0xFFFC → Issued s
    (.vcsBr i off) i ({ lat := 0, branch := true, safety := true }) [] (fl := (Nat.lor · 0)) (nx := some k)) ∧
  (∀ (s : State) (i : Issue) (rd : Fin 32) (off : BitVec 17) (k : Nat), s.dev.issues i ({ writes := [rd], branch := true, safety := true })
    → s.dev.predicated i = true → k = ((((s.dev.unit i).pc : Int) + 4 * off.toInt) % 2 ^ 64).toNat → k % 4 = 0 → i.eng = .ferryman ∨ k ≤
    0xFFFC → Issued s (.vcsJl i rd off) i ({ writes := [rd], branch := true, safety := true }) [.g rd (BitVec.ofNat 64 ((s.dev.unit i).pc +
    4))] (fl := (Nat.lor · 0)) (nx := some k)) ∧
  (∀ (s : State) (i : Issue) (ra : Fin 32) (k : Nat), s.dev.issues i ({ lat := 0, reads := [ra], branch := true, safety := true }) →
    s.dev.predicated i = true → k = ((s.dev.unit i).gr ra).toNat → k % 4 = 0 → i.eng = .ferryman ∨ k ≤ 0xFFFC → Issued s (.vcsJr i ra) i
    ({ lat := 0, reads := [ra], branch := true, safety := true }) [] (fl := (Nat.lor · 0)) (nx := some k)) ∧
  (∀ (s : State) (i : Issue) (rd : Fin 32) (sreg : BitVec 12) (k : Nat), s.dev.issues i
    ({ cls := 2, writes := [rd], control := decide (sreg.toNat < 0x800), safety := decide (sreg.toNat < 0x800) }) → s.dev.predicated i =
    true → s.dev.wordState (fetchAt (Eng.index i.eng) (s.dev.unit i).pc) = 0 → (i.eng = .ferryman → sreg.toNat < 0x800 ∨
    s.dev.vcs.ferry.priv = true) → s.dev.sreg (Eng.index i.eng) (s.dev.cycleOf i
    ({ cls := 2, writes := [rd], control := decide (sreg.toNat < 0x800), safety := decide (sreg.toNat < 0x800) })) sreg.toNat = some k →
    Issued s (.vcsMfs i rd sreg) i
    ({ cls := 2, writes := [rd], control := decide (sreg.toNat < 0x800), safety := decide (sreg.toNat < 0x800) }) [.g rd (BitVec.ofNat 64
    k)] (fl := (Nat.lor · 0))) ∧
  (∀ (s : State) (i : Issue) (sreg : BitVec 12) (ra : Fin 32), s.dev.issues i
    ({ cls := 2, lat := 1, reads := [ra], control := decide (sreg.toNat < 0x800), safety := decide (sreg.toNat < 0x800) }) →
    s.dev.predicated i = true → sreg.toNat = 0x006 → Issued s (.vcsMts i sreg ra) i
    ({ cls := 2, lat := 1, reads := [ra], control := decide (sreg.toNat < 0x800), safety := decide (sreg.toNat < 0x800) }) [] (fl := (fun _
    => ((s.dev.unit i).gr ra).toNat % 2 ^ 8))) ∧
  (∀ (s : State) (i : Issue) (sreg : BitVec 12) (ra : Fin 32), s.dev.issues i
    ({ cls := 2, lat := 1, reads := [ra], control := decide (sreg.toNat < 0x800), safety := decide (sreg.toNat < 0x800) }) →
    s.dev.predicated i = true → sreg.toNat = 0x800 → i.eng = .ferryman → s.dev.vcs.ferry.priv = true → Issued s (.vcsMts i sreg ra) i
    ({ cls := 2, lat := 1, reads := [ra], control := decide (sreg.toNat < 0x800), safety := decide (sreg.toNat < 0x800) }) [] (fl :=
    (Nat.lor · 0)) (fer := (fun f =>
    { f with mie := bitOf ((s.dev.unit i).gr ra).toNat 0, pmie := bitOf ((s.dev.unit i).gr ra).toNat 2, ppriv := bitOf ((s.dev.unit i).gr ra).toNat 3, plevel := bitsOf ((s.dev.unit i).gr ra).toNat 12 8 }))) ∧
  (∀ (s : State) (i : Issue) (sreg : BitVec 12) (ra : Fin 32), s.dev.issues i
    ({ cls := 2, lat := 1, reads := [ra], control := decide (sreg.toNat < 0x800), safety := decide (sreg.toNat < 0x800) }) →
    s.dev.predicated i = true → sreg.toNat = 0x801 → i.eng = .ferryman → s.dev.vcs.ferry.priv = true → Issued s (.vcsMts i sreg ra) i
    ({ cls := 2, lat := 1, reads := [ra], control := decide (sreg.toNat < 0x800), safety := decide (sreg.toNat < 0x800) }) [] (fl :=
    (Nat.lor · 0)) (fer := (fun f => { f with mepc := ((s.dev.unit i).gr ra).toNat }))) ∧
  (∀ (s : State) (i : Issue) (sreg : BitVec 12) (ra : Fin 32), s.dev.issues i
    ({ cls := 2, lat := 1, reads := [ra], control := decide (sreg.toNat < 0x800), safety := decide (sreg.toNat < 0x800) }) →
    s.dev.predicated i = true → sreg.toNat = 0x803 → i.eng = .ferryman → s.dev.vcs.ferry.priv = true → Issued s (.vcsMts i sreg ra) i
    ({ cls := 2, lat := 1, reads := [ra], control := decide (sreg.toNat < 0x800), safety := decide (sreg.toNat < 0x800) }) [] (fl :=
    (Nat.lor · 0)) (fer := (fun f => { f with mtval := ((s.dev.unit i).gr ra).toNat }))) ∧
  (∀ (s : State) (i : Issue) (sreg : BitVec 12) (ra : Fin 32), s.dev.issues i
    ({ cls := 2, lat := 1, reads := [ra], control := decide (sreg.toNat < 0x800), safety := decide (sreg.toNat < 0x800) }) →
    s.dev.predicated i = true → sreg.toNat = 0x804 → i.eng = .ferryman → s.dev.vcs.ferry.priv = true → Issued s (.vcsMts i sreg ra) i
    ({ cls := 2, lat := 1, reads := [ra], control := decide (sreg.toNat < 0x800), safety := decide (sreg.toNat < 0x800) }) [] (fl :=
    (Nat.lor · 0)) (fer := (fun f => { f with mvec := bitsOf ((s.dev.unit i).gr ra).toNat 39 8 * 2 ^ 8 }))) ∧
  (∀ (s : State) (i : Issue) (sreg : BitVec 12) (ra : Fin 32), s.dev.issues i
    ({ cls := 2, lat := 1, reads := [ra], control := decide (sreg.toNat < 0x800), safety := decide (sreg.toNat < 0x800) }) →
    s.dev.predicated i = true → sreg.toNat = 0x805 → i.eng = .ferryman → s.dev.vcs.ferry.priv = true → Issued s (.vcsMts i sreg ra) i
    ({ cls := 2, lat := 1, reads := [ra], control := decide (sreg.toNat < 0x800), safety := decide (sreg.toNat < 0x800) }) [] (fl :=
    (Nat.lor · 0)) (fer := (fun f => { f with mlevel := bitsOf ((s.dev.unit i).gr ra).toNat 4 0 })))

/-- What the floating-point instructions compute: FADD_S to FCMP_UN_S (Table 3-9) complete: rd takes the binary32 result with bits 63:32
  zero or as its row says, the exception flags accumulate, everything else keeps. It rests on R55, R57, R60, R61, R62, R77, R78. -/
def Obligations.FloatResults : Prop :=
  (∀ (s : State) (i : Issue) (rd ra rb : Fin 32), s.dev.issues i ({ cls := 1, lat := 4, reads := [regG ra, regG rb], writes := [regG rd] })
    → s.dev.predicated i = true → Issued s (.vcsFaddS i rd ra rb) i
    ({ cls := 1, lat := 4, reads := [regG ra, regG rb], writes := [regG rd] }) [.g rd (BitVec.ofNat 64 (fpAdd ((s.dev.unit i).fr ra)
    ((s.dev.unit i).fr rb)).1)] (fl := (Nat.lor · (fpAdd ((s.dev.unit i).fr ra) ((s.dev.unit i).fr rb)).2))) ∧
  (∀ (s : State) (i : Issue) (rd ra rb : Fin 32), s.dev.issues i ({ cls := 1, lat := 4, reads := [regG ra, regG rb], writes := [regG rd] })
    → s.dev.predicated i = true → Issued s (.vcsFsubS i rd ra rb) i
    ({ cls := 1, lat := 4, reads := [regG ra, regG rb], writes := [regG rd] }) [.g rd (BitVec.ofNat 64 (fpSub ((s.dev.unit i).fr ra)
    ((s.dev.unit i).fr rb)).1)] (fl := (Nat.lor · (fpSub ((s.dev.unit i).fr ra) ((s.dev.unit i).fr rb)).2))) ∧
  (∀ (s : State) (i : Issue) (rd ra rb : Fin 32), s.dev.issues i ({ cls := 1, lat := 4, reads := [regG ra, regG rb], writes := [regG rd] })
    → s.dev.predicated i = true → Issued s (.vcsFmulS i rd ra rb) i
    ({ cls := 1, lat := 4, reads := [regG ra, regG rb], writes := [regG rd] }) [.g rd (BitVec.ofNat 64 (fpMul ((s.dev.unit i).fr ra)
    ((s.dev.unit i).fr rb)).1)] (fl := (Nat.lor · (fpMul ((s.dev.unit i).fr ra) ((s.dev.unit i).fr rb)).2))) ∧
  (∀ (s : State) (i : Issue) (rd ra rb : Fin 32), s.dev.issues i ({ cls := 1, lat := 2, reads := [regG ra, regG rb], writes := [regG rd] })
    → s.dev.predicated i = true → Issued s (.vcsFminS i rd ra rb) i
    ({ cls := 1, lat := 2, reads := [regG ra, regG rb], writes := [regG rd] }) [.g rd (BitVec.ofNat 64 (fpMin ((s.dev.unit i).fr ra)
    ((s.dev.unit i).fr rb)).1)] (fl := (Nat.lor · (fpMin ((s.dev.unit i).fr ra) ((s.dev.unit i).fr rb)).2))) ∧
  (∀ (s : State) (i : Issue) (rd ra rb : Fin 32), s.dev.issues i ({ cls := 1, lat := 2, reads := [regG ra, regG rb], writes := [regG rd] })
    → s.dev.predicated i = true → Issued s (.vcsFmaxS i rd ra rb) i
    ({ cls := 1, lat := 2, reads := [regG ra, regG rb], writes := [regG rd] }) [.g rd (BitVec.ofNat 64 (fpMax ((s.dev.unit i).fr ra)
    ((s.dev.unit i).fr rb)).1)] (fl := (Nat.lor · (fpMax ((s.dev.unit i).fr ra) ((s.dev.unit i).fr rb)).2))) ∧
  (∀ (s : State) (i : Issue) (rd ra : Fin 32), s.dev.issues i ({ cls := 1, lat := 2, reads := [regG ra], writes := [regG rd] }) →
    s.dev.predicated i = true → Issued s (.vcsFabsS i rd ra) i ({ cls := 1, lat := 2, reads := [regG ra], writes := [regG rd] }) [.g rd
    (BitVec.ofNat 64 ((fpAbs ((s.dev.unit i).fr ra), 0)).1)] (fl := (Nat.lor · ((fpAbs ((s.dev.unit i).fr ra), 0)).2))) ∧
  (∀ (s : State) (i : Issue) (rd ra : Fin 32), s.dev.issues i ({ cls := 1, lat := 2, reads := [regG ra], writes := [regG rd] }) →
    s.dev.predicated i = true → Issued s (.vcsFnegS i rd ra) i ({ cls := 1, lat := 2, reads := [regG ra], writes := [regG rd] }) [.g rd
    (BitVec.ofNat 64 ((fpNeg ((s.dev.unit i).fr ra), 0)).1)] (fl := (Nat.lor · ((fpNeg ((s.dev.unit i).fr ra), 0)).2))) ∧
  (∀ (s : State) (i : Issue) (rd ra rb : Fin 32), s.dev.issues i ({ cls := 1, lat := 2, reads := [regG ra, regG rb], writes := [regG rd] })
    → s.dev.predicated i = true → Issued s (.vcsFclampS i rd ra rb) i
    ({ cls := 1, lat := 2, reads := [regG ra, regG rb], writes := [regG rd] }) [.g rd (BitVec.ofNat 64 (fpClamp ((s.dev.unit i).fr ra)
    ((s.dev.unit i).fr rb) (((s.dev.unit i).gr rb).toNat / 2 ^ 32)).1)] (fl := (Nat.lor · (fpClamp ((s.dev.unit i).fr ra) ((s.dev.unit
    i).fr rb) (((s.dev.unit i).gr rb).toNat / 2 ^ 32)).2))) ∧
  (∀ (s : State) (i : Issue) (rd ra rb : Fin 32), s.dev.issues i ({ cls := 1, lat := 2, reads := [regG ra, regG rb], writes := [regG rd] })
    → s.dev.predicated i = true → Issued s (.vcsMinsel i rd ra rb) i
    ({ cls := 1, lat := 2, reads := [regG ra, regG rb], writes := [regG rd] }) [.g rd (BitVec.ofNat 64 (fpMinsel ((s.dev.unit i).gr
    ra).toNat ((s.dev.unit i).gr rb).toNat).1)] (fl := (Nat.lor · (fpMinsel ((s.dev.unit i).gr ra).toNat ((s.dev.unit i).gr rb).toNat).2))) ∧
  (∀ (s : State) (i : Issue) (rd ra : Fin 32), s.dev.issues i ({ cls := 1, lat := 4, reads := [regG ra], writes := [regG rd] }) →
    s.dev.predicated i = true → Issued s (.vcsFcvtSL i rd ra) i ({ cls := 1, lat := 4, reads := [regG ra], writes := [regG rd] }) [.g rd
    (BitVec.ofNat 64 (fpOfInt ((s.dev.unit i).gr ra).toInt).1)] (fl := (Nat.lor · (fpOfInt ((s.dev.unit i).gr ra).toInt).2))) ∧
  (∀ (s : State) (i : Issue) (rd ra : Fin 32), s.dev.issues i ({ cls := 1, lat := 4, reads := [regG ra], writes := [regG rd] }) →
    s.dev.predicated i = true → Issued s (.vcsFcvtLS i rd ra) i ({ cls := 1, lat := 4, reads := [regG ra], writes := [regG rd] }) [.g rd
    (BitVec.ofNat 64 (fpToInt false ((s.dev.unit i).fr ra)).1)] (fl := (Nat.lor · (fpToInt false ((s.dev.unit i).fr ra)).2))) ∧
  (∀ (s : State) (i : Issue) (rd ra : Fin 32), s.dev.issues i ({ cls := 1, lat := 4, reads := [regG ra], writes := [regG rd] }) →
    s.dev.predicated i = true → Issued s (.vcsFcvtLSRn i rd ra) i ({ cls := 1, lat := 4, reads := [regG ra], writes := [regG rd] }) [.g rd
    (BitVec.ofNat 64 (fpToInt true ((s.dev.unit i).fr ra)).1)] (fl := (Nat.lor · (fpToInt true ((s.dev.unit i).fr ra)).2))) ∧
  (∀ (s : State) (i : Issue) (rd ra rb rc : Fin 32), s.dev.issues i
    ({ cls := 1, lat := 4, reads := [regG ra, regG rb, regG rc], writes := [regG rd] }) → s.dev.predicated i = true → Issued s (.vcsFmaS i
    rd ra rb rc) i ({ cls := 1, lat := 4, reads := [regG ra, regG rb, regG rc], writes := [regG rd] }) [.g rd (BitVec.ofNat 64 (fpFma
    ((s.dev.unit i).fr ra) ((s.dev.unit i).fr rb) ((s.dev.unit i).fr rc)).1)] (fl := (Nat.lor · (fpFma ((s.dev.unit i).fr ra) ((s.dev.unit
    i).fr rb) ((s.dev.unit i).fr rc)).2))) ∧
  (∀ (s : State) (i : Issue) (rd ra rb rc : Fin 32), s.dev.issues i
    ({ cls := 1, lat := 4, reads := [regG ra, regG rb, regG rc], writes := [regG rd] }) → s.dev.predicated i = true → Issued s (.vcsFmsS i
    rd ra rb rc) i ({ cls := 1, lat := 4, reads := [regG ra, regG rb, regG rc], writes := [regG rd] }) [.g rd (BitVec.ofNat 64 (fpFma
    ((s.dev.unit i).fr ra) ((s.dev.unit i).fr rb) (fpNeg ((s.dev.unit i).fr rc))).1)] (fl := (Nat.lor · (fpFma ((s.dev.unit i).fr ra)
    ((s.dev.unit i).fr rb) (fpNeg ((s.dev.unit i).fr rc))).2))) ∧
  (∀ (s : State) (i : Issue) (rd ra rb rc : Fin 32), s.dev.issues i
    ({ cls := 1, lat := 4, reads := [regG ra, regG rb, regG rc], writes := [regG rd] }) → s.dev.predicated i = true → Issued s (.vcsFnmaS i
    rd ra rb rc) i ({ cls := 1, lat := 4, reads := [regG ra, regG rb, regG rc], writes := [regG rd] }) [.g rd (BitVec.ofNat 64 (fpFma
    (fpNeg ((s.dev.unit i).fr ra)) ((s.dev.unit i).fr rb) ((s.dev.unit i).fr rc)).1)] (fl := (Nat.lor · (fpFma (fpNeg ((s.dev.unit i).fr
    ra)) ((s.dev.unit i).fr rb) ((s.dev.unit i).fr rc)).2))) ∧
  (∀ (s : State) (i : Issue) (rd ra rb rc : Fin 32), s.dev.issues i
    ({ cls := 1, lat := 4, reads := [regG ra, regG rb, regG rc], writes := [regG rd] }) → s.dev.predicated i = true → Issued s (.vcsFnmsS i
    rd ra rb rc) i ({ cls := 1, lat := 4, reads := [regG ra, regG rb, regG rc], writes := [regG rd] }) [.g rd (BitVec.ofNat 64 (fpFma
    (fpNeg ((s.dev.unit i).fr ra)) ((s.dev.unit i).fr rb) (fpNeg ((s.dev.unit i).fr rc))).1)] (fl := (Nat.lor · (fpFma (fpNeg ((s.dev.unit
    i).fr ra)) ((s.dev.unit i).fr rb) (fpNeg ((s.dev.unit i).fr rc))).2))) ∧
  (∀ (s : State) (i : Issue) (rd ra rb : Fin 32), s.dev.issues i
    ({ cls := 1, lat := 18, reads := [regG ra, regG rb], writes := [regG rd], div := true }) → s.dev.predicated i = true → Issued s
    (.vcsFdivS i rd ra rb) i ({ cls := 1, lat := 18, reads := [regG ra, regG rb], writes := [regG rd], div := true }) [.g rd (BitVec.ofNat
    64 (fpDiv ((s.dev.unit i).fr ra) ((s.dev.unit i).fr rb)).1)] (fl := (Nat.lor · (fpDiv ((s.dev.unit i).fr ra) ((s.dev.unit i).fr
    rb)).2))) ∧
  (∀ (s : State) (i : Issue) (rd ra : Fin 32), s.dev.issues i
    ({ cls := 1, lat := 20, reads := [regG ra], writes := [regG rd], div := true }) → s.dev.predicated i = true → Issued s (.vcsFsqrtS i rd
    ra) i ({ cls := 1, lat := 20, reads := [regG ra], writes := [regG rd], div := true }) [.g rd (BitVec.ofNat 64 (fpSqrt ((s.dev.unit
    i).fr ra)).1)] (fl := (Nat.lor · (fpSqrt ((s.dev.unit i).fr ra)).2))) ∧
  (∀ (s : State) (i : Issue) (pd : Fin 8) (ra rb : Fin 32), s.dev.issues i
    ({ cls := 1, lat := 2, reads := [regG ra, regG rb], writes := [regP pd] }) → s.dev.predicated i = true → Issued s (.vcsFcmpEqS i pd ra
    rb) i ({ cls := 1, lat := 2, reads := [regG ra, regG rb], writes := [regP pd] }) [.p pd (fpEq ((s.dev.unit i).fr ra) ((s.dev.unit i).fr
    rb))] (fl := (Nat.lor · (fpSNaNFlag ((s.dev.unit i).fr ra) ((s.dev.unit i).fr rb))))) ∧
  (∀ (s : State) (i : Issue) (pd : Fin 8) (ra rb : Fin 32), s.dev.issues i
    ({ cls := 1, lat := 2, reads := [regG ra, regG rb], writes := [regP pd] }) → s.dev.predicated i = true → Issued s (.vcsFcmpLtS i pd ra
    rb) i ({ cls := 1, lat := 2, reads := [regG ra, regG rb], writes := [regP pd] }) [.p pd (fpLt ((s.dev.unit i).fr ra) ((s.dev.unit i).fr
    rb))] (fl := (Nat.lor · (flagIf (fpIsNaN ((s.dev.unit i).fr ra) || fpIsNaN ((s.dev.unit i).fr rb)) flagNV)))) ∧
  (∀ (s : State) (i : Issue) (pd : Fin 8) (ra rb : Fin 32), s.dev.issues i
    ({ cls := 1, lat := 2, reads := [regG ra, regG rb], writes := [regP pd] }) → s.dev.predicated i = true → Issued s (.vcsFcmpLeS i pd ra
    rb) i ({ cls := 1, lat := 2, reads := [regG ra, regG rb], writes := [regP pd] }) [.p pd (fpLe ((s.dev.unit i).fr ra) ((s.dev.unit i).fr
    rb))] (fl := (Nat.lor · (flagIf (fpIsNaN ((s.dev.unit i).fr ra) || fpIsNaN ((s.dev.unit i).fr rb)) flagNV)))) ∧
  (∀ (s : State) (i : Issue) (pd : Fin 8) (ra rb : Fin 32), s.dev.issues i
    ({ cls := 1, lat := 2, reads := [regG ra, regG rb], writes := [regP pd] }) → s.dev.predicated i = true → Issued s (.vcsFcmpUnS i pd ra
    rb) i ({ cls := 1, lat := 2, reads := [regG ra, regG rb], writes := [regP pd] }) [.p pd (fpIsNaN ((s.dev.unit i).fr ra) || fpIsNaN
    ((s.dev.unit i).fr rb))] (fl := (Nat.lor · (fpSNaNFlag ((s.dev.unit i).fr ra) ((s.dev.unit i).fr rb)))))

/-- What the vector and transform instructions compute: VADD to VIPARK (Table 3-10) complete: each lane of vd takes its lane result and the
  flags of the lanes join; VEXT and VMINH write rd; VSINCOS its angle; everything else keeps. It rests on R56, R62, R79, R80, R81. -/
def Obligations.VectorResults : Prop :=
  (∀ (s : State) (i : Issue) (vd va vb : Fin 16), s.dev.issues i ({ cls := 1, lat := 4, reads := [regV va, regV vb], writes := [regV vd] })
    → s.dev.predicated i = true → Issued s (.vcsVadd i vd va vb) i
    ({ cls := 1, lat := 4, reads := [regV va, regV vb], writes := [regV vd] }) [.v vd (ofLanes ((List.range 4).map fun k => (fpAdd (laneOf
    ((s.dev.unit i).vr va) k) (laneOf ((s.dev.unit i).vr vb) k)).1))] (fl := (Nat.lor · (((List.range 4).map fun k => (fpAdd (laneOf
    ((s.dev.unit i).vr va) k) (laneOf ((s.dev.unit i).vr vb) k)).2).foldl Nat.lor 0)))) ∧
  (∀ (s : State) (i : Issue) (vd va vb : Fin 16), s.dev.issues i ({ cls := 1, lat := 4, reads := [regV va, regV vb], writes := [regV vd] })
    → s.dev.predicated i = true → Issued s (.vcsVsub i vd va vb) i
    ({ cls := 1, lat := 4, reads := [regV va, regV vb], writes := [regV vd] }) [.v vd (ofLanes ((List.range 4).map fun k => (fpSub (laneOf
    ((s.dev.unit i).vr va) k) (laneOf ((s.dev.unit i).vr vb) k)).1))] (fl := (Nat.lor · (((List.range 4).map fun k => (fpSub (laneOf
    ((s.dev.unit i).vr va) k) (laneOf ((s.dev.unit i).vr vb) k)).2).foldl Nat.lor 0)))) ∧
  (∀ (s : State) (i : Issue) (vd va vb : Fin 16), s.dev.issues i ({ cls := 1, lat := 4, reads := [regV va, regV vb], writes := [regV vd] })
    → s.dev.predicated i = true → Issued s (.vcsVmul i vd va vb) i
    ({ cls := 1, lat := 4, reads := [regV va, regV vb], writes := [regV vd] }) [.v vd (ofLanes ((List.range 4).map fun k => (fpMul (laneOf
    ((s.dev.unit i).vr va) k) (laneOf ((s.dev.unit i).vr vb) k)).1))] (fl := (Nat.lor · (((List.range 4).map fun k => (fpMul (laneOf
    ((s.dev.unit i).vr va) k) (laneOf ((s.dev.unit i).vr vb) k)).2).foldl Nat.lor 0)))) ∧
  (∀ (s : State) (i : Issue) (vd va vb : Fin 16), s.dev.issues i ({ cls := 1, lat := 2, reads := [regV va, regV vb], writes := [regV vd] })
    → s.dev.predicated i = true → Issued s (.vcsVmin i vd va vb) i
    ({ cls := 1, lat := 2, reads := [regV va, regV vb], writes := [regV vd] }) [.v vd (ofLanes ((List.range 4).map fun k => (fpMin (laneOf
    ((s.dev.unit i).vr va) k) (laneOf ((s.dev.unit i).vr vb) k)).1))] (fl := (Nat.lor · (((List.range 4).map fun k => (fpMin (laneOf
    ((s.dev.unit i).vr va) k) (laneOf ((s.dev.unit i).vr vb) k)).2).foldl Nat.lor 0)))) ∧
  (∀ (s : State) (i : Issue) (vd va vb : Fin 16), s.dev.issues i ({ cls := 1, lat := 2, reads := [regV va, regV vb], writes := [regV vd] })
    → s.dev.predicated i = true → Issued s (.vcsVmax i vd va vb) i
    ({ cls := 1, lat := 2, reads := [regV va, regV vb], writes := [regV vd] }) [.v vd (ofLanes ((List.range 4).map fun k => (fpMax (laneOf
    ((s.dev.unit i).vr va) k) (laneOf ((s.dev.unit i).vr vb) k)).1))] (fl := (Nat.lor · (((List.range 4).map fun k => (fpMax (laneOf
    ((s.dev.unit i).vr va) k) (laneOf ((s.dev.unit i).vr vb) k)).2).foldl Nat.lor 0)))) ∧
  (∀ (s : State) (i : Issue) (vd va vb vc : Fin 16), s.dev.issues i
    ({ cls := 1, lat := 4, reads := [regV va, regV vb, regV vc], writes := [regV vd] }) → s.dev.predicated i = true → Issued s (.vcsVfma i
    vd va vb vc) i ({ cls := 1, lat := 4, reads := [regV va, regV vb, regV vc], writes := [regV vd] }) [.v vd (ofLanes ((List.range 4).map
    fun k => (fpFma (laneOf ((s.dev.unit i).vr va) k) (laneOf ((s.dev.unit i).vr vb) k) (laneOf ((s.dev.unit i).vr vc) k)).1))] (fl :=
    (Nat.lor · (((List.range 4).map fun k => (fpFma (laneOf ((s.dev.unit i).vr va) k) (laneOf ((s.dev.unit i).vr vb) k) (laneOf
    ((s.dev.unit i).vr vc) k)).2).foldl Nat.lor 0)))) ∧
  (∀ (s : State) (i : Issue) (vd va vb : Fin 16), s.dev.issues i
    ({ cls := 1, lat := 4, reads := [regV va, regV vb, regV vd], writes := [regV vd] }) → s.dev.predicated i = true → Issued s (.vcsVmac i
    vd va vb) i ({ cls := 1, lat := 4, reads := [regV va, regV vb, regV vd], writes := [regV vd] }) [.v vd (ofLanes ((List.range 4).map fun
    k => (fpFma (laneOf ((s.dev.unit i).vr va) k) (laneOf ((s.dev.unit i).vr vb) k) (laneOf ((s.dev.unit i).vr vd) k)).1))] (fl := (Nat.lor
    · (((List.range 4).map fun k => (fpFma (laneOf ((s.dev.unit i).vr va) k) (laneOf ((s.dev.unit i).vr vb) k) (laneOf ((s.dev.unit i).vr
    vd) k)).2).foldl Nat.lor 0)))) ∧
  (∀ (s : State) (i : Issue) (vd va : Fin 16), s.dev.issues i ({ cls := 1, lat := 2, reads := [regV va], writes := [regV vd] }) →
    s.dev.predicated i = true → Issued s (.vcsVabs i vd va) i ({ cls := 1, lat := 2, reads := [regV va], writes := [regV vd] }) [.v vd
    (ofLanes ((List.range 4).map fun k => (((fpAbs (laneOf ((s.dev.unit i).vr va) k), 0) : Nat × Nat)).1))] (fl := (Nat.lor · (((List.range
    4).map fun k => (((fpAbs (laneOf ((s.dev.unit i).vr va) k), 0) : Nat × Nat)).2).foldl Nat.lor 0)))) ∧
  (∀ (s : State) (i : Issue) (vd va : Fin 16), s.dev.issues i ({ cls := 1, lat := 2, reads := [regV va], writes := [regV vd] }) →
    s.dev.predicated i = true → Issued s (.vcsVneg i vd va) i ({ cls := 1, lat := 2, reads := [regV va], writes := [regV vd] }) [.v vd
    (ofLanes ((List.range 4).map fun k => (((fpNeg (laneOf ((s.dev.unit i).vr va) k), 0) : Nat × Nat)).1))] (fl := (Nat.lor · (((List.range
    4).map fun k => (((fpNeg (laneOf ((s.dev.unit i).vr va) k), 0) : Nat × Nat)).2).foldl Nat.lor 0)))) ∧
  (∀ (s : State) (i : Issue) (vd va vb vc : Fin 16), s.dev.issues i
    ({ cls := 1, lat := 2, reads := [regV va, regV vb, regV vc], writes := [regV vd] }) → s.dev.predicated i = true → Issued s (.vcsVclamp
    i vd va vb vc) i ({ cls := 1, lat := 2, reads := [regV va, regV vb, regV vc], writes := [regV vd] }) [.v vd (ofLanes ((List.range
    4).map fun k => (fpClamp (laneOf ((s.dev.unit i).vr va) k) (laneOf ((s.dev.unit i).vr vb) k) (laneOf ((s.dev.unit i).vr vc) k)).1))]
    (fl := (Nat.lor · (((List.range 4).map fun k => (fpClamp (laneOf ((s.dev.unit i).vr va) k) (laneOf ((s.dev.unit i).vr vb) k) (laneOf
    ((s.dev.unit i).vr vc) k)).2).foldl Nat.lor 0)))) ∧
  (∀ (s : State) (i : Issue) (vd va : Fin 16) (imm : BitVec 8), s.dev.issues i
    ({ cls := 1, lat := 2, reads := [regV va], writes := [regV vd] }) → s.dev.predicated i = true → Issued s (.vcsVperm i vd va imm) i
    ({ cls := 1, lat := 2, reads := [regV va], writes := [regV vd] }) [.v vd (ofLanes ((List.range 4).map fun k => (((laneOf ((s.dev.unit
    i).vr va) (bitsOf imm.toNat (2 * k + 1) (2 * k)), 0) : Nat × Nat)).1))] (fl := (Nat.lor · (((List.range 4).map fun k => (((laneOf
    ((s.dev.unit i).vr va) (bitsOf imm.toNat (2 * k + 1) (2 * k)), 0) : Nat × Nat)).2).foldl Nat.lor 0)))) ∧
  (∀ (s : State) (i : Issue) (vd : Fin 16) (ga : Fin 32), s.dev.issues i ({ cls := 1, lat := 2, reads := [regG ga], writes := [regV vd] })
    → s.dev.predicated i = true → Issued s (.vcsVsplat i vd ga) i ({ cls := 1, lat := 2, reads := [regG ga], writes := [regV vd] }) [.v vd
    (ofLanes ((List.range 4).map fun k => ((((s.dev.unit i).fr ga, 0) : Nat × Nat)).1))] (fl := (Nat.lor · (((List.range 4).map fun k =>
    ((((s.dev.unit i).fr ga, 0) : Nat × Nat)).2).foldl Nat.lor 0)))) ∧
  (∀ (s : State) (i : Issue) (vd : Fin 16) (ga : Fin 32) (lane : Fin 4), s.dev.issues i
    ({ cls := 1, lat := 2, reads := [regV vd, regG ga], writes := [regV vd] }) → s.dev.predicated i = true → Issued s (.vcsVins i vd ga
    lane) i ({ cls := 1, lat := 2, reads := [regV vd, regG ga], writes := [regV vd] }) [.v vd (ofLanes ((List.range 4).map fun k => (((if k
    = lane.val then (s.dev.unit i).fr ga else (laneOf ((s.dev.unit i).vr vd) k), 0) : Nat × Nat)).1))] (fl := (Nat.lor · (((List.range
    4).map fun k => (((if k = lane.val then (s.dev.unit i).fr ga else (laneOf ((s.dev.unit i).vr vd) k), 0) : Nat × Nat)).2).foldl Nat.lor
    0)))) ∧
  (∀ (s : State) (i : Issue) (vd : Fin 16) (ga : Fin 32), s.dev.issues i ({ cls := 1, lat := 6, reads := [regG ga], writes := [regV vd] })
    → s.dev.predicated i = true → Issued s (.vcsVsincos i vd ga) i ({ cls := 1, lat := 6, reads := [regG ga], writes := [regV vd] }) [.v vd
    (ofLanes ((List.range 4).map fun k => (((sincos (((s.dev.unit i).gr ga).setWidth 32) k, 0) : Nat × Nat)).1))] (fl := (Nat.lor ·
    (((List.range 4).map fun k => (((sincos (((s.dev.unit i).gr ga).setWidth 32) k, 0) : Nat × Nat)).2).foldl Nat.lor 0)))) ∧
  (∀ (s : State) (i : Issue) (rd : Fin 32) (va : Fin 16) (lane : Fin 4), s.dev.issues i
    ({ cls := 1, lat := 2, reads := [regV va], writes := [regG rd] }) → s.dev.predicated i = true → Issued s (.vcsVext i rd va lane) i
    ({ cls := 1, lat := 2, reads := [regV va], writes := [regG rd] }) [.g rd (BitVec.ofNat 64 (laneOf ((s.dev.unit i).vr va) lane.val))]
    (fl := (Nat.lor · 0))) ∧
  (∀ (s : State) (i : Issue) (rd : Fin 32) (va : Fin 16), s.dev.issues i ({ cls := 1, lat := 2, reads := [regV va], writes := [regG rd] })
    → s.dev.predicated i = true → Issued s (.vcsVminh i rd va) i ({ cls := 1, lat := 2, reads := [regV va], writes := [regG rd] }) [.g rd
    (BitVec.ofNat 64 (fpVminh ((s.dev.unit i).lanes va)).1)] (fl := (Nat.lor · (fpVminh ((s.dev.unit i).lanes va)).2))) ∧
  (∀ (s : State) (i : Issue) (vd va : Fin 16), s.dev.issues i ({ cls := 1, lat := 6, reads := [regV va], writes := [regV vd] }) →
    s.dev.predicated i = true → Issued s (.vcsVclarke i vd va) i ({ cls := 1, lat := 6, reads := [regV va], writes := [regV vd] }) [.v vd
    (ofLanes (fpClarke (laneOf ((s.dev.unit i).vr va) 0) (laneOf ((s.dev.unit i).vr va) 1) (laneOf ((s.dev.unit i).vr va) 2)).1)] (fl :=
    (Nat.lor · (fpClarke (laneOf ((s.dev.unit i).vr va) 0) (laneOf ((s.dev.unit i).vr va) 1) (laneOf ((s.dev.unit i).vr va) 2)).2))) ∧
  (∀ (s : State) (i : Issue) (vd va : Fin 16), s.dev.issues i ({ cls := 1, lat := 6, reads := [regV va], writes := [regV vd] }) →
    s.dev.predicated i = true → Issued s (.vcsViclarke i vd va) i ({ cls := 1, lat := 6, reads := [regV va], writes := [regV vd] }) [.v vd
    (ofLanes (fpIclarke (laneOf ((s.dev.unit i).vr va) 0) (laneOf ((s.dev.unit i).vr va) 1) (laneOf ((s.dev.unit i).vr va) 2)).1)] (fl :=
    (Nat.lor · (fpIclarke (laneOf ((s.dev.unit i).vr va) 0) (laneOf ((s.dev.unit i).vr va) 1) (laneOf ((s.dev.unit i).vr va) 2)).2))) ∧
  (∀ (s : State) (i : Issue) (vd va vb : Fin 16), s.dev.issues i ({ cls := 1, lat := 6, reads := [regV va, regV vb], writes := [regV vd] })
    → s.dev.predicated i = true → Issued s (.vcsVpark i vd va vb) i
    ({ cls := 1, lat := 6, reads := [regV va, regV vb], writes := [regV vd] }) [.v vd (ofLanes (fpPark (laneOf ((s.dev.unit i).vr va) 0)
    (laneOf ((s.dev.unit i).vr va) 1) (laneOf ((s.dev.unit i).vr vb) 0) (laneOf ((s.dev.unit i).vr vb) 1)).1)] (fl := (Nat.lor · (fpPark
    (laneOf ((s.dev.unit i).vr va) 0) (laneOf ((s.dev.unit i).vr va) 1) (laneOf ((s.dev.unit i).vr vb) 0) (laneOf ((s.dev.unit i).vr vb)
    1)).2))) ∧
  (∀ (s : State) (i : Issue) (vd va vb : Fin 16), s.dev.issues i ({ cls := 1, lat := 6, reads := [regV va, regV vb], writes := [regV vd] })
    → s.dev.predicated i = true → Issued s (.vcsVipark i vd va vb) i
    ({ cls := 1, lat := 6, reads := [regV va, regV vb], writes := [regV vd] }) [.v vd (ofLanes (fpIpark (laneOf ((s.dev.unit i).vr va) 2)
    (laneOf ((s.dev.unit i).vr va) 3) (laneOf ((s.dev.unit i).vr vb) 0) (laneOf ((s.dev.unit i).vr vb) 1)).1)] (fl := (Nat.lor · (fpIpark
    (laneOf ((s.dev.unit i).vr va) 2) (laneOf ((s.dev.unit i).vr va) 3) (laneOf ((s.dev.unit i).vr vb) 0) (laneOf ((s.dev.unit i).vr vb)
    1)).2)))

/-- What loads, stores and lookups do: LD, LD_W, LD_V, ST, ST_W, ST_V, LUT_I and LUT_B complete: an engine loads from its data SRAM and
  Ferryman from the system address, little-endian and zero-extended; a store writes its bytes there and no other byte; a lookup gives the
  value of its pseudocode. It rests on R82, R83, R84, R85, R86, R87, R88, R89. -/
def Obligations.LoadsAndStores : Prop :=
  (∀ (s : State) (i : Issue) (rd : Fin 32) (ra : Fin 32) (imm : BitVec 12) (k : Nat), s.dev.issues i
    ({ lat := 3, reads := [regG ra], writes := [regG rd], port := 1, safety := true }) → s.dev.predicated i = true → i.eng ≠ .ferryman → k
    = (s.dev.unit i).ea ra imm → k % 8 = 0 → k + 8 ≤ 0x20000 → s.dev.spanState (dataSram (Eng.index i.eng) + k) 8 ≤ 1 → Issued s (.vcsLd i
    rd ra imm) i ({ lat := 3, reads := [regG ra], writes := [regG rd], port := 1, safety := true }) [.g rd (BitVec.ofNat 64 (memNat s.mem
    (dataSram (Eng.index i.eng) + k) 8))] (fl := (Nat.lor · 0))) ∧
  (∀ (s : State) (i : Issue) (rd : Fin 32) (ra : Fin 32) (imm : BitVec 12) (k : Nat), s.dev.issues i
    ({ lat := 3, reads := [regG ra], writes := [regG rd], port := 1, safety := true }) → s.dev.predicated i = true → i.eng = .ferryman →
    s.dev.sys.cdReset = false → k = (s.dev.unit i).ea ra imm → k + 8 ≤ s.dev.dramEnd → k + 8 ≤ 0x1000000000 → s.dev.vcs.ferry.permits k 8 0
    = true → s.dev.spanState k 8 ≤ 1 → Issued s (.vcsLd i rd ra imm) i
    ({ lat := 3, reads := [regG ra], writes := [regG rd], port := 1, safety := true }) [.g rd (BitVec.ofNat 64 (memNat s.mem k 8))] (fl :=
    (Nat.lor · 0))) ∧
  (∀ (s : State) (i : Issue) (rd : Fin 32) (ra : Fin 32) (imm : BitVec 12) (k : Nat), s.dev.issues i
    ({ lat := 3, reads := [regG ra], writes := [regG rd], port := 1, safety := true }) → s.dev.predicated i = true → i.eng ≠ .ferryman → k
    = (s.dev.unit i).ea ra imm → k % 4 = 0 → k + 4 ≤ 0x20000 → s.dev.spanState (dataSram (Eng.index i.eng) + k) 4 ≤ 1 → Issued s (.vcsLdW i
    rd ra imm) i ({ lat := 3, reads := [regG ra], writes := [regG rd], port := 1, safety := true }) [.g rd (BitVec.ofNat 64 (memNat s.mem
    (dataSram (Eng.index i.eng) + k) 4))] (fl := (Nat.lor · 0))) ∧
  (∀ (s : State) (i : Issue) (rd : Fin 32) (ra : Fin 32) (imm : BitVec 12) (k : Nat), s.dev.issues i
    ({ lat := 3, reads := [regG ra], writes := [regG rd], port := 1, safety := true }) → s.dev.predicated i = true → i.eng = .ferryman →
    s.dev.sys.cdReset = false → k = (s.dev.unit i).ea ra imm → k + 4 ≤ s.dev.dramEnd → k + 4 ≤ 0x1000000000 → s.dev.vcs.ferry.permits k 4 0
    = true → s.dev.spanState k 4 ≤ 1 → Issued s (.vcsLdW i rd ra imm) i
    ({ lat := 3, reads := [regG ra], writes := [regG rd], port := 1, safety := true }) [.g rd (BitVec.ofNat 64 (memNat s.mem k 4))] (fl :=
    (Nat.lor · 0))) ∧
  (∀ (s : State) (i : Issue) (vd : Fin 16) (ra : Fin 32) (imm : BitVec 12) (k : Nat), s.dev.issues i
    ({ lat := 3, reads := [regG ra], writes := [regV vd], port := 1 }) → s.dev.predicated i = true → i.eng ≠ .ferryman → k = (s.dev.unit
    i).ea ra imm → k % 16 = 0 → k + 16 ≤ 0x20000 → s.dev.spanState (dataSram (Eng.index i.eng) + k) 16 ≤ 1 → Issued s (.vcsLdV i vd ra imm)
    i ({ lat := 3, reads := [regG ra], writes := [regV vd], port := 1 }) [.v vd (BitVec.ofNat 128 (memNat s.mem (dataSram (Eng.index i.eng)
    + k) 16))] (fl := (Nat.lor · 0))) ∧
  (∀ (s : State) (i : Issue) (vd : Fin 16) (ra : Fin 32) (imm : BitVec 12) (k : Nat), s.dev.issues i
    ({ lat := 3, reads := [regG ra], writes := [regV vd], port := 1 }) → s.dev.predicated i = true → i.eng = .ferryman → s.dev.sys.cdReset
    = false → k = (s.dev.unit i).ea ra imm → k + 16 ≤ s.dev.dramEnd → k + 16 ≤ 0x1000000000 → s.dev.vcs.ferry.permits k 16 0 = true →
    s.dev.spanState k 16 ≤ 1 → Issued s (.vcsLdV i vd ra imm) i ({ lat := 3, reads := [regG ra], writes := [regV vd], port := 1 }) [.v vd
    (BitVec.ofNat 128 (memNat s.mem k 16))] (fl := (Nat.lor · 0))) ∧
  (∀ (s : State) (i : Issue) (ra : Fin 32) (imm : BitVec 12) (k : Nat) (rs : Fin 32), s.dev.issues i
    ({ lat := 0, reads := [regG ra, regG rs], port := 1, safety := true }) → s.dev.predicated i = true → i.eng ≠ .ferryman → k =
    (s.dev.unit i).ea ra imm → k % 8 = 0 → k + 8 ≤ 0x20000 → (8 = 4 → s.dev.wordState (dataSram (Eng.index i.eng) + k) ≤ 1) → Issued s
    (.vcsSt i ra imm rs) i ({ lat := 0, reads := [regG ra, regG rs], port := 1, safety := true }) [] (fl := (Nat.lor · 0)) (w :=
    { parts := [.eccm] }) (P := fun t => (memBytes t.mem (dataSram (Eng.index i.eng) + k) 8 = leBytes 8 ((s.dev.unit i).gr rs).toNat) ∧ (∀
    u, u < dataSram (Eng.index i.eng) + k ∨ dataSram (Eng.index i.eng) + k + 8 ≤ u → memByte t.mem u = memByte s.mem u))) ∧
  (∀ (s : State) (i : Issue) (ra : Fin 32) (imm : BitVec 12) (k : Nat) (rs : Fin 32), s.dev.issues i
    ({ lat := 0, reads := [regG ra, regG rs], port := 1, safety := true }) → s.dev.predicated i = true → i.eng = .ferryman →
    s.dev.sys.cdReset = false → k = (s.dev.unit i).ea ra imm → k % 8 = 0 → k + 8 ≤ s.dev.dramEnd → k + 8 ≤ 0x1000000000 →
    s.dev.vcs.ferry.permits k 8 1 = true → s.dev.timetabled = false → s.dev.on .GWY_BENCH_ON = false → (8 = 4 → s.dev.wordState k ≤ 1) →
    Issued s (.vcsSt i ra imm rs) i ({ lat := 0, reads := [regG ra, regG rs], port := 1, safety := true }) [] (fl := (Nat.lor · 0)) (w :=
    { parts := [.eccm] }) (P := fun t => (memBytes t.mem (k) 8 = leBytes 8 ((s.dev.unit i).gr rs).toNat) ∧ (∀ u, u < k ∨ k + 8 ≤ u →
    memByte t.mem u = memByte s.mem u))) ∧
  (∀ (s : State) (i : Issue) (ra : Fin 32) (imm : BitVec 12) (k : Nat) (rs : Fin 32), s.dev.issues i
    ({ lat := 0, reads := [regG ra, regG rs], port := 3, safety := true }) → s.dev.predicated i = true → i.eng ≠ .ferryman → k =
    (s.dev.unit i).ea ra imm → k % 4 = 0 → k + 4 ≤ 0x20000 → (4 = 4 → s.dev.wordState (dataSram (Eng.index i.eng) + k) ≤ 1) → Issued s
    (.vcsStW i ra imm rs) i ({ lat := 0, reads := [regG ra, regG rs], port := 3, safety := true }) [] (fl := (Nat.lor · 0)) (w :=
    { parts := [.eccm] }) (P := fun t => (memBytes t.mem (dataSram (Eng.index i.eng) + k) 4 = leBytes 4 ((s.dev.unit i).gr rs).toNat) ∧ (∀
    u, u < dataSram (Eng.index i.eng) + k ∨ dataSram (Eng.index i.eng) + k + 4 ≤ u → memByte t.mem u = memByte s.mem u))) ∧
  (∀ (s : State) (i : Issue) (ra : Fin 32) (imm : BitVec 12) (k : Nat) (rs : Fin 32), s.dev.issues i
    ({ lat := 0, reads := [regG ra, regG rs], port := 3, safety := true }) → s.dev.predicated i = true → i.eng = .ferryman →
    s.dev.sys.cdReset = false → k = (s.dev.unit i).ea ra imm → k % 4 = 0 → k + 4 ≤ s.dev.dramEnd → k + 4 ≤ 0x1000000000 →
    s.dev.vcs.ferry.permits k 4 1 = true → s.dev.timetabled = false → s.dev.on .GWY_BENCH_ON = false → (4 = 4 → s.dev.wordState k ≤ 1) →
    Issued s (.vcsStW i ra imm rs) i ({ lat := 0, reads := [regG ra, regG rs], port := 3, safety := true }) [] (fl := (Nat.lor · 0)) (w :=
    { parts := [.eccm] }) (P := fun t => (memBytes t.mem (k) 4 = leBytes 4 ((s.dev.unit i).gr rs).toNat) ∧ (∀ u, u < k ∨ k + 4 ≤ u →
    memByte t.mem u = memByte s.mem u))) ∧
  (∀ (s : State) (i : Issue) (ra : Fin 32) (imm : BitVec 12) (k : Nat) (vs : Fin 16), s.dev.issues i
    ({ lat := 0, reads := [regG ra, regV vs], port := 1 }) → s.dev.predicated i = true → i.eng ≠ .ferryman → k = (s.dev.unit i).ea ra imm →
    k % 16 = 0 → k + 16 ≤ 0x20000 → (16 = 4 → s.dev.wordState (dataSram (Eng.index i.eng) + k) ≤ 1) → Issued s (.vcsStV i ra imm vs) i
    ({ lat := 0, reads := [regG ra, regV vs], port := 1 }) [] (fl := (Nat.lor · 0)) (w := { parts := [.eccm] }) (P := fun t => (memBytes
    t.mem (dataSram (Eng.index i.eng) + k) 16 = leBytes 16 ((s.dev.unit i).vr vs).toNat) ∧ (∀ u, u < dataSram (Eng.index i.eng) + k ∨
    dataSram (Eng.index i.eng) + k + 16 ≤ u → memByte t.mem u = memByte s.mem u))) ∧
  (∀ (s : State) (i : Issue) (ra : Fin 32) (imm : BitVec 12) (k : Nat) (vs : Fin 16), s.dev.issues i
    ({ lat := 0, reads := [regG ra, regV vs], port := 1 }) → s.dev.predicated i = true → i.eng = .ferryman → s.dev.sys.cdReset = false → k
    = (s.dev.unit i).ea ra imm → k % 16 = 0 → k + 16 ≤ s.dev.dramEnd → k + 16 ≤ 0x1000000000 → s.dev.vcs.ferry.permits k 16 1 = true →
    s.dev.timetabled = false → s.dev.on .GWY_BENCH_ON = false → (16 = 4 → s.dev.wordState k ≤ 1) → Issued s (.vcsStV i ra imm vs) i
    ({ lat := 0, reads := [regG ra, regV vs], port := 1 }) [] (fl := (Nat.lor · 0)) (w := { parts := [.eccm] }) (P := fun t => (memBytes
    t.mem (k) 16 = leBytes 16 ((s.dev.unit i).vr vs).toNat) ∧ (∀ u, u < k ∨ k + 16 ≤ u → memByte t.mem u = memByte s.mem u))) ∧
  (∀ (s : State) (i : Issue) (rd ra rb : Fin 32) (k : Nat), s.dev.issues i
    ({ cls := 1, lat := 6, reads := [regG ra, regG rb], writes := [regG rd], lookup := true, port := 1 }) → s.dev.predicated i = true →
    i.eng ≠ .ferryman → k = ((s.dev.unit i).gr rb).toNat → k % 16 = 0 → 2 ≤ memNat s.mem (dataSram (Eng.index i.eng) + k) 2 → memNat s.mem
    (dataSram (Eng.index i.eng) + k) 2 ≤ 1024 → (∀ u ∈ lutIReads (fun n a => memNat s.mem (dataSram (Eng.index i.eng) + a) n) ((s.dev.unit
    i).fr ra) k, s.dev.wordState (dataSram (Eng.index i.eng) + u) ≤ 1) → k + (16 + 4 * memNat s.mem (dataSram (Eng.index i.eng) + k) 2) ≤
    0x20000 → Issued s (.vcsLutI i rd ra rb) i
    ({ cls := 1, lat := 6, reads := [regG ra, regG rb], writes := [regG rd], lookup := true, port := 1 }) [.g rd (BitVec.ofNat 64 (fpLutI
    (fun n a => memNat s.mem (dataSram (Eng.index i.eng) + a) n) ((s.dev.unit i).fr ra) k).1)] (fl := (Nat.lor · (fpLutI (fun n a => memNat
    s.mem (dataSram (Eng.index i.eng) + a) n) ((s.dev.unit i).fr ra) k).2))) ∧
  (∀ (s : State) (i : Issue) (rd ra rb : Fin 32) (k : Nat), s.dev.issues i
    ({ cls := 1, lat := 6, reads := [regG ra, regG rb], writes := [regG rd], lookup := true, port := 1 }) → s.dev.predicated i = true →
    i.eng = .ferryman → k = ((s.dev.unit i).gr rb).toNat → k % 16 = 0 → 2 ≤ memNat s.mem (ferrymanSram + k) 2 → memNat s.mem (ferrymanSram
    + k) 2 ≤ 1024 → (∀ u ∈ lutIReads (fun n a => memNat s.mem (ferrymanSram + a) n) ((s.dev.unit i).fr ra) k, s.dev.wordState (ferrymanSram
    + u) ≤ 1) → k + (16 + 4 * memNat s.mem (ferrymanSram + k) 2) ≤ 0x20000 → s.dev.vcs.ferry.permits (ferrymanSram + k) (16 + 4 * memNat
    s.mem (ferrymanSram + k) 2) 0 = true → Issued s (.vcsLutI i rd ra rb) i
    ({ cls := 1, lat := 6, reads := [regG ra, regG rb], writes := [regG rd], lookup := true, port := 1 }) [.g rd (BitVec.ofNat 64 (fpLutI
    (fun n a => memNat s.mem (ferrymanSram + a) n) ((s.dev.unit i).fr ra) k).1)] (fl := (Nat.lor · (fpLutI (fun n a => memNat s.mem
    (ferrymanSram + a) n) ((s.dev.unit i).fr ra) k).2))) ∧
  (∀ (s : State) (i : Issue) (rd ra rb : Fin 32) (k : Nat), s.dev.issues i
    ({ cls := 1, lat := 6, reads := [regG ra, regG rb], writes := [regG rd], lookup := true, port := 1 }) → s.dev.predicated i = true →
    i.eng ≠ .ferryman → k = ((s.dev.unit i).gr rb).toNat → k % 16 = 0 → 2 ≤ memNat s.mem (dataSram (Eng.index i.eng) + k) 2 → memNat s.mem
    (dataSram (Eng.index i.eng) + k) 2 ≤ 32 → (∀ u ∈ lutBReads (fun n a => memNat s.mem (dataSram (Eng.index i.eng) + a) n) ((s.dev.unit
    i).fr ra) k, s.dev.wordState (dataSram (Eng.index i.eng) + u) ≤ 1) → k + (12 * memNat s.mem (dataSram (Eng.index i.eng) + k) 2 + 4) ≤
    0x20000 → Issued s (.vcsLutB i rd ra rb) i
    ({ cls := 1, lat := 6, reads := [regG ra, regG rb], writes := [regG rd], lookup := true, port := 1 }) [.g rd (BitVec.ofNat 64 (fpLutB
    (fun n a => memNat s.mem (dataSram (Eng.index i.eng) + a) n) ((s.dev.unit i).fr ra) k).1)] (fl := (Nat.lor · (fpLutB (fun n a => memNat
    s.mem (dataSram (Eng.index i.eng) + a) n) ((s.dev.unit i).fr ra) k).2))) ∧
  (∀ (s : State) (i : Issue) (rd ra rb : Fin 32) (k : Nat), s.dev.issues i
    ({ cls := 1, lat := 6, reads := [regG ra, regG rb], writes := [regG rd], lookup := true, port := 1 }) → s.dev.predicated i = true →
    i.eng = .ferryman → k = ((s.dev.unit i).gr rb).toNat → k % 16 = 0 → 2 ≤ memNat s.mem (ferrymanSram + k) 2 → memNat s.mem (ferrymanSram
    + k) 2 ≤ 32 → (∀ u ∈ lutBReads (fun n a => memNat s.mem (ferrymanSram + a) n) ((s.dev.unit i).fr ra) k, s.dev.wordState (ferrymanSram +
    u) ≤ 1) → k + (12 * memNat s.mem (ferrymanSram + k) 2 + 4) ≤ 0x20000 → s.dev.vcs.ferry.permits (ferrymanSram + k) (12 * memNat s.mem
    (ferrymanSram + k) 2 + 4) 0 = true → Issued s (.vcsLutB i rd ra rb) i
    ({ cls := 1, lat := 6, reads := [regG ra, regG rb], writes := [regG rd], lookup := true, port := 1 }) [.g rd (BitVec.ofNat 64 (fpLutB
    (fun n a => memNat s.mem (ferrymanSram + a) n) ((s.dev.unit i).fr ra) k).1)] (fl := (Nat.lor · (fpLutB (fun n a => memNat s.mem
    (ferrymanSram + a) n) ((s.dev.unit i).fr ra) k).2)))

/-- What inputs, outputs and live-line accesses do: IN, IN_V, OUT, NLD, NLD_V, NST and NST_V complete: IN gives the boarded item, OUT
  stages one item for the activation, NLD reads the line in its berth, NST holds the bytes in the activation; no byte of memory changes. It
  rests on R90, R91, R93, R96, R97, R98. -/
def Obligations.BoardedAndLiveLineResults : Prop :=
  (∀ (s : State) (i : Issue) (rd : Fin 32) (u : BitVec 8) (ra : Fin 32) (q : SetEntry), s.dev.issues i
    ({ lat := 3, reads := [regG ra], writes := [regG rd], safety := true, management := false }) → s.dev.predicated i = true →
    ((s.dev.inputs (Eng.index i.eng)).drop u.toNat).head? = some q → ((s.dev.unit i).gr ra).toNat < q.count → s.dev.itemState q
    ((s.dev.unit i).gr ra).toNat ≤ 1 → Issued s (.vcsIn i rd u ra) i
    ({ lat := 3, reads := [regG ra], writes := [regG rd], safety := true, management := false }) [.g rd (s.dev.vcs.boarded.at 0 (boardKey
    q.cls (q.first + ((s.dev.unit i).gr ra).toNat)))] (fl := (Nat.lor · 0))) ∧
  (∀ (s : State) (i : Issue) (vd : Fin 16) (u : BitVec 8) (ra : Fin 32) (q : SetEntry), s.dev.issues i
    ({ lat := 3, reads := [regG ra], writes := [regV vd], management := false }) → s.dev.predicated i = true → ((s.dev.inputs (Eng.index
    i.eng)).drop u.toNat).head? = some q → ((s.dev.unit i).gr ra).toNat < q.count → (∀ j, j < 4 → ((s.dev.unit i).gr ra).toNat + j <
    q.count → s.dev.itemState q (((s.dev.unit i).gr ra).toNat + j) ≤ 1) → Issued s (.vcsInV i vd u ra) i
    ({ lat := 3, reads := [regG ra], writes := [regV vd], management := false }) [.v vd (ofLanes ((List.range 4).map fun k => if
    ((s.dev.unit i).gr ra).toNat + k < q.count then (s.dev.vcs.boarded.at 0 (boardKey q.cls (q.first + (((s.dev.unit i).gr ra).toNat +
    k)))).toNat % 2 ^ 32 else 0))] (fl := (Nat.lor · 0))) ∧
  (∀ (s : State) (i : Issue) (u : BitVec 8) (ra rs : Fin 32) (q : SetEntry), s.dev.issues i
    ({ lat := 0, reads := [regG ra, regG rs], safety := true, management := false }) → s.dev.predicated i = true → ((s.dev.outs (Eng.index
    i.eng)).drop u.toNat).head? = some q → q.cls ≠ 8 → q.cls ≠ 0x0A → ((s.dev.unit i).gr ra).toNat < q.count → Issued s (.vcsOut i u ra rs)
    i ({ lat := 0, reads := [regG ra, regG rs], safety := true, management := false }) [] (fl := (Nat.lor · 0)) (w := { parts := [.tt] })
    (P := fun t => (t.mem = s.mem) ∧ ((t.dev.tt.acts.at {} (s.dev.unit i).task) =
    { (s.dev.tt.acts.at {} (s.dev.unit i).task) with staged := ((s.dev.tt.acts.at {} (s.dev.unit i).task).staged.filter fun o => !(decide (o.cls = q.cls) && decide (o.item = q.first + ((s.dev.unit i).gr ra).toNat) && decide (o.word = 0))) ++ [{ cls := q.cls, item := q.first + ((s.dev.unit i).gr ra).toNat, word := 0, value := (s.dev.unit i).gr rs }] })
    ∧ (∀ k, k ≠ (s.dev.unit i).task → t.dev.tt.acts.at {} k = s.dev.tt.acts.at {} k))) ∧
  (∀ (s : State) (i : Issue) (u : BitVec 8) (ra rs : Fin 32) (q : SetEntry), s.dev.issues i
    ({ lat := 0, reads := [regG ra, regG rs], safety := true, management := false }) → s.dev.predicated i = true → ((s.dev.outs (Eng.index
    i.eng)).drop u.toNat).head? = some q → q.cls = 8 → ((s.dev.unit i).gr ra).toNat / 4 < q.count → Issued s (.vcsOut i u ra rs) i
    ({ lat := 0, reads := [regG ra, regG rs], safety := true, management := false }) [] (fl := (Nat.lor · 0)) (w := { parts := [.tt] }) (P
    := fun t => (t.mem = s.mem) ∧ ((t.dev.tt.acts.at {} (s.dev.unit i).task).staged.getLast? = some
    { cls := 8, item := q.first + ((s.dev.unit i).gr ra).toNat / 4, word := ((s.dev.unit i).gr ra).toNat % 4, value := (s.dev.unit i).gr rs })
    ∧ (∀ k, k ≠ (s.dev.unit i).task → t.dev.tt.acts.at {} k = s.dev.tt.acts.at {} k))) ∧
  (∀ (s : State) (i : Issue) (rd : Fin 32) (u : BitVec 8) (ra : Fin 32) (k : Nat) (l : Line), s.dev.issues i
    ({ lat := 8, reads := [regG ra], writes := [regG rd], management := false }) → s.dev.predicated i = true → k = ((s.dev.unit i).gr
    ra).toNat → u.toNat % 8 = 0 → k < s.dev.nodeCount → s.dev.nodeNamed (Eng.index i.eng) k = true → s.dev.usableLine k = some l →
    (s.dev.tt.acts.at {} (s.dev.unit i).task).stores = [] → s.dev.spanState (l.addr u.toNat) 8 ≤ 1 → Issued s (.vcsNld i rd u ra) i
    ({ lat := 8, reads := [regG ra], writes := [regG rd], management := false }) [.g rd (BitVec.ofNat 64 (memNat s.mem (l.addr u.toNat)
    8))] (fl := (Nat.lor · 0))) ∧
  (∀ (s : State) (i : Issue) (vd : Fin 16) (u : BitVec 8) (ra : Fin 32) (k : Nat) (l : Line), s.dev.issues i
    ({ lat := 8, reads := [regG ra], writes := [regV vd], management := false }) → s.dev.predicated i = true → k = ((s.dev.unit i).gr
    ra).toNat → u.toNat % 16 = 0 → k < s.dev.nodeCount → s.dev.nodeNamed (Eng.index i.eng) k = true → s.dev.usableLine k = some l →
    (s.dev.tt.acts.at {} (s.dev.unit i).task).stores = [] → s.dev.spanState (l.addr u.toNat) 16 ≤ 1 → Issued s (.vcsNldV i vd u ra) i
    ({ lat := 8, reads := [regG ra], writes := [regV vd], management := false }) [.v vd (BitVec.ofNat 128 (memNat s.mem (l.addr u.toNat)
    16))] (fl := (Nat.lor · 0))) ∧
  (∀ (s : State) (i : Issue) (u : BitVec 8) (ra : Fin 32) (k : Nat) (l : Line) (rs : Fin 32), s.dev.issues i
    ({ lat := 0, reads := [regG ra, regG rs], management := false }) → s.dev.predicated i = true → k = ((s.dev.unit i).gr ra).toNat →
    u.toNat % 8 = 0 → k < s.dev.nodeCount → s.dev.nodeNamed (Eng.index i.eng) k = true → s.dev.usableLine k = some l → s.dev.nodeWritten
    (Eng.index i.eng) k = true → s.dev.fieldNode k = false → Issued s (.vcsNst i u ra rs) i
    ({ lat := 0, reads := [regG ra, regG rs], management := false }) [] (fl := (Nat.lor · 0)) (w := { parts := [.tt] }) (P := fun t =>
    (t.mem = s.mem) ∧ ((t.dev.tt.acts.at {} (s.dev.unit i).task) =
    { (s.dev.tt.acts.at {} (s.dev.unit i).task) with stores := (s.dev.tt.acts.at {} (s.dev.unit i).task).stores ++ (List.range 8).map fun j => { node := k, off := u.toNat + j, val := (leBytes 8 ((s.dev.unit i).gr rs).toNat).getD j 0 } })
    ∧ (∀ j, j ≠ (s.dev.unit i).task → t.dev.tt.acts.at {} j = s.dev.tt.acts.at {} j))) ∧
  (∀ (s : State) (i : Issue) (u : BitVec 8) (ra : Fin 32) (k : Nat) (l : Line) (vs : Fin 16), s.dev.issues i
    ({ lat := 0, reads := [regG ra, regV vs], management := false }) → s.dev.predicated i = true → k = ((s.dev.unit i).gr ra).toNat →
    u.toNat % 16 = 0 → k < s.dev.nodeCount → s.dev.nodeNamed (Eng.index i.eng) k = true → s.dev.usableLine k = some l → s.dev.nodeWritten
    (Eng.index i.eng) k = true → s.dev.fieldNode k = false → Issued s (.vcsNstV i u ra vs) i
    ({ lat := 0, reads := [regG ra, regV vs], management := false }) [] (fl := (Nat.lor · 0)) (w := { parts := [.tt] }) (P := fun t =>
    (t.mem = s.mem) ∧ ((t.dev.tt.acts.at {} (s.dev.unit i).task) =
    { (s.dev.tt.acts.at {} (s.dev.unit i).task) with stores := (s.dev.tt.acts.at {} (s.dev.unit i).task).stores ++ (List.range 16).map fun j => { node := k, off := u.toNat + j, val := (leBytes 16 ((s.dev.unit i).vr vs).toNat).getD j 0 } })
    ∧ (∀ j, j ≠ (s.dev.unit i).task → t.dev.tt.acts.at {} j = s.dev.tt.acts.at {} j)))

/-- What segment ends, returns, waits and interrupt entries do: VCS_ENDF, VCS_HOLD, VCS_ERET, VCS_WFI, VCS_FENCE and INTERRUPT_ENTRY
  complete: endf ends a segment and with the last one the activation, hold discards what it staged, eret restores the saved mode and level,
  an interrupt entry saves pc, mode and level and goes to its vector. It rests on R47, R94, R95, R108, R109, R305. -/
def Obligations.SegmentEndsAndProcessor : Prop :=
  (∀ (s : State) (i : Issue) (q : Task), s.dev.issues i ({ lat := 0, safety := true, management := false }) → s.dev.predicated i = true →
    s.dev.taskOf (s.dev.unit i).task = some q → (s.dev.unit i).seg + 1 < q.segs → Issued s (.vcsEndf i) i
    ({ lat := 0, safety := true, management := false }) [] (fl := (Nat.lor · 0)) (w :=
    { flds := [.TTB_USE_LAST, .TTB_USE_MAXUSE, .TTB_USE_OVR, .TTB_TSK_CONSEC], blks := [.SE], parts := [.tt] }) (P := fun t => (t.mem =
    s.mem) ∧ ((t.dev.unit i).running = false) ∧ ((t.dev.tt.acts.at {} (s.dev.unit i).task) =
    { (s.dev.tt.acts.at {} (s.dev.unit i).task) with next := (s.dev.unit i).seg + 1, resume := (s.dev.unit i).pc + 4 }) ∧ (t.dev.tt.ended =
    s.dev.tt.ended))) ∧
  (∀ (s : State) (i : Issue) (q : Task), s.dev.issues i ({ lat := 0, safety := true, management := false }) → s.dev.predicated i = true →
    s.dev.taskOf (s.dev.unit i).task = some q → q.segs ≤ (s.dev.unit i).seg + 1 → s.dev.safetyTask (Eng.index i.eng) = false → Issued s
    (.vcsEndf i) i ({ lat := 0, safety := true, management := false }) [] (fl := (Nat.lor · 0)) (w :=
    { flds := [.TTB_USE_LAST, .TTB_USE_MAXUSE, .TTB_USE_OVR, .TTB_TSK_CONSEC], blks := [.SE], parts := [.tt] }) (P := fun t => (t.mem =
    s.mem) ∧ ((t.dev.unit i).running = false) ∧ ((t.dev.tt.acts.at {} (s.dev.unit i).task) = { idle := true }) ∧ (t.dev.tt.ended =
    s.dev.tt.ended ++ (s.dev.tt.acts.at {} (s.dev.unit i).task).staged) ∧ (t.dev.tt.endedStores = s.dev.tt.endedStores ++ (s.dev.tt.acts.at
    {} (s.dev.unit i).task).stores) ∧ (t.dev.rdAt .TTB_TSK_CONSEC (s.dev.unit i).task = 0) ∧ (t.dev.onAt .TTB_USE_OVR (s.dev.unit i).task =
    false))) ∧
  (∀ (s : State) (i : Issue) (q : Task), s.dev.issues i ({ lat := 0, safety := true, management := false }) → s.dev.predicated i = true →
    s.dev.taskOf (s.dev.unit i).task = some q → q.segs ≤ (s.dev.unit i).seg + 1 → i.eng = .se → s.dev.safetyTask 8 = true →
    s.dev.saf.pClear = false → s.dev.locked false = false → Issued s (.vcsEndf i) i ({ lat := 0, safety := true, management := false }) []
    (fl := (Nat.lor · 0)) (w := { flds := [.TTB_USE_LAST, .TTB_USE_MAXUSE, .TTB_USE_OVR, .TTB_TSK_CONSEC], blks := [.SE], parts := [.tt] })
    (P := fun t => (t.mem = s.mem) ∧ ((t.dev.unit i).running = false) ∧ (t.dev.saf.fxp = !s.dev.saf.fxp) ∧ (t.dev.saf.fxpWatch = true))) ∧
  (∀ (s : State) (i : Issue), s.dev.issues i ({ lat := 0, safety := true, management := false }) → s.dev.predicated i = true →
    s.dev.safetyTask (Eng.index i.eng) = false → Issued s (.vcsHold i) i ({ lat := 0, safety := true, management := false }) [] (fl :=
    (Nat.lor · 0)) (w := { flds := [.TTB_USE_LAST, .TTB_USE_MAXUSE, .TTB_USE_OVR, .TTB_TSK_CONSEC], blks := [.SE], parts := [.tt] }) (P :=
    fun t => (t.mem = s.mem) ∧ ((t.dev.unit i).running = false) ∧ ((t.dev.tt.acts.at {} (s.dev.unit i).task) = { idle := true }) ∧
    (t.dev.tt.ended = s.dev.tt.ended) ∧ (t.dev.tt.endedStores = s.dev.tt.endedStores ++ (s.dev.tt.acts.at {} (s.dev.unit i).task).stores) ∧
    (i.eng = .ce 7 → t.dev.rdAt .CE_HOLDCNT 7 = satAdd (2 ^ 32 - 1) (s.dev.rdAt .CE_HOLDCNT 7) 1))) ∧
  (∀ (s : State) (i : Issue), s.dev.issues i (opPriv) → s.dev.predicated i = true → s.dev.vcs.ferry.priv = true → i.eng = .ferryman →
    Issued s (.vcsEret i) i (opPriv) [] (fl := (Nat.lor · 0)) (nx := some s.dev.vcs.ferry.mepc) (fer := (fun f =>
    { f with mie := f.pmie, priv := f.ppriv, mlevel := if f.entries.headD false then f.plevel else f.mlevel, entries := f.entries.drop 1 }))) ∧
  (∀ (s : State) (i : Issue), s.dev.issues i (opPriv) → s.dev.predicated i = true → s.dev.vcs.ferry.priv = true → i.eng = .ferryman →
    Issued s (.vcsWfi i) i (opPriv) [] (fl := (Nat.lor · 0)) (fer := (fun f => { f with waiting := true }))) ∧
  (∀ (s : State) (i : Issue), s.dev.issues i (opPriv) → s.dev.predicated i = true → s.dev.vcs.ferry.priv = true → i.eng = .ferryman →
    Issued s (.vcsFence i) i (opPriv) [] (fl := (Nat.lor · 0))) ∧
  (∀ (s : State) (l : Nat), s.dev.mlowest = some l → s.dev.vcs.ferry.mie = true → s.dev.vcs.ferry.halted = false → Does s (.interruptEntry)
    { parts := [.vcs] } fun e => e.engine 10 = { s.dev.engine 10 with pc := s.dev.vcs.ferry.mvec + 0x40 * (l + 1) } ∧ e.vcs.ferry =
    { s.dev.vcs.ferry with mepc := (s.dev.engine 10).pc, mcause := 2 ^ 63 + l, pmie := true, ppriv := s.dev.vcs.ferry.priv, plevel := s.dev.vcs.ferry.mlevel, mie := false, priv := true, mlevel := l, entries := true :: s.dev.vcs.ferry.entries, waiting := false }
    ∧ e.vcs.queues = s.dev.vcs.queues ∧ e.vcs.boarded = s.dev.vcs.boarded ∧ (∀ n, n ≠ 10 → e.engine n = s.dev.engine n)) ∧
  (∀ (s : State), s.dev.mlowest = none ∨ s.dev.vcs.ferry.mie = false ∨ s.dev.vcs.ferry.halted = true → Does s (.interruptEntry) {} fun e =>
    True)

/-- What an instruction with a false predicate does, and where instructions trap: The words that the spec gives decode to their
  instructions and the reserved ones to none; with a false predicate an instruction only issues; one whose word is reserved or outside its
  profile, a privileged one in user mode and a misaligned access take the trap their rules name: recorded on a CE, which stops; entered on
  Ferryman. It rests on R57, R64, R65, R85, R86, R99, R100, R103, R106, R108. -/
def Obligations.PredicatedOffAndTraps : Prop :=
  (∀ (s : State) (i : Issue) (rd ra rb : Fin 32), s.dev.issues i (opABC rd ra rb 18 true) → s.dev.predicated i = false → Issued s (.vcsDiv
    i rd ra rb) i (opABC rd ra rb 18 true) []) ∧
  (∀ (s : State) (i : Issue) (pd : Fin 8) (ra rb : Fin 32), s.dev.issues i ({ reads := [ra, rb], writes := [regP pd], safety := true }) →
    s.dev.predicated i = false → Issued s (.vcsCmp i .eq pd ra rb) i ({ reads := [ra, rb], writes := [regP pd], safety := true }) []) ∧
  (∀ (s : State) (i : Issue) (rd ra : Fin 32), s.dev.issues i
    ({ cls := 1, lat := 20, reads := [regG ra], writes := [regG rd], div := true }) → s.dev.predicated i = false → Issued s (.vcsFsqrtS i
    rd ra) i ({ cls := 1, lat := 20, reads := [regG ra], writes := [regG rd], div := true }) []) ∧
  (∀ (s : State) (i : Issue) (off : BitVec 22), s.dev.issues i ({ lat := 0, branch := true, safety := true }) → s.dev.predicated i = false
    → Issued s (.vcsBr i off) i ({ lat := 0, branch := true, safety := true }) []) ∧
  (∀ (s : State) (i : Issue) (rd ra : Fin 32) (imm : BitVec 12), s.dev.issues i
    ({ lat := 3, reads := [regG ra], writes := [regG rd], port := 1, safety := true }) → s.dev.predicated i = false → Issued s (.vcsLd i rd
    ra imm) i ({ lat := 3, reads := [regG ra], writes := [regG rd], port := 1, safety := true }) []) ∧
  (∀ (s : State) (i : Issue) (ra : Fin 32) (imm : BitVec 12) (rs : Fin 32), s.dev.issues i
    ({ lat := 0, reads := [regG ra, regG rs], port := 1, safety := true }) → s.dev.predicated i = false → Issued s (.vcsSt i ra imm rs) i
    ({ lat := 0, reads := [regG ra, regG rs], port := 1, safety := true }) []) ∧
  (∀ (s : State) (i : Issue) (u : BitVec 8) (ra rs : Fin 32), s.dev.issues i
    ({ lat := 0, reads := [regG ra, regG rs], safety := true, management := false }) → s.dev.predicated i = false → Issued s (.vcsOut i u
    ra rs) i ({ lat := 0, reads := [regG ra, regG rs], safety := true, management := false }) []) ∧
  (∀ (s : State) (i : Issue) (u : BitVec 8) (ra rs : Fin 32), s.dev.issues i
    ({ lat := 0, reads := [regG ra, regG rs], management := false }) → s.dev.predicated i = false → Issued s (.vcsNst i u ra rs) i
    ({ lat := 0, reads := [regG ra, regG rs], management := false }) []) ∧
  (∀ (s : State) (i : Issue), s.dev.issues i ({ lat := 0, safety := true, management := false }) → s.dev.predicated i = false → Issued s
    (.vcsEndf i) i ({ lat := 0, safety := true, management := false }) []) ∧
  (∀ (s : State) (i : Issue), i.eng = .ferryman → s.dev.issues i opPriv → s.dev.predicated i = true → s.dev.vcs.ferry.priv = false →
    Completes s (.vcsFence i) fun t => (t.dev.vcs.ferry =
    { s.dev.vcs.ferry with waiting := false, mepc := (s.dev.engine 10).pc, mcause := 6, mtval := i.word.toNat, pmie := s.dev.vcs.ferry.mie, ppriv := s.dev.vcs.ferry.priv, mie := false, priv := true, entries := false :: s.dev.vcs.ferry.entries })
    ∧ ((t.dev.engine 10).pc = s.dev.vcs.ferry.mvec) ∧ ((t.dev.engine 10).g = (s.dev.engine 10).g) ∧ (t.mem = s.mem)) ∧
  (∀ (s : State) (i : Issue), i.eng = .ferryman → s.dev.issues i opPriv → s.dev.predicated i = true → s.dev.vcs.ferry.priv = false →
    Completes s (.vcsEret i) fun t => (t.dev.vcs.ferry =
    { s.dev.vcs.ferry with waiting := false, mepc := (s.dev.engine 10).pc, mcause := 6, mtval := i.word.toNat, pmie := s.dev.vcs.ferry.mie, ppriv := s.dev.vcs.ferry.priv, mie := false, priv := true, entries := false :: s.dev.vcs.ferry.entries })
    ∧ ((t.dev.engine 10).pc = s.dev.vcs.ferry.mvec) ∧ ((t.dev.engine 10).g = (s.dev.engine 10).g) ∧ (t.mem = s.mem)) ∧
  (∀ (s : State) (i : Issue), i.eng = .ferryman → s.dev.issues i opPriv → s.dev.predicated i = true → s.dev.vcs.ferry.priv = false →
    Completes s (.vcsWfi i) fun t => (t.dev.vcs.ferry =
    { s.dev.vcs.ferry with waiting := false, mepc := (s.dev.engine 10).pc, mcause := 6, mtval := i.word.toNat, pmie := s.dev.vcs.ferry.mie, ppriv := s.dev.vcs.ferry.priv, mie := false, priv := true, entries := false :: s.dev.vcs.ferry.entries })
    ∧ ((t.dev.engine 10).pc = s.dev.vcs.ferry.mvec) ∧ ((t.dev.engine 10).g = (s.dev.engine 10).g) ∧ (t.mem = s.mem)) ∧
  (∀ (s : State) (i : Issue) (n : Fin 8), i.eng = .ce n → s.dev.canIssue n.val ((s.dev.engine n.val).cycle opPriv i.pr.val) = true →
    s.dev.wordState (fetchAt n.val (s.dev.engine n.val).pc) ≤ 1 → (s.dev.engine n.val).pc ≤ 0xFFFC → (s.dev.engine n.val).earliest <
    (s.dev.engine n.val).budget → s.dev.onAt .CE_TRAP_VALID n.val = false → (s.dev.engine n.val).task < 128 → Completes s (.vcsEret i) fun
    t => (t.dev.onAt .CE_TRAP_VALID n.val = true) ∧ (t.dev.rdAt .CE_TRAP_CAUSE n.val = 1) ∧ (t.dev.rdAt .CE_TRAP_TASK n.val = (s.dev.engine
    n.val).task) ∧ (t.dev.rdAt .CE_TRAPPC n.val = (s.dev.engine n.val).pc) ∧ (t.dev.rdAt .CE_TRAPVAL n.val = i.word.toNat) ∧ (t.dev.engine
    n.val = { s.dev.engine n.val with trapped := true }) ∧ ((t.dev.tt.acts.at {} (s.dev.engine n.val).task).abandoned = true) ∧
    ((t.dev.tt.acts.at {} (s.dev.engine n.val).task).staged = []) ∧ (s.dev.raised t.dev (34 + n.val)) ∧ (t.mem = s.mem)) ∧
  (∀ (s : State) (i : Issue) (n : Fin 8) (rd ra : Fin 32) (imm : BitVec 12), i.eng = .ce n → s.dev.issues i
    { lat := 3, reads := [regG ra], writes := [regG rd], port := 1, safety := true } → s.dev.predicated i = true → (s.dev.engine n.val).ea
    ra imm % 8 ≠ 0 ∨ 0x20000 < (s.dev.engine n.val).ea ra imm + 8 → s.dev.onAt .CE_TRAP_VALID n.val = false → Completes s (.vcsLd i rd ra
    imm) fun t => (t.dev.onAt .CE_TRAP_VALID n.val = true) ∧ (t.dev.rdAt .CE_TRAP_CAUSE n.val = 3) ∧ (t.dev.rdAt .CE_TRAPVAL n.val =
    (s.dev.engine n.val).ea ra imm % 2 ^ 32) ∧ ((t.dev.engine n.val).trapped = true) ∧ ((t.dev.engine n.val).g = (s.dev.engine n.val).g) ∧
    ((t.dev.tt.acts.at {} (s.dev.engine n.val).task).abandoned = true) ∧ (s.dev.raised t.dev (34 + n.val)) ∧ (t.mem = s.mem)) ∧
  (decodeVcs (.ce 0) 0x03064280 = some (.vcsFaddS { eng := .ce 0, pr := 0, pn := false, word := 0x03064280 } 3 4 5) ∧ decodeVcs (.ce 0)
    0x563FFFFD = some (.vcsBr { eng := .ce 0, pr := 2, pn := true, word := 0x563FFFFD } (-3)) ∧ decodeVcs .se 0x098E0001 = some (.vcsIn
    { eng := .se, pr := 0, pn := false, word := 0x098E0001 } 7 1 0) ∧ decodeVcs .se 0x0B400000 = some (.vcsEndf
    { eng := .se, pr := 0, pn := false, word := 0x0B400000 }) ∧ decodeVcs (.ce 7) 0x0B400001 = some (.vcsHold
    { eng := .ce 7, pr := 0, pn := false, word := 0x0B400001 }) ∧ ∀ e, decodeVcs e 0 = none ∧ decodeVcs e 0xFFFFFFFF = none) ∧
  (∀ (s : State) (i : Issue) (n : Fin 8) (rd ra rb : Fin 32), i.eng = .ce n → decodeVcs i.eng i.word = none → s.dev.canIssue n.val
    ((s.dev.engine n.val).cycle (opABC rd ra rb) i.pr.val) = true → s.dev.wordState (fetchAt n.val (s.dev.engine n.val).pc) ≤ 1 →
    (s.dev.engine n.val).pc ≤ 0xFFFC → (s.dev.engine n.val).earliest < (s.dev.engine n.val).budget → s.dev.onAt .CE_TRAP_VALID n.val =
    false → (s.dev.engine n.val).task < 128 → Completes s (.vcsAdd i rd ra rb) fun t => (t.dev.onAt .CE_TRAP_VALID n.val = true) ∧
    (t.dev.rdAt .CE_TRAP_CAUSE n.val = 1) ∧ (t.dev.rdAt .CE_TRAP_TASK n.val = (s.dev.engine n.val).task) ∧ (t.dev.rdAt .CE_TRAPPC n.val =
    (s.dev.engine n.val).pc) ∧ (t.dev.rdAt .CE_TRAPVAL n.val = i.word.toNat) ∧ (t.dev.engine n.val =
    { s.dev.engine n.val with trapped := true }) ∧ ((t.dev.tt.acts.at {} (s.dev.engine n.val).task).abandoned = true) ∧ (s.dev.raised t.dev
    (34 + n.val)) ∧ (t.mem = s.mem)) ∧
  (∀ (s : State) (i : Issue) (rd ra rb : Fin 32), i.eng = .ferryman → decodeVcs i.eng i.word = none → s.dev.canIssue 10 ((s.dev.engine
    10).cycle (opABC rd ra rb) i.pr.val) = true → s.dev.mtakes = none → s.dev.fetchTrap 10 (s.dev.engine 10).pc = (none, s.dev) →
    s.dev.wordState (fetchAt 10 (s.dev.engine 10).pc) ≤ 1 → Completes s (.vcsAdd i rd ra rb) fun t => (t.dev.vcs.ferry =
    { s.dev.vcs.ferry with waiting := false, mepc := (s.dev.engine 10).pc, mcause := 1, mtval := i.word.toNat, pmie := s.dev.vcs.ferry.mie, ppriv := s.dev.vcs.ferry.priv, mie := false, priv := true, entries := false :: s.dev.vcs.ferry.entries })
    ∧ ((t.dev.engine 10).pc = s.dev.vcs.ferry.mvec) ∧ ((t.dev.engine 10).g = (s.dev.engine 10).g) ∧ (t.mem = s.mem))

/-- A step takes the command at the front of the queue: step at a state whose queue begins with c is exec of c at the state with the rest of the queue -/
def Obligations.StepRunsTheFront : Prop :=
  ∀ (s : State) (c : Instr) (rest : List Instr),
    step { s with pending := c :: rest } = exec c { s with pending := rest }

/-- Every step answers a next state and drops the front of the queue: for every state the step answers a next state, its queue is the old one without its front, and with an empty queue nothing changes (the idle step is the model's choice, log entry 57) -/
def Obligations.EveryStepCompletes : Prop :=
  ∀ s : State, ∃ t, step s = .next t ∧ t.pending = s.pending.tail ∧ (s.pending = [] → t = s)

/-- What reset leaves in the memories and the queue: at reset the memories are in canonical form and list nothing (an unlisted byte reads as 0 by the model's choice, log entry 2), no command waits, the control domain is held, the tide count is 0 and no claim is held -/
def Obligations.ResetMemoryCanonical : Prop :=
  State.reset.memOk ∧ State.reset.mem = [] ∧ State.reset.pending = [] ∧ State.reset.dev.sys.cdReset = true ∧ State.reset.dev.tide = 0 ∧
    State.reset.dev.tt.opened = false ∧ (State.reset.dev.engine 10).pc = 0x1010080000 ∧ ∀ r n, (State.reset.dev.cell r n).owner = none

/-- Every step keeps the canonical form of the memories: whatever the command at the front of the queue, if the memories are in canonical form before the step (addresses strictly rising, no entry equal to what an unlisted address reads as) they are so after it -/
def Obligations.StepKeepsMemoryCanonical : Prop :=
  ∀ s t : State, s.memOk → step s = .next t → t.memOk

/-- Commands that do not store keep every byte of memory: of the 422 commands the ones that mayStore does not name leave the memories as they were, in every state -/
def Obligations.OtherCommandsKeepMemory : Prop :=
  ∀ (c : Instr) (s : State), mayStore c = false → Completes s c fun t => t.mem = s.mem

/-- The Tide alarm: writing ALMLO or ALMHI clears ALMEN, and a value at or below the count when it was written never fires while it stands, whatever else has happened since -/
def Obligations.AlarmRule : Prop :=
  ∀ (s : State) (high : Bool) (v : BitVec 32),
    Completes s (.tideAlarmSet .ferryman high v) fun t =>
      t.dev.on .TIDE_STAT_ALMEN = false ∧
        (t.dev.rd64 .TIDE_ALMLO .TIDE_ALMHI ≤ s.dev.tide →
          ∀ u : State, u.dev.tt.almAt = t.dev.tt.almAt → u.dev.rd64 .TIDE_ALMLO .TIDE_ALMHI = t.dev.rd64 .TIDE_ALMLO .TIDE_ALMHI →
            exec .tideAlarm u = .next u)

/-- Predicate registers: p1 to p7 hold one bit each, p0 reads as 1, a write to it is discarded, and it creates no dependency in the scoreboard -/
def Obligations.PredicateZeroRule : Prop :=
  ∀ x : Engine,
    x.pr 0 = true ∧ (∀ b, x.put (.p 0 b) = x) ∧
      (∀ (n k : Nat) (b : Bool), 0 < n → n < 8 → 0 < k → k < 8 → (x.put (.p n b)).pr k = if k = n then b else x.pr k) ∧
      (∀ (o : Op) (r lo : Nat), x.ready { o with writes := regP 0 :: o.writes } r lo = x.ready o r lo) ∧
      (∀ (o : Op) (r lo : Nat), x.ready { o with reads := regP 0 :: o.reads } r lo = x.ready o r lo)

/-- The hyperperiod: the frame index after a Tide edge is N mod 4,096, and the edge is a hyperperiod boundary exactly when it opens a frame whose number is a multiple of 4,096 -/
def Obligations.HyperperiodRule : Prop :=
  ∀ (s : State) (lateF : BitVec 48) (lateA : BitVec 64) (held : Bool), s.dev.tide + 1 < 2 ^ 64 →
    Completes s (.tideEdge lateF lateA held) fun t =>
      t.dev.rd .TIDE_HPIDX_IDX = t.dev.tide % 4096 ∧
        (t.dev.tide % 4096 = 0 → t.dev.on .TIDE_STAT_BND = true ∧ s.dev.raised t.dev 6) ∧
        (t.dev.tide % 4096 ≠ 0 → t.dev.on .TIDE_STAT_BND = s.dev.on .TIDE_STAT_BND)

/-- Held claims: a claim on a free resource is granted where no other condition of Table 1-11 holds, one on a held resource leaves its holder and is refused with the first code of Table 1-11 that applies (0x2 where the claimant holds it itself), and no claims by any requesters of one clock cycle take a held resource away; a claim written to GWY.CLMnn is made as test access (R471) -/
def Obligations.HeldClaimRule : Prop :=
  (∀ (s : State) (req : Requester) (res : Resource) (n : Nat), n < res.count → (controlResource res = true → s.dev.sys.cdReset = false) →
    (s.dev.cell res n).owner = none →
    ((s.dev.cell res n).rsv = none ∨ (s.dev.cell res n).rsv = some (claimant req res).rank) →
    s.dev.claimsClosed (claimant req res) res = false → s.dev.rivalHeld res n = false →
      Completes s (.claim [req] res n) fun t =>
        (t.dev.cell res n).owner = some (claimant req res) ∧ (t.dev.cell res n).status.at 0 (claimant req res).id = 0x1) ∧
  (∀ (s : State) (req o : Requester) (res : Resource) (n : Nat), n < res.count →
    (controlResource res = true → s.dev.sys.cdReset = false) → (s.dev.cell res n).owner = some o →
      Completes s (.claim [req] res n) fun t =>
        (t.dev.cell res n).owner = some o ∧
        (t.dev.cell res n).status.at 0 (claimant req res).id =
          if o = claimant req res then 0x2
          else if (s.dev.cell res n).rsv.isSome ∧ (s.dev.cell res n).rsv ≠ some (claimant req res).rank then 0x5
          else if s.dev.claimsClosed (claimant req res) res then 0xA
          else if o.rank < (claimant req res).rank then 0x4 else 0x3) ∧
  (∀ (s : State) (reqs : List Requester) (o : Requester) (res r : Resource) (n k : Nat), (s.dev.cell r k).owner = some o →
    Completes s (.claim reqs res n) fun t => (t.dev.cell r k).owner = some o)
end

