-- ==== Sys2Proof/Laws/Store.lean ====
section
/-!
SUPPORT. Laws/Store.lean: the laws of sparse tables (read after write, the canonical form) and of little-endian bytes.
-/
namespace Sys2Proof.Machine

section
variable {κ α : Type} [DecidableEq κ] [DecidableEq α] {lt : κ → κ → Bool}

omit [DecidableEq α] in
theorem Store.get_erase (d : α) (k j : κ) (t : Store κ α) : Store.get d j (Store.erase k t) = if j = k then d else Store.get d j t := by
  induction t with
  | nil => simp [Store.erase, Store.get]
  | cons x t ih =>
    obtain ⟨i, v⟩ := x
    simp only [Store.erase]
    split <;> (simp only [Store.get, ih]; grind)

omit [DecidableEq α] in
theorem Store.get_insert (d v : α) (k j : κ) (t : Store κ α) :
    Store.get d j (Store.insert lt k v t) = if j = k then v else Store.get d j t := by
  induction t with
  | nil => simp [Store.insert, Store.get, eq_comm]
  | cons x t ih =>
    obtain ⟨i, w⟩ := x
    simp only [Store.insert]
    split
    · simp only [Store.get]; grind
    · split <;> (simp only [Store.get, ih]; grind)

/-- A key reads what was last written to it, every other key what it read before. -/
theorem Store.get_put (d v : α) (k j : κ) (t : Store κ α) :
    Store.get d j (Store.put lt d k v t) = if j = k then v else Store.get d j t := by
  unfold Store.put
  split
  · subst_vars; exact Store.get_erase ..
  · exact Store.get_insert ..

omit [DecidableEq κ] in
/-- A key of a canonical table reads its own entry, whose value is not the default. -/
theorem Store.canon_tail {d : κ → α} {x : κ × α} {t : Store κ α} (h : Store.canon lt d (x :: t) = true) : Store.canon lt d t = true := by
  obtain ⟨k, v⟩ := x
  cases t with
  | nil => rfl
  | cons y t => obtain ⟨j, w⟩ := y; simp only [Store.canon, Bool.and_eq_true] at h; exact h.2

omit [DecidableEq κ] in
/-- The canonical form, said key by key. -/
theorem Store.canon_cons {d : κ → α} {k : κ} {v : α} {t : Store κ α} (h1 : v ≠ d k) (h2 : ∀ x ∈ t.head?, lt k x.1 = true)
    (h3 : Store.canon lt d t = true) : Store.canon lt d ((k, v) :: t) = true := by
  cases t with
  | nil => simp [Store.canon, h1]
  | cons y t => obtain ⟨j, w⟩ := y; simp [Store.canon, h1, h3, h2 (j, w) (by simp)]

omit [DecidableEq κ] in
theorem Store.canon_head {d : κ → α} {k : κ} {v : α} {t : Store κ α} (h : Store.canon lt d ((k, v) :: t) = true) :
    v ≠ d k ∧ ∀ x ∈ t.head?, lt k x.1 = true := by
  cases t with
  | nil => simpa [Store.canon] using h
  | cons y t => obtain ⟨j, w⟩ := y; simp only [Store.canon, Bool.and_eq_true, decide_eq_true_eq] at h; simpa using h.1

/-- The first key of a canonical table lies below every later one. -/
theorem Store.canon_lt {d : κ → α} (tr : ∀ a b c, lt a b = true → lt b c = true → lt a c = true) {k : κ} {v : α} {t : Store κ α}
    (h : Store.canon lt d ((k, v) :: t) = true) : ∀ x ∈ t, lt k x.1 = true := by
  induction t generalizing k v with
  | nil => simp
  | cons y t ih =>
    obtain ⟨j, w⟩ := y
    have hk := (Store.canon_head h).2 (j, w) (by simp)
    intro x hx
    rcases List.mem_cons.1 hx with rfl | hx
    · exact hk
    · exact tr _ _ _ hk (ih (Store.canon_tail h) x hx)

/-- Leaving entries out keeps the canonical form. -/
theorem Store.canon_filter {d : κ → α} (tr : ∀ a b c, lt a b = true → lt b c = true → lt a c = true) (p : κ × α → Bool) {t : Store κ α}
    (h : Store.canon lt d t = true) : Store.canon lt d (t.filter p) = true := by
  induction t with
  | nil => rfl
  | cons x t ih =>
    obtain ⟨k, v⟩ := x
    simp only [List.filter_cons]
    split
    · refine Store.canon_cons (Store.canon_head h).1 (fun x hx => ?_) (ih (Store.canon_tail h))
      exact Store.canon_lt tr h x (List.mem_filter.1 (List.mem_of_mem_head? hx)).1
    · exact ih (Store.canon_tail h)

omit [DecidableEq α] in
theorem Store.erase_eq_filter (k : κ) (t : Store κ α) : Store.erase k t = t.filter fun x => !decide (x.1 = k) := by
  induction t with
  | nil => rfl
  | cons x t ih =>
    obtain ⟨j, v⟩ := x
    simp only [Store.erase, List.filter_cons, ih]
    by_cases h : j = k <;> simp [h]

omit [DecidableEq α] in
theorem Store.insert_head (k : κ) (v : α) (t : Store κ α) :
    ∀ x ∈ (Store.insert lt k v t).head?, x.1 = k ∨ ∀ y ∈ t.head?, x.1 = y.1 := by
  cases t with
  | nil => simp [Store.insert]
  | cons y t =>
    obtain ⟨j, w⟩ := y
    simp only [Store.insert]
    split
    · simp
    · split <;> simp

theorem Store.canon_insert {d : κ → α} (tot : ∀ a b, a ≠ b → lt a b = false → lt b a = true)
    {k : κ} {v : α} (hv : v ≠ d k) {t : Store κ α} (h : Store.canon lt d t = true) : Store.canon lt d (Store.insert lt k v t) = true := by
  induction t with
  | nil => simp [Store.insert, Store.canon, hv]
  | cons y t ih =>
    obtain ⟨j, w⟩ := y
    simp only [Store.insert]
    split
    · subst_vars; exact Store.canon_cons hv (Store.canon_head h).2 (Store.canon_tail h)
    · rename_i hj
      split
      · rename_i hl; exact Store.canon_cons hv (by simpa using hl) h
      · rename_i hl
        refine Store.canon_cons (Store.canon_head h).1 (fun x hx => ?_) (ih (Store.canon_tail h))
        rcases Store.insert_head k v t x hx with e | e
        · rw [e]; exact tot _ _ (fun q => hj q.symm) (by simpa using hl)
        · cases t with
          | nil => simp only [Store.insert] at hx; simp at hx; subst hx; exact tot _ _ (fun q => hj q.symm) (by simpa using hl)
          | cons z t => rw [e z (by simp)]; exact (Store.canon_head h).2 z (by simp)

/-- Writing keeps the canonical form. -/
theorem Store.canon_put {d : κ → α} (tr : ∀ a b c, lt a b = true → lt b c = true → lt a c = true)
    (tot : ∀ a b, a ≠ b → lt a b = false → lt b a = true) (k : κ) (v : α) {t : Store κ α} (h : Store.canon lt d t = true) :
    Store.canon lt d (Store.put lt (d k) k v t) = true := by
  unfold Store.put
  split
  · rw [Store.erase_eq_filter]; exact Store.canon_filter tr _ h
  · rename_i hv; exact Store.canon_insert tot hv h
end

theorem natLt_trans (a b c : Nat) (h : natLt a b = true) (g : natLt b c = true) : natLt a c = true := by
  simp only [natLt, decide_eq_true_eq] at *; omega

theorem natLt_total (a b : Nat) (h : a ≠ b) (g : natLt a b = false) : natLt b a = true := by
  simp only [natLt, decide_eq_true_eq, decide_eq_false_iff_not] at *; omega

/-- A table keyed by numbers reads what was written. -/
theorem Store.at_set {α : Type} [DecidableEq α] (t : Store Nat α) (d v : α) (k j : Nat) :
    (t.set d k v).at d j = if j = k then v else t.at d j := Store.get_put ..

@[simp] theorem Store.at_set_self {α : Type} [DecidableEq α] (t : Store Nat α) (d v : α) (k : Nat) : (t.set d k v).at d k = v := by
  simp [Store.at_set]

theorem Store.at_set_other {α : Type} [DecidableEq α] (t : Store Nat α) (d v : α) {k j : Nat} (h : j ≠ k) : (t.set d k v).at d j = t.at d j := by
  simp [Store.at_set, h]

/-! ### Little-endian bytes -/

@[simp] theorem length_leBytes (k v : Nat) : (leBytes k v).length = k := by
  induction k generalizing v with
  | zero => rfl
  | succ k ih => simp [leBytes, ih]

theorem leNat_leBytes (k v : Nat) : leNat (leBytes k v) = v % 256 ^ k := by
  induction k generalizing v with
  | zero => simp [leBytes, leNat, Nat.mod_one]
  | succ k ih =>
    simp only [leBytes, leNat, ih, BitVec.toNat_ofNat]
    rw [show (256 : Nat) ^ (k + 1) = 256 * 256 ^ k from by rw [Nat.pow_succ, Nat.mul_comm], Nat.mod_mul]

end Sys2Proof.Machine
end

