-- ==== Sys2Proof/Laws/State.lean ====
section
/-!
SUPPORT. Laws/State.lean: what each update of the part leaves of its fields, by `rfl`, and reading a register field after a write.
-/
namespace Sys2Proof.Machine

section
variable (d : Dev)

/-! ### `wrAt` -/

@[simp] theorem Dev.wrAt_fresh (f : Fld) (i v : Nat) : (d.wrAt f i v).fresh = d.fresh := rfl
@[simp] theorem Dev.wrAt_straps (f : Fld) (i v : Nat) : (d.wrAt f i v).straps = d.straps := rfl
@[simp] theorem Dev.wrAt_resp (f : Fld) (i v : Nat) : (d.wrAt f i v).resp = d.resp := rfl
@[simp] theorem Dev.wrAt_lat (f : Fld) (i v : Nat) : (d.wrAt f i v).lat = d.lat := rfl
@[simp] theorem Dev.wrAt_sys (f : Fld) (i v : Nat) : (d.wrAt f i v).sys = d.sys := rfl
@[simp] theorem Dev.wrAt_evt (f : Fld) (i v : Nat) : (d.wrAt f i v).evt = d.evt := rfl
@[simp] theorem Dev.wrAt_tt (f : Fld) (i v : Nat) : (d.wrAt f i v).tt = d.tt := rfl
@[simp] theorem Dev.wrAt_vcs (f : Fld) (i v : Nat) : (d.wrAt f i v).vcs = d.vcs := rfl
@[simp] theorem Dev.wrAt_fm (f : Fld) (i v : Nat) : (d.wrAt f i v).fm = d.fm := rfl
@[simp] theorem Dev.wrAt_saf (f : Fld) (i v : Nat) : (d.wrAt f i v).saf = d.saf := rfl
@[simp] theorem Dev.wrAt_conv (f : Fld) (i v : Nat) : (d.wrAt f i v).conv = d.conv := rfl
@[simp] theorem Dev.wrAt_pump (f : Fld) (i v : Nat) : (d.wrAt f i v).pump = d.pump := rfl
@[simp] theorem Dev.wrAt_twin (f : Fld) (i v : Nat) : (d.wrAt f i v).twin = d.twin := rfl
@[simp] theorem Dev.wrAt_ethn (f : Fld) (i v : Nat) : (d.wrAt f i v).ethn = d.ethn := rfl
@[simp] theorem Dev.wrAt_node (f : Fld) (i v : Nat) : (d.wrAt f i v).node = d.node := rfl
@[simp] theorem Dev.wrAt_pager (f : Fld) (i v : Nat) : (d.wrAt f i v).pager = d.pager := rfl
@[simp] theorem Dev.wrAt_eccm (f : Fld) (i v : Nat) : (d.wrAt f i v).eccm = d.eccm := rfl
@[simp] theorem Dev.wrAt_cus (f : Fld) (i v : Nat) : (d.wrAt f i v).cus = d.cus := rfl
@[simp] theorem Dev.wrAt_met (f : Fld) (i v : Nat) : (d.wrAt f i v).met = d.met := rfl
@[simp] theorem Dev.wrAt_adc (f : Fld) (i v : Nat) : (d.wrAt f i v).adc = d.adc := rfl
@[simp] theorem Dev.wrAt_prog (f : Fld) (i v : Nat) : (d.wrAt f i v).prog = d.prog := rfl

/-! ### `onSys` -/

@[simp] theorem Dev.onSys_fresh (f : Sys → Sys) : (d.onSys f).fresh = d.fresh := rfl
@[simp] theorem Dev.onSys_straps (f : Sys → Sys) : (d.onSys f).straps = d.straps := rfl
@[simp] theorem Dev.onSys_resp (f : Sys → Sys) : (d.onSys f).resp = d.resp := rfl
@[simp] theorem Dev.onSys_regs (f : Sys → Sys) : (d.onSys f).regs = d.regs := rfl
@[simp] theorem Dev.onSys_lat (f : Sys → Sys) : (d.onSys f).lat = d.lat := rfl
@[simp] theorem Dev.onSys_evt (f : Sys → Sys) : (d.onSys f).evt = d.evt := rfl
@[simp] theorem Dev.onSys_tt (f : Sys → Sys) : (d.onSys f).tt = d.tt := rfl
@[simp] theorem Dev.onSys_vcs (f : Sys → Sys) : (d.onSys f).vcs = d.vcs := rfl
@[simp] theorem Dev.onSys_fm (f : Sys → Sys) : (d.onSys f).fm = d.fm := rfl
@[simp] theorem Dev.onSys_saf (f : Sys → Sys) : (d.onSys f).saf = d.saf := rfl
@[simp] theorem Dev.onSys_conv (f : Sys → Sys) : (d.onSys f).conv = d.conv := rfl
@[simp] theorem Dev.onSys_pump (f : Sys → Sys) : (d.onSys f).pump = d.pump := rfl
@[simp] theorem Dev.onSys_twin (f : Sys → Sys) : (d.onSys f).twin = d.twin := rfl
@[simp] theorem Dev.onSys_ethn (f : Sys → Sys) : (d.onSys f).ethn = d.ethn := rfl
@[simp] theorem Dev.onSys_node (f : Sys → Sys) : (d.onSys f).node = d.node := rfl
@[simp] theorem Dev.onSys_pager (f : Sys → Sys) : (d.onSys f).pager = d.pager := rfl
@[simp] theorem Dev.onSys_eccm (f : Sys → Sys) : (d.onSys f).eccm = d.eccm := rfl
@[simp] theorem Dev.onSys_cus (f : Sys → Sys) : (d.onSys f).cus = d.cus := rfl
@[simp] theorem Dev.onSys_met (f : Sys → Sys) : (d.onSys f).met = d.met := rfl
@[simp] theorem Dev.onSys_adc (f : Sys → Sys) : (d.onSys f).adc = d.adc := rfl
@[simp] theorem Dev.onSys_prog (f : Sys → Sys) : (d.onSys f).prog = d.prog := rfl
@[simp] theorem Dev.onSys_rdAt (f : Sys → Sys) (g : Fld) (j : Nat) : (d.onSys f).rdAt g j = d.rdAt g j := rfl
@[simp] theorem Dev.onSys_sys (f : Sys → Sys) : (d.onSys f).sys = f d.sys := rfl

/-! ### `onFm` -/

@[simp] theorem Dev.onFm_fresh (f : Fm → Fm) : (d.onFm f).fresh = d.fresh := rfl
@[simp] theorem Dev.onFm_straps (f : Fm → Fm) : (d.onFm f).straps = d.straps := rfl
@[simp] theorem Dev.onFm_resp (f : Fm → Fm) : (d.onFm f).resp = d.resp := rfl
@[simp] theorem Dev.onFm_regs (f : Fm → Fm) : (d.onFm f).regs = d.regs := rfl
@[simp] theorem Dev.onFm_lat (f : Fm → Fm) : (d.onFm f).lat = d.lat := rfl
@[simp] theorem Dev.onFm_sys (f : Fm → Fm) : (d.onFm f).sys = d.sys := rfl
@[simp] theorem Dev.onFm_evt (f : Fm → Fm) : (d.onFm f).evt = d.evt := rfl
@[simp] theorem Dev.onFm_tt (f : Fm → Fm) : (d.onFm f).tt = d.tt := rfl
@[simp] theorem Dev.onFm_vcs (f : Fm → Fm) : (d.onFm f).vcs = d.vcs := rfl
@[simp] theorem Dev.onFm_saf (f : Fm → Fm) : (d.onFm f).saf = d.saf := rfl
@[simp] theorem Dev.onFm_conv (f : Fm → Fm) : (d.onFm f).conv = d.conv := rfl
@[simp] theorem Dev.onFm_pump (f : Fm → Fm) : (d.onFm f).pump = d.pump := rfl
@[simp] theorem Dev.onFm_twin (f : Fm → Fm) : (d.onFm f).twin = d.twin := rfl
@[simp] theorem Dev.onFm_ethn (f : Fm → Fm) : (d.onFm f).ethn = d.ethn := rfl
@[simp] theorem Dev.onFm_node (f : Fm → Fm) : (d.onFm f).node = d.node := rfl
@[simp] theorem Dev.onFm_pager (f : Fm → Fm) : (d.onFm f).pager = d.pager := rfl
@[simp] theorem Dev.onFm_eccm (f : Fm → Fm) : (d.onFm f).eccm = d.eccm := rfl
@[simp] theorem Dev.onFm_cus (f : Fm → Fm) : (d.onFm f).cus = d.cus := rfl
@[simp] theorem Dev.onFm_met (f : Fm → Fm) : (d.onFm f).met = d.met := rfl
@[simp] theorem Dev.onFm_adc (f : Fm → Fm) : (d.onFm f).adc = d.adc := rfl
@[simp] theorem Dev.onFm_prog (f : Fm → Fm) : (d.onFm f).prog = d.prog := rfl
@[simp] theorem Dev.onFm_rdAt (f : Fm → Fm) (g : Fld) (j : Nat) : (d.onFm f).rdAt g j = d.rdAt g j := rfl
@[simp] theorem Dev.onFm_fm (f : Fm → Fm) : (d.onFm f).fm = f d.fm := rfl

/-! ### `onTwin` -/

@[simp] theorem Dev.onTwin_fresh (f : Twin → Twin) : (d.onTwin f).fresh = d.fresh := rfl
@[simp] theorem Dev.onTwin_straps (f : Twin → Twin) : (d.onTwin f).straps = d.straps := rfl
@[simp] theorem Dev.onTwin_resp (f : Twin → Twin) : (d.onTwin f).resp = d.resp := rfl
@[simp] theorem Dev.onTwin_regs (f : Twin → Twin) : (d.onTwin f).regs = d.regs := rfl
@[simp] theorem Dev.onTwin_lat (f : Twin → Twin) : (d.onTwin f).lat = d.lat := rfl
@[simp] theorem Dev.onTwin_sys (f : Twin → Twin) : (d.onTwin f).sys = d.sys := rfl
@[simp] theorem Dev.onTwin_evt (f : Twin → Twin) : (d.onTwin f).evt = d.evt := rfl
@[simp] theorem Dev.onTwin_tt (f : Twin → Twin) : (d.onTwin f).tt = d.tt := rfl
@[simp] theorem Dev.onTwin_vcs (f : Twin → Twin) : (d.onTwin f).vcs = d.vcs := rfl
@[simp] theorem Dev.onTwin_fm (f : Twin → Twin) : (d.onTwin f).fm = d.fm := rfl
@[simp] theorem Dev.onTwin_saf (f : Twin → Twin) : (d.onTwin f).saf = d.saf := rfl
@[simp] theorem Dev.onTwin_conv (f : Twin → Twin) : (d.onTwin f).conv = d.conv := rfl
@[simp] theorem Dev.onTwin_pump (f : Twin → Twin) : (d.onTwin f).pump = d.pump := rfl
@[simp] theorem Dev.onTwin_ethn (f : Twin → Twin) : (d.onTwin f).ethn = d.ethn := rfl
@[simp] theorem Dev.onTwin_node (f : Twin → Twin) : (d.onTwin f).node = d.node := rfl
@[simp] theorem Dev.onTwin_pager (f : Twin → Twin) : (d.onTwin f).pager = d.pager := rfl
@[simp] theorem Dev.onTwin_eccm (f : Twin → Twin) : (d.onTwin f).eccm = d.eccm := rfl
@[simp] theorem Dev.onTwin_cus (f : Twin → Twin) : (d.onTwin f).cus = d.cus := rfl
@[simp] theorem Dev.onTwin_met (f : Twin → Twin) : (d.onTwin f).met = d.met := rfl
@[simp] theorem Dev.onTwin_adc (f : Twin → Twin) : (d.onTwin f).adc = d.adc := rfl
@[simp] theorem Dev.onTwin_prog (f : Twin → Twin) : (d.onTwin f).prog = d.prog := rfl
@[simp] theorem Dev.onTwin_rdAt (f : Twin → Twin) (g : Fld) (j : Nat) : (d.onTwin f).rdAt g j = d.rdAt g j := rfl
@[simp] theorem Dev.onTwin_twin (f : Twin → Twin) : (d.onTwin f).twin = f d.twin := rfl

/-! ### `onTt` -/

@[simp] theorem Dev.onTt_fresh (f : Tt → Tt) : (d.onTt f).fresh = d.fresh := rfl
@[simp] theorem Dev.onTt_straps (f : Tt → Tt) : (d.onTt f).straps = d.straps := rfl
@[simp] theorem Dev.onTt_resp (f : Tt → Tt) : (d.onTt f).resp = d.resp := rfl
@[simp] theorem Dev.onTt_regs (f : Tt → Tt) : (d.onTt f).regs = d.regs := rfl
@[simp] theorem Dev.onTt_lat (f : Tt → Tt) : (d.onTt f).lat = d.lat := rfl
@[simp] theorem Dev.onTt_sys (f : Tt → Tt) : (d.onTt f).sys = d.sys := rfl
@[simp] theorem Dev.onTt_evt (f : Tt → Tt) : (d.onTt f).evt = d.evt := rfl
@[simp] theorem Dev.onTt_vcs (f : Tt → Tt) : (d.onTt f).vcs = d.vcs := rfl
@[simp] theorem Dev.onTt_fm (f : Tt → Tt) : (d.onTt f).fm = d.fm := rfl
@[simp] theorem Dev.onTt_saf (f : Tt → Tt) : (d.onTt f).saf = d.saf := rfl
@[simp] theorem Dev.onTt_conv (f : Tt → Tt) : (d.onTt f).conv = d.conv := rfl
@[simp] theorem Dev.onTt_pump (f : Tt → Tt) : (d.onTt f).pump = d.pump := rfl
@[simp] theorem Dev.onTt_twin (f : Tt → Tt) : (d.onTt f).twin = d.twin := rfl
@[simp] theorem Dev.onTt_ethn (f : Tt → Tt) : (d.onTt f).ethn = d.ethn := rfl
@[simp] theorem Dev.onTt_node (f : Tt → Tt) : (d.onTt f).node = d.node := rfl
@[simp] theorem Dev.onTt_pager (f : Tt → Tt) : (d.onTt f).pager = d.pager := rfl
@[simp] theorem Dev.onTt_eccm (f : Tt → Tt) : (d.onTt f).eccm = d.eccm := rfl
@[simp] theorem Dev.onTt_cus (f : Tt → Tt) : (d.onTt f).cus = d.cus := rfl
@[simp] theorem Dev.onTt_met (f : Tt → Tt) : (d.onTt f).met = d.met := rfl
@[simp] theorem Dev.onTt_adc (f : Tt → Tt) : (d.onTt f).adc = d.adc := rfl
@[simp] theorem Dev.onTt_prog (f : Tt → Tt) : (d.onTt f).prog = d.prog := rfl
@[simp] theorem Dev.onTt_rdAt (f : Tt → Tt) (g : Fld) (j : Nat) : (d.onTt f).rdAt g j = d.rdAt g j := rfl
@[simp] theorem Dev.onTt_tt (f : Tt → Tt) : (d.onTt f).tt = f d.tt := rfl

/-! ### `onEvt` -/

@[simp] theorem Dev.onEvt_fresh (f : Evt → Evt) : (d.onEvt f).fresh = d.fresh := rfl
@[simp] theorem Dev.onEvt_straps (f : Evt → Evt) : (d.onEvt f).straps = d.straps := rfl
@[simp] theorem Dev.onEvt_resp (f : Evt → Evt) : (d.onEvt f).resp = d.resp := rfl
@[simp] theorem Dev.onEvt_regs (f : Evt → Evt) : (d.onEvt f).regs = d.regs := rfl
@[simp] theorem Dev.onEvt_lat (f : Evt → Evt) : (d.onEvt f).lat = d.lat := rfl
@[simp] theorem Dev.onEvt_sys (f : Evt → Evt) : (d.onEvt f).sys = d.sys := rfl
@[simp] theorem Dev.onEvt_tt (f : Evt → Evt) : (d.onEvt f).tt = d.tt := rfl
@[simp] theorem Dev.onEvt_vcs (f : Evt → Evt) : (d.onEvt f).vcs = d.vcs := rfl
@[simp] theorem Dev.onEvt_fm (f : Evt → Evt) : (d.onEvt f).fm = d.fm := rfl
@[simp] theorem Dev.onEvt_saf (f : Evt → Evt) : (d.onEvt f).saf = d.saf := rfl
@[simp] theorem Dev.onEvt_conv (f : Evt → Evt) : (d.onEvt f).conv = d.conv := rfl
@[simp] theorem Dev.onEvt_pump (f : Evt → Evt) : (d.onEvt f).pump = d.pump := rfl
@[simp] theorem Dev.onEvt_twin (f : Evt → Evt) : (d.onEvt f).twin = d.twin := rfl
@[simp] theorem Dev.onEvt_ethn (f : Evt → Evt) : (d.onEvt f).ethn = d.ethn := rfl
@[simp] theorem Dev.onEvt_node (f : Evt → Evt) : (d.onEvt f).node = d.node := rfl
@[simp] theorem Dev.onEvt_pager (f : Evt → Evt) : (d.onEvt f).pager = d.pager := rfl
@[simp] theorem Dev.onEvt_eccm (f : Evt → Evt) : (d.onEvt f).eccm = d.eccm := rfl
@[simp] theorem Dev.onEvt_cus (f : Evt → Evt) : (d.onEvt f).cus = d.cus := rfl
@[simp] theorem Dev.onEvt_met (f : Evt → Evt) : (d.onEvt f).met = d.met := rfl
@[simp] theorem Dev.onEvt_adc (f : Evt → Evt) : (d.onEvt f).adc = d.adc := rfl
@[simp] theorem Dev.onEvt_prog (f : Evt → Evt) : (d.onEvt f).prog = d.prog := rfl
@[simp] theorem Dev.onEvt_rdAt (f : Evt → Evt) (g : Fld) (j : Nat) : (d.onEvt f).rdAt g j = d.rdAt g j := rfl
@[simp] theorem Dev.onEvt_evt (f : Evt → Evt) : (d.onEvt f).evt = f d.evt := rfl

/-! ### `onSaf` -/

@[simp] theorem Dev.onSaf_fresh (f : Saf → Saf) : (d.onSaf f).fresh = d.fresh := rfl
@[simp] theorem Dev.onSaf_straps (f : Saf → Saf) : (d.onSaf f).straps = d.straps := rfl
@[simp] theorem Dev.onSaf_resp (f : Saf → Saf) : (d.onSaf f).resp = d.resp := rfl
@[simp] theorem Dev.onSaf_regs (f : Saf → Saf) : (d.onSaf f).regs = d.regs := rfl
@[simp] theorem Dev.onSaf_lat (f : Saf → Saf) : (d.onSaf f).lat = d.lat := rfl
@[simp] theorem Dev.onSaf_sys (f : Saf → Saf) : (d.onSaf f).sys = d.sys := rfl
@[simp] theorem Dev.onSaf_evt (f : Saf → Saf) : (d.onSaf f).evt = d.evt := rfl
@[simp] theorem Dev.onSaf_tt (f : Saf → Saf) : (d.onSaf f).tt = d.tt := rfl
@[simp] theorem Dev.onSaf_vcs (f : Saf → Saf) : (d.onSaf f).vcs = d.vcs := rfl
@[simp] theorem Dev.onSaf_fm (f : Saf → Saf) : (d.onSaf f).fm = d.fm := rfl
@[simp] theorem Dev.onSaf_conv (f : Saf → Saf) : (d.onSaf f).conv = d.conv := rfl
@[simp] theorem Dev.onSaf_pump (f : Saf → Saf) : (d.onSaf f).pump = d.pump := rfl
@[simp] theorem Dev.onSaf_twin (f : Saf → Saf) : (d.onSaf f).twin = d.twin := rfl
@[simp] theorem Dev.onSaf_ethn (f : Saf → Saf) : (d.onSaf f).ethn = d.ethn := rfl
@[simp] theorem Dev.onSaf_node (f : Saf → Saf) : (d.onSaf f).node = d.node := rfl
@[simp] theorem Dev.onSaf_pager (f : Saf → Saf) : (d.onSaf f).pager = d.pager := rfl
@[simp] theorem Dev.onSaf_eccm (f : Saf → Saf) : (d.onSaf f).eccm = d.eccm := rfl
@[simp] theorem Dev.onSaf_cus (f : Saf → Saf) : (d.onSaf f).cus = d.cus := rfl
@[simp] theorem Dev.onSaf_met (f : Saf → Saf) : (d.onSaf f).met = d.met := rfl
@[simp] theorem Dev.onSaf_adc (f : Saf → Saf) : (d.onSaf f).adc = d.adc := rfl
@[simp] theorem Dev.onSaf_prog (f : Saf → Saf) : (d.onSaf f).prog = d.prog := rfl
@[simp] theorem Dev.onSaf_rdAt (f : Saf → Saf) (g : Fld) (j : Nat) : (d.onSaf f).rdAt g j = d.rdAt g j := rfl
@[simp] theorem Dev.onSaf_saf (f : Saf → Saf) : (d.onSaf f).saf = f d.saf := rfl

/-! ### `onPump` -/

@[simp] theorem Dev.onPump_fresh (f : Pump → Pump) : (d.onPump f).fresh = d.fresh := rfl
@[simp] theorem Dev.onPump_straps (f : Pump → Pump) : (d.onPump f).straps = d.straps := rfl
@[simp] theorem Dev.onPump_resp (f : Pump → Pump) : (d.onPump f).resp = d.resp := rfl
@[simp] theorem Dev.onPump_regs (f : Pump → Pump) : (d.onPump f).regs = d.regs := rfl
@[simp] theorem Dev.onPump_lat (f : Pump → Pump) : (d.onPump f).lat = d.lat := rfl
@[simp] theorem Dev.onPump_sys (f : Pump → Pump) : (d.onPump f).sys = d.sys := rfl
@[simp] theorem Dev.onPump_evt (f : Pump → Pump) : (d.onPump f).evt = d.evt := rfl
@[simp] theorem Dev.onPump_tt (f : Pump → Pump) : (d.onPump f).tt = d.tt := rfl
@[simp] theorem Dev.onPump_vcs (f : Pump → Pump) : (d.onPump f).vcs = d.vcs := rfl
@[simp] theorem Dev.onPump_fm (f : Pump → Pump) : (d.onPump f).fm = d.fm := rfl
@[simp] theorem Dev.onPump_saf (f : Pump → Pump) : (d.onPump f).saf = d.saf := rfl
@[simp] theorem Dev.onPump_conv (f : Pump → Pump) : (d.onPump f).conv = d.conv := rfl
@[simp] theorem Dev.onPump_twin (f : Pump → Pump) : (d.onPump f).twin = d.twin := rfl
@[simp] theorem Dev.onPump_ethn (f : Pump → Pump) : (d.onPump f).ethn = d.ethn := rfl
@[simp] theorem Dev.onPump_node (f : Pump → Pump) : (d.onPump f).node = d.node := rfl
@[simp] theorem Dev.onPump_pager (f : Pump → Pump) : (d.onPump f).pager = d.pager := rfl
@[simp] theorem Dev.onPump_eccm (f : Pump → Pump) : (d.onPump f).eccm = d.eccm := rfl
@[simp] theorem Dev.onPump_cus (f : Pump → Pump) : (d.onPump f).cus = d.cus := rfl
@[simp] theorem Dev.onPump_met (f : Pump → Pump) : (d.onPump f).met = d.met := rfl
@[simp] theorem Dev.onPump_adc (f : Pump → Pump) : (d.onPump f).adc = d.adc := rfl
@[simp] theorem Dev.onPump_prog (f : Pump → Pump) : (d.onPump f).prog = d.prog := rfl
@[simp] theorem Dev.onPump_rdAt (f : Pump → Pump) (g : Fld) (j : Nat) : (d.onPump f).rdAt g j = d.rdAt g j := rfl
@[simp] theorem Dev.onPump_pump (f : Pump → Pump) : (d.onPump f).pump = f d.pump := rfl

/-! ### `onEth` -/

@[simp] theorem Dev.onEth_fresh (f : EthNet → EthNet) : (d.onEth f).fresh = d.fresh := rfl
@[simp] theorem Dev.onEth_straps (f : EthNet → EthNet) : (d.onEth f).straps = d.straps := rfl
@[simp] theorem Dev.onEth_resp (f : EthNet → EthNet) : (d.onEth f).resp = d.resp := rfl
@[simp] theorem Dev.onEth_regs (f : EthNet → EthNet) : (d.onEth f).regs = d.regs := rfl
@[simp] theorem Dev.onEth_lat (f : EthNet → EthNet) : (d.onEth f).lat = d.lat := rfl
@[simp] theorem Dev.onEth_sys (f : EthNet → EthNet) : (d.onEth f).sys = d.sys := rfl
@[simp] theorem Dev.onEth_evt (f : EthNet → EthNet) : (d.onEth f).evt = d.evt := rfl
@[simp] theorem Dev.onEth_tt (f : EthNet → EthNet) : (d.onEth f).tt = d.tt := rfl
@[simp] theorem Dev.onEth_vcs (f : EthNet → EthNet) : (d.onEth f).vcs = d.vcs := rfl
@[simp] theorem Dev.onEth_fm (f : EthNet → EthNet) : (d.onEth f).fm = d.fm := rfl
@[simp] theorem Dev.onEth_saf (f : EthNet → EthNet) : (d.onEth f).saf = d.saf := rfl
@[simp] theorem Dev.onEth_conv (f : EthNet → EthNet) : (d.onEth f).conv = d.conv := rfl
@[simp] theorem Dev.onEth_pump (f : EthNet → EthNet) : (d.onEth f).pump = d.pump := rfl
@[simp] theorem Dev.onEth_twin (f : EthNet → EthNet) : (d.onEth f).twin = d.twin := rfl
@[simp] theorem Dev.onEth_node (f : EthNet → EthNet) : (d.onEth f).node = d.node := rfl
@[simp] theorem Dev.onEth_pager (f : EthNet → EthNet) : (d.onEth f).pager = d.pager := rfl
@[simp] theorem Dev.onEth_eccm (f : EthNet → EthNet) : (d.onEth f).eccm = d.eccm := rfl
@[simp] theorem Dev.onEth_cus (f : EthNet → EthNet) : (d.onEth f).cus = d.cus := rfl
@[simp] theorem Dev.onEth_met (f : EthNet → EthNet) : (d.onEth f).met = d.met := rfl
@[simp] theorem Dev.onEth_adc (f : EthNet → EthNet) : (d.onEth f).adc = d.adc := rfl
@[simp] theorem Dev.onEth_prog (f : EthNet → EthNet) : (d.onEth f).prog = d.prog := rfl
@[simp] theorem Dev.onEth_rdAt (f : EthNet → EthNet) (g : Fld) (j : Nat) : (d.onEth f).rdAt g j = d.rdAt g j := rfl
@[simp] theorem Dev.onEth_ethn (f : EthNet → EthNet) : (d.onEth f).ethn = f d.ethn := rfl

/-! ### `onNode` -/

@[simp] theorem Dev.onNode_fresh (f : NodeNet → NodeNet) : (d.onNode f).fresh = d.fresh := rfl
@[simp] theorem Dev.onNode_straps (f : NodeNet → NodeNet) : (d.onNode f).straps = d.straps := rfl
@[simp] theorem Dev.onNode_resp (f : NodeNet → NodeNet) : (d.onNode f).resp = d.resp := rfl
@[simp] theorem Dev.onNode_regs (f : NodeNet → NodeNet) : (d.onNode f).regs = d.regs := rfl
@[simp] theorem Dev.onNode_lat (f : NodeNet → NodeNet) : (d.onNode f).lat = d.lat := rfl
@[simp] theorem Dev.onNode_sys (f : NodeNet → NodeNet) : (d.onNode f).sys = d.sys := rfl
@[simp] theorem Dev.onNode_evt (f : NodeNet → NodeNet) : (d.onNode f).evt = d.evt := rfl
@[simp] theorem Dev.onNode_tt (f : NodeNet → NodeNet) : (d.onNode f).tt = d.tt := rfl
@[simp] theorem Dev.onNode_vcs (f : NodeNet → NodeNet) : (d.onNode f).vcs = d.vcs := rfl
@[simp] theorem Dev.onNode_fm (f : NodeNet → NodeNet) : (d.onNode f).fm = d.fm := rfl
@[simp] theorem Dev.onNode_saf (f : NodeNet → NodeNet) : (d.onNode f).saf = d.saf := rfl
@[simp] theorem Dev.onNode_conv (f : NodeNet → NodeNet) : (d.onNode f).conv = d.conv := rfl
@[simp] theorem Dev.onNode_pump (f : NodeNet → NodeNet) : (d.onNode f).pump = d.pump := rfl
@[simp] theorem Dev.onNode_twin (f : NodeNet → NodeNet) : (d.onNode f).twin = d.twin := rfl
@[simp] theorem Dev.onNode_ethn (f : NodeNet → NodeNet) : (d.onNode f).ethn = d.ethn := rfl
@[simp] theorem Dev.onNode_pager (f : NodeNet → NodeNet) : (d.onNode f).pager = d.pager := rfl
@[simp] theorem Dev.onNode_eccm (f : NodeNet → NodeNet) : (d.onNode f).eccm = d.eccm := rfl
@[simp] theorem Dev.onNode_cus (f : NodeNet → NodeNet) : (d.onNode f).cus = d.cus := rfl
@[simp] theorem Dev.onNode_met (f : NodeNet → NodeNet) : (d.onNode f).met = d.met := rfl
@[simp] theorem Dev.onNode_adc (f : NodeNet → NodeNet) : (d.onNode f).adc = d.adc := rfl
@[simp] theorem Dev.onNode_prog (f : NodeNet → NodeNet) : (d.onNode f).prog = d.prog := rfl
@[simp] theorem Dev.onNode_rdAt (f : NodeNet → NodeNet) (g : Fld) (j : Nat) : (d.onNode f).rdAt g j = d.rdAt g j := rfl
@[simp] theorem Dev.onNode_node (f : NodeNet → NodeNet) : (d.onNode f).node = f d.node := rfl

/-! ### `onPager` -/

@[simp] theorem Dev.onPager_fresh (f : Pager → Pager) : (d.onPager f).fresh = d.fresh := rfl
@[simp] theorem Dev.onPager_straps (f : Pager → Pager) : (d.onPager f).straps = d.straps := rfl
@[simp] theorem Dev.onPager_resp (f : Pager → Pager) : (d.onPager f).resp = d.resp := rfl
@[simp] theorem Dev.onPager_regs (f : Pager → Pager) : (d.onPager f).regs = d.regs := rfl
@[simp] theorem Dev.onPager_lat (f : Pager → Pager) : (d.onPager f).lat = d.lat := rfl
@[simp] theorem Dev.onPager_sys (f : Pager → Pager) : (d.onPager f).sys = d.sys := rfl
@[simp] theorem Dev.onPager_evt (f : Pager → Pager) : (d.onPager f).evt = d.evt := rfl
@[simp] theorem Dev.onPager_tt (f : Pager → Pager) : (d.onPager f).tt = d.tt := rfl
@[simp] theorem Dev.onPager_vcs (f : Pager → Pager) : (d.onPager f).vcs = d.vcs := rfl
@[simp] theorem Dev.onPager_fm (f : Pager → Pager) : (d.onPager f).fm = d.fm := rfl
@[simp] theorem Dev.onPager_saf (f : Pager → Pager) : (d.onPager f).saf = d.saf := rfl
@[simp] theorem Dev.onPager_conv (f : Pager → Pager) : (d.onPager f).conv = d.conv := rfl
@[simp] theorem Dev.onPager_pump (f : Pager → Pager) : (d.onPager f).pump = d.pump := rfl
@[simp] theorem Dev.onPager_twin (f : Pager → Pager) : (d.onPager f).twin = d.twin := rfl
@[simp] theorem Dev.onPager_ethn (f : Pager → Pager) : (d.onPager f).ethn = d.ethn := rfl
@[simp] theorem Dev.onPager_node (f : Pager → Pager) : (d.onPager f).node = d.node := rfl
@[simp] theorem Dev.onPager_eccm (f : Pager → Pager) : (d.onPager f).eccm = d.eccm := rfl
@[simp] theorem Dev.onPager_cus (f : Pager → Pager) : (d.onPager f).cus = d.cus := rfl
@[simp] theorem Dev.onPager_met (f : Pager → Pager) : (d.onPager f).met = d.met := rfl
@[simp] theorem Dev.onPager_adc (f : Pager → Pager) : (d.onPager f).adc = d.adc := rfl
@[simp] theorem Dev.onPager_prog (f : Pager → Pager) : (d.onPager f).prog = d.prog := rfl
@[simp] theorem Dev.onPager_rdAt (f : Pager → Pager) (g : Fld) (j : Nat) : (d.onPager f).rdAt g j = d.rdAt g j := rfl
@[simp] theorem Dev.onPager_pager (f : Pager → Pager) : (d.onPager f).pager = f d.pager := rfl

/-! ### `onEcc` -/

@[simp] theorem Dev.onEcc_fresh (f : EccMem → EccMem) : (d.onEcc f).fresh = d.fresh := rfl
@[simp] theorem Dev.onEcc_straps (f : EccMem → EccMem) : (d.onEcc f).straps = d.straps := rfl
@[simp] theorem Dev.onEcc_resp (f : EccMem → EccMem) : (d.onEcc f).resp = d.resp := rfl
@[simp] theorem Dev.onEcc_regs (f : EccMem → EccMem) : (d.onEcc f).regs = d.regs := rfl
@[simp] theorem Dev.onEcc_lat (f : EccMem → EccMem) : (d.onEcc f).lat = d.lat := rfl
@[simp] theorem Dev.onEcc_sys (f : EccMem → EccMem) : (d.onEcc f).sys = d.sys := rfl
@[simp] theorem Dev.onEcc_evt (f : EccMem → EccMem) : (d.onEcc f).evt = d.evt := rfl
@[simp] theorem Dev.onEcc_tt (f : EccMem → EccMem) : (d.onEcc f).tt = d.tt := rfl
@[simp] theorem Dev.onEcc_vcs (f : EccMem → EccMem) : (d.onEcc f).vcs = d.vcs := rfl
@[simp] theorem Dev.onEcc_fm (f : EccMem → EccMem) : (d.onEcc f).fm = d.fm := rfl
@[simp] theorem Dev.onEcc_saf (f : EccMem → EccMem) : (d.onEcc f).saf = d.saf := rfl
@[simp] theorem Dev.onEcc_conv (f : EccMem → EccMem) : (d.onEcc f).conv = d.conv := rfl
@[simp] theorem Dev.onEcc_pump (f : EccMem → EccMem) : (d.onEcc f).pump = d.pump := rfl
@[simp] theorem Dev.onEcc_twin (f : EccMem → EccMem) : (d.onEcc f).twin = d.twin := rfl
@[simp] theorem Dev.onEcc_ethn (f : EccMem → EccMem) : (d.onEcc f).ethn = d.ethn := rfl
@[simp] theorem Dev.onEcc_node (f : EccMem → EccMem) : (d.onEcc f).node = d.node := rfl
@[simp] theorem Dev.onEcc_pager (f : EccMem → EccMem) : (d.onEcc f).pager = d.pager := rfl
@[simp] theorem Dev.onEcc_cus (f : EccMem → EccMem) : (d.onEcc f).cus = d.cus := rfl
@[simp] theorem Dev.onEcc_met (f : EccMem → EccMem) : (d.onEcc f).met = d.met := rfl
@[simp] theorem Dev.onEcc_adc (f : EccMem → EccMem) : (d.onEcc f).adc = d.adc := rfl
@[simp] theorem Dev.onEcc_prog (f : EccMem → EccMem) : (d.onEcc f).prog = d.prog := rfl
@[simp] theorem Dev.onEcc_rdAt (f : EccMem → EccMem) (g : Fld) (j : Nat) : (d.onEcc f).rdAt g j = d.rdAt g j := rfl
@[simp] theorem Dev.onEcc_eccm (f : EccMem → EccMem) : (d.onEcc f).eccm = f d.eccm := rfl

/-! ### `onCus` -/

@[simp] theorem Dev.onCus_fresh (f : Custody → Custody) : (d.onCus f).fresh = d.fresh := rfl
@[simp] theorem Dev.onCus_straps (f : Custody → Custody) : (d.onCus f).straps = d.straps := rfl
@[simp] theorem Dev.onCus_resp (f : Custody → Custody) : (d.onCus f).resp = d.resp := rfl
@[simp] theorem Dev.onCus_regs (f : Custody → Custody) : (d.onCus f).regs = d.regs := rfl
@[simp] theorem Dev.onCus_lat (f : Custody → Custody) : (d.onCus f).lat = d.lat := rfl
@[simp] theorem Dev.onCus_sys (f : Custody → Custody) : (d.onCus f).sys = d.sys := rfl
@[simp] theorem Dev.onCus_evt (f : Custody → Custody) : (d.onCus f).evt = d.evt := rfl
@[simp] theorem Dev.onCus_tt (f : Custody → Custody) : (d.onCus f).tt = d.tt := rfl
@[simp] theorem Dev.onCus_vcs (f : Custody → Custody) : (d.onCus f).vcs = d.vcs := rfl
@[simp] theorem Dev.onCus_fm (f : Custody → Custody) : (d.onCus f).fm = d.fm := rfl
@[simp] theorem Dev.onCus_saf (f : Custody → Custody) : (d.onCus f).saf = d.saf := rfl
@[simp] theorem Dev.onCus_conv (f : Custody → Custody) : (d.onCus f).conv = d.conv := rfl
@[simp] theorem Dev.onCus_pump (f : Custody → Custody) : (d.onCus f).pump = d.pump := rfl
@[simp] theorem Dev.onCus_twin (f : Custody → Custody) : (d.onCus f).twin = d.twin := rfl
@[simp] theorem Dev.onCus_ethn (f : Custody → Custody) : (d.onCus f).ethn = d.ethn := rfl
@[simp] theorem Dev.onCus_node (f : Custody → Custody) : (d.onCus f).node = d.node := rfl
@[simp] theorem Dev.onCus_pager (f : Custody → Custody) : (d.onCus f).pager = d.pager := rfl
@[simp] theorem Dev.onCus_eccm (f : Custody → Custody) : (d.onCus f).eccm = d.eccm := rfl
@[simp] theorem Dev.onCus_met (f : Custody → Custody) : (d.onCus f).met = d.met := rfl
@[simp] theorem Dev.onCus_adc (f : Custody → Custody) : (d.onCus f).adc = d.adc := rfl
@[simp] theorem Dev.onCus_prog (f : Custody → Custody) : (d.onCus f).prog = d.prog := rfl
@[simp] theorem Dev.onCus_rdAt (f : Custody → Custody) (g : Fld) (j : Nat) : (d.onCus f).rdAt g j = d.rdAt g j := rfl
@[simp] theorem Dev.onCus_cus (f : Custody → Custody) : (d.onCus f).cus = f d.cus := rfl

/-! ### `onMet` -/

@[simp] theorem Dev.onMet_fresh (f : Met → Met) : (d.onMet f).fresh = d.fresh := rfl
@[simp] theorem Dev.onMet_straps (f : Met → Met) : (d.onMet f).straps = d.straps := rfl
@[simp] theorem Dev.onMet_resp (f : Met → Met) : (d.onMet f).resp = d.resp := rfl
@[simp] theorem Dev.onMet_regs (f : Met → Met) : (d.onMet f).regs = d.regs := rfl
@[simp] theorem Dev.onMet_lat (f : Met → Met) : (d.onMet f).lat = d.lat := rfl
@[simp] theorem Dev.onMet_sys (f : Met → Met) : (d.onMet f).sys = d.sys := rfl
@[simp] theorem Dev.onMet_evt (f : Met → Met) : (d.onMet f).evt = d.evt := rfl
@[simp] theorem Dev.onMet_tt (f : Met → Met) : (d.onMet f).tt = d.tt := rfl
@[simp] theorem Dev.onMet_vcs (f : Met → Met) : (d.onMet f).vcs = d.vcs := rfl
@[simp] theorem Dev.onMet_fm (f : Met → Met) : (d.onMet f).fm = d.fm := rfl
@[simp] theorem Dev.onMet_saf (f : Met → Met) : (d.onMet f).saf = d.saf := rfl
@[simp] theorem Dev.onMet_conv (f : Met → Met) : (d.onMet f).conv = d.conv := rfl
@[simp] theorem Dev.onMet_pump (f : Met → Met) : (d.onMet f).pump = d.pump := rfl
@[simp] theorem Dev.onMet_twin (f : Met → Met) : (d.onMet f).twin = d.twin := rfl
@[simp] theorem Dev.onMet_ethn (f : Met → Met) : (d.onMet f).ethn = d.ethn := rfl
@[simp] theorem Dev.onMet_node (f : Met → Met) : (d.onMet f).node = d.node := rfl
@[simp] theorem Dev.onMet_pager (f : Met → Met) : (d.onMet f).pager = d.pager := rfl
@[simp] theorem Dev.onMet_eccm (f : Met → Met) : (d.onMet f).eccm = d.eccm := rfl
@[simp] theorem Dev.onMet_cus (f : Met → Met) : (d.onMet f).cus = d.cus := rfl
@[simp] theorem Dev.onMet_adc (f : Met → Met) : (d.onMet f).adc = d.adc := rfl
@[simp] theorem Dev.onMet_prog (f : Met → Met) : (d.onMet f).prog = d.prog := rfl
@[simp] theorem Dev.onMet_rdAt (f : Met → Met) (g : Fld) (j : Nat) : (d.onMet f).rdAt g j = d.rdAt g j := rfl
@[simp] theorem Dev.onMet_met (f : Met → Met) : (d.onMet f).met = f d.met := rfl

/-! ### `onAdc` -/

@[simp] theorem Dev.onAdc_fresh (f : Adc → Adc) : (d.onAdc f).fresh = d.fresh := rfl
@[simp] theorem Dev.onAdc_straps (f : Adc → Adc) : (d.onAdc f).straps = d.straps := rfl
@[simp] theorem Dev.onAdc_resp (f : Adc → Adc) : (d.onAdc f).resp = d.resp := rfl
@[simp] theorem Dev.onAdc_regs (f : Adc → Adc) : (d.onAdc f).regs = d.regs := rfl
@[simp] theorem Dev.onAdc_lat (f : Adc → Adc) : (d.onAdc f).lat = d.lat := rfl
@[simp] theorem Dev.onAdc_sys (f : Adc → Adc) : (d.onAdc f).sys = d.sys := rfl
@[simp] theorem Dev.onAdc_evt (f : Adc → Adc) : (d.onAdc f).evt = d.evt := rfl
@[simp] theorem Dev.onAdc_tt (f : Adc → Adc) : (d.onAdc f).tt = d.tt := rfl
@[simp] theorem Dev.onAdc_vcs (f : Adc → Adc) : (d.onAdc f).vcs = d.vcs := rfl
@[simp] theorem Dev.onAdc_fm (f : Adc → Adc) : (d.onAdc f).fm = d.fm := rfl
@[simp] theorem Dev.onAdc_saf (f : Adc → Adc) : (d.onAdc f).saf = d.saf := rfl
@[simp] theorem Dev.onAdc_conv (f : Adc → Adc) : (d.onAdc f).conv = d.conv := rfl
@[simp] theorem Dev.onAdc_pump (f : Adc → Adc) : (d.onAdc f).pump = d.pump := rfl
@[simp] theorem Dev.onAdc_twin (f : Adc → Adc) : (d.onAdc f).twin = d.twin := rfl
@[simp] theorem Dev.onAdc_ethn (f : Adc → Adc) : (d.onAdc f).ethn = d.ethn := rfl
@[simp] theorem Dev.onAdc_node (f : Adc → Adc) : (d.onAdc f).node = d.node := rfl
@[simp] theorem Dev.onAdc_pager (f : Adc → Adc) : (d.onAdc f).pager = d.pager := rfl
@[simp] theorem Dev.onAdc_eccm (f : Adc → Adc) : (d.onAdc f).eccm = d.eccm := rfl
@[simp] theorem Dev.onAdc_cus (f : Adc → Adc) : (d.onAdc f).cus = d.cus := rfl
@[simp] theorem Dev.onAdc_met (f : Adc → Adc) : (d.onAdc f).met = d.met := rfl
@[simp] theorem Dev.onAdc_prog (f : Adc → Adc) : (d.onAdc f).prog = d.prog := rfl
@[simp] theorem Dev.onAdc_rdAt (f : Adc → Adc) (g : Fld) (j : Nat) : (d.onAdc f).rdAt g j = d.rdAt g j := rfl
@[simp] theorem Dev.onAdc_adc (f : Adc → Adc) : (d.onAdc f).adc = f d.adc := rfl

/-! ### `onProg` -/

@[simp] theorem Dev.onProg_fresh (f : Ctl → Ctl) : (d.onProg f).fresh = d.fresh := rfl
@[simp] theorem Dev.onProg_straps (f : Ctl → Ctl) : (d.onProg f).straps = d.straps := rfl
@[simp] theorem Dev.onProg_resp (f : Ctl → Ctl) : (d.onProg f).resp = d.resp := rfl
@[simp] theorem Dev.onProg_regs (f : Ctl → Ctl) : (d.onProg f).regs = d.regs := rfl
@[simp] theorem Dev.onProg_lat (f : Ctl → Ctl) : (d.onProg f).lat = d.lat := rfl
@[simp] theorem Dev.onProg_sys (f : Ctl → Ctl) : (d.onProg f).sys = d.sys := rfl
@[simp] theorem Dev.onProg_evt (f : Ctl → Ctl) : (d.onProg f).evt = d.evt := rfl
@[simp] theorem Dev.onProg_tt (f : Ctl → Ctl) : (d.onProg f).tt = d.tt := rfl
@[simp] theorem Dev.onProg_vcs (f : Ctl → Ctl) : (d.onProg f).vcs = d.vcs := rfl
@[simp] theorem Dev.onProg_fm (f : Ctl → Ctl) : (d.onProg f).fm = d.fm := rfl
@[simp] theorem Dev.onProg_saf (f : Ctl → Ctl) : (d.onProg f).saf = d.saf := rfl
@[simp] theorem Dev.onProg_conv (f : Ctl → Ctl) : (d.onProg f).conv = d.conv := rfl
@[simp] theorem Dev.onProg_pump (f : Ctl → Ctl) : (d.onProg f).pump = d.pump := rfl
@[simp] theorem Dev.onProg_twin (f : Ctl → Ctl) : (d.onProg f).twin = d.twin := rfl
@[simp] theorem Dev.onProg_ethn (f : Ctl → Ctl) : (d.onProg f).ethn = d.ethn := rfl
@[simp] theorem Dev.onProg_node (f : Ctl → Ctl) : (d.onProg f).node = d.node := rfl
@[simp] theorem Dev.onProg_pager (f : Ctl → Ctl) : (d.onProg f).pager = d.pager := rfl
@[simp] theorem Dev.onProg_eccm (f : Ctl → Ctl) : (d.onProg f).eccm = d.eccm := rfl
@[simp] theorem Dev.onProg_cus (f : Ctl → Ctl) : (d.onProg f).cus = d.cus := rfl
@[simp] theorem Dev.onProg_met (f : Ctl → Ctl) : (d.onProg f).met = d.met := rfl
@[simp] theorem Dev.onProg_adc (f : Ctl → Ctl) : (d.onProg f).adc = d.adc := rfl
@[simp] theorem Dev.onProg_rdAt (f : Ctl → Ctl) (g : Fld) (j : Nat) : (d.onProg f).rdAt g j = d.rdAt g j := rfl
@[simp] theorem Dev.onProg_prog (f : Ctl → Ctl) : (d.onProg f).prog = f d.prog := rfl

/-! ### `onFerry` -/

@[simp] theorem Dev.onFerry_fresh (f : Ferry → Ferry) : (d.onFerry f).fresh = d.fresh := rfl
@[simp] theorem Dev.onFerry_straps (f : Ferry → Ferry) : (d.onFerry f).straps = d.straps := rfl
@[simp] theorem Dev.onFerry_resp (f : Ferry → Ferry) : (d.onFerry f).resp = d.resp := rfl
@[simp] theorem Dev.onFerry_regs (f : Ferry → Ferry) : (d.onFerry f).regs = d.regs := rfl
@[simp] theorem Dev.onFerry_lat (f : Ferry → Ferry) : (d.onFerry f).lat = d.lat := rfl
@[simp] theorem Dev.onFerry_sys (f : Ferry → Ferry) : (d.onFerry f).sys = d.sys := rfl
@[simp] theorem Dev.onFerry_evt (f : Ferry → Ferry) : (d.onFerry f).evt = d.evt := rfl
@[simp] theorem Dev.onFerry_tt (f : Ferry → Ferry) : (d.onFerry f).tt = d.tt := rfl
@[simp] theorem Dev.onFerry_fm (f : Ferry → Ferry) : (d.onFerry f).fm = d.fm := rfl
@[simp] theorem Dev.onFerry_saf (f : Ferry → Ferry) : (d.onFerry f).saf = d.saf := rfl
@[simp] theorem Dev.onFerry_conv (f : Ferry → Ferry) : (d.onFerry f).conv = d.conv := rfl
@[simp] theorem Dev.onFerry_pump (f : Ferry → Ferry) : (d.onFerry f).pump = d.pump := rfl
@[simp] theorem Dev.onFerry_twin (f : Ferry → Ferry) : (d.onFerry f).twin = d.twin := rfl
@[simp] theorem Dev.onFerry_ethn (f : Ferry → Ferry) : (d.onFerry f).ethn = d.ethn := rfl
@[simp] theorem Dev.onFerry_node (f : Ferry → Ferry) : (d.onFerry f).node = d.node := rfl
@[simp] theorem Dev.onFerry_pager (f : Ferry → Ferry) : (d.onFerry f).pager = d.pager := rfl
@[simp] theorem Dev.onFerry_eccm (f : Ferry → Ferry) : (d.onFerry f).eccm = d.eccm := rfl
@[simp] theorem Dev.onFerry_cus (f : Ferry → Ferry) : (d.onFerry f).cus = d.cus := rfl
@[simp] theorem Dev.onFerry_met (f : Ferry → Ferry) : (d.onFerry f).met = d.met := rfl
@[simp] theorem Dev.onFerry_adc (f : Ferry → Ferry) : (d.onFerry f).adc = d.adc := rfl
@[simp] theorem Dev.onFerry_prog (f : Ferry → Ferry) : (d.onFerry f).prog = d.prog := rfl
@[simp] theorem Dev.onFerry_rdAt (f : Ferry → Ferry) (g : Fld) (j : Nat) : (d.onFerry f).rdAt g j = d.rdAt g j := rfl

/-! ### `setEngine` -/

@[simp] theorem Dev.setEngine_fresh (e : Nat) (x : Engine) : (d.setEngine e x).fresh = d.fresh := rfl
@[simp] theorem Dev.setEngine_straps (e : Nat) (x : Engine) : (d.setEngine e x).straps = d.straps := rfl
@[simp] theorem Dev.setEngine_resp (e : Nat) (x : Engine) : (d.setEngine e x).resp = d.resp := rfl
@[simp] theorem Dev.setEngine_regs (e : Nat) (x : Engine) : (d.setEngine e x).regs = d.regs := rfl
@[simp] theorem Dev.setEngine_lat (e : Nat) (x : Engine) : (d.setEngine e x).lat = d.lat := rfl
@[simp] theorem Dev.setEngine_sys (e : Nat) (x : Engine) : (d.setEngine e x).sys = d.sys := rfl
@[simp] theorem Dev.setEngine_evt (e : Nat) (x : Engine) : (d.setEngine e x).evt = d.evt := rfl
@[simp] theorem Dev.setEngine_tt (e : Nat) (x : Engine) : (d.setEngine e x).tt = d.tt := rfl
@[simp] theorem Dev.setEngine_fm (e : Nat) (x : Engine) : (d.setEngine e x).fm = d.fm := rfl
@[simp] theorem Dev.setEngine_saf (e : Nat) (x : Engine) : (d.setEngine e x).saf = d.saf := rfl
@[simp] theorem Dev.setEngine_conv (e : Nat) (x : Engine) : (d.setEngine e x).conv = d.conv := rfl
@[simp] theorem Dev.setEngine_pump (e : Nat) (x : Engine) : (d.setEngine e x).pump = d.pump := rfl
@[simp] theorem Dev.setEngine_twin (e : Nat) (x : Engine) : (d.setEngine e x).twin = d.twin := rfl
@[simp] theorem Dev.setEngine_ethn (e : Nat) (x : Engine) : (d.setEngine e x).ethn = d.ethn := rfl
@[simp] theorem Dev.setEngine_node (e : Nat) (x : Engine) : (d.setEngine e x).node = d.node := rfl
@[simp] theorem Dev.setEngine_pager (e : Nat) (x : Engine) : (d.setEngine e x).pager = d.pager := rfl
@[simp] theorem Dev.setEngine_eccm (e : Nat) (x : Engine) : (d.setEngine e x).eccm = d.eccm := rfl
@[simp] theorem Dev.setEngine_cus (e : Nat) (x : Engine) : (d.setEngine e x).cus = d.cus := rfl
@[simp] theorem Dev.setEngine_met (e : Nat) (x : Engine) : (d.setEngine e x).met = d.met := rfl
@[simp] theorem Dev.setEngine_adc (e : Nat) (x : Engine) : (d.setEngine e x).adc = d.adc := rfl
@[simp] theorem Dev.setEngine_prog (e : Nat) (x : Engine) : (d.setEngine e x).prog = d.prog := rfl
@[simp] theorem Dev.setEngine_rdAt (e : Nat) (x : Engine) (g : Fld) (j : Nat) : (d.setEngine e x).rdAt g j = d.rdAt g j := rfl

/-! ### `setQueue` -/

@[simp] theorem Dev.setQueue_fresh (q : Nat) (h : HostQueue) : (d.setQueue q h).fresh = d.fresh := rfl
@[simp] theorem Dev.setQueue_straps (q : Nat) (h : HostQueue) : (d.setQueue q h).straps = d.straps := rfl
@[simp] theorem Dev.setQueue_resp (q : Nat) (h : HostQueue) : (d.setQueue q h).resp = d.resp := rfl
@[simp] theorem Dev.setQueue_regs (q : Nat) (h : HostQueue) : (d.setQueue q h).regs = d.regs := rfl
@[simp] theorem Dev.setQueue_lat (q : Nat) (h : HostQueue) : (d.setQueue q h).lat = d.lat := rfl
@[simp] theorem Dev.setQueue_sys (q : Nat) (h : HostQueue) : (d.setQueue q h).sys = d.sys := rfl
@[simp] theorem Dev.setQueue_evt (q : Nat) (h : HostQueue) : (d.setQueue q h).evt = d.evt := rfl
@[simp] theorem Dev.setQueue_tt (q : Nat) (h : HostQueue) : (d.setQueue q h).tt = d.tt := rfl
@[simp] theorem Dev.setQueue_fm (q : Nat) (h : HostQueue) : (d.setQueue q h).fm = d.fm := rfl
@[simp] theorem Dev.setQueue_saf (q : Nat) (h : HostQueue) : (d.setQueue q h).saf = d.saf := rfl
@[simp] theorem Dev.setQueue_conv (q : Nat) (h : HostQueue) : (d.setQueue q h).conv = d.conv := rfl
@[simp] theorem Dev.setQueue_pump (q : Nat) (h : HostQueue) : (d.setQueue q h).pump = d.pump := rfl
@[simp] theorem Dev.setQueue_twin (q : Nat) (h : HostQueue) : (d.setQueue q h).twin = d.twin := rfl
@[simp] theorem Dev.setQueue_ethn (q : Nat) (h : HostQueue) : (d.setQueue q h).ethn = d.ethn := rfl
@[simp] theorem Dev.setQueue_node (q : Nat) (h : HostQueue) : (d.setQueue q h).node = d.node := rfl
@[simp] theorem Dev.setQueue_pager (q : Nat) (h : HostQueue) : (d.setQueue q h).pager = d.pager := rfl
@[simp] theorem Dev.setQueue_eccm (q : Nat) (h : HostQueue) : (d.setQueue q h).eccm = d.eccm := rfl
@[simp] theorem Dev.setQueue_cus (q : Nat) (h : HostQueue) : (d.setQueue q h).cus = d.cus := rfl
@[simp] theorem Dev.setQueue_met (q : Nat) (h : HostQueue) : (d.setQueue q h).met = d.met := rfl
@[simp] theorem Dev.setQueue_adc (q : Nat) (h : HostQueue) : (d.setQueue q h).adc = d.adc := rfl
@[simp] theorem Dev.setQueue_prog (q : Nat) (h : HostQueue) : (d.setQueue q h).prog = d.prog := rfl
@[simp] theorem Dev.setQueue_rdAt (q : Nat) (h : HostQueue) (g : Fld) (j : Nat) : (d.setQueue q h).rdAt g j = d.rdAt g j := rfl

/-! ### `setCell` -/

@[simp] theorem Dev.setCell_fresh (r : Resource) (n : Nat) (c : ClaimCell) : (d.setCell r n c).fresh = d.fresh := rfl
@[simp] theorem Dev.setCell_straps (r : Resource) (n : Nat) (c : ClaimCell) : (d.setCell r n c).straps = d.straps := rfl
@[simp] theorem Dev.setCell_resp (r : Resource) (n : Nat) (c : ClaimCell) : (d.setCell r n c).resp = d.resp := rfl
@[simp] theorem Dev.setCell_regs (r : Resource) (n : Nat) (c : ClaimCell) : (d.setCell r n c).regs = d.regs := rfl
@[simp] theorem Dev.setCell_lat (r : Resource) (n : Nat) (c : ClaimCell) : (d.setCell r n c).lat = d.lat := rfl
@[simp] theorem Dev.setCell_evt (r : Resource) (n : Nat) (c : ClaimCell) : (d.setCell r n c).evt = d.evt := rfl
@[simp] theorem Dev.setCell_tt (r : Resource) (n : Nat) (c : ClaimCell) : (d.setCell r n c).tt = d.tt := rfl
@[simp] theorem Dev.setCell_vcs (r : Resource) (n : Nat) (c : ClaimCell) : (d.setCell r n c).vcs = d.vcs := rfl
@[simp] theorem Dev.setCell_fm (r : Resource) (n : Nat) (c : ClaimCell) : (d.setCell r n c).fm = d.fm := rfl
@[simp] theorem Dev.setCell_saf (r : Resource) (n : Nat) (c : ClaimCell) : (d.setCell r n c).saf = d.saf := rfl
@[simp] theorem Dev.setCell_conv (r : Resource) (n : Nat) (c : ClaimCell) : (d.setCell r n c).conv = d.conv := rfl
@[simp] theorem Dev.setCell_pump (r : Resource) (n : Nat) (c : ClaimCell) : (d.setCell r n c).pump = d.pump := rfl
@[simp] theorem Dev.setCell_twin (r : Resource) (n : Nat) (c : ClaimCell) : (d.setCell r n c).twin = d.twin := rfl
@[simp] theorem Dev.setCell_ethn (r : Resource) (n : Nat) (c : ClaimCell) : (d.setCell r n c).ethn = d.ethn := rfl
@[simp] theorem Dev.setCell_node (r : Resource) (n : Nat) (c : ClaimCell) : (d.setCell r n c).node = d.node := rfl
@[simp] theorem Dev.setCell_pager (r : Resource) (n : Nat) (c : ClaimCell) : (d.setCell r n c).pager = d.pager := rfl
@[simp] theorem Dev.setCell_eccm (r : Resource) (n : Nat) (c : ClaimCell) : (d.setCell r n c).eccm = d.eccm := rfl
@[simp] theorem Dev.setCell_cus (r : Resource) (n : Nat) (c : ClaimCell) : (d.setCell r n c).cus = d.cus := rfl
@[simp] theorem Dev.setCell_met (r : Resource) (n : Nat) (c : ClaimCell) : (d.setCell r n c).met = d.met := rfl
@[simp] theorem Dev.setCell_adc (r : Resource) (n : Nat) (c : ClaimCell) : (d.setCell r n c).adc = d.adc := rfl
@[simp] theorem Dev.setCell_prog (r : Resource) (n : Nat) (c : ClaimCell) : (d.setCell r n c).prog = d.prog := rfl
@[simp] theorem Dev.setCell_rdAt (r : Resource) (n : Nat) (c : ClaimCell) (g : Fld) (j : Nat) : (d.setCell r n c).rdAt g j = d.rdAt g j := rfl

/-! ### `setCmp` -/

@[simp] theorem Dev.setCmp_fresh (n : Nat) (c : Cmp) : (d.setCmp n c).fresh = d.fresh := rfl
@[simp] theorem Dev.setCmp_straps (n : Nat) (c : Cmp) : (d.setCmp n c).straps = d.straps := rfl
@[simp] theorem Dev.setCmp_resp (n : Nat) (c : Cmp) : (d.setCmp n c).resp = d.resp := rfl
@[simp] theorem Dev.setCmp_regs (n : Nat) (c : Cmp) : (d.setCmp n c).regs = d.regs := rfl
@[simp] theorem Dev.setCmp_lat (n : Nat) (c : Cmp) : (d.setCmp n c).lat = d.lat := rfl
@[simp] theorem Dev.setCmp_sys (n : Nat) (c : Cmp) : (d.setCmp n c).sys = d.sys := rfl
@[simp] theorem Dev.setCmp_evt (n : Nat) (c : Cmp) : (d.setCmp n c).evt = d.evt := rfl
@[simp] theorem Dev.setCmp_tt (n : Nat) (c : Cmp) : (d.setCmp n c).tt = d.tt := rfl
@[simp] theorem Dev.setCmp_vcs (n : Nat) (c : Cmp) : (d.setCmp n c).vcs = d.vcs := rfl
@[simp] theorem Dev.setCmp_fm (n : Nat) (c : Cmp) : (d.setCmp n c).fm = d.fm := rfl
@[simp] theorem Dev.setCmp_saf (n : Nat) (c : Cmp) : (d.setCmp n c).saf = d.saf := rfl
@[simp] theorem Dev.setCmp_pump (n : Nat) (c : Cmp) : (d.setCmp n c).pump = d.pump := rfl
@[simp] theorem Dev.setCmp_twin (n : Nat) (c : Cmp) : (d.setCmp n c).twin = d.twin := rfl
@[simp] theorem Dev.setCmp_ethn (n : Nat) (c : Cmp) : (d.setCmp n c).ethn = d.ethn := rfl
@[simp] theorem Dev.setCmp_node (n : Nat) (c : Cmp) : (d.setCmp n c).node = d.node := rfl
@[simp] theorem Dev.setCmp_pager (n : Nat) (c : Cmp) : (d.setCmp n c).pager = d.pager := rfl
@[simp] theorem Dev.setCmp_eccm (n : Nat) (c : Cmp) : (d.setCmp n c).eccm = d.eccm := rfl
@[simp] theorem Dev.setCmp_cus (n : Nat) (c : Cmp) : (d.setCmp n c).cus = d.cus := rfl
@[simp] theorem Dev.setCmp_met (n : Nat) (c : Cmp) : (d.setCmp n c).met = d.met := rfl
@[simp] theorem Dev.setCmp_adc (n : Nat) (c : Cmp) : (d.setCmp n c).adc = d.adc := rfl
@[simp] theorem Dev.setCmp_prog (n : Nat) (c : Cmp) : (d.setCmp n c).prog = d.prog := rfl
@[simp] theorem Dev.setCmp_rdAt (n : Nat) (c : Cmp) (g : Fld) (j : Nat) : (d.setCmp n c).rdAt g j = d.rdAt g j := rfl

/-! ### `setLeg` -/

@[simp] theorem Dev.setLeg_fresh (m : Nat) (l : Leg) : (d.setLeg m l).fresh = d.fresh := rfl
@[simp] theorem Dev.setLeg_straps (m : Nat) (l : Leg) : (d.setLeg m l).straps = d.straps := rfl
@[simp] theorem Dev.setLeg_resp (m : Nat) (l : Leg) : (d.setLeg m l).resp = d.resp := rfl
@[simp] theorem Dev.setLeg_regs (m : Nat) (l : Leg) : (d.setLeg m l).regs = d.regs := rfl
@[simp] theorem Dev.setLeg_lat (m : Nat) (l : Leg) : (d.setLeg m l).lat = d.lat := rfl
@[simp] theorem Dev.setLeg_sys (m : Nat) (l : Leg) : (d.setLeg m l).sys = d.sys := rfl
@[simp] theorem Dev.setLeg_evt (m : Nat) (l : Leg) : (d.setLeg m l).evt = d.evt := rfl
@[simp] theorem Dev.setLeg_tt (m : Nat) (l : Leg) : (d.setLeg m l).tt = d.tt := rfl
@[simp] theorem Dev.setLeg_vcs (m : Nat) (l : Leg) : (d.setLeg m l).vcs = d.vcs := rfl
@[simp] theorem Dev.setLeg_fm (m : Nat) (l : Leg) : (d.setLeg m l).fm = d.fm := rfl
@[simp] theorem Dev.setLeg_saf (m : Nat) (l : Leg) : (d.setLeg m l).saf = d.saf := rfl
@[simp] theorem Dev.setLeg_pump (m : Nat) (l : Leg) : (d.setLeg m l).pump = d.pump := rfl
@[simp] theorem Dev.setLeg_twin (m : Nat) (l : Leg) : (d.setLeg m l).twin = d.twin := rfl
@[simp] theorem Dev.setLeg_ethn (m : Nat) (l : Leg) : (d.setLeg m l).ethn = d.ethn := rfl
@[simp] theorem Dev.setLeg_node (m : Nat) (l : Leg) : (d.setLeg m l).node = d.node := rfl
@[simp] theorem Dev.setLeg_pager (m : Nat) (l : Leg) : (d.setLeg m l).pager = d.pager := rfl
@[simp] theorem Dev.setLeg_eccm (m : Nat) (l : Leg) : (d.setLeg m l).eccm = d.eccm := rfl
@[simp] theorem Dev.setLeg_cus (m : Nat) (l : Leg) : (d.setLeg m l).cus = d.cus := rfl
@[simp] theorem Dev.setLeg_met (m : Nat) (l : Leg) : (d.setLeg m l).met = d.met := rfl
@[simp] theorem Dev.setLeg_adc (m : Nat) (l : Leg) : (d.setLeg m l).adc = d.adc := rfl
@[simp] theorem Dev.setLeg_prog (m : Nat) (l : Leg) : (d.setLeg m l).prog = d.prog := rfl
@[simp] theorem Dev.setLeg_rdAt (m : Nat) (l : Leg) (g : Fld) (j : Nat) : (d.setLeg m l).rdAt g j = d.rdAt g j := rfl

/-! ### `setLink` -/

@[simp] theorem Dev.setLink_fresh (l : Nat) (k : Link) : (d.setLink l k).fresh = d.fresh := rfl
@[simp] theorem Dev.setLink_straps (l : Nat) (k : Link) : (d.setLink l k).straps = d.straps := rfl
@[simp] theorem Dev.setLink_resp (l : Nat) (k : Link) : (d.setLink l k).resp = d.resp := rfl
@[simp] theorem Dev.setLink_regs (l : Nat) (k : Link) : (d.setLink l k).regs = d.regs := rfl
@[simp] theorem Dev.setLink_lat (l : Nat) (k : Link) : (d.setLink l k).lat = d.lat := rfl
@[simp] theorem Dev.setLink_sys (l : Nat) (k : Link) : (d.setLink l k).sys = d.sys := rfl
@[simp] theorem Dev.setLink_evt (l : Nat) (k : Link) : (d.setLink l k).evt = d.evt := rfl
@[simp] theorem Dev.setLink_tt (l : Nat) (k : Link) : (d.setLink l k).tt = d.tt := rfl
@[simp] theorem Dev.setLink_vcs (l : Nat) (k : Link) : (d.setLink l k).vcs = d.vcs := rfl
@[simp] theorem Dev.setLink_fm (l : Nat) (k : Link) : (d.setLink l k).fm = d.fm := rfl
@[simp] theorem Dev.setLink_saf (l : Nat) (k : Link) : (d.setLink l k).saf = d.saf := rfl
@[simp] theorem Dev.setLink_pump (l : Nat) (k : Link) : (d.setLink l k).pump = d.pump := rfl
@[simp] theorem Dev.setLink_twin (l : Nat) (k : Link) : (d.setLink l k).twin = d.twin := rfl
@[simp] theorem Dev.setLink_ethn (l : Nat) (k : Link) : (d.setLink l k).ethn = d.ethn := rfl
@[simp] theorem Dev.setLink_node (l : Nat) (k : Link) : (d.setLink l k).node = d.node := rfl
@[simp] theorem Dev.setLink_pager (l : Nat) (k : Link) : (d.setLink l k).pager = d.pager := rfl
@[simp] theorem Dev.setLink_eccm (l : Nat) (k : Link) : (d.setLink l k).eccm = d.eccm := rfl
@[simp] theorem Dev.setLink_cus (l : Nat) (k : Link) : (d.setLink l k).cus = d.cus := rfl
@[simp] theorem Dev.setLink_met (l : Nat) (k : Link) : (d.setLink l k).met = d.met := rfl
@[simp] theorem Dev.setLink_adc (l : Nat) (k : Link) : (d.setLink l k).adc = d.adc := rfl
@[simp] theorem Dev.setLink_prog (l : Nat) (k : Link) : (d.setLink l k).prog = d.prog := rfl
@[simp] theorem Dev.setLink_rdAt (l : Nat) (k : Link) (g : Fld) (j : Nat) : (d.setLink l k).rdAt g j = d.rdAt g j := rfl

/-! ### `life` -/

@[simp] theorem Dev.life_fresh (off a : Nat) : (d.life off a).fresh = d.fresh := rfl
@[simp] theorem Dev.life_straps (off a : Nat) : (d.life off a).straps = d.straps := rfl
@[simp] theorem Dev.life_resp (off a : Nat) : (d.life off a).resp = d.resp := rfl
@[simp] theorem Dev.life_regs (off a : Nat) : (d.life off a).regs = d.regs := rfl
@[simp] theorem Dev.life_lat (off a : Nat) : (d.life off a).lat = d.lat := rfl
@[simp] theorem Dev.life_sys (off a : Nat) : (d.life off a).sys = d.sys := rfl
@[simp] theorem Dev.life_evt (off a : Nat) : (d.life off a).evt = d.evt := rfl
@[simp] theorem Dev.life_tt (off a : Nat) : (d.life off a).tt = d.tt := rfl
@[simp] theorem Dev.life_vcs (off a : Nat) : (d.life off a).vcs = d.vcs := rfl
@[simp] theorem Dev.life_saf (off a : Nat) : (d.life off a).saf = d.saf := rfl
@[simp] theorem Dev.life_conv (off a : Nat) : (d.life off a).conv = d.conv := rfl
@[simp] theorem Dev.life_pump (off a : Nat) : (d.life off a).pump = d.pump := rfl
@[simp] theorem Dev.life_twin (off a : Nat) : (d.life off a).twin = d.twin := rfl
@[simp] theorem Dev.life_ethn (off a : Nat) : (d.life off a).ethn = d.ethn := rfl
@[simp] theorem Dev.life_node (off a : Nat) : (d.life off a).node = d.node := rfl
@[simp] theorem Dev.life_pager (off a : Nat) : (d.life off a).pager = d.pager := rfl
@[simp] theorem Dev.life_eccm (off a : Nat) : (d.life off a).eccm = d.eccm := rfl
@[simp] theorem Dev.life_cus (off a : Nat) : (d.life off a).cus = d.cus := rfl
@[simp] theorem Dev.life_met (off a : Nat) : (d.life off a).met = d.met := rfl
@[simp] theorem Dev.life_adc (off a : Nat) : (d.life off a).adc = d.adc := rfl
@[simp] theorem Dev.life_prog (off a : Nat) : (d.life off a).prog = d.prog := rfl
@[simp] theorem Dev.life_rdAt (off a : Nat) (g : Fld) (j : Nat) : (d.life off a).rdAt g j = d.rdAt g j := rfl

/-! ### `logAsk` -/

@[simp] theorem Dev.logAsk_fresh (r : LogReq) : (d.logAsk r).fresh = d.fresh := rfl
@[simp] theorem Dev.logAsk_straps (r : LogReq) : (d.logAsk r).straps = d.straps := rfl
@[simp] theorem Dev.logAsk_resp (r : LogReq) : (d.logAsk r).resp = d.resp := rfl
@[simp] theorem Dev.logAsk_regs (r : LogReq) : (d.logAsk r).regs = d.regs := rfl
@[simp] theorem Dev.logAsk_lat (r : LogReq) : (d.logAsk r).lat = d.lat := rfl
@[simp] theorem Dev.logAsk_sys (r : LogReq) : (d.logAsk r).sys = d.sys := rfl
@[simp] theorem Dev.logAsk_evt (r : LogReq) : (d.logAsk r).evt = d.evt := rfl
@[simp] theorem Dev.logAsk_tt (r : LogReq) : (d.logAsk r).tt = d.tt := rfl
@[simp] theorem Dev.logAsk_vcs (r : LogReq) : (d.logAsk r).vcs = d.vcs := rfl
@[simp] theorem Dev.logAsk_saf (r : LogReq) : (d.logAsk r).saf = d.saf := rfl
@[simp] theorem Dev.logAsk_conv (r : LogReq) : (d.logAsk r).conv = d.conv := rfl
@[simp] theorem Dev.logAsk_pump (r : LogReq) : (d.logAsk r).pump = d.pump := rfl
@[simp] theorem Dev.logAsk_twin (r : LogReq) : (d.logAsk r).twin = d.twin := rfl
@[simp] theorem Dev.logAsk_ethn (r : LogReq) : (d.logAsk r).ethn = d.ethn := rfl
@[simp] theorem Dev.logAsk_node (r : LogReq) : (d.logAsk r).node = d.node := rfl
@[simp] theorem Dev.logAsk_pager (r : LogReq) : (d.logAsk r).pager = d.pager := rfl
@[simp] theorem Dev.logAsk_eccm (r : LogReq) : (d.logAsk r).eccm = d.eccm := rfl
@[simp] theorem Dev.logAsk_cus (r : LogReq) : (d.logAsk r).cus = d.cus := rfl
@[simp] theorem Dev.logAsk_met (r : LogReq) : (d.logAsk r).met = d.met := rfl
@[simp] theorem Dev.logAsk_adc (r : LogReq) : (d.logAsk r).adc = d.adc := rfl
@[simp] theorem Dev.logAsk_prog (r : LogReq) : (d.logAsk r).prog = d.prog := rfl
@[simp] theorem Dev.logAsk_rdAt (r : LogReq) (g : Fld) (j : Nat) : (d.logAsk r).rdAt g j = d.rdAt g j := rfl

/-! ### `resetBlks` -/

@[simp] theorem Dev.resetBlks_fresh (l : List Blk) : (d.resetBlks l).fresh = d.fresh := rfl
@[simp] theorem Dev.resetBlks_straps (l : List Blk) : (d.resetBlks l).straps = d.straps := rfl
@[simp] theorem Dev.resetBlks_resp (l : List Blk) : (d.resetBlks l).resp = d.resp := rfl
@[simp] theorem Dev.resetBlks_lat (l : List Blk) : (d.resetBlks l).lat = d.lat := rfl
@[simp] theorem Dev.resetBlks_sys (l : List Blk) : (d.resetBlks l).sys = d.sys := rfl
@[simp] theorem Dev.resetBlks_evt (l : List Blk) : (d.resetBlks l).evt = d.evt := rfl
@[simp] theorem Dev.resetBlks_tt (l : List Blk) : (d.resetBlks l).tt = d.tt := rfl
@[simp] theorem Dev.resetBlks_vcs (l : List Blk) : (d.resetBlks l).vcs = d.vcs := rfl
@[simp] theorem Dev.resetBlks_fm (l : List Blk) : (d.resetBlks l).fm = d.fm := rfl
@[simp] theorem Dev.resetBlks_saf (l : List Blk) : (d.resetBlks l).saf = d.saf := rfl
@[simp] theorem Dev.resetBlks_conv (l : List Blk) : (d.resetBlks l).conv = d.conv := rfl
@[simp] theorem Dev.resetBlks_pump (l : List Blk) : (d.resetBlks l).pump = d.pump := rfl
@[simp] theorem Dev.resetBlks_twin (l : List Blk) : (d.resetBlks l).twin = d.twin := rfl
@[simp] theorem Dev.resetBlks_ethn (l : List Blk) : (d.resetBlks l).ethn = d.ethn := rfl
@[simp] theorem Dev.resetBlks_node (l : List Blk) : (d.resetBlks l).node = d.node := rfl
@[simp] theorem Dev.resetBlks_pager (l : List Blk) : (d.resetBlks l).pager = d.pager := rfl
@[simp] theorem Dev.resetBlks_eccm (l : List Blk) : (d.resetBlks l).eccm = d.eccm := rfl
@[simp] theorem Dev.resetBlks_cus (l : List Blk) : (d.resetBlks l).cus = d.cus := rfl
@[simp] theorem Dev.resetBlks_met (l : List Blk) : (d.resetBlks l).met = d.met := rfl
@[simp] theorem Dev.resetBlks_adc (l : List Blk) : (d.resetBlks l).adc = d.adc := rfl
@[simp] theorem Dev.resetBlks_prog (l : List Blk) : (d.resetBlks l).prog = d.prog := rfl

end

/-! ### Reading a register field after a write -/

/-- A field reads what was last written to it, every other field what it read before. -/
theorem Dev.rdAt_wrAt (d : Dev) (f g : Fld) (i j v : Nat) : (d.wrAt f i v).rdAt g j = if g = f ∧ j = i then v else d.rdAt g j := by
  unfold Dev.rdAt Dev.wrAt Store.put
  by_cases h : g = f ∧ j = i
  · obtain ⟨rfl, rfl⟩ := h
    simp only [and_self, if_true]
    exact (Store.get_put (lt := regLt) _ v _ _ d.regs).trans (if_pos rfl)
  · have k : ¬((g, j) = (f, i)) := fun e => h (Prod.mk.inj e)
    simp only [h, if_false]
    split
    · rw [Store.get_erase, if_neg k]
    · rw [Store.get_insert, if_neg k]

@[simp] theorem Dev.rdAt_wrAt_self (d : Dev) (f : Fld) (i v : Nat) : (d.wrAt f i v).rdAt f i = v := by simp [Dev.rdAt_wrAt]

theorem Dev.rdAt_wrAt_field (d : Dev) {f g : Fld} (i j v : Nat) (h : g ≠ f) : (d.wrAt f i v).rdAt g j = d.rdAt g j := by
  simp [Dev.rdAt_wrAt, h]

theorem Dev.rdAt_wrAt_index (d : Dev) (f g : Fld) {i j : Nat} (v : Nat) (h : j ≠ i) : (d.wrAt f i v).rdAt g j = d.rdAt g j := by
  simp [Dev.rdAt_wrAt, h]

@[simp] theorem Dev.rd_wr_self (d : Dev) (f : Fld) (v : Nat) : (d.wr f v).rd f = v := Dev.rdAt_wrAt_self ..

theorem Dev.rd_wr_other (d : Dev) {f g : Fld} (v : Nat) (h : g ≠ f) : (d.wr f v).rd g = d.rd g := Dev.rdAt_wrAt_field _ _ _ _ h

theorem bit01_eq_one (b : Bool) : (bit01 b = 1) = (b = true) := by cases b <;> simp [bit01]

@[simp] theorem Dev.onAt_flagAt_self (d : Dev) (f : Fld) (i : Nat) (b : Bool) : (d.flagAt f i b).onAt f i = b := by
  cases b <;> simp [Dev.onAt, Dev.flagAt, bit01]

@[simp] theorem Dev.on_flag_self (d : Dev) (f : Fld) (b : Bool) : (d.flag f b).on f = b := Dev.onAt_flagAt_self ..

/-- A 64-bit count reads what was written. -/
theorem Dev.rd64_wr64 (d : Dev) {lo hi : Fld} (h : lo ≠ hi) {v : Nat} (hv : v < 2 ^ 64) : (d.wr64 lo hi v).rd64 lo hi = v := by
  simp only [Dev.rd64, Dev.wr64, Dev.rd_wr_self]
  rw [Dev.rd_wr_other _ _ h, Dev.rd_wr_self, Nat.mod_eq_of_lt (Nat.div_lt_of_lt_mul (by omega : v < 2 ^ 32 * 2 ^ 32))]
  omega

/-- Blocks that are reset read their reset values, every other field what it read before. -/
theorem Dev.rdAt_resetBlks (d : Dev) (l : List Blk) (g : Fld) (j : Nat) :
    (d.resetBlks l).rdAt g j = if l.contains g.blk then g.resetValue j else d.rdAt g j := by
  unfold Dev.rdAt Dev.resetBlks
  induction d.regs with
  | nil => simp [Store.get]
  | cons x t ih =>
    obtain ⟨k, v⟩ := x
    simp only [List.filter_cons]
    split
    · rename_i h
      simp only [Store.get, ih]
      by_cases e : k = (g, j)
      · subst e; simp only [Bool.not_eq_true'] at h; simp only [h, if_true, Bool.false_eq_true, if_false]
      · simp [e]
    · rename_i h
      rw [ih]
      by_cases e : k = (g, j)
      · subst e; simp only [Bool.not_eq_true', Bool.not_eq_false] at h; simp only [h, if_true]
      · simp [Store.get, e]

/-! ### Engines and queues -/

theorem Dev.engine_setEngine (d : Dev) (e n : Nat) (x : Engine) : (d.setEngine e x).engine n = if n = e then x else d.engine n := Store.at_set ..

@[simp] theorem Dev.engine_setEngine_self (d : Dev) (e : Nat) (x : Engine) : (d.setEngine e x).engine e = x := by simp [Dev.engine_setEngine]

theorem Dev.queue_setQueue (d : Dev) (q n : Nat) (h : HostQueue) : (d.setQueue q h).queue n = if n = q then h else d.queue n := Store.at_set ..

@[simp] theorem Dev.wrAt_engine (d : Dev) (f : Fld) (i v n : Nat) : (d.wrAt f i v).engine n = d.engine n := rfl
@[simp] theorem Dev.setQueue_engine (d : Dev) (q n : Nat) (h : HostQueue) : (d.setQueue q h).engine n = d.engine n := rfl
@[simp] theorem Dev.setEngine_queue (d : Dev) (e n : Nat) (x : Engine) : (d.setEngine e x).queue n = d.queue n := rfl

end Sys2Proof.Machine
end

