-- ==== Sys2Proof/Laws/Events.lean ====
section
/-!
SUPPORT. Laws/Events.lean: everything that raising an event, or counting a signal, can do: the event matrix's pending, overrun and capture fields and
the counters' counts change, the log writer and queue 11 gain entries, and nothing else.
-/
namespace Sys2Proof.Machine

/-- The register fields that raising an event may write. -/
def eventFields : List Fld :=
  [.EVT_RT_PEND, .EVT_RT_OVR, .EVT_CAPCNT, .EVT_CAPTLO, .EVT_CAPTHI, .EVT_CAPTICK_TICK, .EVT_CAPTICK_VALID,
    .PCNT_CTLO, .PCNT_CTHI, .PCNT_OVFLO, .PCNT_OVFHI]

/-- What stays the same, and what only grows, when events are raised. -/
structure EvSame (d e : Dev) : Prop where
  regs : ∀ f i, f ∉ eventFields → e.rdAt f i = d.rdAt f i
  pend : ∀ n, d.onAt .EVT_RT_PEND n = true → e.onAt .EVT_RT_PEND n = true
  logs : ∃ l, e.fm.logPend = d.fm.logPend ++ l
  fm : e.fm = { d.fm with logPend := e.fm.logPend }
  engines : e.vcs.engines = d.vcs.engines
  ferry : e.vcs.ferry = d.vcs.ferry
  boarded : e.vcs.boarded = d.vcs.boarded
  straps : e.straps = d.straps
  resp : e.resp = d.resp
  lat : e.lat = d.lat
  sys : e.sys = d.sys
  evt : e.evt = d.evt
  tt : e.tt = d.tt
  saf : e.saf = d.saf
  conv : e.conv = d.conv
  pump : e.pump = d.pump
  twin : e.twin = d.twin
  ethn : e.ethn = d.ethn
  node : e.node = d.node
  pager : e.pager = d.pager
  eccm : e.eccm = d.eccm
  cus : e.cus = d.cus
  met : e.met = d.met
  adc : e.adc = d.adc
  prog : e.prog = d.prog

theorem EvSame.refl (d : Dev) : EvSame d d := by
  constructor <;> first | rfl | exact ⟨[], by simp⟩ | simp

theorem EvSame.trans {a b c : Dev} (h : EvSame a b) (g : EvSame b c) : EvSame a c where
  regs f i n := (g.regs f i n).trans (h.regs f i n)
  pend n p := g.pend n (h.pend n p)
  logs := by
    obtain ⟨l, hl⟩ := h.logs
    obtain ⟨m, hm⟩ := g.logs
    exact ⟨l ++ m, by rw [hm, hl, List.append_assoc]⟩
  fm := by rw [g.fm, h.fm]
  engines := g.engines.trans h.engines
  ferry := g.ferry.trans h.ferry
  boarded := g.boarded.trans h.boarded
  straps := g.straps.trans h.straps
  resp := g.resp.trans h.resp
  lat := g.lat.trans h.lat
  sys := g.sys.trans h.sys
  evt := g.evt.trans h.evt
  tt := g.tt.trans h.tt
  saf := g.saf.trans h.saf
  conv := g.conv.trans h.conv
  pump := g.pump.trans h.pump
  twin := g.twin.trans h.twin
  ethn := g.ethn.trans h.ethn
  node := g.node.trans h.node
  pager := g.pager.trans h.pager
  eccm := g.eccm.trans h.eccm
  cus := g.cus.trans h.cus
  met := g.met.trans h.met
  adc := g.adc.trans h.adc
  prog := g.prog.trans h.prog

/-- Writing one of the fields, but not clearing a pending bit. -/
theorem EvSame.wrAt (d : Dev) {f : Fld} (i v : Nat) (hf : f ∈ eventFields) (hp : f ≠ .EVT_RT_PEND ∨ v = 1) : EvSame d (d.wrAt f i v) where
  regs g j hg := Dev.rdAt_wrAt_field _ _ _ _ (fun e => hg (e ▸ hf))
  pend n h := by
    simp only [Dev.onAt, decide_eq_true_eq, Dev.rdAt_wrAt] at h ⊢
    split
    · rename_i e; exact hp.resolve_left (fun q => q e.1.symm)
    · exact h
  logs := ⟨[], by simp⟩
  fm := rfl
  engines := rfl
  ferry := rfl
  boarded := rfl
  straps := rfl
  resp := rfl
  lat := rfl
  sys := rfl
  evt := rfl
  tt := rfl
  saf := rfl
  conv := rfl
  pump := rfl
  twin := rfl
  ethn := rfl
  node := rfl
  pager := rfl
  eccm := rfl
  cus := rfl
  met := rfl
  adc := rfl
  prog := rfl

theorem EvSame.logAsk (d : Dev) (r : LogReq) : EvSame d (d.logAsk r) where
  regs _ _ _ := rfl
  pend _ h := h
  logs := ⟨[r], rfl⟩
  fm := rfl
  engines := rfl
  ferry := rfl
  boarded := rfl
  straps := rfl
  resp := rfl
  lat := rfl
  sys := rfl
  evt := rfl
  tt := rfl
  saf := rfl
  conv := rfl
  pump := rfl
  twin := rfl
  ethn := rfl
  node := rfl
  pager := rfl
  eccm := rfl
  cus := rfl
  met := rfl
  adc := rfl
  prog := rfl

theorem EvSame.setQueue (d : Dev) (q : Nat) (h : HostQueue) : EvSame d (d.setQueue q h) where
  regs _ _ _ := rfl
  pend _ h := h
  logs := ⟨[], by simp⟩
  fm := rfl
  engines := rfl
  ferry := rfl
  boarded := rfl
  straps := rfl
  resp := rfl
  lat := rfl
  sys := rfl
  evt := rfl
  tt := rfl
  saf := rfl
  conv := rfl
  pump := rfl
  twin := rfl
  ethn := rfl
  node := rfl
  pager := rfl
  eccm := rfl
  cus := rfl
  met := rfl
  adc := rfl
  prog := rfl

theorem EvSame.draw (d : Dev) (m : Nat) : EvSame d (d.draw m).2 where
  regs _ _ _ := rfl
  pend _ h := h
  logs := ⟨[], by simp [Dev.draw]⟩
  fm := rfl
  engines := rfl
  ferry := rfl
  boarded := rfl
  straps := rfl
  resp := rfl
  lat := rfl
  sys := rfl
  evt := rfl
  tt := rfl
  saf := rfl
  conv := rfl
  pump := rfl
  twin := rfl
  ethn := rfl
  node := rfl
  pager := rfl
  eccm := rfl
  cus := rfl
  met := rfl
  adc := rfl
  prog := rfl

/-- A fold of steps that keep it keeps it. -/
theorem EvSame.foldl {α β : Type} (g : β → Dev) (f : β → α → β) (hf : ∀ x a, EvSame (g x) (g (f x a))) (l : List α) (b : β) :
    EvSame (g b) (g (l.foldl f b)) := by
  induction l generalizing b with
  | nil => exact .refl _
  | cons a t ih => exact (hf b a).trans (ih (f b a))

theorem EvSame.foldlFst {α β : Type} (f : Dev × β → α → Dev × β) (hf : ∀ x a, EvSame x.1 (f x a).1) (l : List α) (d : Dev) (b : β) :
    EvSame d (l.foldl f (d, b)).1 := EvSame.foldl (fun x : Dev × β => x.1) f hf l (d, b)

theorem EvSame.setCt (d : Dev) (n v : Nat) : EvSame d (d.setCt n v) :=
  (EvSame.wrAt d _ _ (by decide) (.inl (by decide))).trans (EvSame.wrAt _ _ _ (by decide) (.inl (by decide)))

theorem EvSame.ctOverflow (d : Dev) (n : Nat) : EvSame d (d.ctOverflow n).1 := by
  unfold Dev.ctOverflow
  split <;> exact EvSame.wrAt d _ _ (by decide) (.inl (by decide))

theorem EvSame.ctAdd (d : Dev) (n a : Nat) : EvSame d (d.ctAdd n a).1 := by
  unfold Dev.ctAdd
  simp only
  split
  · exact .setCt ..
  · split
    · split
      · exact (EvSame.setCt d _ _).trans (.setCt ..)
      · exact ((EvSame.setCt d _ _).trans (.setCt ..)).trans (.ctOverflow ..)
    · exact (EvSame.setCt d _ _).trans (.ctOverflow ..)

theorem EvSame.countAll (d : Dev) (src a : Nat) : EvSame d (d.countAll src a).1 := by
  unfold Dev.countAll
  split
  · exact .refl _
  · refine EvSame.foldlFst _ (fun x n => ?_) _ _ _
    simp only
    split
    · exact .ctAdd ..
    · exact .refl _

theorem EvSame.capture (d : Dev) (u n : Nat) : EvSame d (d.capture u n).1 := by
  unfold Dev.capture
  split
  · simp only
    split
    · exact EvSame.wrAt d _ _ (by decide) (.inl (by decide))
    · exact ((((((EvSame.wrAt d _ _ (by decide) (.inl (by decide))).trans (.draw ..)).trans (EvSame.wrAt _ _ _ (by decide) (.inl (by decide)))).trans
        (EvSame.wrAt _ _ _ (by decide) (.inl (by decide)))).trans (EvSame.wrAt _ _ _ (by decide) (.inl (by decide)))).trans
        (EvSame.wrAt _ _ _ (by decide) (.inl (by decide))))
  · exact .refl _

theorem EvSame.riseLog (d : Dev) (n data : Nat) :
    EvSame d (d.when (d.onAt .EVT_RT_LOG n) fun x => x.logAsk { src := n, lvl := x.lvl n, data := data }) := by
  unfold Dev.when
  split
  · exact .logAsk ..
  · exact .refl _

theorem EvSame.riseFm (d : Dev) (n : Nat) :
    EvSame d (d.when (d.onAt .EVT_RT_FM n) fun x =>
      if x.onAt .EVT_RT_PEND n then x.flagAt .EVT_RT_OVR n true else x.flagAt .EVT_RT_PEND n true) := by
  unfold Dev.when
  split
  · dsimp only
    split
    · exact EvSame.wrAt d _ _ (by decide) (.inl (by decide))
    · exact EvSame.wrAt d _ _ (by decide) (.inr rfl)
  · exact .refl _

theorem EvSame.riseQueue (d : Dev) (n : Nat) :
    EvSame d (d.when (d.onAt .EVT_RT_SAFP n) fun x =>
      match x.queuePush 11 (n + 2 ^ 16 * (x.tide % 2 ^ 32)) with
      | some y => y.1
      | none => x.flagAt .EVT_RT_OVR n true) := by
  unfold Dev.when
  split
  · unfold Dev.queuePush
    simp only
    split
    · rename_i h
      split at h
      · exact absurd h (by simp)
      · simp only [Option.some.injEq] at h; subst h; exact .setQueue ..
    · exact EvSame.wrAt d _ _ (by decide) (.inl (by decide))
  · exact .refl _

/-- The parts of a rise: the log, Ferryman's pending bit, queue 11, the capture units, the counters. -/
theorem EvSame.rise (d : Dev) (n data : Nat) : EvSame d (d.rise n data).1 := by
  unfold Dev.rise
  split
  · exact .refl _
  · dsimp only
    refine EvSame.trans ?_ (.countAll ..)
    refine EvSame.trans ?_ (EvSame.foldlFst _ ?_ _ _ _)
    · exact ((EvSame.riseLog d n data).trans (.riseFm ..)).trans (.riseQueue ..)
    · exact fun x u => .capture ..

theorem EvSame.rises (k : Nat) (l : List Nat) (d : Dev) : EvSame d (Dev.rises k l d) := by
  induction k generalizing l d with
  | zero => exact .refl _
  | succ k ih =>
    cases l with
    | nil => exact .refl _
    | cons n t => exact (EvSame.rise d n 0).trans (ih ..)

/-- All that raising an event can do. -/
theorem EvSame.raiseWith (d : Dev) (n data : Nat) : EvSame d (d.raiseWith n data) := (EvSame.rise d n data).trans (.rises ..)

theorem EvSame.raise (d : Dev) (n : Nat) : EvSame d (d.raise n) := .raiseWith ..

/-- All that counting a signal can do. -/
theorem EvSame.signal (d : Dev) (src a : Nat) : EvSame d (d.signal src a) := (EvSame.countAll d src a).trans (.rises ..)

/-- An event that has risen stays raised while others rise. -/
theorem EvSame.raised {d e t : Dev} {n : Nat} (h : EvSame e t) (g : d.raised e n) : d.raised t n := by
  refine ⟨fun p => h.pend n (g.1 p), fun p => ?_⟩
  obtain ⟨l, hl⟩ := h.logs
  rw [hl, List.any_append, g.2 p]
  rfl

end Sys2Proof.Machine
end

