-- ==== Sys2Proof/Laws/Memory.lean ====
section
/-!
SUPPORT. Laws/Memory.lean: a byte reads what was last stored at its address, every store leaves the other bytes alone, and every memory operation
keeps the canonical form.
-/
namespace Sys2Proof.Machine

theorem memByte_memSet (m : List Host.Cell) (a b : Nat) (v : BitVec 8) : memByte (memSet m a v) b = if b = a then v else memByte m b :=
  Store.at_set ..

theorem memSet_wf {m : List Host.Cell} (h : Memory.wf m) (a : Nat) (v : BitVec 8) : Memory.wf (memSet m a v) :=
  Store.canon_put (d := fun _ => (0 : BitVec 8)) natLt_trans natLt_total a v h

/-- A byte inside what was stored, and one outside it. -/
theorem memByte_memPut (m : List Host.Cell) (a b : Nat) (l : List (BitVec 8)) :
    memByte (memPut m a l) b = if a ≤ b ∧ b < a + l.length then l.getD (b - a) 0 else memByte m b := by
  induction l generalizing m a with
  | nil => simp [memPut] <;> omega
  | cons v t ih =>
    simp only [memPut, ih, memByte_memSet, List.length_cons]
    by_cases h : b = a
    · subst h; rw [if_neg (by omega : ¬(b + 1 ≤ b ∧ b < b + 1 + t.length))]; simp
    · by_cases g : a + 1 ≤ b ∧ b < a + 1 + t.length
      · rw [if_pos g, if_pos (by omega), show b - a = (b - (a + 1)) + 1 from by omega]; simp
      · rw [if_neg g, if_neg h, if_neg (by omega)]

theorem memByte_memPut_outside (m : List Host.Cell) (a b : Nat) (l : List (BitVec 8)) (h : b < a ∨ a + l.length ≤ b) :
    memByte (memPut m a l) b = memByte m b := by
  rw [memByte_memPut, if_neg (by omega)]

theorem memPut_wf {m : List Host.Cell} (h : Memory.wf m) (a : Nat) (l : List (BitVec 8)) : Memory.wf (memPut m a l) := by
  induction l generalizing m a with
  | nil => exact h
  | cons v t ih => exact ih (memSet_wf h a v) (a + 1)

/-- Stored bytes read back. -/
theorem memBytes_memPut (m : List Host.Cell) (a : Nat) (l : List (BitVec 8)) : memBytes (memPut m a l) a l.length = l := by
  apply List.ext_getElem
  · simp [memBytes]
  · intro i h1 h2
    simp only [memBytes, List.getElem_map, List.getElem_range, memByte_memPut]
    rw [if_pos (by omega)]
    simp [List.getD_eq_getElem?_getD, List.getElem?_eq_getElem h2]

theorem memPutNat_wf {m : List Host.Cell} (h : Memory.wf m) (a n v : Nat) : Memory.wf (memPutNat m a n v) := memPut_wf h a _

theorem memClear_wf {m : List Host.Cell} (h : Memory.wf m) (a b : Nat) : Memory.wf (memClear m a b) :=
  Store.canon_filter (d := fun _ => (0 : BitVec 8)) natLt_trans _ h

theorem memByte_memClear (m : List Host.Cell) (a b c : Nat) : memByte (memClear m a b) c = if a ≤ c ∧ c < b then 0 else memByte m c := by
  induction m with
  | nil => simp [memClear, memByte, Store.at, Store.get]
  | cons x t ih =>
    obtain ⟨j, v⟩ := x
    simp only [memClear, memByte, Store.at] at ih ⊢
    simp only [List.filter_cons]
    split
    · rename_i h
      simp only [Store.get, ih]
      simp only [Bool.not_eq_true', Bool.and_eq_false_iff, decide_eq_false_iff_not] at h
      by_cases e : j = c
      · subst e; rw [if_pos rfl, if_neg (by omega), if_pos rfl]
      · simp [e]
    · rename_i h
      simp only [Bool.not_eq_true', Bool.not_eq_false, Bool.and_eq_true, decide_eq_true_eq] at h
      rw [ih]
      simp only [Store.get]
      by_cases e : j = c
      · subst e; rw [if_pos h, if_pos h]
      · simp [e]

/-- A list of stores keeps the canonical form. -/
theorem foldl_memPut_wf {m : List Host.Cell} (h : Memory.wf m) (l : List (Nat × List (BitVec 8))) :
    Memory.wf (l.foldl (fun m x => memPut m x.1 x.2) m) := by
  induction l generalizing m with
  | nil => exact h
  | cons x t ih => exact ih (memPut_wf h x.1 x.2)

/-- A list of cleared ranges keeps the canonical form. -/
theorem foldl_memClear_wf {m : List Host.Cell} (h : Memory.wf m) (l : List (Nat × Nat)) :
    Memory.wf (l.foldl (fun m x => memClear m x.1 x.2) m) := by
  induction l generalizing m with
  | nil => exact h
  | cons x t ih => exact ih (memClear_wf h x.1 x.2)

end Sys2Proof.Machine
end

