-- ==== Sys2Proof/Laws/Lifts.lean ====
section
/-!
SUPPORT. Laws/Lifts.lean: what the shared shapes of the meanings do: each answers a next state, keeps the queue and the canonical form of the memories;
who may write; what a claim cell reads after a claim.
-/
namespace Sys2Proof.Machine

/-! ### The shapes of the meanings -/

@[simp] theorem State.upd_eq (s : State) (f : Dev → Dev) : s.upd f = .next { s with dev := f s.dev } := rfl

@[simp] theorem State.updR_eq (s : State) (f : List Host.Cell → Dev → Dev) : s.updR f = .next { s with dev := f s.mem s.dev } := rfl

/-- A next state that keeps the queue, and the canonical form when it held. -/
def Answers (s : State) (o : Host.Outcome State Fault Refusal) : Prop := ∃ t, o = .next t ∧ t.pending = s.pending ∧ (s.memOk → t.memOk)

theorem State.upd_answers (s : State) (f : Dev → Dev) : Answers s (s.upd f) := ⟨_, rfl, rfl, id⟩

theorem State.updR_answers (s : State) (f : List Host.Cell → Dev → Dev) : Answers s (s.updR f) := ⟨_, rfl, rfl, id⟩

theorem State.updM_answers (s : State) (w : List Host.Cell → Dev → List (Nat × List (BitVec 8)) × Dev) : Answers s (s.updM w) :=
  ⟨_, rfl, rfl, fun h => foldl_memPut_wf h _⟩

theorem State.updP_answers (s : State) (w : List Host.Cell → Dev → List (Nat × List (BitVec 8)) × Dev) : Answers s (s.updP w) := State.updM_answers ..

theorem State.updC_answers (s : State) (w : List Host.Cell → Dev → List (Nat × Nat) × Dev) : Answers s (s.updC w) :=
  ⟨_, rfl, rfl, fun h => foldl_memClear_wf h _⟩

theorem State.updAll_answers (s : State) (f : List Host.Cell → Dev → List (Nat × List Byte) × Dev) : Answers s (s.updAll f) :=
  ⟨_, rfl, rfl, fun h => foldl_memPut_wf (foldl_memClear_wf h _) _⟩

theorem State.updRst_answers (s : State) (f : Dev → Dev) : Answers s (s.updRst f) := State.updAll_answers ..

theorem State.vcs_answers (s : State) (i : Issue) (o : Op) (b : Body) : Answers s (s.vcs i o b) := State.updM_answers ..

theorem State.compute_answers (s : State) (i : Issue) (o : Op) (f : Engine → List RegW × Nat) : Answers s (s.compute i o f) := State.vcs_answers ..

theorem State.vcsAll_answers (s : State) (i : Issue) (o : Op) (b : Body) : Answers s (s.vcsAll i o b) := State.updAll_answers ..

/-- A store list that is empty leaves the memories. -/
theorem State.updM_mem (s : State) (w : List Host.Cell → Dev → List (Nat × List (BitVec 8)) × Dev) (h : (w s.mem s.dev).1 = []) :
    s.updM w = .next { s with dev := (w s.mem s.dev).2 } := by
  simp [State.updM, h]

/-! ### Who may write -/

@[simp] theorem Dev.byFerryman_ferryman (d : Dev) (f : Dev → Dev) : d.byFerryman .ferryman f = f d.answer := rfl

theorem Dev.byFerryman_other (d : Dev) {q : Requester} (h : q ≠ .ferryman) (f : Dev → Dev) : d.byFerryman q f = d.busError := by
  simp [Dev.byFerryman, h]

theorem Dev.ctl_held (d : Dev) (f : Dev → Dev) (h : d.sys.cdReset = true) : d.ctl f = d := by simp [Dev.ctl, h]

theorem Dev.ctl_live (d : Dev) (f : Dev → Dev) (h : d.sys.cdReset = false) : d.ctl f = f d := by simp [Dev.ctl, h]

theorem Dev.ctlWrite_live (d : Dev) (f : Dev → Dev) (h : d.sys.cdReset = false) : d.ctlWrite .ferryman f = f d.answer :=
  Dev.ctl_live _ _ h

/-! ### Claims -/

theorem Dev.cell_setCell (d : Dev) (r q : Resource) (n k : Nat) (c : ClaimCell) :
    (d.setCell r n c).cell q k = if q = r ∧ k = n then c else d.cell q k := by
  by_cases h : q = r
  · subst h
    have e : ∀ (s : Sys) (t : Store Nat ClaimCell), (s.setClaims t q).claims q = t := by intro s t; cases q <;> rfl
    simp only [Dev.cell, Dev.setCell, e, Store.at_set, true_and]
  · have e : ∀ (s : Sys) (t : Store Nat ClaimCell), (s.setClaims t r).claims q = s.claims q := by
      intro s t; cases r <;> cases q <;> first | rfl | exact absurd rfl h
    simp only [Dev.cell, Dev.setCell, e, h, false_and, if_false]

/-- A claim on a held resource leaves its holder. -/
theorem Dev.claim_held (d : Dev) (q o : Requester) (r : Resource) (n : Nat) (h : (d.cell r n).owner = some o) :
    ((d.claim q r n).cell r n).owner = some o := by
  have c : d.claimStatus q r n ≠ 0x1 := by
    unfold Dev.claimStatus
    simp only [h]
    split <;> try split
    all_goals try split
    all_goals try split
    all_goals simp
  simp [Dev.claim, Dev.cell_setCell, c, h]

end Sys2Proof.Machine
end

