-- ==== Sys2Proof/Laws/Meter.lean ====
section
/-!
SUPPORT. Laws/Meter.lean: the metering filter in use keeps the response that the manual gives it (R265, R266).
-/
namespace Sys2Proof.Machine

/-- The half taps given as an example meet Table 11-2. -/
theorem firExample_meets : firMeets firExample = true := by decide +kernel

/-- The half taps in use meet Table 11-2, whatever the free ones are. -/
theorem firHalf_meets : firMeets firHalf = true := by
  unfold firHalf
  dsimp only
  split
  · assumption
  · exact firExample_meets

/-- The delay taps in use keep the bounds of R267, or are the windowed sinc. -/
theorem delayTaps_cases (k : Comp) : delayMeets (delayTaps k) k.delay = true ∨ delayTaps k = delayExample k.delay := by
  unfold delayTaps
  dsimp only
  split
  · exact .inl ‹_›
  · exact .inr rfl

/-- A word is limited to 24 bits less its lowest value (R265). -/
theorem wordLimit_bound (q : Int) : -(2 ^ 23 - 1) ≤ wordLimit q ∧ wordLimit q ≤ 2 ^ 23 - 1 := by
  unfold wordLimit
  split
  · omega
  · split <;> omega

end Sys2Proof.Machine
end

