-- ==== Sys2Proof/WellFormed.lean ====
section
/-!
DEFINITION. WellFormed.lean: which commands can occur at all. An operand is checked against the range that the spec gives it; an access that
the part refuses (a reserved size is refused with a bus error, an absent register likewise) is the machine's business, not this file's.
-/
namespace Sys2Proof

/-- A store of a STORE message: eight bytes at an aligned address of a data SRAM of 128 KiB, in a frame of 64-bit number (R349). -/
def TwinStore.wf (t : TwinStore) : Bool := decide (t.tide < 2 ^ 64 ∧ t.addr < 0x20000 ∧ t.addr % 8 = 0)

/-- A flash operation lies in the 64 MiB of the flash (R413). -/
def FlashOp.wf : FlashOp → Bool
  | .other => true
  | .program off data => decide (off + data.length ≤ 0x4000000)
  | .erase off len => decide (off + len ≤ 0x4000000)

/-- The payload of a safety configuration: comparators for ranks 0 and 1, a parameter block within a data SRAM, resources that exist, for ranks
0 and 1 (R24, R307). -/
def ScfgImage.wf (i : ScfgImage) : Bool :=
  decide (i.comparators.map Prod.fst).Nodup && (i.comparators.all fun c => decide (c.2 ≤ 1)) && (i.seBlock.all fun b => decide (b.1 < 0x20000))
    && i.claims.all fun c => decide (c.2.1 < c.1.count ∧ c.2.2 ≤ 1)

/-- The operands of a command lie in the ranges that its rule gives them; the operands of a VCS instruction are those that its word spells
(`Issue.spells`). -/
def Instr.wf : Instr → Bool
  | .registerWrite _ _ size _ => [1, 2, 4, 8, 16].contains size
  | .claim reqs res n => !reqs.isEmpty && decide (n < res.count)
  | .release _ res n => decide (n < res.count)
  | .claimsOpen | .csLinkRetransmit .. | .csLinkFailure | .spLinkFailure | .controlDomainReset .. | .selfRefreshTimeout
  | .supervisorFabricReset .. | .powerDomainReset .. | .ferrymanDomainReset | .tideEdge .. | .landingPhaseClose | .outputTakeEffect
  | .taskDispatch .. | .ttbLoad .. | .admissionEnd .. | .ttbCancel .. | .timetableActivation | .ttbClearTask .. | .segmentOverrun ..
  | .tideAlarm | .tideAlarmSet .. | .tideCountRead .. | .ptpCaptureRead .. => true
  | .vcsAdd i rd ra rb => i.spells (.vcsAdd i rd ra rb)
  | .vcsSub i rd ra rb => i.spells (.vcsSub i rd ra rb)
  | .vcsAnd i rd ra rb => i.spells (.vcsAnd i rd ra rb)
  | .vcsOr i rd ra rb => i.spells (.vcsOr i rd ra rb)
  | .vcsXor i rd ra rb => i.spells (.vcsXor i rd ra rb)
  | .vcsSll i rd ra rb => i.spells (.vcsSll i rd ra rb)
  | .vcsSrl i rd ra rb => i.spells (.vcsSrl i rd ra rb)
  | .vcsSra i rd ra rb => i.spells (.vcsSra i rd ra rb)
  | .vcsAddsW i rd ra rb => i.spells (.vcsAddsW i rd ra rb)
  | .vcsSubsW i rd ra rb => i.spells (.vcsSubsW i rd ra rb)
  | .vcsMin i rd ra rb => i.spells (.vcsMin i rd ra rb)
  | .vcsMax i rd ra rb => i.spells (.vcsMax i rd ra rb)
  | .vcsClamp i rd ra rb => i.spells (.vcsClamp i rd ra rb)
  | .vcsAddi i rd ra imm => i.spells (.vcsAddi i rd ra imm)
  | .vcsAndi i rd ra imm => i.spells (.vcsAndi i rd ra imm)
  | .vcsOri i rd ra imm => i.spells (.vcsOri i rd ra imm)
  | .vcsXori i rd ra imm => i.spells (.vcsXori i rd ra imm)
  | .vcsSlli i rd ra n => i.spells (.vcsSlli i rd ra n)
  | .vcsSrli i rd ra n => i.spells (.vcsSrli i rd ra n)
  | .vcsSrai i rd ra n => i.spells (.vcsSrai i rd ra n)
  | .vcsMovz i rd k imm => i.spells (.vcsMovz i rd k imm)
  | .vcsMovk i rd k imm => i.spells (.vcsMovk i rd k imm)
  | .vcsMul i rd ra rb => i.spells (.vcsMul i rd ra rb)
  | .vcsMulh i rd ra rb => i.spells (.vcsMulh i rd ra rb)
  | .vcsMulhu i rd ra rb => i.spells (.vcsMulhu i rd ra rb)
  | .vcsMulq i rd ra rb => i.spells (.vcsMulq i rd ra rb)
  | .vcsDiv i rd ra rb => i.spells (.vcsDiv i rd ra rb)
  | .vcsDivu i rd ra rb => i.spells (.vcsDivu i rd ra rb)
  | .vcsRem i rd ra rb => i.spells (.vcsRem i rd ra rb)
  | .vcsRemu i rd ra rb => i.spells (.vcsRemu i rd ra rb)
  | .vcsCmp i cc pd ra rb => i.spells (.vcsCmp i cc pd ra rb)
  | .vcsCmpi i cc pd ra imm => i.spells (.vcsCmpi i cc pd ra imm)
  | .vcsPand i pd pa pb => i.spells (.vcsPand i pd pa pb)
  | .vcsPor i pd pa pb => i.spells (.vcsPor i pd pa pb)
  | .vcsPxor i pd pa pb => i.spells (.vcsPxor i pd pa pb)
  | .vcsPandn i pd pa pb => i.spells (.vcsPandn i pd pa pb)
  | .vcsBr i off => i.spells (.vcsBr i off)
  | .vcsJl i rd off => i.spells (.vcsJl i rd off)
  | .vcsJr i ra => i.spells (.vcsJr i ra)
  | .vcsMfs i rd sreg => i.spells (.vcsMfs i rd sreg)
  | .vcsMts i sreg ra => i.spells (.vcsMts i sreg ra)
  | .vcsFaddS i rd ra rb => i.spells (.vcsFaddS i rd ra rb)
  | .vcsFsubS i rd ra rb => i.spells (.vcsFsubS i rd ra rb)
  | .vcsFmulS i rd ra rb => i.spells (.vcsFmulS i rd ra rb)
  | .vcsFminS i rd ra rb => i.spells (.vcsFminS i rd ra rb)
  | .vcsFmaxS i rd ra rb => i.spells (.vcsFmaxS i rd ra rb)
  | .vcsFabsS i rd ra => i.spells (.vcsFabsS i rd ra)
  | .vcsFnegS i rd ra => i.spells (.vcsFnegS i rd ra)
  | .vcsFclampS i rd ra rb => i.spells (.vcsFclampS i rd ra rb)
  | .vcsMinsel i rd ra rb => i.spells (.vcsMinsel i rd ra rb)
  | .vcsFcvtSL i rd ra => i.spells (.vcsFcvtSL i rd ra)
  | .vcsFcvtLS i rd ra => i.spells (.vcsFcvtLS i rd ra)
  | .vcsFcvtLSRn i rd ra => i.spells (.vcsFcvtLSRn i rd ra)
  | .vcsFmaS i rd ra rb rc => i.spells (.vcsFmaS i rd ra rb rc)
  | .vcsFmsS i rd ra rb rc => i.spells (.vcsFmsS i rd ra rb rc)
  | .vcsFnmaS i rd ra rb rc => i.spells (.vcsFnmaS i rd ra rb rc)
  | .vcsFnmsS i rd ra rb rc => i.spells (.vcsFnmsS i rd ra rb rc)
  | .vcsFdivS i rd ra rb => i.spells (.vcsFdivS i rd ra rb)
  | .vcsFsqrtS i rd ra => i.spells (.vcsFsqrtS i rd ra)
  | .vcsFcmpEqS i pd ra rb => i.spells (.vcsFcmpEqS i pd ra rb)
  | .vcsFcmpLtS i pd ra rb => i.spells (.vcsFcmpLtS i pd ra rb)
  | .vcsFcmpLeS i pd ra rb => i.spells (.vcsFcmpLeS i pd ra rb)
  | .vcsFcmpUnS i pd ra rb => i.spells (.vcsFcmpUnS i pd ra rb)
  | .vcsLutI i rd ra rb => i.spells (.vcsLutI i rd ra rb)
  | .vcsLutB i rd ra rb => i.spells (.vcsLutB i rd ra rb)
  | .vcsVadd i vd va vb => i.spells (.vcsVadd i vd va vb)
  | .vcsVsub i vd va vb => i.spells (.vcsVsub i vd va vb)
  | .vcsVmul i vd va vb => i.spells (.vcsVmul i vd va vb)
  | .vcsVfma i vd va vb vc => i.spells (.vcsVfma i vd va vb vc)
  | .vcsVmac i vd va vb => i.spells (.vcsVmac i vd va vb)
  | .vcsVmin i vd va vb => i.spells (.vcsVmin i vd va vb)
  | .vcsVmax i vd va vb => i.spells (.vcsVmax i vd va vb)
  | .vcsVabs i vd va => i.spells (.vcsVabs i vd va)
  | .vcsVneg i vd va => i.spells (.vcsVneg i vd va)
  | .vcsVclamp i vd va vb vc => i.spells (.vcsVclamp i vd va vb vc)
  | .vcsVperm i vd va imm => i.spells (.vcsVperm i vd va imm)
  | .vcsVsplat i vd ga => i.spells (.vcsVsplat i vd ga)
  | .vcsVins i vd ga lane => i.spells (.vcsVins i vd ga lane)
  | .vcsVext i rd va lane => i.spells (.vcsVext i rd va lane)
  | .vcsVminh i rd va => i.spells (.vcsVminh i rd va)
  | .vcsVsincos i vd ga => i.spells (.vcsVsincos i vd ga)
  | .vcsVclarke i vd va => i.spells (.vcsVclarke i vd va)
  | .vcsViclarke i vd va => i.spells (.vcsViclarke i vd va)
  | .vcsVpark i vd va vb => i.spells (.vcsVpark i vd va vb)
  | .vcsVipark i vd va vb => i.spells (.vcsVipark i vd va vb)
  | .vcsLd i rd ra imm => i.spells (.vcsLd i rd ra imm)
  | .vcsLdW i rd ra imm => i.spells (.vcsLdW i rd ra imm)
  | .vcsLdV i vd ra imm => i.spells (.vcsLdV i vd ra imm)
  | .vcsSt i ra imm rs => i.spells (.vcsSt i ra imm rs)
  | .vcsStW i ra imm rs => i.spells (.vcsStW i ra imm rs)
  | .vcsStV i ra imm vs => i.spells (.vcsStV i ra imm vs)
  | .vcsIn i rd e ra => i.spells (.vcsIn i rd e ra)
  | .vcsInV i vd e ra => i.spells (.vcsInV i vd e ra)
  | .vcsOut i e ra rs => i.spells (.vcsOut i e ra rs)
  | .vcsNld i rd off ra => i.spells (.vcsNld i rd off ra)
  | .vcsNldV i vd off ra => i.spells (.vcsNldV i vd off ra)
  | .vcsNst i off ra rs => i.spells (.vcsNst i off ra rs)
  | .vcsNstV i off ra vs => i.spells (.vcsNstV i off ra vs)
  | .vcsEndf i => i.spells (.vcsEndf i)
  | .vcsHold i => i.spells (.vcsHold i)
  | .vcsEret i => i.spells (.vcsEret i)
  | .vcsWfi i => i.spells (.vcsWfi i)
  | .vcsFence i => i.spells (.vcsFence i)
  | .interruptEntry | .ceTrapClear .. | .ceClearEcc .. | .ceClearHold .. | .ceClearNfcnt .. | .ceHalt .. | .ceStep .. | .seClearEcc ..
  | .pwmArm .. | .pwmDisarm .. | .pwmKill .. | .dllLock | .dllLockLoss | .legUpdatePoint .. | .legEdge .. | .legTurnOn ..
  | .legDelayedTurnOff .. | .gokChange .. | .legOffConfirmTimeout .. | .legOnCheckTimeout .. | .fltAssert .. | .legTripWireChange ..
  | .legStart .. | .legCauseClear .. | .legSealSet | .clinkRun .. | .cellDownlinkSend .. | .cellFrameReturn .. | .clinkBlock ..
  | .clinkUnblock .. => true
  | .comparatorCrossing _ v _ => decide (v < 2 ^ 14)
  | .blankingStrobe .. | .blankingWindowClose .. | .wcmpL2latClear .. | .channelHComparatorTrip .. => true
  | .comparatorSample _ v _ => decide (v < 2 ^ 14)
  | .comparatorCheck .. => true
  | .comparatorCheckEnd _ _ _ _ v => decide (v < 2 ^ 14)
  | .powerUpHoldEvaluation _ v => decide (v < 2 ^ 14)
  | .wcmpFaultClear .. | .wcmpReadbackStart .. => true
  | .dacReadbackEnd fails => decide fails.Nodup
  | .wcmpSealSet | .setParameter | .setBreakpoint | .setTableValue | .commitTable | .hostSetPoint | .stop | .clearStop | .prmFFrequency
  | .coolantStatus | .unknownCommand .. | .parameterTakeEffect .. | .prmFWindowEnd .. | .permitQueueTimeout | .permitFaultTimeout
  | .coolantStatusTimeout | .coolantLossStop | .hostSetpointTimeout | .dcLinkOvervoltageStop | .feedbackHoldLimit .. | .stopRampEnd
  | .persistentMissHandling .. | .syncLock .. | .syncFreeTimeout | .rideThroughEntry | .rtTimerReset .. | .frequencyTrip ..
  | .perturbationWindowOpen | .perturbationWindowClose | .islandingNextPost | .reconnectionDelayExpiry | .enterServiceRampEnd
  | .nodeRun .. | .landingEnable .. | .nodeRoundStart | .hello .. | .helloackSend .. | .landingDown .. | .visitSend .. | .report ..
  | .reportEntry | .visitRetry .. | .visitAnswerTimeout .. | .broadcastSend | .ethFrameReceive .. | .arpRequest .. | .ethLinkChange ..
  | .ptpClockLoad .. | .ptpAdjust .. | .ptpClockRead .. | .timestampPop .. | .timestampStatusRead .. | .nodeCounterClear ..
  | .lineBringIn .. | .lineBringInComplete .. | .bringInLate .. | .lineWriteBack .. | .historyAppend .. | .berthReinit ..
  | .berthReinitDone | .berthCounterClear .. | .modulatorLoss .. | .controlFilterOutput .. | .meteringSample .. | .zeroCrossingTimeout ..
  | .meteringWindowEnd .. | .steeringBlockEnd .. | .mtrLoad .. | .meteringConfigApply | .temperatureUpdate .. | .temperatureStale ..
  | .mpstatRead .. | .pulseEdge .. | .quadratureDecision .. | .commit | .commitComplete .. | .tallyCommitRequest .. | .tallyRead ..
  | .earlyWarning | .lastCrossingFreeze | .lastCrossingSaveComplete .. | .tallyRestart .. | .intervalClose | .anchorAppend
  | .recordAccepted | .pendingRecordAppend | .manAck .. | .manSeal .. | .manBreak .. | .breakVerifyComplete .. | .msealChange ..
  | .manRecordRead .. | .switchReadbackFault .. | .fxhToggle | .fxpTimeout | .fxhTimeout | .oscillatorFault | .safetyConfigLoad ..
  | .switchBankRead .. | .safetyInputChange .. | .discrepancyTimeout .. | .safeStopDelayExpiry | .sfaRearm | .closeRequest
  | .switchPClose .. | .pullInFareRelease .. | .hGridUndervoltage .. | .safeOutputOvercurrent .. | .testPulseStart .. | .testPulseEnd ..
  | .offStateDiagnostic .. | .feedbackTimeout .. | .safeMessage .. | .safeMessagePairTimeout .. | .safeMessageTimeout ..
  | .safeMessageSend .. | .srstPulse .. => true
  | .resetProcedureComplete results => decide (results.length = 8) && results.all fun r => decide (r < 8)
  | .startupLockoutClear .. | .mclkTakeover .. | .tideSlip | .twinResyncReset | .heart .. | .mirror .. | .cellst .. | .cellfill ..
  | .nodemir .. | .manrec .. | .manconf .. | .bulk .. => true
  | .store _ _ stores => stores.all TwinStore.wf
  | .hawserAck .. | .hawserResend .. | .pair .. | .handover .. | .ttact .. | .yield .. | .cut .. | .handoverEdge | .laneFailure ..
  | .laneRecovery .. | .heartbeatMiss .. | .depose | .takeover .. | .leadershipClaim .. | .twinJoin .. | .twinHandover .. | .twinLeave ..
  | .twinDfclr .. | .twinCounterClear .. | .resyncRestart | .restartRecordTimeout .. | .doubleFault | .alignmentLoss | .ddrInitDone
  | .ddrTrainingDone .. | .ddrRetrain .. | .ddrFill .. | .ddrFillComplete | .ddrFillAbort .. | .dmaChannelRestart .. | .scrubStep ..
  | .dramDeviceFailure | .eccSelfTest .. | .eccCounterClear .. | .eccInject .. | .adcScanStart .. | .adcConversion .. | .hallChange ..
  | .pumpCarrierPeriod .. | .pumpGateTurnOn .. | .pumpHandshakeTimeout .. | .vdsFault .. | .bootstrapRefresh ..
  | .bootstrapUndervoltage .. | .pumpDiag .. | .pumpDiagComplete .. | .pumpRun .. | .pumpStop .. | .pumpFareTimeout | .pumpStartEnd
  | .pumpFaultClear .. | .pumpStall | .flowTimeout .. | .coolantStatusPost | .boot .. | .watchdogKick .. | .watchdogExpiry
  | .controlDieHold .. | .controlDieRelease .. | .hostQueuePush .. => true
  | .sensorSample values => decide (values.length ≤ 32)
  | .logWrite .. | .logEntry .. | .lifetimeSecond | .calendarSet .. | .calendarEnd | .calendarRead .. | .calendarDiscipline .. => true
  | .xspiCommand _ _ op => op.wf
  | .checkpoint .. | .imageVerify .. | .imageVerifyComplete .. | .imageActivate .. | .imageConfirm .. | .attest .. | .attestComplete
  | .vinValid | .vinLowReset | .supplyOutputOvercurrent .. | .supplyWindowFault .. | .holdUpReady | .holdUpMeasure ..
  | .holdUpMeasureComplete .. | .fareRequest .. | .capstanGrant | .fareBlock .. | .fareRelease .. | .capRequest .. | .capCounterClear ..
  | .pllLock | .referenceLoss | .referenceReturn | .thermalShutdown | .eventRise .. | .captureRead .. | .softwareEvent ..
  | .counterOverflow .. | .counterFreeze .. | .counterRead .. | .tagRecord .. | .tagRecordRead | .bandwidthWindowEnd .. | .benchEnter ..
  | .benchExit .. | .jtagInstruction .. | .resetPin .. | .dryCrossingEnd | .arming .. | .controlDomainAutoRelease | .earlyWarningRelease
  | .modulatorLossClear .. | .testPulseSkip .. | .holdUpReadyLoss | .vbatLow | .thermalShutdownRestart | .temperatureDifferenceCheck
  | .xspiOperationComplete .. => true
  | .imageCopyComplete scfg => scfg.wf
  | .cellLinkCommaLock .. | .resetPinLongHold => true

end Sys2Proof
end

