-- ==== Sys2Proof/Tests/Slice0.lean ====
section
/-!
SUPPORT. Tests/Slice0.lean: the well-formedness smoke, tests whose expected results are the spec's own worked examples or computed by hand from a
rule, and for every statement with hypotheses states and operands that meet them, clause by clause.
-/
set_option linter.unusedVariables false
set_option maxRecDepth 100000

namespace Sys2Proof.Machine
/-- The state with the part changed by `f`. -/
def State.dv (s : State) (f : Dev → Dev) : State := { s with dev := f s.dev }
/-- The state with the control domain released. -/
def State.live (s : State) : State := s.dv fun d => d.onSys fun x => { x with cdReset := false }
/-- The state with a register field set. -/
def State.w (s : State) (f : Fld) (i v : Nat) : State := s.dv fun d => d.wrAt f i v
/-- An item of class `c` and index `i` boarded with the value `v` and SEQ `q`. -/
def Dev.setBoard (d : Dev) (c i v q : Nat) : Dev :=
  { d with vcs := { d.vcs with boarded := d.vcs.boarded.set 0 (boardKey c i) (BitVec.ofNat 64 (v + 2 ^ 32 * q)) } }
/-- A timetable of one task on CE2 that enters at 0x100, without sets or claims, as it stands in DRAM (Tables 2-2 and 2-3). -/
def sampleTimetable : List (BitVec 8) :=
  let head := leBytes 4 0x31425454 ++ leBytes 2 1 ++ leBytes 2 1 ++ leBytes 4 4000 ++ leBytes 4 200 ++ leBytes 4 77 ++ leBytes 4 0x40
    ++ leBytes 4 0x80 ++ leBytes 4 0 ++ leBytes 4 0x80 ++ leBytes 4 0 ++ leBytes 20 0
  let task := leBytes 2 5 ++ leBytes 1 2 ++ leBytes 1 0 ++ leBytes 2 0 ++ leBytes 1 0 ++ leBytes 1 1 ++ leBytes 4 1000 ++ leBytes 4 0x100
    ++ leBytes 48 0
  head ++ leBytes 4 (crc32 (head ++ leBytes 4 0 ++ task)) ++ task
/-- That task, as admission reads it. -/
def sampleTask : Task := { id := 5, engine := 2, budget := 1000, entry := 0x100 }
/-- A Hawser message of TYPE `typ` sent in frame `n` with MSEQ `q` (Table 14-3). -/
def sampleMsg (typ n q : Nat) (body : List (BitVec 8)) : List (BitVec 8) :=
  let m := leBytes 1 typ ++ leBytes 1 0 ++ leBytes 2 body.length ++ leBytes 8 n ++ leBytes 4 q ++ body
  m ++ leBytes 4 (crc32 m)
/-- The state in which an engine's segment of budget 1000 runs from address 0, and Ferryman from its SRAM. -/
def State.prep (s : State) (e : Eng) : State := s.dv fun d =>
  let d1 := d.setEngine (Eng.index e) { running := true, budget := 1000, pc := if e = .ferryman then ferrymanSram else 0 }
  { d1 with vcs := { d1.vcs with ferry := {} } }
end Sys2Proof.Machine

namespace Sys2Proof.Machine
/-- A break command for the seal of the state below (Table 12-9). -/
def sampleBreak : List (BitVec 8) :=
  leBytes 4 2 ++ leBytes 4 3 ++ leBytes 8 Config.serial.toNat ++ leBytes 8 0 ++ List.replicate 32 0 ++ List.replicate 120 0
/-- A sealed state with no jumper fitted in which that command waits. -/
def breakState : State := State.reset.dv fun d => { d with cus := { d.cus with
  breaking := some sampleBreak, isSealed := true, jumper := some false, ackWait := false, sbcnt := 3, nonce := 0
  sealDigest := List.replicate 32 0 } }
theorem serial_sampleBreak : leNat (List.take 8 (List.drop 8 sampleBreak)) = Config.serial.toNat := by
  have e : List.take 8 (List.drop 8 sampleBreak) = leBytes 8 Config.serial.toNat := rfl
  rw [e, leNat_leBytes]
  exact Nat.mod_eq_of_lt Config.serial.isLt
/-- The command is accepted, whatever the device's serial number. -/
theorem breakCode_sampleBreak : breakState.dev.breakCode sampleBreak true = 0 := by
  have digest : (sampleBreak.drop 0x18).take 32 = List.replicate 32 0 := rfl
  simp only [Dev.breakCode, serial_sampleBreak]
  simp [breakState, State.dv, digest]
  refine ⟨?_, ?_, ?_⟩ <;> rfl
end Sys2Proof.Machine

namespace Sys2Proof.Machine

/-- The part after a command. -/
def State.after (s : State) (c : Instr) : Dev :=
  match exec c s with
  | .next t => t.dev
  | _ => s.dev

/-- The instruction of the word `w` on CE7, without a predicate. -/
def onCe7 (w : BitVec 32) : Issue := { eng := .ce 7, pr := 0, pn := false, word := w }

/-- The state in which CE7 runs with general registers `g`. -/
def State.withG (s : State) (g : List (Nat × BitVec 64)) : State :=
  (s.live.prep (.ce 7)).dv fun d => d.setEngine 7 { d.engine 7 with g := g }

/-! ### Well-formedness: one ill-formed command for each check -/

/-- Sizes, resource numbers, empty claims, 14-bit values, repeats, lengths, addresses, an instruction that its word does not spell: each is refused. -/
theorem test_ill_formed_refused :
    ([.registerWrite .ferryman 0x1010000000 3 0, .claim [.ferryman] .leg 24, .claim [] .leg 0, .release .ferryman .gangway 10,
      .comparatorCrossing 0 16384 100, .comparatorSample 31 16384 100, .comparatorCheckEnd 0 true false 0 16384, .powerUpHoldEvaluation 3 16384,
      .dacReadbackEnd [5, 5], .resetProcedureComplete [1, 1, 1, 1, 1, 1, 1, 8], .store true 1 [⟨0, 0, 4, 0⟩], .store true 1 [⟨0, 0, 0x20000, 0⟩],
      .sensorSample (List.replicate 33 0), .xspiCommand .ferryman 0 (.program 0x3FFFFFF [0, 0]), .xspiCommand .ferryman 0 (.erase 0x4000000 1),
      .imageCopyComplete { words := [], comparators := [(0, 2)], seBlock := [], claims := [] },
      .imageCopyComplete { words := [], comparators := [], seBlock := [(0x20000, 0)], claims := [] },
      .imageCopyComplete { words := [], comparators := [], seBlock := [], claims := [(.leg, 24, 0)] },
      .vcsAdd (onCe7 0x00061101) 3 1 1, .vcsSub (onCe7 0x00061101) 3 1 2] : List Instr).all (fun i => !i.wf) = true := by decide

/-- At the ends of their ranges the same commands are well formed. -/
theorem test_well_formed_accepted :
    ([.registerWrite .ferryman 0x1010000000 16 0, .claim [.ferryman, .ce 7] .leg 23, .release .ferryman .gangway 9,
      .comparatorCrossing 0 16383 100, .comparatorCheckEnd 0 true false 0 16383, .dacReadbackEnd [5, 127],
      .resetProcedureComplete [1, 1, 1, 1, 1, 1, 1, 7], .store false 1 [⟨0, 0, 0x1FFF8, 0⟩], .sensorSample (List.replicate 32 0),
      .xspiCommand .ferryman 0 (.erase 0x3FFFFFF 1), .vcsAdd (onCe7 0x00061101) 3 1 2, .vcsAdd { onCe7 0xFFFFFFFF with pr := 7, pn := true } 3 1 2,
      .imageCopyComplete { words := [], comparators := [(0, 1)], seBlock := [(0x1FFFF, 0)], claims := [(.leg, 23, 1)] },
      .claimsOpen] : List Instr).all (fun i => i.wf) = true := by decide

/-- The opcode table gives no row bits: no word spells a command. -/
theorem test_no_word_decodes : decodeTableWord 32 0 = none ∧ decodeTableWord 8 255 = none := by decide

/-! ### The step -/

/-- The step takes the front of the queue and leaves the rest. -/
theorem test_step_takes_front :
    (match step { State.reset.dv (fun d => { d with sys := { d.sys with loaded := true } }) with pending := [.claimsOpen, .tideAlarm] } with
      | .next t => decide (t.pending = [.tideAlarm]) && t.dev.sys.claimsOpen
      | _ => false) = true := by decide

/-! ### The spec's worked examples -/

/-- Worked example of the Lindqvay hold-up capacitor (19): a new capacitor of 39 µF falls 0.513 V; HUPC reads 39.0 µF and 30.5 mJ. -/
theorem test_hold_up_example :
    let d := (State.reset.w .CAP_STAT_HBUSY 0 1 |>.w .CAP_HUP_VSET 0 80).after (.holdUpMeasureComplete 512821)
    (d.rd .CAP_HUPC_C, d.rd .CAP_HUPC_E, d.on .CAP_STAT_HUPLOW) = (390, 305, false) := by decide

set_option exponentiation.threshold 400 in
/-- Worked example of the failed save at MP0 (12): EB(0) is 5,816,223,900 µWh over 0.73 s. -/
theorem test_energy_bound_example :
    energyBound 0x46346C00 0x44160000 730000 = 5816223900 := by decide

/-- The tasks A to E of Table 2-7, with E at phase `e`. -/
def lindqvay (e : Nat) : List Task :=
  [{ id := 0, engine := 1, budget := 3100 }, { id := 1, engine := 1, budget := 1200 }, { id := 2, engine := 1, rate := 2, phase := 1, budget := 1400 },
   { id := 3, engine := 1, rate := 3, phase := 1, budget := 1000 }, { id := 4, engine := 1, rate := 6, phase := e, budget := 1500 }]

/-- Task F of that example. -/
def lindqvayF : Task := { id := 5, engine := 1, rate := 1, phase := 1, budget := 300 }

/-- The worked timetable of Table 2-7: admitted; with F refused at engine 1, frame 5, by 60 cycles; with E moved the loads of Table 2-8. -/
theorem test_admission_example :
    ttOverload (lindqvay 5) 4000 = none ∧ ttOverload (lindqvay 5 ++ [lindqvayF]) 4000 = some (1, 5, 60)
      ∧ [1, 5, 4, 3, 2].map (ttLoad (lindqvay 4 ++ [lindqvayF]) 1) = [7160, 6136, 5912, 4712, 4388] := by decide

/-- Worked example of Table 9-14: block 14 of landing 3 is visited in round frame 43,768. -/
theorem test_visit_frame_example : (({} : Dev).wr .NODE_RNDFR 100000).visitFrame 3 14 = 43768 := by decide

/-- Worked example of Table 10-6: the window of frame 51,200,007 is nodes 41,008 to 41,071. -/
theorem test_window_example :
    let t : Task := { id := 9, engine := 7, rate := 9, phase := 7, win := 64
                      nodes := (List.range 10).map fun j => ⟨0, 1000, 1536 + 1000 * (3 + 4 * j)⟩ }
    [41007, 41008, 41071, 41072].map (t.touches 51200007) = [false, true, true, false] := by decide

/-- Table 3-14: after movz has issued in cycle 3, vclarke pairs with it (v1 ready at 3) and v2 lands at 9. -/
theorem test_schedule_example_pair :
    let x : Engine := { issued := true, last := 3, earliest := 4, land := [(9, 4), (33, 3)], maxLand := 5, prev := { cls := 0, writes := [9] } }
    let o : Op := { cls := 1, lat := 6, reads := [regV 1], writes := [regV 2] }
    x.cycle o 0 = (3, true) ∧ (x.issue o 3 true false).land.at 0 34 = 9 := by decide

/-- Table 3-14: vsincos waits for g6 (ready at 4); v4 lands at 10. -/
theorem test_schedule_example_wait :
    let x : Engine := { issued := true, last := 3, earliest := 4, land := [(6, 4), (34, 9)], maxLand := 9, prev := { cls := 1, writes := [34], paired := true } }
    let o : Op := { cls := 1, lat := 6, reads := [regG 6], writes := [regV 4] }
    x.cycle o 0 = (4, false) ∧ (x.issue o 4 false false).land.at 0 36 = 10 := by decide

/-- Table 3-14: the division unit is busy from 5 to 22, so fdiv's g8 is ready at 23 and a second division issues in 23. -/
theorem test_schedule_example_divide :
    let s := State.reset.withG [] |>.dv fun d => d.setEngine 7 { d.engine 7 with
      issued := true, last := 4, earliest := 5, land := [(7, 5)], maxLand := 5, prev := { cls := 1, writes := [36] } }
    let d := s.after (.vcsFdivS (onCe7 0x03909380) 8 9 7)
    (d.engine 7).last = 5 ∧ (d.engine 7).land.at 0 8 = 23 ∧ (d.engine 7).divFree = 23 := by decide

/-- R113's example: a taken branch that issues at s + 4 lets the next instruction issue at s + 7. -/
theorem test_taken_branch :
    let s := State.reset.withG [] |>.dv fun d => d.setEngine 7 { d.engine 7 with issued := true, last := 5, earliest := 6, pc := 24 }
    let d := s.after (.vcsBr (onCe7 0x063FFFFC) (BitVec.ofInt 22 (-4)))
    (d.engine 7).last = 6 ∧ (d.engine 7).earliest = 9 ∧ (d.engine 7).pc = 8 := by decide

/-- The example of Table 3-13: movz.h1 g9, 0x4000 is 2.0 as binary32. -/
theorem test_movz_example : (((State.reset.withG []).after (.vcsMovz (onCe7 0x0F134000) 9 1 0x4000)).engine 7).gr 9 = 0x40000000#64 := by decide

/-- R85: the example words of the instruction set, and the reserved words of R65. -/
theorem test_given_words :
    decodeVcs (.ce 0) 0x03064280 = some (.vcsFaddS { eng := .ce 0, pr := 0, pn := false, word := 0x03064280 } 3 4 5)
      ∧ decodeVcs (.ce 0) 0x563FFFFD = some (.vcsBr { eng := .ce 0, pr := 2, pn := true, word := 0x563FFFFD } (-3))
      ∧ decodeVcs .ferryman 0 = none ∧ decodeVcs .ferryman 0xFFFFFFFF = none := by decide

/-! ### Results computed by hand from a rule -/

/-- R73: add wraps at 64 bits. -/
theorem test_add_wraps :
    (((State.reset.withG [(1, 0xFFFFFFFFFFFFFFFF), (2, 2)]).after (.vcsAdd (onCe7 0x00061101) 3 1 2)).engine 7).gr 3 = 1#64 := by decide

/-- R73: adds.w saturates at 2^31 − 1. -/
theorem test_adds_w_saturates :
    (((State.reset.withG [(1, 0x7FFFFFFF), (2, 1)]).after (.vcsAddsW (onCe7 0x00061109) 3 1 2)).engine 7).gr 3 = 0x7FFFFFFF#64 := by decide

/-- R55: a write to g0 is discarded. -/
theorem test_g0_reads_zero :
    (((State.reset.withG [(1, 5)]).after (.vcsAddi (onCe7 0x00401003) 0 1 3)).engine 7).gr 0 = 0#64 := by decide

/-- R74: cmpi.lt sets its predicate on −1 < 0 (a signed comparison). -/
theorem test_cmpi_signed :
    (((State.reset.withG [(1, 0xFFFFFFFFFFFFFFFF)]).after (.vcsCmpi (onCe7 0x02581400) .lt 3 1 0)).engine 7).pr 3 = true := by decide

/-- R77: 1.5 + 2.25 = 3.75 in binary32. -/
theorem test_fadd :
    (((State.reset.withG [(1, 0x3FC00000), (2, 0x40100000)]).after (.vcsFaddS (onCe7 0x03061100) 3 1 2)).engine 7).gr 3 = 0x40700000#64 := by decide

/-- R24, R28: a claim by CE0 on an analog input reserved for rank 2 reports 0x5 (the refused admission that follows R30), one by a requester of a
lower rank on a leg that Ferryman holds 0x4. -/
theorem test_claim_codes :
    let s := State.reset.live.dv fun d => { d with sys := { d.sys with
      claimsOpen := true, analogClaims := [(62, { rsv := some 2, rsvSealed := true })], pulseClaims := [(1, { owner := some .ferryman })] } }
    ((s.after (.claim [.ce 0] .analogInput 62)).cell .analogInput 62).status.at 0 0x10 = 5
      ∧ ((s.after (.claim [.ce 0] .pulseInput 1)).cell .pulseInput 1).status.at 0 0x10 = 4 := by decide

/-- R488: PU08 and GW0 share a ball: while GW0 is held, a claim on PU8 reports 0x6. -/
theorem test_shared_ball :
    let s := State.reset.live.dv fun d => { d with sys := { d.sys with claimsOpen := true, gangwayClaims := [(0, { owner := some .testAccess })] } }
    ((s.after (.claim [.ferryman] .pulseInput 8)).cell .pulseInput 8).status.at 0 5 = 6 := by decide

/-- R2, R3: a register write of 8 bytes is refused with a bus error and changes nothing. -/
theorem test_wide_register_write :
    let d := (State.reset.live).after (.registerWrite .ferryman 0x1010000014 8 1)
    d.resp.error = true ∧ d.regs = State.reset.live.dev.regs := by decide

/-- R33: the edge that opens frame 8,192 is a hyperperiod boundary, the one that opens 8,193 is not. -/
theorem test_hyperperiod :
    let a := (State.reset.dv fun d => ({ d with tt := { d.tt with opened := true } } : Dev).wr .TIDE_CNTLO 8191).after (.tideEdge 0 0 false)
    (a.tide, a.rd .TIDE_HPIDX_IDX, a.on .TIDE_STAT_BND) = (8192, 0, true) := by decide

/-- The check values of CRC-32 and CRC-32C, for the polynomials that Table 2-2 and R322 name. -/
theorem test_crc : crc32 [0x31, 0x32, 0x33, 0x34, 0x35, 0x36, 0x37, 0x38, 0x39] = 0xCBF43926
    ∧ crc32c [0x31, 0x32, 0x33, 0x34, 0x35, 0x36, 0x37, 0x38, 0x39] = 0xE3069283 := by decide

/-! ### The memories -/

/-- The canonical form refuses an unsorted list, a repeated address and an entry that equals what an unlisted address reads as. -/
theorem test_memory_form : Memory.wf [(2, 1), (1, 1)] = false ∧ Memory.wf [(1, 1), (1, 2)] = false ∧ Memory.wf [(1, 0)] = false
    ∧ Memory.wf [(1, 1), (2, 1)] = true := by decide

/-- Writing 0 removes the entry. -/
theorem test_memory_write_zero : memSet [(1, 1), (2, 5)] 2 0 = [(1, 1)] := by decide

/-! ### Witnesses of the statements about all commands -/

/-- `Obligations.StepKeepsMemoryCanonical`: a state with a byte stored whose step stores another. -/
theorem witness_stepKeepsMemoryCanonical :
    ∃ s t : State, s.memOk ∧ step s = .next t ∧ t.mem ≠ s.mem := by
  refine ⟨{ (State.reset.withG [(1, 7)]) with mem := [(0x100, 5)], pending := [.vcsSt (onCe7 0x08C20010) 0 0x10 1] }, _, by unfold State.memOk; decide, rfl, by decide⟩

/-- `Obligations.OtherCommandsKeepMemory`. -/
theorem witness_otherCommandsKeepMemory : mayStore .claimsOpen = false ∧ mayStore (.vcsAdd (onCe7 0x00022181) 1 2 3) = false := by decide

/-- `Obligations.AlarmRule`: a value at the count, and the state right after the write as the later one. -/
theorem witness_alarmRule :
    let s := State.reset.w .TIDE_CNTLO 0 9
    ∃ t : State, exec (.tideAlarmSet .ferryman false 9) s = .next t ∧ t.dev.rd64 .TIDE_ALMLO .TIDE_ALMHI ≤ s.dev.tide :=
  ⟨_, rfl, by decide⟩

/-- An alarm value above the count when it was written fires once the count reaches it. -/
theorem test_alarm_fires :
    let s := (State.reset.dv fun d => { d with tt := { d.tt with almAt := some 3 } }).w .TIDE_CNTLO 0 9
    ((s.w .TIDE_ALMLO 0 9 |>.w .TIDE_STAT_ALMEN 0 1).after .tideAlarm).on .TIDE_STAT_ALM = true := by decide

/-- `Obligations.PredicateZeroRule`: the ends of the range. -/
theorem witness_predicateZeroRule : (0 < 1 ∧ 1 < 8) ∧ (0 < 7 ∧ 7 < 8) := by decide

/-- `Obligations.HyperperiodRule`: the last frame of a hyperperiod and the first one. -/
theorem witness_hyperperiodRule :
    let s := State.reset.w .TIDE_CNTLO 0 4095
    s.dev.tide + 1 < 2 ^ 64 ∧ (s.dev.tide + 1) % 4096 = 0 ∧ State.reset.dev.tide + 1 < 2 ^ 64 ∧ (State.reset.dev.tide + 1) % 4096 ≠ 0 := by
  decide

/-- `Obligations.HeldClaimRule`, first clause: the last comparator, and a Gangway line, free and open. -/
theorem witness_heldClaimRule_free :
    let s := State.reset.live.dv fun d => { d with sys := { d.sys with claimsOpen := true } }
    31 < Resource.comparator.count ∧ (s.dev.cell .comparator 31).owner = none ∧ (s.dev.cell .comparator 31).rsv = none
      ∧ s.dev.claimsClosed .ferryman .comparator = false ∧ s.dev.rivalHeld .comparator 31 = false
      ∧ 9 < Resource.gangway.count ∧ s.dev.sys.cdReset = false ∧ (s.dev.cell .gangway 9).owner = none
      ∧ (s.dev.cell .gangway 9).rsv = none ∧ s.dev.claimsClosed (claimant .ferryman .gangway) .gangway = false
      ∧ s.dev.rivalHeld .gangway 9 = false := by decide

/-- `Obligations.HeldClaimRule`, second and third clause: the last comparator held by channel H. -/
theorem witness_heldClaimRule_held :
    let s := State.reset.dv fun d => { d with sys := { d.sys with comparatorClaims := [(31, { owner := some .channelH })] } }
    31 < Resource.comparator.count ∧ controlResource .comparator = false ∧ (s.dev.cell .comparator 31).owner = some .channelH := by decide

end Sys2Proof.Machine

/-! ### States and operands that meet the hypotheses of the statements -/

namespace Sys2Proof.Machine

/-- States and operands that meet the hypotheses of each clause of `Obligations.SupplyCommands` that has some. -/
theorem witness_supplyCommands :
    (∃ (s : State), (s.dev.sys.pinLong = false) ∧ (s.dev.sys.thermalHold = false) ∧ (s.dev.on .CAP_STAT_VINV = false)) ∧ (∃ (s : State),
      (s.dev.on .CAP_STAT_ARMED = false)) ∧ (∃ (s : State), (s.dev.sys.sfPending = none) ∧ (s.dev.sys.pdPending = none)) ∧ (∃ (s : State),
      (s.dev.sys.thermalHold = false) ∧ (s.dev.on .CAP_STAT_VINV = false)) ∧ (∃ (s : State), (s.dev.on .CAP_STAT_VINV = true)) ∧ (∃ (s :
      State), (s.dev.on .CAP_STAT_VINV = false)) ∧ (∃ (s : State), (s.dev.on .CAP_STAT_HUPRDY = true) ∧ (s.dev.sys.warning = false)) ∧ (∃
      (s : State), (s.dev.on .CAP_STAT_HUPRDY = false ∨ s.dev.sys.warning = true)) ∧ (∃ (s : State), (s.dev.on .CAP_STAT_HUPRDY = true) ∧
      (s.dev.sys.warning = false) ∧ (s.dev.sys.spFailed = false)) ∧ (∃ (s : State) (dv : Nat), (s.dev.on .CAP_STAT_HBUSY = true) ∧ (0 < dv)
      ∧ (nearest 200000000 dv < 65536) ∧ (12 < s.dev.rd .CAP_HUP_VSET)) :=
  ⟨⟨((((State.reset.w .CAP_STAT_VINV 0 0).w .CAP_OUTEN 0 15).dv fun d =>
    { d with sys := { d.sys with pinLong := false, thermalHold := false } }).w .FM_CALSTAT_CALV 0 0).dv fun d =>
    { d with cus := { d.cus with slotA := some { cseq := 3, time := 7 }, slotB := none } }, by decide⟩, ⟨State.reset.w .CAP_STAT_ARMED 0 0,
    by decide⟩, ⟨State.reset.dv fun d => { d with sys := { d.sys with sfPending := none, pdPending := none } }, by decide⟩, ⟨(State.reset.w
    .CAP_STAT_VINV 0 0).dv fun d => { d with sys := { d.sys with thermalHold := false } }, by decide⟩, ⟨State.reset.w .CAP_STAT_VINV 0 1,
    by decide⟩, ⟨State.reset.w .CAP_STAT_VINV 0 0, by decide⟩, ⟨(State.reset.w .CAP_STAT_HUPRDY 0 1).dv fun d =>
    { d with sys := { d.sys with warning := false } }, by decide⟩, ⟨State.reset.w .CAP_STAT_HUPRDY 0 0, by decide⟩, ⟨(State.reset.w
    .CAP_STAT_HUPRDY 0 1).dv fun d => { d with sys := { d.sys with spFailed := false, warning := false } }, by decide⟩, ⟨(State.reset.w
    .CAP_STAT_HBUSY 0 1).w .CAP_HUP_VSET 0 120, 5000, by decide⟩⟩

/-- States and operands that meet the hypotheses of each clause of `Obligations.CrossingCommands` that has some. -/
theorem witness_crossingCommands :
    (∃ (s : State), (s.dev.on .CAP_STAT_ARMED = true)) ∧ (∃ (s : State), (s.dev.sys.sfPending = some .brownOut) ∧ (s.dev.sys.pdPending =
      none) ∧ (s.dev.cus.frozen = false)) ∧ (∃ (s : State) (out : Fin 4), (s.dev.bit .CAP_OUTSTAT_PG out.val = true) ∧ (out.val ≠ 3)) ∧ (∃
      (s : State), (s.dev.bit .CAP_OUTSTAT_PG 3 = true)) ∧ (∃ (s : State) (n : Fin 16), (n.val ∈ [0, 1, 10, 11, 12, 13])) ∧ (∃ (s : State)
      (n : Fin 16), (3 ≤ n.val) ∧ (n.val ≤ 6)) ∧ (∃ (s : State) (n : Fin 16), (n.val ∈ [2, 7, 8, 9])) ∧ (∃ (s : State),
      (s.dev.sys.sfPending = none)) ∧ (∃ (s : State), (s.dev.fm.diffAct = false) ∧ (s.dev.hottest 2 - min (s.dev.hottest 0) (s.dev.hottest
      1) ≤ 560) ∧ (max (s.dev.hottest 0) (s.dev.hottest 1) - s.dev.hottest 2 < 80) ∧ (s.dev.fm.booted = true)) ∧ (∃ (s : State),
      (s.dev.fm.diffAct = false) ∧ (80 ≤ max (s.dev.hottest 0) (s.dev.hottest 1) - s.dev.hottest 2) ∧ (s.dev.fm.booted = true)) ∧ (∃ (s :
      State), (s.dev.fm.booted = false)) :=
  ⟨⟨State.reset.w .CAP_STAT_ARMED 0 1, by decide⟩, ⟨(State.reset.dv fun d =>
    { d with sys := { d.sys with sfPending := some .brownOut, pdPending := none } }).dv fun d =>
    { d with cus := { d.cus with frozen := false } }, by decide⟩, ⟨State.reset.w .CAP_OUTSTAT_PG 0 7, 0, by decide⟩, ⟨State.reset.w
    .CAP_OUTSTAT_PG 0 8, by decide⟩, ⟨State.reset, 0, by decide⟩, ⟨State.reset, 3, by decide⟩, ⟨State.reset.w .SAF_FLTH_VALID 0 0, 2, by
    decide⟩, ⟨State.reset.dv fun d => { d with sys := { d.sys with sfPending := none } }, by decide⟩, ⟨((State.reset.dv fun d =>
    { d with fm := { d.fm with booted := true } }).dv fun d => { d with fm := { d.fm with diffAct := false } }).dv fun d => (List.range
    12).foldl (fun x k => x.wrAt .FM_SEN_VALUE k 400) d, by decide⟩, ⟨(((State.reset.dv fun d =>
    { d with fm := { d.fm with booted := true } }).dv fun d => { d with fm := { d.fm with diffAct := false } }).dv fun d => (List.range
    12).foldl (fun x k => x.wrAt .FM_SEN_VALUE k 400) d).w .FM_SEN_VALUE (0) 480, by decide⟩, ⟨State.reset.dv fun d =>
    { d with fm := { d.fm with booted := false } }, by decide⟩⟩

/-- States and operands that meet the hypotheses of each clause of `Obligations.ClockAndCapstanCommands` that has some. -/
theorem witness_clockAndCapstanCommands :
    (∃ (s : State), (refMHz s.dev.straps.cksel = some 25) ∧ (s.dev.rd .CLK_NDIV = 0) ∧ (s.dev.rd .CLK_CFG_PRE = 0)) ∧ (∃ (s : State),
      ((refMHz s.dev.straps.cksel).isSome = true) ∧ (s.dev.rd .CLK_NDIV ≠ 0)) ∧ (∃ (s : State), (s.dev.sys.cdReset = false)) ∧ (∃ (s :
      State) (cls : Fin 23), (s.dev.fareWanted cls.val = false)) ∧ (∃ (s : State) (cls : Fin 23), (s.dev.fareWanted cls.val = true) ∧
      (s.dev.onAt .CAP_CLS_HELD cls.val = false) ∧ (0 < s.dev.fareOf cls.val)) ∧ (∃ (s : State) (cls : Fin 23), (s.dev.fareWanted cls.val =
      true) ∧ (s.dev.onAt .CAP_CLS_HELD cls.val = false) ∧ (s.dev.fareOf cls.val = 0) ∧ (s.dev.sys.spFailed = false)) ∧ (∃ (s : State) (cls
      : Fin 23), (s.dev.onAt .CAP_CLS_PEND cls.val = true) ∧ (s.dev.onAt .CAP_CLS_BLOCK cls.val = false)) ∧ (∃ (s : State) (cls : Fin 23),
      (cls.val = 0 ∨ s.dev.fareWanted cls.val = false)) ∧ (∃ (s : State) (fares : BitVec 7), (s.dev.sys.spFailed = false) ∧ (s.dev.onAt
      .CAP_CLS_HELD 22 = false) ∧ (0 < fares.toNat)) ∧ (∃ (s : State), (s.dev.sys.spFailed = false)) ∧ (∃ (s : State), (s.dev.sys.spFailed
      = false)) ∧ (∃ (s : State), (s.dev.sys.spFailed = false) ∧ (s.dev.onAt .CAP_CLS_PEND 0 = true) ∧ (s.dev.faresCommitted + s.dev.rdAt
      .CAP_CLS_FARES 0 ≤ s.dev.rd .CAP_BUDGET_FARES)) :=
  ⟨⟨((State.reset.w .CLK_NDIV 0 0).w .CLK_CFG_PRE 0 0).dv fun d => { d with straps := { d.straps with cksel := 3 } }, by decide⟩,
    ⟨(State.reset.w .CLK_NDIV 0 128).dv fun d => { d with straps := { d.straps with cksel := 1 } }, by decide⟩, ⟨State.reset.live, by
    decide⟩, ⟨State.reset.w .CAP_REQ_REQ 0 0, 22, by decide⟩, ⟨(fun (cls : Fin 23) => ((((((((State.reset.w .CAP_CLS_HELD (cls.val) 0).w
    .CAP_CLFARE (cls.val) 4).w .CAP_REQ_FARES 0 4).w .CAP_HUP_FARE 0 2).w .CAP_REQ_REQ 0 1).w .CAP_HUP_EN 0 1).w .CAP_STAT_HBUSY 0 0).w
    .CAP_OUTEN 0 15).dv fun d => { d with sys := { d.sys with ocOff := [] } }) (22), 22, by decide⟩, ⟨(fun (cls : Fin 23) =>
    (((State.reset.w .CAP_CLS_HELD (cls.val) 0).w .CAP_CLFARE (cls.val) 0).w .CAP_OUTEN 0 15).dv fun d =>
    { d with sys := { d.sys with spFailed := false, ocOff := [] } }) (15), 15, by decide⟩, ⟨(fun (cls : Fin 23) => (State.reset.w
    .CAP_CLS_PEND (cls.val) 1).w .CAP_CLS_BLOCK (cls.val) 0) (22), 22, by decide⟩, ⟨State.reset.w .COOL_CTRL_RUN 0 0, 9, by decide⟩,
    ⟨(State.reset.w .CAP_CLS_HELD (22) 0).dv fun d => { d with sys := { d.sys with spFailed := false } }, 127, by decide⟩, ⟨State.reset.dv
    fun d => { d with sys := { d.sys with spFailed := false } }, by decide⟩, ⟨State.reset.dv fun d =>
    { d with sys := { d.sys with spFailed := false } }, by decide⟩, ⟨(((((State.reset.w .CAP_CLS_PEND (0) 1).w .CAP_CLS_FARES (0) 2).w
    .CAP_BUDGET_FARES 0 255).w .CAP_BUDGET_BASE 0 1).dv fun d => { d with sys := { d.sys with spFailed := false } }).dv fun d =>
    (List.range 23).foldl (fun x k => x.wrAt .CAP_CLS_HELD k 0) d, by decide⟩⟩

/-- States and operands that meet the hypotheses of each clause of `Obligations.SafetyFaultCommands` that has some. -/
theorem witness_safetyFaultCommands :
    (∃ (s : State), (s.dev.saf.fxpWatch = true) ∧ (s.dev.sys.cdReset = false)) ∧ (∃ (s : State), (s.dev.sys.cdReset = false)) ∧ (∃ (s :
      State) (chanH : Bool) (pair : Fin 8), (s.dev.pairMode (2 * pair.val) ≠ 0) ∧ (s.dev.onAt .SAF_SICFG_EN (2 * pair.val) = true) ∧
      (s.dev.siDemands chanH (2 * pair.val) ≠ s.dev.siDemands chanH (2 * pair.val + 1))) ∧ (∃ (s : State) (chanH : Bool) (bank : BitVec
      12), (chanH = true ∨ s.dev.sys.cdReset = false) ∧ (bank.toNat ≠ s.dev.rd .SAF_SWSEXP) ∧ (2 ≤ (s.dev.rx chanH).bankBad)) ∧ (∃ (s :
      State) (chanH : Bool) (bank : BitVec 12), (chanH = true ∨ s.dev.sys.cdReset = false) ∧ (bank.toNat = s.dev.rd .SAF_SWSEXP)) ∧ (∃ (s :
      State) (chanH : Bool) (out : Fin 8), (s.dev.saf.test.at 0 out.val = (if chanH then 1 else 2))) ∧ (∃ (s : State) (chanH : Bool) (out :
      Fin 8), (s.dev.saf.test.at 0 out.val = (if chanH then 1 else 2))) ∧ (∃ (s : State) (out : Fin 8) (mv : Nat), (s.dev.bit .SAF_STAT_ON
      out.val = false) ∧ (s.dev.on .PWM_STAT_LEAD = true) ∧ (s.dev.onAt .SAF_SOCFG_EN out.val = true) ∧ (offResult mv ≠ 1)) ∧ (∃ (s :
      State) (out : Fin 8) (mv : Nat), (s.dev.bit .SAF_STAT_ON out.val = false) ∧ (s.dev.on .PWM_STAT_LEAD = true) ∧ (offResult mv = 1)) ∧
      (∃ (s : State) (chanH : Bool) (out : Fin 8), (s.dev.fbUsed out.val = true) ∧ (s.dev.fbRight chanH out.val = false)) ∧ (∃ (s : State)
      (chanH : Bool) (out : Fin 8), (s.dev.fbUsed out.val = true) ∧ (s.dev.fbRight chanH out.val = true)) ∧ (∃ (s : State) (sigOk : Bool),
      (s.dev.sys.loaded = false) ∧ (sigOk = false ∨ s.dev.on .ECC_STAT_STF = true ∨ s.dev.saf.cfgPart = none)) ∧ (∃ (s : State),
      (s.dev.sys.loaded = true)) ∧ (∃ (s : State) (k : Scfg), (s.dev.sys.loaded = false) ∧ (s.dev.on .ECC_STAT_STF = false) ∧
      (s.dev.saf.cfgPart = some k)) :=
  ⟨⟨State.reset.live.dv fun d => { d with saf := { d.saf with fxpWatch := true } }, by decide⟩, ⟨State.reset.live, by decide⟩, ⟨(fun (pair
    : Fin 8) => (((State.reset.w .SAF_SICFG_PAIR (2 * pair.val) 1).w .SAF_SICFG_EN (2 * pair.val) 1).w .SAF_SILVL_H 0 0x5555).w
    .SAF_SILVL_P 0 0x5555) (7), true, 7, by decide⟩, ⟨(State.reset.live.w .SAF_SWSEXP 0 0).dv fun d =>
    { d with saf := { d.saf with rxH := { bankBad := 2 }, rxP := { bankBad := 2 } } }, true, 0xFFF, by decide⟩, ⟨State.reset.live.w
    .SAF_SWSEXP 0 7, true, 7, by decide⟩, ⟨(fun (chanH : Bool) => State.reset.dv fun d =>
    { d with saf := { d.saf with test := [(7, if chanH then 1 else 2)] } }) (true), true, 7, by decide⟩, ⟨(fun (chanH : Bool) =>
    State.reset.dv fun d => { d with saf := { d.saf with test := [(7, if chanH then 1 else 2)] } }) (true), true, 7, by decide⟩, ⟨(fun (out
    : Fin 8) => ((State.reset.w .SAF_STAT_ON 0 0).w .PWM_STAT_LEAD 0 1).w .SAF_SOCFG_EN (out.val) 1) (7), 7, 14, by decide⟩,
    ⟨(State.reset.w .SAF_STAT_ON 0 0).w .PWM_STAT_LEAD 0 1, 7, 15, by decide⟩, ⟨((State.reset.w .SAF_SOCFG_EN (7) 1).w .SAF_SOCFG_FBEN (7)
    1).dv fun d => { d with saf := { d.saf with expect := 0, rxH := {}, rxP := {} } }, true, 7, by decide⟩, ⟨((State.reset.w .SAF_SOCFG_EN
    (7) 1).w .SAF_SOCFG_FBEN (7) 1).dv fun d => { d with saf := { d.saf with expect := 0, rxH := { fbk := 128 }, rxP := { fbk := 128 } } },
    true, 7, by decide⟩, ⟨State.reset.dv fun d => { d with sys := { d.sys with loaded := false } }, false, by decide⟩, ⟨State.reset.dv fun
    d => { d with sys := { d.sys with loaded := true } }, by decide⟩, ⟨(fun (k : Scfg) => ((State.reset.dv fun d =>
    { d with sys := { d.sys with loaded := false } }).w .ECC_STAT_STF 0 0).dv fun d => { d with saf := { d.saf with cfgPart := some k } })
    ({ fields := [(.SAF_SFMSK_MSKA, 0, 3)], comparators := [{ n := 4, rank := 0, fields := [(.WCMP_CFG_MODE, 1)] }], claims := [(.analogInput, 3, 1)] }),
    { fields := [(.SAF_SFMSK_MSKA, 0, 3)], comparators := [{ n := 4, rank := 0, fields := [(.WCMP_CFG_MODE, 1)] }], claims := [(.analogInput, 3, 1)] },
    by decide⟩⟩

/-- States and operands that meet the hypotheses of each clause of `Obligations.SafetyChannelCommands` that has some. -/
theorem witness_safetyChannelCommands :
    (∃ (s : State), (s.dev.locked true = false)) ∧ (∃ (s : State) (chanH : Bool) (n : Fin 16), (chanH = true ∨ s.dev.sys.cdReset = false) ∧
      (s.dev.pairMode n.val = 0) ∧ (s.dev.onAt .SAF_SICFG_EN n.val = true)) ∧ (∃ (s : State) (n : Fin 8), (s.dev.fbUsed n.val = false)) ∧
      (∃ (s : State), (s.dev.saf.sfdRun = true)) ∧ (∃ (s : State), (s.dev.on .SAF_CFG_AREARM = true) ∧ (s.dev.saf.sfaOther = false) ∧
      (s.dev.saf.gridH = false) ∧ (s.dev.saf.gridP = false)) ∧ (∃ (s : State) (x : HostCmd) (l : List HostCmd), (s.dev.sys.cdReset = false)
      ∧ ((s.dev.queue 12).items = x :: l)) ∧ (∃ (s : State) (out : Fin 8), (s.dev.keepP out.val = true) ∧ (bitOf s.dev.saf.offPassed
      out.val = true) ∧ (s.dev.onAt .SAF_SOCFG_FBEN out.val = false ∨ bitOf s.dev.saf.rxP.fbk out.val = true) ∧ (s.dev.onAt .CAP_CLS_HELD
      (1 + out.val) = true)) ∧ (∃ (s : State), (s.dev.on .SAF_HGCFG_EN = true) ∧ (s.dev.saf.gridH = false)) ∧ (∃ (s : State) (chanH : Bool)
      (out : Fin 8), (s.dev.testCan chanH out.val = true) ∧ (s.dev.closeH out.val = true) ∧ (s.dev.keepP out.val = true) ∧ (bitOf
      s.dev.saf.cmdP out.val = true) ∧ (s.dev.on .PWM_STAT_LEAD = true)) ∧ (∃ (s : State) (chanH : Bool) (out : Fin 8), (bitOf
      s.dev.saf.expect out.val = true) ∧ (s.dev.onAt .SAF_SOCFG_TEN out.val = true) ∧ (s.dev.testCan chanH out.val = false)) ∧ (∃ (s :
      State) (id : Fin 512) (t : Task), (s.dev.sys.cdReset = false) ∧ (s.dev.prog.changes = []) ∧ (s.dev.taskOf id.val = some t) ∧
      (s.dev.on .SAF_PGCFG_EN = true) ∧ (t.engine = 8) ∧ (t.rate = 0) ∧ ([s.dev.rd .SAF_PGCFG_ANA, s.dev.rd .SAF_PGCFG_ANB, s.dev.rd
      .SAF_PGCFG_ANC].all (fun n => (t.inputsOf 2).contains (2, n)) = true)) ∧ (∃ (s : State) (id : Fin 512) (t : Task), (s.dev.sys.cdReset
      = false) ∧ (s.dev.prog.changes = []) ∧ (s.dev.taskOf id.val = some t) ∧ (s.dev.on .SAF_PGCFG_EN = false ∨ t.engine ≠ 8 ∨ t.rate ≠ 0))
      :=
  ⟨⟨State.reset.w .SAF_STAT_LOCKH 0 0, by decide⟩, ⟨(fun (n : Fin 16) => ((State.reset.live.w .SAF_SICFG_PAIR (n.val - n.val % 2) 0).w
    .SAF_SICFG_EN (n.val) 1).w .SAF_SICFG_FUNC (n.val) 13) (15), true, 15, by decide⟩, ⟨(fun (n : Fin 8) => State.reset.w .SAF_SOCFG_EN
    (n.val) 0) (7), 7, by decide⟩, ⟨State.reset.dv fun d => { d with saf := { d.saf with sfdRun := true } }, by decide⟩, ⟨(State.reset.w
    .SAF_CFG_AREARM 0 1).dv fun d =>
    { d with saf := { d.saf with sfaOther := false, gridH := false, gridP := false, latchH := 1, latchP := 5 } }, by decide⟩, ⟨(fun (x :
    HostCmd) (l : List HostCmd) => State.reset.live.dv fun d => d.setQueue 12 { items := x :: l }) ({ payload := 0x81, seq := 1 }) ([]),
    { payload := 0x81, seq := 1 }, [], by decide⟩, ⟨((((((State.reset.live.w .SAF_SOCFG_EN (7) 1).w .SAF_STAT_LOCKP 0 0).w .SAF_SOSTAT_REQ
    (7) 1).w .SAF_SOCFG_FBEN (7) 0).w .CAP_CLS_HELD (8) 1).w .PWM_STAT_LEAD 0 1).dv fun d =>
    { d with saf := { d.saf with latchP := 0, offPassed := 128 } }, 7, by decide⟩, ⟨((State.reset.w .SAF_HGCFG_EN 0 1).w .SAF_HGCFG_CMPC 0
    31).dv fun d => { d with saf := { d.saf with gridH := false } }, by decide⟩, ⟨(((((((((State.reset.live.w .SAF_SOCFG_EN (7) 1).w
    .SAF_STAT_LOCKP 0 0).w .SAF_STAT_LOCKH 0 0).w .SAF_SOSTAT_REQ (7) 1).w .SAF_SOCFG_TEN (7) 1).w .SAF_SOSTAT_SWH (7) 1).w .SAF_SOSTAT_SWP
    (7) 1).w .SAF_STAT_ON 0 128).w .PWM_STAT_LEAD 0 1).dv fun d =>
    { d with saf := { d.saf with latchP := 0, latchH := 0, cmdP := 128, expect := 128, test := [] } }, true, 7, by decide⟩,
    ⟨((State.reset.dv fun d => { d with saf := { d.saf with expect := 128 } }).w .SAF_SOCFG_TEN (7) 1).w .SAF_SOSTAT_SWP (7) 0, true, 7, by
    decide⟩, ⟨(fun (t : Task) => ((((((((((((State.reset.live.w .SAF_PGCFG_EN 0 1).w .SAF_PGCFG_ANA 0 60).w .SAF_PGCFG_ANB 0 61).w
    .SAF_PGCFG_ANC 0 62).w .SAF_PGSC 0 20000).w .SAF_PGV_VHI 0 1200).w .SAF_PGV_VLO 0 800).w .SAF_PGT_TV 0 10).w .TIDE_CNTLO 0 1000).w
    .TIDE_PERIOD_ACT 0 4000).dv fun d => { d with tt := { d.tt with active := some { tasks := [t] } } }).dv fun d =>
    { d with prog := { d.prog with changes := [] } }).dv fun d =>
    { d with saf := { d.saf with pgV := some 0, gridP := false, pg := [{}, { rms := some (5, 7) }, {}] } })
    ({ id := 5, engine := 8, ins := [{ cls := 2, count := 3, first := 60 }] }), 5,
    { id := 5, engine := 8, ins := [{ cls := 2, count := 3, first := 60 }] }, by decide⟩, ⟨(fun (t : Task) => ((State.reset.live.w
    .SAF_PGCFG_EN 0 1).dv fun d => { d with tt := { d.tt with active := some { tasks := [t] } } }).dv fun d =>
    { d with prog := { d.prog with changes := [] } }) ({ id := 5, engine := 8, rate := 1 }), 5, { id := 5, engine := 8, rate := 1 }, by
    decide⟩⟩

/-- States and operands that meet the hypotheses of each clause of `Obligations.SafeMessageAndResetCommands` that has some. -/
theorem witness_safeMessageAndResetCommands :
    (∃ (s : State) (chanH : Bool) (port3 : Bool) (frame : List (BitVec 8)) (m : List (BitVec 8)) (k : Nat), (s.dev.sys.cdReset = false) ∧
      (s.dev.safeFrame (if port3 then 3 else 2) frame = true) ∧ ((netFrame frame).body = m) ∧ (msgFormOk m = true) ∧ (msgNat m 8 4 =
      s.dev.rd .SAF_MYID ∨ msgNat m 8 4 = 2 ^ 32 - 1) ∧ (s.dev.msgSource m = some k) ∧ (((s.dev.rx chanH).sources.at {} k).first = none) ∧
      (((s.dev.rx chanH).sources.at {} k).seq = none) ∧ (((s.dev.rx chanH).sources.at {} k).time = none)) ∧ (∃ (s : State) (port3 : Bool)
      (frame : List (BitVec 8)), (s.dev.safeFrame (if port3 then 3 else 2) frame = false)) ∧ (∃ (s : State) (chanH : Bool) (src : Fin 8),
      (((s.dev.rx chanH).sources.at {} src.val).first.isSome = true)) ∧ (∃ (s : State) (src : Fin 8), (s.dev.onAt .SAF_MSFN_EN src.val =
      true)) ∧ (∃ (s : State) (ms : Nat) (lowBefore : Nat) (fault : Nat), (100 ≤ lowBefore) ∧ (s.dev.saf.resetRun = none) ∧ (300 ≤ ms) ∧
      (ms ≤ 3000) ∧ (s.dev.resetRefusal fault = 0)) ∧ (∃ (s : State) (ms : Nat) (lowBefore : Nat) (fault : Nat), (100 ≤ lowBefore) ∧
      (s.dev.saf.resetRun = none) ∧ (300 ≤ ms) ∧ (ms ≤ 3000) ∧ (s.dev.resetRefusal fault ≠ 0)) ∧ (∃ (s : State) (results : List Nat),
      (s.dev.saf.resetRun = some 0) ∧ (((List.range 8).all fun n => !s.dev.onAt .SAF_SOCFG_EN n || decide (results.getD n 0 = 1)) = true))
      ∧ (∃ (s : State) (code : Nat), (s.dev.saf.resetRun = some (code + 1))) ∧ (∃ (s : State), (s.dev.saf.partLockH = none) ∧
      (s.dev.saf.partLockP = none) ∧ (s.dev.saf.partSfB = false) ∧ (s.dev.on .ECC_STAT_STF = false) ∧ (s.dev.on .COOL_STAT_DIAGF = false) ∧
      (s.dev.resetRefusal 0 = 0) ∧ (s.dev.on .SAF_STAT_CFGOK = true)) :=
  ⟨⟨(fun (k : Nat) => (((((((((State.reset.live.w .ETH_STAT_LINK (3) 1).w .ETH_STAT_LINK (2) 1).w .ETH_CTRL_EN (3) 1).w .ETH_CTRL_EN (2)
    1).w .SAF_MSGCFG_ETYPE 0 35253).dv fun d => (List.range 8).foldl (fun x k => x.wrAt .SAF_MSFN_EN k 0) d).w .SAF_MSFN_EN (7) 1).w
    .SAF_MSRC (7) 9).w .SAF_MSFN_FN (7) 9).dv fun d => { d with saf := { d.saf with rxH := {}, rxP := {} } }) (7), true, true, etherFrame
    0x010203040506 0x0A0B0C0D0E0F none 0x89B5 ((leBytes 1 1 ++ leBytes 1 1 ++ leBytes 2 32 ++ leBytes 4 9 ++ leBytes 4 (2 ^ 32 - 1) ++
    leBytes 4 77 ++ leBytes 8 500 ++ leBytes 2 3 ++ leBytes 2 0) ++ leBytes 4 (crc32c (leBytes 1 1 ++ leBytes 1 1 ++ leBytes 2 32 ++
    leBytes 4 9 ++ leBytes 4 (2 ^ 32 - 1) ++ leBytes 4 77 ++ leBytes 8 500 ++ leBytes 2 3 ++ leBytes 2 0))), (netFrame (etherFrame
    0x010203040506 0x0A0B0C0D0E0F none 0x89B5 ((leBytes 1 1 ++ leBytes 1 1 ++ leBytes 2 32 ++ leBytes 4 9 ++ leBytes 4 (2 ^ 32 - 1) ++
    leBytes 4 77 ++ leBytes 8 500 ++ leBytes 2 3 ++ leBytes 2 0) ++ leBytes 4 (crc32c (leBytes 1 1 ++ leBytes 1 1 ++ leBytes 2 32 ++
    leBytes 4 9 ++ leBytes 4 (2 ^ 32 - 1) ++ leBytes 4 77 ++ leBytes 8 500 ++ leBytes 2 3 ++ leBytes 2 0))))).body, 7, by decide⟩,
    ⟨State.reset.w .ETH_CTRL_EN (3) 0, true, [], by decide⟩, ⟨State.reset.dv fun d =>
    { d with saf := { d.saf with rxH := { sources := [(7, { first := some [] })] }, rxP := { sources := [(7, { first := some [] })] } } },
    true, 7, by decide⟩, ⟨(fun (src : Fin 8) => (State.reset.w .SAF_MSFN_EN (src.val) 1).w .SAF_MSFN_FN (src.val) 15) (7), 7, by decide⟩,
    ⟨(((State.reset.dv fun d => { d with regs := [] }).w .SAF_STAT_CFGOK 0 1).dv fun d =>
    { d with sys := { d.sys with spFailed := false } }).dv fun d =>
    { d with saf := { d.saf with resetRun := none, rxH := {}, rxP := {}, sfdRun := false, gridH := false, gridP := false } }, 300, 100, 0,
    by decide⟩, ⟨State.reset.dv fun d => { d with saf := { d.saf with resetRun := none, rxH := { open_ := 1 } } }, 300, 100, 3, by decide⟩,
    ⟨(State.reset.w .SAF_SOCFG_EN (7) 1).dv fun d => { d with saf := { d.saf with resetRun := some 0 } }, [1, 1, 1, 1, 1, 1, 1, 1], by
    decide⟩, ⟨(fun (code : Nat) => State.reset.dv fun d => { d with saf := { d.saf with resetRun := some (code + 1) } }) (31), 31, by
    decide⟩, ⟨(((State.reset.dv fun d => { d with regs := [] }).w .SAF_STAT_CFGOK 0 1).dv fun d =>
    { d with sys := { d.sys with spFailed := false } }).dv fun d =>
    { d with saf := { d.saf with partLockH := none, partLockP := none, partSfB := false, rxH := {}, rxP := {}, sfdRun := false, gridH := false, gridP := false } },
    by decide⟩⟩

/-- States and operands that meet the hypotheses of each clause of `Obligations.GateOutputCommands` that has some. -/
theorem witness_gateOutputCommands :
    (∃ (s : State), (s.dev.sys.cdReset = false) ∧ (s.dev.on .PWM_STAT_DLLLK = true) ∧ (s.dev.on .GWY_BENCH_ON = false) ∧ (s.dev.on
      .TWIN_STAT_DFLT = false)) ∧ (∃ (s : State), (s.dev.sys.cdReset = false)) ∧ (∃ (s : State), (s.dev.sys.cdReset = false)) ∧ (∃ (s :
      State), (s.dev.sys.cdReset = false)) ∧ (∃ (s : State), (s.dev.sys.cdReset = false) ∧ (s.dev.on .PWM_STAT_DLLLK = true)) ∧ (∃ (s :
      State), (s.dev.sys.cdReset = false) ∧ (s.dev.on .LEG_SEAL_SET = false) ∧ (s.dev.on .SAF_STAT_CFGOK = false)) ∧ (∃ (s : State) (k :
      Scfg) (v : Nat), (s.dev.sys.cdReset = false) ∧ (s.dev.on .LEG_SEAL_SET = false) ∧ (s.dev.on .SAF_STAT_CFGOK = true) ∧
      (s.dev.saf.cfgPart = some k) ∧ (k.fields = [(.LEG_FLOOR_FLOOR, 23, v)])) :=
  ⟨⟨((State.reset.live.w .PWM_STAT_DLLLK 0 1).w .GWY_BENCH_ON 0 0).w .TWIN_STAT_DFLT 0 0, by decide⟩, ⟨(State.reset.live.w .PWM_CTRL_ARM 0
    1).dv fun d =>
    { d with conv := { d.conv with legs := [(0, { s := true, hi := { on := true, gate := true }, lo := { gate := true } }), (23, { lo := { on := true, gate := true, delayed := true } })] } },
    by decide⟩, ⟨State.reset.live.dv fun d => { d with conv := { d.conv with legs := [(0, { hi := { on := true, gate := true } })] } }, by
    decide⟩, ⟨State.reset.live.dv fun d =>
    { d with conv := { d.conv with legs := [(0, { hi := { on := true, gate := true } }), (23, { lo := { gate := true } })] } }, by decide⟩,
    ⟨State.reset.live.w .PWM_STAT_DLLLK 0 1, by decide⟩, ⟨(State.reset.live.w .LEG_SEAL_SET 0 0).w .SAF_STAT_CFGOK 0 0, by decide⟩, ⟨(fun
    (k : Scfg) => ((State.reset.live.w .LEG_SEAL_SET 0 0).w .SAF_STAT_CFGOK 0 1).dv fun d =>
    { d with saf := { d.saf with cfgPart := some k } }) ({ fields := [(.LEG_FLOOR_FLOOR, 23, 4001)] }),
    { fields := [(.LEG_FLOOR_FLOOR, 23, 4001)] }, 4001, by decide⟩⟩

/-- States and operands that meet the hypotheses of each clause of `Obligations.LegFaultCommands` that has some. -/
theorem witness_legFaultCommands :
    (∃ (s : State), (s.dev.sys.cdReset = false)) ∧ (∃ (s : State) (n : Fin 48), (s.dev.sys.cdReset = false) ∧ (s.dev.legLive (n.val / 2) =
      true) ∧ (s.dev.pw n.val = false) ∧ (((s.dev.leg (n.val / 2)).out (decide (n.val % 2 = 0))).conf = true)) ∧ (∃ (s : State) (n : Fin
      48), (s.dev.sys.cdReset = false) ∧ (s.dev.legLive (n.val / 2) = true) ∧ (((s.dev.leg (n.val / 2)).out (decide (n.val % 2 =
      0))).waitOff = true)) ∧ (∃ (s : State) (n : Fin 48), (s.dev.sys.cdReset = false) ∧ (s.dev.legLive (n.val / 2) = true) ∧ (((s.dev.leg
      (n.val / 2)).out (decide (n.val % 2 = 0))).waitOn = true)) ∧ (∃ (s : State) (leg : Fin 24), (s.dev.sys.cdReset = false) ∧
      (s.dev.legLive leg.val = true)) ∧ (∃ (s : State) (leg : Fin 24), (s.dev.sys.cdReset = false) ∧ (s.dev.legState leg.val = 2) ∧
      (s.dev.legCaused leg.val = false) ∧ (s.dev.tripWire leg.val = false)) ∧ (∃ (s : State), (s.dev.sys.cdReset = true)) ∧ (∃ (s : State)
      (leg : Fin 24), (s.dev.sys.cdReset = false) ∧ (s.dev.tripWire leg.val = true) ∧ ((s.dev.leg leg.val).seen = false) ∧ (s.dev.onAt
      .LEG_FLOOR_TRIPM leg.val = false) ∧ (s.dev.legLive leg.val = true)) ∧ (∃ (s : State) (leg : Fin 24), (s.dev.sys.cdReset = false) ∧
      (s.dev.tripWire leg.val = false) ∧ ((s.dev.leg leg.val).seen = true) ∧ (s.dev.legState leg.val ≠ 2)) ∧ (∃ (s : State),
      (s.dev.sys.cdReset = false) ∧ (s.dev.on .LEG_SEAL_SET = true)) :=
  ⟨⟨State.reset.live, by decide⟩, ⟨(fun (n : Fin 48) => (State.reset.live.w .LEG_STAT_STATE (n.val / 2) 1).dv fun d =>
    { d with conv := { d.conv with legs := [(n.val / 2, { hi := { conf := true }, lo := { conf := true } })] } }) (47), 47, by decide⟩,
    ⟨(fun (n : Fin 48) => (State.reset.live.w .LEG_STAT_STATE (n.val / 2) 3).dv fun d =>
    { d with conv := { d.conv with legs := [(n.val / 2, { hi := { waitOff := true }, lo := { waitOff := true } })] } }) (47), 47, by
    decide⟩, ⟨(fun (n : Fin 48) => (State.reset.live.w .LEG_STAT_STATE (n.val / 2) 1).dv fun d =>
    { d with conv := { d.conv with legs := [(n.val / 2, { hi := { waitOn := true }, lo := { on := true, waitOn := true } })] } }) (47), 47,
    by decide⟩, ⟨(fun (leg : Fin 24) => State.reset.live.w .LEG_STAT_STATE (leg.val) 1) (23), 23, by decide⟩, ⟨(fun (leg : Fin 24) =>
    ((((((State.reset.live.w .LEG_STAT_STATE (leg.val) 2).w .PWM_FLT 0 0xFFFFFF).w .LEG_STAT_FLT (23) 0).w .LEG_STAT_UNEXP (23) 0).w
    .LEG_STAT_TMO (23) 0).w .SAF_STAT_INH 0 0).dv fun d => (List.range 32).foldl (fun x k => ((x.wrAt .WCMP_RT1_LEGS k 0).wrAt
    .WCMP_RT2_LEGS k 0)) d) (23), 23, by decide⟩, ⟨State.reset.dv fun d => { d with sys := { d.sys with cdReset := true } }, by decide⟩,
    ⟨(((State.reset.live.w .SAF_STAT_INH 0 1).w .LEG_STAT_STATE (23) 1).w .CLINK_TRMSK (31) 0x800000).dv fun d =>
    { d with conv := { d.conv with legs := [] } }, 23, by decide⟩, ⟨(((State.reset.live.w .SAF_STAT_INH 0 0).dv fun d => (List.range
    32).foldl (fun x k => ((x.wrAt .WCMP_RT1_LEGS k 0).wrAt .WCMP_RT2_LEGS k 0)) d).w .LEG_STAT_STATE (23) 1).dv fun d =>
    { d with conv := { d.conv with legs := [(23, { seen := true })] } }, 23, by decide⟩, ⟨State.reset.live.w .LEG_SEAL_SET 0 1, by decide⟩⟩

/-- States and operands that meet the hypotheses of each clause of `Obligations.LegPulseCommands` that has some. -/
theorem witness_legPulseCommands :
    (∃ (s : State) (leg : Fin 24), (s.dev.sys.cdReset = false) ∧ (s.dev.legState leg.val = 0) ∧ (s.dev.onAt .LEG_STAT_PEND leg.val = true)
      ∧ (s.dev.shadowRun leg.val = true) ∧ (s.dev.rdAt .LEG_CFG_CSRC leg.val = leg.val) ∧ (s.dev.shadowValid leg.val = true) ∧ (s.dev.flt
      leg.val = false) ∧ (s.dev.tripWire leg.val = false)) ∧ (∃ (s : State) (leg : Fin 24) (mid : Bool), (s.dev.sys.cdReset = false) ∧
      (s.dev.legState leg.val = 1) ∧ (mid = false ∨ (s.dev.onAt .LEG_CFG_UPD leg.val = true ∧ s.dev.onAt .LEG_CFG_CMODE leg.val = true)) ∧
      (s.dev.rdAt .LEG_CFG_CSRC leg.val = leg.val) ∧ (s.dev.onAt .LEG_STAT_PEND leg.val = true) ∧ (s.dev.shadowValid leg.val = true) ∧
      (s.dev.shadowRun leg.val = true)) ∧ (∃ (s : State) (leg : Fin 24), (s.dev.sys.cdReset = false) ∧ (s.dev.legState leg.val = 1) ∧
      (s.dev.rdAt .LEG_CFG_CSRC leg.val = leg.val) ∧ (s.dev.onAt .LEG_STAT_PEND leg.val = true) ∧ (s.dev.shadowValid leg.val = false) ∧
      (s.dev.onAt .LEG_ACTC_RUN leg.val = true) ∧ ((s.dev.leg leg.val).tripHold = false)) ∧ (∃ (s : State) (leg : Fin 24) (side : Bool)
      (onFor : Nat), (s.dev.sys.cdReset = false) ∧ (s.dev.legState leg.val = 1) ∧ (s.dev.rdAt .LEG_ACTC_MODE leg.val = 0) ∧ ((s.dev.leg
      leg.val).tripHold = false) ∧ (s.dev.tripWire leg.val = false) ∧ ((s.dev.leg leg.val).s = !side) ∧ (s.dev.legNext leg.val = true) ∧
      (((s.dev.leg leg.val).out (!side)).on = false ∨ (((s.dev.leg leg.val).out (!side)).delayed = false ∧ s.dev.rdAt .LEG_CFG_MINPW
      leg.val ≤ onFor)) ∧ (((s.dev.leg leg.val).out side).on = false)) ∧ (∃ (s : State) (leg : Fin 24) (after : Nat) (room : Option Nat)
      (high : Bool), (s.dev.sys.cdReset = false) ∧ (s.dev.legState leg.val = 1) ∧ ((s.dev.leg leg.val).turnOn = some high) ∧ ((s.dev.leg
      leg.val).tripHold = false) ∧ (s.dev.tripWire leg.val = false) ∧ (((s.dev.leg leg.val).out (!high)).on = false) ∧ (((s.dev.leg
      leg.val).out (!high)).conf = true) ∧ (s.dev.deadTime leg.val high ≤ after) ∧ (∀ r ∈ room, s.dev.rdAt .LEG_CFG_MINPW leg.val ≤ r)) ∧
      (∃ (s : State) (leg : Fin 24) (high : Bool), (s.dev.sys.cdReset = false) ∧ (s.dev.legState leg.val = 1) ∧ (((s.dev.leg leg.val).out
      high).delayed = true) ∧ (((s.dev.leg leg.val).out high).on = true)) :=
  ⟨⟨(fun (leg : Fin 24) => ((((((State.reset.live.w .LEG_STAT_STATE (23) 0).w .LEG_STAT_PEND (23) 1).w .LEG_CFG_CSRC (23) 23).w .PWM_FLT 0
    0).w .SAF_STAT_INH 0 0).dv fun d => (List.range 32).foldl (fun x k => ((x.wrAt .WCMP_RT1_LEGS k 0).wrAt .WCMP_RT2_LEGS k 0)) d).dv fun
    d => { d with conv := { d.conv with legs := [(leg.val, { shadow := [(0, 0x50000000A0), (1, 0x640064), (2, 4000), (3, 1)] })] } }) (23),
    23, by decide⟩, ⟨(fun (leg : Fin 24) => (((((State.reset.live.w .LEG_STAT_STATE (23) 1).w .LEG_STAT_PEND (23) 1).w .LEG_CFG_CSRC (23)
    23).w .LEG_CFG_UPD (23) 1).w .LEG_CFG_CMODE (23) 1).dv fun d =>
    { d with conv := { d.conv with legs := [(leg.val, { shadow := [(0, 0x50000000A0), (1, 0x640064), (2, 4000), (3, 1)] })] } }) (23), 23,
    true, by decide⟩, ⟨((((State.reset.live.w .LEG_STAT_STATE (23) 1).w .LEG_STAT_PEND (23) 1).w .LEG_CFG_CSRC (23) 23).w .LEG_ACTC_RUN
    (23) 1).dv fun d => { d with conv := { d.conv with legs := [(23, { shadow := [(2, 63)] })] } }, 23, by decide⟩, ⟨(fun (side : Bool) =>
    ((((((((((State.reset.live.w .LEG_STAT_STATE (23) 1).w .LEG_ACTC_MODE (23) 0).w .SAF_STAT_INH 0 0).dv fun d => (List.range 32).foldl
    (fun x k => ((x.wrAt .WCMP_RT1_LEGS k 0).wrAt .WCMP_RT2_LEGS k 0)) d).w .LEG_CFG_CSRC (23) 23).w .LEG_CFG_CMODE (23) 0).w .LEG_ACTP
    (23) 4000).w .LEG_ACTA (23) 100).w .LEG_ACTB (23) 900).w .LEG_CFG_MINPW (23) 10).dv fun d =>
    { d with conv := { d.conv with legs := [(23, { s := !side, lo := { on := side }, hi := { on := !side } })] } }) (true), 23, true, 10,
    by decide⟩, ⟨(fun (high : Bool) => (((((((State.reset.live.w .SAF_STAT_INH 0 0).dv fun d => (List.range 32).foldl (fun x k => ((x.wrAt
    .WCMP_RT1_LEGS k 0).wrAt .WCMP_RT2_LEGS k 0)) d).w .LEG_STAT_STATE (23) 1).w .LEG_FLOOR_FLOOR (23) 400).w .LEG_ACTD_DTR (23) 100).w
    .LEG_ACTD_DTF (23) 100).w .LEG_CFG_MINPW (23) 10).dv fun d =>
    { d with conv := { d.conv with legs := [(23, { turnOn := some high, hi := { conf := true }, lo := { conf := true } })] } }) (true), 23,
    400, some 10, true, by decide⟩, ⟨(State.reset.live.w .LEG_STAT_STATE (23) 1).dv fun d =>
    { d with conv := { d.conv with legs := [(23, { hi := { on := true, delayed := true }, lo := { on := true, delayed := true } })] } },
    23, true, by decide⟩⟩

/-- States and operands that meet the hypotheses of each clause of `Obligations.CellLinkCommands` that has some. -/
theorem witness_cellLinkCommands :
    (∃ (s : State) (link : Fin 32), (s.dev.sys.cdReset = false) ∧ (s.dev.mayConfigure .ferryman .cellLink link.val = true) ∧
      (s.dev.linkFits link.val (s.dev.rd .TIDE_PERIOD_ACT) (s.dev.rd .TIDE_OFFSET_ACT) = true) ∧ (s.dev.onAt .CAP_CLS_HELD 21 = true)) ∧ (∃
      (s : State) (link : Fin 32), (s.dev.sys.cdReset = false) ∧ (s.dev.mayConfigure .ferryman .cellLink link.val = true) ∧ (s.dev.linkFits
      link.val (s.dev.rd .TIDE_PERIOD_ACT) (s.dev.rd .TIDE_OFFSET_ACT) = false) ∧ (s.dev.onAt .CLINK_STAT_RUNNING link.val = false)) ∧ (∃
      (s : State) (link : Fin 32), (s.dev.sys.cdReset = false) ∧ (s.dev.mayConfigure .ferryman .cellLink link.val = true)) ∧ (∃ (s : State)
      (link : Fin 32), (s.dev.sys.cdReset = false) ∧ (s.dev.onAt .CLINK_STAT_RUNNING link.val = true)) ∧ (∃ (s : State) (link : Fin 32)
      (frame : List (BitVec 8)) (late : Bool), (s.dev.sys.cdReset = false) ∧ (s.dev.onAt .CLINK_STAT_RUNNING link.val = true) ∧
      (s.dev.linkContentOk link.val frame = true) ∧ (late = false)) ∧ (∃ (s : State) (link : Fin 32) (frame : List (BitVec 8)),
      (s.dev.sys.cdReset = false) ∧ (s.dev.onAt .CLINK_STAT_RUNNING link.val = true) ∧ (s.dev.linkContentOk link.val frame = false) ∧
      (s.dev.onAt .CLINK_STAT_FAIL link.val = false)) ∧ (∃ (s : State), (s.dev.sys.cdReset = false)) ∧ (∃ (s : State) (link : Fin 32),
      (s.dev.sys.cdReset = false) ∧ (s.dev.linkCause link.val = false)) ∧ (∃ (s : State), (s.dev.sys.cdReset = false)) :=
  ⟨⟨(((((State.reset.live.w .CAP_CLS_HELD (21) 1).w .CLINK_CFG_NCELL (31) 4).w .CLINK_APP_APPLY (31) 2000).w .TIDE_PERIOD_ACT 0 4000).w
    .TIDE_OFFSET_ACT 0 200).dv fun d => d.setCell .cellLink 31 { owner := some .ferryman }, 31, by decide⟩, ⟨((State.reset.live.w
    .CLINK_CFG_NCELL (31) 49).w .CLINK_STAT_RUNNING (31) 0).dv fun d => d.setCell .cellLink 31 { owner := some .ferryman }, 31, by decide⟩,
    ⟨(State.reset.live.dv fun d => { d with conv := { d.conv with reps := [(48 * 31 + 47, 9)] } }).dv fun d => d.setCell .cellLink 31
    { owner := some (.ce 3) }, 31, by decide⟩, ⟨(State.reset.live.w .CLINK_STAT_RUNNING (31) 1).w .CLINK_CFG_NCELL (31) 2, 31, by decide⟩,
    ⟨((State.reset.live.w .CLINK_STAT_RUNNING (31) 1).w .CLINK_CFG_NCELL (31) 2).dv fun d =>
    { d with conv := { d.conv with links := [(31, { dseq := 6, await := true })] } }, 31, (([0xC1#8, 6#8, 2#8, 0#8, 0#8, 0#8, 31#8, 2#8] ++
    leBytes 4 0x60000123 ++ leBytes 4 0x50000123) ++ leBytes 4 (crc32 ([0xC1#8, 6#8, 2#8, 0#8, 0#8, 0#8, 31#8, 2#8] ++ leBytes 4 0x60000123
    ++ leBytes 4 0x50000123))), false, by decide⟩, ⟨(State.reset.live.w .CLINK_STAT_RUNNING (31) 1).w .CLINK_STAT_FAIL (31) 0, 31, [], by
    decide⟩, ⟨State.reset.live, by decide⟩, ⟨(State.reset.live.w .SAF_STAT_INH 0 0).w .CLINK_TRMSK (31) 0, 31, by decide⟩,
    ⟨State.reset.live, by decide⟩⟩

/-- States and operands that meet the hypotheses of each clause of `Obligations.ComparatorCommands` that has some. -/
theorem witness_comparatorCommands :
    (∃ (s : State) (n : Fin 32), (s.dev.rdAt .WCMP_CFG_MODE n.val = 1) ∧ (s.dev.cmpLive n.val = true) ∧ ((s.dev.cmp n.val).held = 0) ∧
      ((s.dev.cmp n.val).frozen = 0)) ∧ (∃ (s : State) (n : Fin 32), (s.dev.rdAt .WCMP_CFG_MODE n.val = 2) ∧ (s.dev.tide % 2 ^ s.dev.rdAt
      .WCMP_CFG_SAMPK n.val = 0) ∧ (s.dev.cmpLive n.val = true) ∧ ((s.dev.cmp n.val).held = 0) ∧ ((s.dev.cmp n.val).frozen = 0)) ∧ (∃ (s :
      State) (leg : Fin 24), (s.dev.sys.cdReset = false) ∧ (bitsOf s.dev.conv.seenPw (2 * leg.val + 1) (2 * leg.val) = s.dev.pwLevels
      leg.val)) ∧ (∃ (s : State) (leg : Fin 24), (s.dev.sys.cdReset = false) ∧ (bitsOf s.dev.conv.seenPw (2 * leg.val + 1) (2 * leg.val) ≠
      s.dev.pwLevels leg.val)) ∧ (∃ (s : State) (n : Fin 32), ((s.dev.cmp n.val).window = true)) ∧ (∃ (s : State) (n : Fin 32), (s.dev.onAt
      .WCMP_STAT_L2 n.val = false)) ∧ (∃ (s : State) (n : Fin 32), (s.dev.onAt .WCMP_RT1_H1 n.val = true) ∧ (s.dev.onAt .WCMP_STAT_BELOW
      n.val = true) ∧ (s.dev.onAt .WCMP_STAT_ABOVE n.val = false) ∧ (s.dev.onAt .WCMP_STAT_L2 n.val = false) ∧ (s.dev.rdAt .WCMP_STAT_ABOVE
      n.val = 0) ∧ (s.dev.gridPhase n.val = none)) ∧ (∃ (s : State), (s.dev.on .SAF_STAT_CFGOK = true)) :=
  ⟨⟨(fun (n : Fin 32) => ((((((State.reset.w .WCMP_CFG_MODE (n.val) 1).w .WCMP_STAT_CHKF (n.val) 0).w .WCMP_STAT_RBF (n.val) 0).w
    .WCMP_THR_LO (n.val) 100).w .WCMP_THR_HI (n.val) 900).w .WCMP_RT1_LEGS (n.val) 1).dv fun d =>
    { d with conv := { d.conv with cmps := [(n.val, { held := 0 })] } }) (31), 31, by decide⟩, ⟨(fun (n : Fin 32) => ((((((State.reset.w
    .WCMP_CFG_MODE (n.val) 2).w .WCMP_STAT_CHKF (n.val) 0).w .WCMP_STAT_RBF (n.val) 0).w .WCMP_CFG_SAMPK (n.val) 3).w .TIDE_CNTLO 0 64).w
    .WCMP_CFG_WAKE (n.val) 7).dv fun d => { d with conv := { d.conv with cmps := [(n.val, { held := 0 })] } }) (31), 31, by decide⟩,
    ⟨State.reset.live.dv fun d => { d with conv := { d.conv with seenPw := 0, legs := [] } }, 23, by decide⟩, ⟨(((State.reset.live.w
    .WCMP_BLK_LEGS (31) 0x800000).w .WCMP_BLK_BLANK (31) 5).w .WCMP_CFG_MODE (31) 1).dv fun d =>
    { d with conv := { d.conv with seenPw := 0xC00000000000, legs := [] } }, 23, by decide⟩, ⟨(State.reset.w .WCMP_STAT_BELOW (31) 1).dv
    fun d => { d with conv := { d.conv with cmps := [(31, { window := true })] } }, 31, by decide⟩, ⟨(State.reset.w .WCMP_STAT_L2 (2) 0).w
    .WCMP_STAT_L2LAT (2) 1, 2, by decide⟩, ⟨((((State.reset.w .WCMP_RT1_H1 (2) 1).w .WCMP_STAT_BELOW (2) 1).w .WCMP_STAT_ABOVE (2) 0).w
    .WCMP_STAT_L2 (2) 0).w .SAF_HGCFG_EN 0 0, 2, by decide⟩, ⟨State.reset.w .SAF_STAT_CFGOK 0 1, by decide⟩⟩

/-- States and operands that meet the hypotheses of each clause of `Obligations.ComparatorCheckCommands` that has some. -/
theorem witness_comparatorCheckCommands :
    (∃ (s : State) (n : Fin 32), (s.dev.rdAt .WCMP_CFG_MODE n.val = 1) ∧ (s.dev.onAt .WCMP_CFG_CHKEN n.val = true) ∧ (s.dev.tide % 2 ^
      s.dev.rdAt .WCMP_CFG_CHKK n.val = 0) ∧ ((s.dev.cmp n.val).frozen = 0)) ∧ (∃ (s : State) (n : Fin 32) (tie : BitVec 2), ((s.dev.cmp
      n.val).frozen = 1) ∧ (tieSkips (tieCode (s.dev.cmp n.val).rot) (s.dev.rdAt .WCMP_THR_LO n.val) = false) ∧ (tieSkips (tieCode
      (s.dev.cmp n.val).rot) (s.dev.rdAt .WCMP_THR_HI n.val) = false) ∧ (bitOf tie.toNat 0 = decide (s.dev.rdAt .WCMP_THR_LO n.val <
      tieCode (s.dev.cmp n.val).rot)) ∧ (bitOf tie.toNat 1 = decide (s.dev.rdAt .WCMP_THR_HI n.val < tieCode (s.dev.cmp n.val).rot))) ∧ (∃
      (s : State) (n : Fin 32) (tie : BitVec 2), ((s.dev.cmp n.val).frozen = 1) ∧ (tieSkips (tieCode (s.dev.cmp n.val).rot) (s.dev.rdAt
      .WCMP_THR_LO n.val) = false) ∧ (bitOf tie.toNat 0 ≠ decide (s.dev.rdAt .WCMP_THR_LO n.val < tieCode (s.dev.cmp n.val).rot))) ∧ (∃ (s
      : State) (n : Fin 32), (s.dev.rdAt .WCMP_CFG_MODE n.val = 1) ∧ (s.dev.cmpLive n.val = true)) ∧ (∃ (s : State) (n : Fin 32) (mask :
      BitVec 32), (bitOf mask.toNat 28 = true) ∧ (s.dev.onAt .WCMP_STAT_CHKF n.val = false) ∧ (s.dev.onAt .WCMP_STAT_RBF n.val = false)) ∧
      (∃ (s : State) (n : Fin 32) (mask : BitVec 32), (bitOf mask.toNat 29 = true) ∧ (s.dev.onAt .WCMP_STAT_CHKF n.val = true) ∧
      (s.dev.onAt .WCMP_STAT_RBF n.val = false) ∧ (s.dev.rdAt .WCMP_CFG_MODE n.val ≠ 0)) ∧ (∃ (s : State), (s.dev.on .WCMP_RBCTL_BUSY =
      false) ∧ (s.dev.on .GWY_BENCH_ON = true ∨ s.dev.recovery = true) ∧ ((s.dev.cell .converter 3).owner = some .ferryman)) ∧ (∃ (s :
      State), (s.dev.on .WCMP_RBCTL_BUSY = false) ∧ ((s.dev.on .GWY_BENCH_ON = false ∧ s.dev.recovery = false) ∨ (s.dev.cell .converter
      3).owner ≠ some .ferryman)) ∧ (∃ (s : State), (s.dev.readbackDue = true)) ∧ (∃ (s : State), (s.dev.on .WCMP_RBCTL_BUSY = true)) :=
  ⟨⟨(fun (n : Fin 32) => ((((((State.reset.w .WCMP_CFG_MODE (n.val) 1).w .WCMP_STAT_CHKF (n.val) 0).w .WCMP_STAT_RBF (n.val) 0).w
    .WCMP_CFG_CHKEN (n.val) 1).w .WCMP_CFG_CHKK (n.val) 2).w .TIDE_CNTLO 0 64).dv fun d =>
    { d with conv := { d.conv with cmps := [(15, { runs := 1 })] } }) (15), 15, by decide⟩, ⟨(fun (n : Fin 32) => (((State.reset.w
    .WCMP_CFG_MODE (n.val) 1).w .WCMP_THR_LO (n.val) 100).w .WCMP_THR_HI (n.val) 900).dv fun d =>
    { d with conv := { d.conv with cmps := [(n.val, { frozen := 1, rot := 1 })] } }) (31), 31, 1, by decide⟩, ⟨(fun (n : Fin 32) =>
    ((((State.reset.w .WCMP_CFG_MODE (n.val) 1).w .WCMP_CFG_PROT (n.val) 1).w .WCMP_THR_LO (n.val) 100).w .WCMP_THR_HI (n.val) 900).dv fun
    d => { d with conv := { d.conv with cmps := [(n.val, { frozen := 1, rot := 1 })] } }) (31), 31, 0, by decide⟩, ⟨(fun (n : Fin 32) =>
    (((State.reset.w .WCMP_CFG_MODE (n.val) 1).w .WCMP_STAT_CHKF (n.val) 0).w .WCMP_STAT_RBF (n.val) 0).dv fun d =>
    { d with conv := { d.conv with cmps := [(n.val, { held := 7 })] } }) (31), 31, by decide⟩, ⟨(State.reset.w .WCMP_STAT_CHKF (2) 0).w
    .WCMP_STAT_RBF (2) 0, 2, 0x10000000, by decide⟩, ⟨((State.reset.w .WCMP_STAT_CHKF (2) 1).w .WCMP_STAT_RBF (2) 0).w .WCMP_CFG_MODE (2)
    1, 2, 0x20000000, by decide⟩, ⟨((State.reset.w .WCMP_RBCTL_BUSY 0 0).w .GWY_BENCH_ON 0 1).dv fun d => d.setCell .converter 3
    { owner := some .ferryman }, by decide⟩, ⟨(State.reset.w .WCMP_RBCTL_BUSY 0 0).dv fun d => d.setCell .converter 3 { owner := none }, by
    decide⟩, ⟨(((State.reset.w .WCMP_RBCTL_BUSY 0 0).w .WCMP_RBRES_DONE 0 0).dv fun d =>
    { d with sys := { d.sys with claimsOpen := false } }).dv fun d => { d with conv := { d.conv with cmps := [] } }, by decide⟩,
    ⟨State.reset.w .WCMP_RBCTL_BUSY 0 1, by decide⟩⟩

/-- States and operands that meet the hypotheses of each clause of `Obligations.TideCommands` that has some. -/
theorem witness_tideCommands :
    (∃ (s : State), (s.dev.tt.opened = true) ∧ (s.dev.tide + 1 < 2 ^ 64) ∧ (s.dev.on .ADC_DMACFG_EN = false)) ∧ (∃ (s : State),
      (s.dev.tt.opened = false) ∧ (s.dev.tide < 2 ^ 64) ∧ (s.dev.on .ADC_DMACFG_EN = false)) ∧ (∃ (s : State), (s.dev.on .TIDE_STAT_ALMEN =
      true) ∧ (s.dev.tide = s.dev.rd64 .TIDE_ALMLO .TIDE_ALMHI) ∧ (∀ k ∈ s.dev.tt.almAt, k < s.dev.tide)) ∧ (∃ (s : State),
      (s.dev.tt.ptpNext = none)) ∧ (∃ (s : State) (sec : Nat) (ns : Nat), (s.dev.tt.ptpNext = some (sec, ns))) :=
  ⟨⟨(((State.reset.live.w .TIDE_CNTLO 0 8191).w .TIDE_CNTHI 0 0).w .ADC_DMACFG_EN 0 0).dv fun d =>
    { d with tt := { d.tt with opened := true } }, by decide⟩, ⟨(State.reset.w .ADC_DMACFG_EN 0 0).dv fun d =>
    { d with tt := { d.tt with opened := false } }, by decide⟩, ⟨(((((State.reset.w .TIDE_STAT_ALMEN 0 1).w .TIDE_CNTLO 0 9).w .TIDE_CNTHI
    0 1).w .TIDE_ALMLO 0 9).w .TIDE_ALMHI 0 1).dv fun d => { d with tt := { d.tt with almAt := some 3 } }, by decide⟩, ⟨State.reset.dv fun
    d => { d with tt := { d.tt with ptpNext := none } }, by decide⟩, ⟨(fun (sec : Nat) (ns : Nat) => State.reset.dv fun d =>
    { d with tt := { d.tt with ptpNext := some (sec, ns) } }) (0x100000005) (7), 0x100000005, 7, by decide⟩⟩

/-- States and operands that meet the hypotheses of each clause of `Obligations.TimetableCommands` that has some. -/
theorem witness_timetableCommands :
    (∃ (s : State), (s.dev.sys.cdReset = false) ∧ (s.dev.tt.admitting = none) ∧ (s.dev.tt.pending = none)) ∧ (∃ (s : State),
      (s.dev.sys.cdReset = false) ∧ (s.dev.tt.pending.isSome = true)) ∧ (∃ (s : State) (a : Nat), (s.dev.sys.cdReset = false) ∧
      (s.dev.tt.admitting = some a) ∧ (s.dev.ttPlaced s.mem a (ttHeader s.mem a) = false)) ∧ (∃ (s : State) (twinHas : Bool) (a : Nat) (x :
      Timetable), (s.dev.sys.cdReset = false) ∧ (s.dev.tt.admitting = some a) ∧ (s.dev.paired = false) ∧ ((((s.dev.onTt fun t =>
      { t with admitting := none }).flag .TTB_ADMSTAT_BUSY false).ttCheck s.mem a twinHas).toOption = some x) ∧ ((x.tasks.all fun t =>
      t.claims.isEmpty) = true) ∧ (s.dev.tide < 2 ^ 60)) ∧ (∃ (s : State) (x : Timetable), (s.dev.sys.cdReset = false) ∧ (∀ b ∈
      s.dev.actBoundary, s.dev.tide + 2 < b) ∧ (s.dev.tt.pending = some x)) ∧ (∃ (s : State) (k : Nat), (s.dev.sys.cdReset = false) ∧
      (s.dev.actBoundary = some k) ∧ (k ≤ s.dev.tide + 2)) ∧ (∃ (s : State) (x : Timetable), (s.dev.sys.cdReset = false) ∧ (s.dev.twinned =
      false) ∧ (s.dev.tt.pending = some x) ∧ (s.dev.tt.opened = true) ∧ (s.dev.tide % 4096 = 0) ∧ (s.dev.tt.actAt ≤ s.dev.tide)) ∧ (∃ (s :
      State), (s.dev.sys.cdReset = false)) :=
  ⟨⟨State.reset.live.dv fun d => { d with tt := { d.tt with admitting := none, pending := none } }, by decide⟩, ⟨State.reset.live.dv fun d
    => { d with tt := { d.tt with pending := some {} } }, by decide⟩, ⟨(fun (a : Nat) => State.reset.live.dv fun d =>
    { d with tt := { d.tt with admitting := some a } }) (0x1000), 0x1000, by decide⟩, ⟨(fun (a : Nat) (x : Timetable) => (fun (x : State)
    => { x with mem := memPut [] 0x1000 sampleTimetable }) ((((((State.reset.live.w .TWIN_STAT_STATE 0 0).w .BERTH_TWIN_W (5) 0).w
    .TIDE_CNTLO 0 9).w .TIDE_CNTHI 0 0).dv fun d => { d with tt := { d.tt with admitting := some a } }).dv fun d =>
    { d with fm := { d.fm with ctrl := [(0, { entries := [{ engine := 2, entry := 0x100, nseg := 1, profile := 0, counts := [400] }] })] } }))
    (0x1000) ({ ttid := 77, period := 4000, offset := 200, tasks := [sampleTask] }), false, 0x1000,
    { ttid := 77, period := 4000, offset := 200, tasks := [sampleTask] }, by decide⟩, ⟨(fun (x : Timetable) => ((State.reset.live.w
    .TIDE_CNTLO 0 9).w .TIDE_CNTHI 0 0).dv fun d => { d with tt := { d.tt with pending := some x, actAt := 12, lastAct := 4096 } })
    ({ ttid := 3, granted := [(.leg, 2, .ce 1)] }), { ttid := 3, granted := [(.leg, 2, .ce 1)] }, by decide⟩, ⟨(((State.reset.live.w
    .TWIN_STAT_STATE 0 0).w .TIDE_CNTLO 0 4094).w .TIDE_CNTHI 0 0).dv fun d =>
    { d with tt := { d.tt with pending := some {}, actAt := 4096 } }, 4096, by decide⟩, ⟨(fun (x : Timetable) => (((State.reset.live.w
    .TWIN_STAT_STATE 0 0).w .TIDE_CNTLO 0 4096).w .TIDE_CNTHI 0 0).dv fun d =>
    { d with tt := { d.tt with pending := some x, actAt := 4096, opened := true } }) ({ ttid := 77, tasks := [sampleTask] }),
    { ttid := 77, tasks := [sampleTask] }, by decide⟩, ⟨State.reset.live, by decide⟩⟩

/-- States and operands that meet the hypotheses of each clause of `Obligations.FrameCommands` that has some. -/
theorem witness_frameCommands :
    (∃ (s : State) (n : Fin 9) (x : Task), (s.dev.sys.cdReset = false) ∧ ((s.dev.engine n.val).running = false) ∧ (s.dev.joining = false) ∧
      (n.val = 8 ∨ s.dev.onAt .CE_DBG_HALT n.val = false) ∧ (s.dev.nextTask n.val = some x) ∧ (s.dev.tide % 2 ^ x.rate = x.phase)) ∧ (∃ (s
      : State) (n : Fin 9), (s.dev.sys.cdReset = false) ∧ ((s.dev.engine n.val).running = true) ∧ ((s.dev.engine n.val).halted = false)) ∧
      (∃ (s : State), (s.dev.sys.cdReset = false) ∧ (s.dev.tt.landed = false) ∧ (s.dev.tt.opened = true) ∧ (s.dev.tt.endedStores = [])) ∧
      (∃ (s : State) (x : LineByte), (s.dev.sys.cdReset = false) ∧ (s.dev.tt.landed = false) ∧ (s.dev.tt.opened = true) ∧
      (s.dev.tt.endedStores = [x]) ∧ ((s.dev.pager.lines.at {} x.node).res = true) ∧ ((s.dev.pager.lines.at {} x.node).dmg = false)) ∧ (∃
      (s : State) (o : OutItem), (s.dev.sys.cdReset = false) ∧ (s.dev.tt.outSet = [o]) ∧ (o.cls = 3)) ∧ (∃ (s : State) (o : OutItem),
      (s.dev.sys.cdReset = false) ∧ (s.dev.tt.outSet = [o]) ∧ (o.cls = 8) ∧ (o.item < 24)) :=
  ⟨⟨(fun (x : Task) => (((State.reset.live.w .TWIN_STAT_STATE 0 0).w .CE_DBG_HALT (2) 0).dv fun d =>
    { d with vcs := { d.vcs with engines := [] } }).dv fun d =>
    { d with tt := { d.tt with active := some { tasks := [x] }, nextOrder := [] } }) (sampleTask), 2, sampleTask, by decide⟩,
    ⟨State.reset.live.dv fun d =>
    { d with vcs := { d.vcs with engines := [(2, { running := true, task := 5, budget := 900 }), (8, { running := true, task := 511, budget := 900 })] } },
    8, by decide⟩, ⟨State.reset.live.dv fun d => { d with tt := { d.tt with landed := false, opened := true, endedStores := [] } }, by
    decide⟩, ⟨(fun (x : LineByte) => (State.reset.live.dv fun d =>
    { d with tt := { d.tt with landed := false, opened := true, endedStores := [x] } }).dv fun d =>
    { d with pager := { d.pager with lines := [(1537, { berth := 2, res := true })] } }) ({ node := 1537, off := 255, val := 7 }),
    { node := 1537, off := 255, val := 7 }, by decide⟩, ⟨(fun (o : OutItem) => State.reset.live.dv fun d =>
    { d with tt := { d.tt with outSet := [o] } }) ({ cls := 3, item := 1535, value := 0x1FFFF }),
    { cls := 3, item := 1535, value := 0x1FFFF }, by decide⟩, ⟨(fun (o : OutItem) => State.reset.live.dv fun d =>
    { d with tt := { d.tt with outSet := [o] } }) ({ cls := 8, item := 23, word := 3, value := 1 }),
    { cls := 8, item := 23, word := 3, value := 1 }, by decide⟩⟩

/-- States and operands that meet the hypotheses of each clause of `Obligations.ResetCommands` that has some. -/
theorem witness_resetCommands :
    (∃ (s : State), (s.dev.sys.selfRefresh = .entering)) ∧ (∃ (s : State), (s.dev.sys.selfRefresh ≠ .entering)) ∧ (∃ (s : State) (p : Nat)
      (q : Nat) (u : Nat), (s.dev.cus.frozen = true) ∧ (s.dev.cus.marker = some (p, q, u)) ∧ (s.dev.sys.pdPending = none) ∧
      (s.dev.sys.sfPending = none)) ∧ (∃ (s : State) (p : Nat) (q : Nat) (u : Nat), (s.dev.cus.frozen = true) ∧ (s.dev.cus.marker = some
      (p, q, u)) ∧ (s.dev.sys.pdPending = none) ∧ (s.dev.sys.sfPending = none)) ∧ (∃ (s : State) (k : PdCause), (s.dev.counting = false) ∧
      (s.dev.sys.pdPending = some k)) ∧ (∃ (s : State) (k : SfCause), (s.dev.counting = false) ∧ (s.dev.sys.pdPending = none) ∧
      (s.dev.sys.sfPending = some k)) :=
  ⟨⟨State.reset.dv fun d => { d with sys := { d.sys with selfRefresh := .entering } }, by decide⟩, ⟨State.reset.dv fun d =>
    { d with sys := { d.sys with selfRefresh := .idle } }, by decide⟩, ⟨(fun (p : Nat) (q : Nat) (u : Nat) => (State.reset.dv fun d =>
    { d with sys := { d.sys with pdPending := none, sfPending := none } }).dv fun d =>
    { d with cus := { d.cus with frozen := true, marker := some (p, q, u) } }) (3) (3) (3), 3, 3, 3, by decide⟩, ⟨(fun (p : Nat) (q : Nat)
    (u : Nat) => (State.reset.dv fun d => { d with sys := { d.sys with pdPending := none, sfPending := none } }).dv fun d =>
    { d with cus := { d.cus with frozen := true, marker := some (p, q, u) } }) (3) (3) (3), 3, 3, 3, by decide⟩, ⟨(fun (k : PdCause) =>
    (State.reset.dv fun d => { d with sys := { d.sys with pdPending := some k } }).dv fun d =>
    { d with cus := { d.cus with started := false } }) (.supply), .supply, by decide⟩, ⟨(fun (k : SfCause) => (State.reset.dv fun d =>
    { d with sys := { d.sys with pdPending := none, sfPending := some k } }).dv fun d => { d with cus := { d.cus with started := false } })
    (.resetPin), .resetPin, by decide⟩⟩

/-- States and operands that meet the hypotheses of each clause of `Obligations.ControlDieCommands` that has some. -/
theorem witness_controlDieCommands :
    (∃ (s : State), (s.dev.on .PWM_CTRL_ARM = true)) ∧ (∃ (s : State), (s.dev.on .PWM_CTRL_ARM = false)) ∧ (∃ (s : State),
      (s.dev.sys.cdReset = false)) ∧ (∃ (s : State), (s.dev.sys.cdReset = true) ∧ (s.dev.onAt .CAP_CLS_HELD 10 = true)) ∧ (∃ (s : State),
      (s.dev.sys.cdReset = true) ∧ (s.dev.onAt .CAP_CLS_HELD 10 = false) ∧ (0 < s.dev.fareOf 10)) ∧ (∃ (s : State), (s.dev.sys.cdReset =
      true) ∧ (s.dev.onAt .CAP_CLS_HELD 10 = true) ∧ (s.dev.on .FM_CDCTL_HOLD = true) ∧ (s.dev.on .FM_CDCTL_AUTOWAKE = true) ∧ (s.dev.on
      .FM_CDCTL_WAKEP = true)) ∧ (∃ (s : State), (s.dev.sys.cdReset = true) ∧ (s.dev.sys.csFailed = true) ∧ (s.dev.fm.booted = true) ∧
      (s.dev.sys.cdResets.length < 3) ∧ (s.dev.onAt .CAP_CLS_HELD 10 = true)) ∧ (∃ (s : State), (s.dev.sys.cdReset = true) ∧
      (s.dev.sys.csFailed = true) ∧ (s.dev.fm.booted = true) ∧ (3 ≤ s.dev.sys.cdResets.length)) ∧ (∃ (s : State), (s.dev.sys.cdReset =
      false) ∧ (s.dev.sys.dryEnd = some 0) ∧ (s.dev.fm.booted = true)) ∧ (∃ (s : State) (f : Nat), (s.dev.sys.cdReset = false) ∧
      (s.dev.sys.dryEnd = some f) ∧ (f ≠ 0) ∧ (s.dev.sys.dryAttempts ≠ 2) ∧ (s.dev.fm.booted = true)) ∧ (∃ (s : State) (f : Nat),
      (s.dev.sys.cdReset = false) ∧ (s.dev.sys.dryEnd = some f) ∧ (f ≠ 0) ∧ (s.dev.sys.dryAttempts = 2) ∧ (s.dev.fm.booted = true)) ∧ (∃ (s
      : State), (s.dev.sys.cdReset = false) ∧ (s.dev.sys.dryEnd = none)) ∧ (∃ (s : State), (s.dev.fm.booted = false)) ∧ (∃ (s : State),
      (s.dev.sys.cdReset = false) ∧ (s.dev.mayArm = true) ∧ (s.dev.on .PWM_STAT_DLLLK = true) ∧ (s.dev.on .GWY_BENCH_ON = false) ∧
      (s.dev.on .TWIN_STAT_DFLT = false) ∧ (s.dev.fm.booted = true)) ∧ (∃ (s : State), (s.dev.sys.cdReset = false) ∧ (s.dev.mayArm =
      false)) ∧ (∃ (s : State), (s.dev.fm.booted = false)) ∧ (∃ (s : State), (s.dev.sys.csAttempts < 3)) ∧ (∃ (s : State),
      (s.dev.sys.csAttempts = 3)) ∧ (∃ (s : State), (s.dev.sys.spAttempts < 3)) ∧ (∃ (s : State), (s.dev.sys.spAttempts = 3) ∧
      (s.dev.sys.spFailed = false)) ∧ (∃ (s : State), (s.dev.sys.spFailed = false)) :=
  ⟨⟨State.reset.w .PWM_CTRL_ARM 0 1, by decide⟩, ⟨State.reset.live.w .PWM_CTRL_ARM 0 0, by decide⟩, ⟨State.reset.live, by decide⟩,
    ⟨(State.reset.w .CAP_CLS_HELD (10) 1).dv fun d => { d with sys := { d.sys with cdReset := true } }, by decide⟩, ⟨((State.reset.w
    .CAP_CLS_HELD (10) 0).w .CAP_CLFARE (10) 8).dv fun d => { d with sys := { d.sys with cdReset := true } }, by decide⟩,
    ⟨((((State.reset.w .CAP_CLS_HELD (10) 1).w .FM_CDCTL_HOLD 0 1).w .FM_CDCTL_AUTOWAKE 0 1).w .FM_CDCTL_WAKEP 0 1).dv fun d =>
    { d with sys := { d.sys with cdReset := true } }, by decide⟩, ⟨((State.reset.w .CAP_CLS_HELD (10) 1).dv fun d =>
    { d with sys := { d.sys with cdReset := true, csFailed := true, cdResets := [0, 5] } }).dv fun d =>
    { d with fm := { d.fm with booted := true } }, by decide⟩, ⟨(State.reset.dv fun d =>
    { d with sys := { d.sys with cdReset := true, csFailed := true, cdResets := [0, 5, 9] } }).dv fun d =>
    { d with fm := { d.fm with booted := true } }, by decide⟩, ⟨((State.reset.dv fun d =>
    { d with fm := { d.fm with booted := true } }).live).dv fun d =>
    { d with sys := { d.sys with dryPassed := false, dryAttempts := 2, dryEnd := some 0 } }, by decide⟩, ⟨(fun (f : Nat) =>
    ((State.reset.dv fun d => { d with fm := { d.fm with booted := true } }).live).dv fun d =>
    { d with sys := { d.sys with dryPassed := false, dryAttempts := 1, dryEnd := some f } }) (3), 3, by decide⟩, ⟨(fun (f : Nat) =>
    ((State.reset.dv fun d => { d with fm := { d.fm with booted := true } }).live).dv fun d =>
    { d with sys := { d.sys with dryPassed := false, dryAttempts := 2, dryEnd := some f } }) (3), 3, by decide⟩, ⟨State.reset.live.dv fun d
    => { d with sys := { d.sys with dryEnd := none } }, by decide⟩, ⟨State.reset.dv fun d =>
    { d with fm := { d.fm with booted := false } }, by decide⟩, ⟨((((((((((((((State.reset.dv fun d =>
    { d with fm := { d.fm with booted := true } }).dv fun d => { d with regs := [] }).live).w .PWM_STAT_DLLLK 0 1).w .TWIN_STAT_STATE 0
    0).w .TWIN_STAT_DFLT 0 0).w .GWY_BENCH_ON 0 0).w .COOL_STAT_FLOW 0 1).w .SAF_STAT_LOCKH 0 0).w .SAF_STAT_LOCKP 0 0).w .SAF_STAT_INH 0
    0).w .DDR_STAT_UNREL 0 0).dv fun d => { d with saf := { d.saf with latchH := 0, latchP := 0 } }).dv fun d =>
    { d with sys := { d.sys with dryPassed := true } }).dv fun d =>
    { d with prog := { d.prog with sync := .locked, stop := {}, trip := 0, params := armParams.map fun i => (i, 0x3F800000) } }, by
    decide⟩, ⟨State.reset.live.dv fun d => { d with sys := { d.sys with dryPassed := false } }, by decide⟩, ⟨State.reset.dv fun d =>
    { d with fm := { d.fm with booted := false } }, by decide⟩, ⟨State.reset.dv fun d => { d with sys := { d.sys with csAttempts := 2 } },
    by decide⟩, ⟨State.reset.dv fun d => { d with sys := { d.sys with csAttempts := 3 } }, by decide⟩, ⟨State.reset.dv fun d =>
    { d with sys := { d.sys with spAttempts := 2 } }, by decide⟩, ⟨State.reset.dv fun d =>
    { d with sys := { d.sys with spAttempts := 3, spFailed := false } }, by decide⟩, ⟨State.reset.dv fun d =>
    { d with sys := { d.sys with spFailed := false } }, by decide⟩⟩

/-- States and operands that meet the hypotheses of each clause of `Obligations.ClaimCommands` that has some. -/
theorem witness_claimCommands :
    (∃ (s : State) (req : Requester) (res : Resource) (n : Nat), (n < res.count) ∧ (s.dev.sys.cdReset = false) ∧ (res ≠ .gangway) ∧
      ((s.dev.cell res n).owner = none) ∧ ((s.dev.cell res n).rsv = none) ∧ (s.dev.claimsClosed req res = false) ∧ (s.dev.rivalHeld res n =
      false)) ∧ (∃ (s : State) (req : Requester) (res : Resource) (n : Nat), (n < res.count) ∧ (s.dev.sys.cdReset = false) ∧ (res ≠
      .gangway) ∧ ((s.dev.cell res n).owner = some req)) ∧ (∃ (s : State) (req : Requester) (res : Resource) (n : Nat) (o : Requester), (n
      < res.count) ∧ (s.dev.sys.cdReset = false) ∧ (res ≠ .gangway) ∧ ((s.dev.cell res n).owner = some o) ∧ (o ≠ req) ∧ ((s.dev.cell res
      n).rsv = none) ∧ (s.dev.claimsClosed req res = false)) ∧ (∃ (s : State) (req : Requester) (res : Resource) (n : Nat), (n < res.count)
      ∧ (s.dev.sys.cdReset = false) ∧ (res ≠ .gangway) ∧ ((s.dev.cell res n).rsv.isSome = true) ∧ ((s.dev.cell res n).rsv ≠ some req.rank)
      ∧ ((s.dev.cell res n).owner ≠ some req)) ∧ (∃ (s : State) (req : Requester) (res : Resource) (n : Nat), (n < res.count) ∧
      (s.dev.sys.cdReset = false) ∧ (res ≠ .gangway) ∧ ((s.dev.cell res n).rsv = none) ∧ ((s.dev.cell res n).owner ≠ some req) ∧
      (s.dev.sys.claimsOpen = false) ∧ (3 ≤ req.rank)) ∧ (∃ (s : State) (req : Requester) (res : Resource) (n : Nat), (n < res.count) ∧
      (s.dev.sys.cdReset = false) ∧ (res ≠ .gangway) ∧ ((s.dev.cell res n).owner = some req) ∧ ((s.dev.cell res n).rsvSealed = false) ∧
      (res ≠ .leg)) ∧ (∃ (s : State) (req : Requester) (res : Resource) (n : Nat), (n < res.count) ∧ (s.dev.sys.cdReset = false) ∧ (res ≠
      .gangway) ∧ ((s.dev.cell res n).owner ≠ some req)) ∧ (∃ (s : State) (p : Requester) (q : Requester) (res : Resource) (n : Nat), (n <
      res.count) ∧ (s.dev.sys.cdReset = false) ∧ (res ≠ .gangway) ∧ (p ≠ q) ∧ (q.rank < p.rank ∨ (q.rank = p.rank ∧ q.id < p.id)) ∧
      ((s.dev.cell res n).owner = none) ∧ ((s.dev.cell res n).rsv = none) ∧ (s.dev.claimsClosed p res = false) ∧ (s.dev.claimsClosed q res
      = false) ∧ (s.dev.rivalHeld res n = false)) ∧ (∃ (s : State) (n : Nat), (n < 10) ∧ (s.dev.sys.cdReset = false) ∧ ((s.dev.cell
      .gangway n).owner = none) ∧ ((s.dev.cell .gangway n).rsv = none) ∧ (s.dev.sys.claimsOpen = true)) ∧ (∃ (s : State) (req : Requester)
      (n : Nat), (n < 24) ∧ (s.dev.sys.cdReset = false) ∧ ((s.dev.cell .leg n).owner = some req) ∧ ((s.dev.cell .leg n).rsvSealed = false))
      ∧ (∃ (s : State), (s.dev.sys.claimsOpen = false) ∧ (s.dev.sys.loaded = true) ∧ (s.dev.cus.isSealed = false)) ∧ (∃ (s : State),
      (s.dev.sys.loaded = false)) :=
  ⟨⟨(fun (res : Resource) (n : Nat) => ((State.reset.live.w .LEG_SEAL_SET 0 1).dv fun d =>
    { d with sys := { d.sys with claimsOpen := true } }).dv fun d => d.setCell res n { owner := none, rsv := none }) (.comparator) (31),
    .ce 7, .comparator, 31, by decide⟩, ⟨(fun (req : Requester) (res : Resource) (n : Nat) => ((State.reset.live.w .LEG_SEAL_SET 0 1).dv
    fun d => { d with sys := { d.sys with claimsOpen := true } }).dv fun d => d.setCell res n { owner := some req, rsv := none }) (.ce 7)
    (.comparator) (31), .ce 7, .comparator, 31, by decide⟩, ⟨(fun (res : Resource) (n : Nat) (o : Requester) => ((State.reset.live.w
    .LEG_SEAL_SET 0 1).dv fun d => { d with sys := { d.sys with claimsOpen := true } }).dv fun d => d.setCell res n
    { owner := some o, rsv := none }) (.comparator) (31) (.ferryman), .ce 7, .comparator, 31, .ferryman, by decide⟩, ⟨(fun (res : Resource)
    (n : Nat) => ((State.reset.live.w .LEG_SEAL_SET 0 1).dv fun d => { d with sys := { d.sys with claimsOpen := true } }).dv fun d =>
    d.setCell res n { owner := none, rsv := some 1 }) (.comparator) (31), .ce 7, .comparator, 31, by decide⟩, ⟨(fun (res : Resource) (n :
    Nat) => ((State.reset.live.w .LEG_SEAL_SET 0 1).dv fun d => { d with sys := { d.sys with claimsOpen := false } }).dv fun d => d.setCell
    res n { owner := none, rsv := none }) (.comparator) (31), .ce 7, .comparator, 31, by decide⟩, ⟨(fun (req : Requester) (res : Resource)
    (n : Nat) => ((State.reset.live.w .LEG_SEAL_SET 0 1).dv fun d => { d with sys := { d.sys with claimsOpen := true } }).dv fun d =>
    d.setCell res n { owner := some req, rsv := none }) (.ce 7) (.comparator) (31), .ce 7, .comparator, 31, by decide⟩, ⟨(fun (res :
    Resource) (n : Nat) => ((State.reset.live.w .LEG_SEAL_SET 0 1).dv fun d => { d with sys := { d.sys with claimsOpen := true } }).dv fun
    d => d.setCell res n { owner := none, rsv := none }) (.comparator) (31), .ce 7, .comparator, 31, by decide⟩, ⟨(fun (res : Resource) (n
    : Nat) => ((State.reset.live.w .LEG_SEAL_SET 0 1).dv fun d => { d with sys := { d.sys with claimsOpen := true } }).dv fun d =>
    d.setCell res n { owner := none, rsv := none }) (.comparator) (31), .ce 7, .ferryman, .comparator, 31, by decide⟩, ⟨(fun (n : Nat) =>
    (State.reset.live.dv fun d => { d with sys := { d.sys with claimsOpen := true } }).dv fun d => d.setCell .gangway n {}) (9), 9, by
    decide⟩, ⟨(fun (req : Requester) (n : Nat) => State.reset.live.dv fun d => d.setCell .leg n { owner := some req }) (.ce 7) (23), .ce 7,
    23, by decide⟩, ⟨(State.reset.dv fun d => { d with sys := { d.sys with claimsOpen := false, loaded := true } }).dv fun d =>
    { d with cus := { d.cus with isSealed := false } }, by decide⟩, ⟨State.reset.dv fun d =>
    { d with sys := { d.sys with loaded := false } }, by decide⟩⟩

/-- States and operands that meet the hypotheses of each clause of `Obligations.RegisterWrites` that has some. -/
theorem witness_registerWrites :
    (∃ (s : State) (addr : BitVec 40) (size : Nat), (inRegisters addr.toNat = true) ∧ (registerAt addr.toNat = true) ∧ (size ≠ 4 ∨
      addr.toNat % 4 ≠ 0)) ∧ (∃ (s : State) (req : Requester) (addr : BitVec 40) (k : Blk) (x : FieldRow × Nat) (l : List (FieldRow ×
      Nat)), (inRegisters addr.toNat = true) ∧ (addr.toNat % 4 = 0) ∧ (blkAt addr.toNat = some k) ∧ (claimAt k (addr.toNat - k.base) =
      none) ∧ (fieldsAt k (addr.toNat - k.base) = x :: l) ∧ (req ≠ .ferryman) ∧ (openBlk k x.1.fld = false) ∧ (configures x.1.fld x.2 =
      none)) ∧ (∃ (s : State) (req : Requester) (k : Fin 8), (req ≠ .ferryman) ∧ ((s.dev.cell .gangway k.val).owner ≠ some req)) ∧ (∃ (s :
      State) (addr : BitVec 40) (size : Nat), (inRegisters addr.toNat = false) ∧ (s.dev.memoryAt addr.toNat size = false)) ∧ (∃ (s : State)
      (addr : BitVec 40), (inRegisters addr.toNat = true) ∧ (registerAt addr.toNat = false)) ∧ (∃ (s : State) (addr : BitVec 40) (size :
      Nat), (inRegisters addr.toNat = false) ∧ (s.dev.memoryAt addr.toNat size = true)) ∧ (∃ (s : State), (s.dev.sys.cdReset = false)) ∧ (∃
      (s : State), (s.dev.on .SAF_SEAL_SET = true)) ∧ (∃ (s : State), (s.dev.on .SAF_SEAL_SET = false)) ∧ (∃ (s : State) (req : Requester)
      (n : Fin 48), (s.dev.sys.cdReset = false) ∧ ((s.dev.cell .filter n.val).owner = some req)) ∧ (∃ (s : State) (n : Fin 48),
      (s.dev.sys.cdReset = false) ∧ ((s.dev.cell .filter n.val).owner = none)) ∧ (∃ (s : State) (k : Fin 8), (s.dev.sys.cdReset = false) ∧
      ((s.dev.cell .gangway k.val).owner = some .testAccess)) ∧ (∃ (s : State) (k : Fin 2), (s.dev.sys.cdReset = false) ∧ ((s.dev.cell
      .gangway (8 + k.val)).owner = some .testAccess) ∧ (s.dev.cus.isSealed = true)) :=
  ⟨⟨State.reset, 0x2100000002, 4, by decide⟩, ⟨State.reset, .ce 3, BitVec.ofNat 40 (Blk.base .FM + 4), .FM, (⟨.FM_RSTCAUSE_KIND, 0x4, 0, 1,
    0, 1, 0, 4, .ro, .any⟩, 0), [], by decide⟩, ⟨(fun (k : Fin 8) => State.reset.dv fun d => d.setCell .gangway k {}) (7), .ce 3, 7, by
    decide⟩, ⟨State.reset, 0xF000000010, 4, by decide⟩, ⟨State.reset, 0x2000000FFC, by decide⟩, ⟨State.reset, 0x1000020000, 4, by decide⟩,
    ⟨State.reset.live, by decide⟩, ⟨State.reset.w .SAF_SEAL_SET 0 1, by decide⟩, ⟨State.reset.w .SAF_SEAL_SET 0 0, by decide⟩, ⟨(fun (req :
    Requester) (n : Fin 48) => State.reset.live.dv fun d => d.setCell .filter n { owner := some req }) (.ce 7) (47), .ce 7, 47, by decide⟩,
    ⟨(fun (n : Fin 48) => State.reset.live.dv fun d => d.setCell .filter n {}) (47), 47, by decide⟩, ⟨(fun (k : Fin 8) =>
    State.reset.live.dv fun d => d.setCell .gangway k { owner := some .testAccess }) (7), 7, by decide⟩, ⟨(fun (k : Fin 2) =>
    (State.reset.live.dv fun d => d.setCell .gangway (8 + k.val) { owner := some .testAccess }).dv fun d =>
    { d with cus := { d.cus with isSealed := true } }) (1), 1, by decide⟩⟩

/-- States and operands that meet the hypotheses of each clause of `Obligations.CommandTaskCommands` that has some. -/
theorem witness_commandTaskCommands :
    (∃ (s : State) (x : HostCmd) (l : List HostCmd), (s.dev.sys.cdReset = false) ∧ ((s.dev.queue 0).items = x :: l) ∧ (x.op = 0x01) ∧
      (s.dev.paramCheck x.ident x.value = 0)) ∧ (∃ (s : State) (x : HostCmd) (l : List HostCmd), (s.dev.sys.cdReset = false) ∧
      ((s.dev.queue 0).items = x :: l) ∧ (x.op = 0x01) ∧ (paramOf x.ident = none)) ∧ (∃ (s : State) (x : HostCmd) (l : List HostCmd),
      (s.dev.sys.cdReset = false) ∧ ((s.dev.queue 0).items = x :: l) ∧ (x.op = 0x01) ∧ (s.dev.paramCheck x.ident x.value = 2)) ∧ (∃ (s :
      State) (x : HostCmd) (l : List HostCmd), (s.dev.sys.cdReset = false) ∧ ((s.dev.queue 0).items = x :: l) ∧ (x.op = 0x01) ∧
      (s.dev.paramCheck x.ident x.value = 3)) ∧ (∃ (s : State) (x : HostCmd) (l : List HostCmd), (s.dev.sys.cdReset = false) ∧
      ((s.dev.queue 0).items = x :: l) ∧ (x.op = 0x02)) ∧ (∃ (s : State) (x : HostCmd) (l : List HostCmd), (s.dev.sys.cdReset = false) ∧
      ((s.dev.queue 0).items = x :: l) ∧ (x.op = 0x03) ∧ (x.ident / 32 ≠ 2) ∧ (x.ident / 32 ≠ 3)) ∧ (∃ (s : State) (x : HostCmd) (l : List
      HostCmd), (s.dev.sys.cdReset = false) ∧ ((s.dev.queue 0).items = x :: l) ∧ (x.op = 0x03) ∧ (x.ident / 32 = 2 ∨ x.ident / 32 = 3) ∧
      (fpLe 0 x.value = false ∨ fpLe x.value 0x40800000 = false)) ∧ (∃ (s : State) (x : HostCmd) (l : List HostCmd), (s.dev.sys.cdReset =
      false) ∧ ((s.dev.queue 0).items = x :: l) ∧ (x.op = 0x04) ∧ (fpLe 0x40000000 x.value = false ∨ fpLe x.value 0x42000000 = false)) ∧ (∃
      (s : State) (x : HostCmd) (l : List HostCmd), (s.dev.sys.cdReset = false) ∧ ((s.dev.queue 0).items = x :: l) ∧ (x.op = 0x04) ∧ (fpLe
      0x40000000 x.value = true) ∧ (fpLe x.value 0x42000000 = true) ∧ (ascending ((List.range (fpInt x.value).toNat).map fun j =>
      s.dev.tabX (x.ident / 32) j) = false)) ∧ (∃ (s : State) (x : HostCmd) (l : List HostCmd) (p : List (Nat × Nat)), (s.dev.sys.cdReset =
      false) ∧ ((s.dev.queue 0).items = x :: l) ∧ (x.op = 0x04) ∧ (fpLe 0x40000000 x.value = true) ∧ (fpLe x.value 0x42000000 = true) ∧ (p
      = (List.range (fpInt x.value).toNat).map fun j => (s.dev.tabX (x.ident / 32) j, s.dev.tabY (x.ident / 32) j)) ∧ (ascending (p.map
      Prod.fst) = true)) ∧ (∃ (s : State) (x : HostCmd) (l : List HostCmd), (s.dev.sys.cdReset = false) ∧ ((s.dev.queue 0).items = x :: l)
      ∧ (x.op = 0x05)) ∧ (∃ (s : State) (x : HostCmd) (l : List HostCmd), (s.dev.sys.cdReset = false) ∧ ((s.dev.queue 0).items = x :: l) ∧
      (x.op = 0x06) ∧ (s.dev.prog.stop.causes = []) ∧ (x.value = 0x41200000)) ∧ (∃ (s : State) (x : HostCmd) (l : List HostCmd),
      (s.dev.sys.cdReset = false) ∧ ((s.dev.queue 0).items = x :: l) ∧ (x.op = 0x06) ∧ (s.dev.prog.stop.causes = []) ∧ (x.value = 0)) ∧ (∃
      (s : State) (x : HostCmd) (l : List HostCmd) (k : Nat), (s.dev.sys.cdReset = false) ∧ ((s.dev.queue 0).items = x :: l) ∧ (x.op =
      0x06) ∧ (s.dev.prog.stop = { causes := [k], ramp := true, staged := false }) ∧ (x.value = 0x41200000)) ∧ (∃ (s : State) (x : HostCmd)
      (l : List HostCmd), (s.dev.sys.cdReset = false) ∧ ((s.dev.queue 0).items = x :: l) ∧ (x.op = 0x07) ∧ (s.dev.causePresent = false) ∧
      (s.dev.paramOn 0xB7 = true)) ∧ (∃ (s : State) (x : HostCmd) (l : List HostCmd), (s.dev.sys.cdReset = false) ∧ ((s.dev.queue 0).items
      = x :: l) ∧ (x.op = 0x07) ∧ (s.dev.causePresent = true) ∧ (s.dev.paramOn 0xB7 = true)) ∧ (∃ (s : State) (x : HostCmd) (l : List
      HostCmd), (s.dev.sys.cdReset = false) ∧ ((s.dev.queue 0).items = x :: l) ∧ (x.op = 0x07) ∧ (s.dev.causePresent = false) ∧
      (s.dev.paramOn 0xB7 = false) ∧ (s.dev.prog.trip ≠ 0) ∧ (s.dev.gridGood = true)) ∧ (∃ (s : State) (x : HostCmd) (l : List HostCmd),
      (s.dev.sys.cdReset = false) ∧ ((s.dev.queue 15).items = x :: l) ∧ (x.op = 0x10) ∧ (s.dev.permitByFrequency = true) ∧ (fpLe (fDiv
      (s.dev.param 0x43) 0x40000000) x.value = true) ∧ (fpLe x.value (fMul (s.dev.param 0x44) 0x3F866666) = true)) ∧ (∃ (s : State) (x :
      HostCmd) (l : List HostCmd), (s.dev.sys.cdReset = false) ∧ ((s.dev.queue 15).items = x :: l) ∧ (x.op = 0x10) ∧
      (s.dev.permitByFrequency = true) ∧ (fpLe (fDiv (s.dev.param 0x43) 0x40000000) x.value = false)) ∧ (∃ (s : State) (x : HostCmd) (l :
      List HostCmd), (s.dev.sys.cdReset = false) ∧ ((s.dev.queue 14).items = x :: l) ∧ (x.op = 0x11) ∧ (x.value = 0x3F800000)) ∧ (∃ (s :
      State) (x : HostCmd) (l : List HostCmd), (s.dev.sys.cdReset = false) ∧ ((s.dev.queue 14).items = x :: l) ∧ (x.op = 0x11) ∧ (x.value =
      0) ∧ (s.dev.prog.coolTerm = none)) ∧ (∃ (s : State) (x : HostCmd) (l : List HostCmd), (s.dev.sys.cdReset = false) ∧ ((s.dev.queue
      0).items = x :: l) ∧ (knownOp 0 x.op = false)) ∧ (∃ (s : State) (x : HostCmd) (l : List HostCmd), (s.dev.sys.cdReset = false) ∧
      ((s.dev.queue 14).items = x :: l) ∧ (knownOp 14 x.op = false)) ∧ (∃ (s : State) (x : HostCmd) (l : List HostCmd), (s.dev.sys.cdReset
      = false) ∧ ((s.dev.queue 15).items = x :: l) ∧ (knownOp 15 x.op = false)) ∧ (∃ (s : State) (i : Nat) (v : Nat), (s.dev.sys.cdReset =
      false) ∧ (s.dev.prog.changes = [(s.dev.tide, .param i v)])) ∧ (∃ (s : State) (n : Nat) (p : CtlTable) (k : Nat × CtlChange),
      (s.dev.sys.cdReset = false) ∧ (s.dev.prog.changes = [(s.dev.tide, .table n p), k]) ∧ (s.dev.tide < k.1)) :=
  ⟨⟨(fun (x : HostCmd) (l : List HostCmd) => (State.reset.live.dv fun d => d.setQueue 0 { items := x :: l }).dv fun d =>
    { d with prog := { d.prog with changes := [] } }) ({ payload := payloadOf 1 0x40 0x3F800000, seq := 9 }) ([]),
    { payload := payloadOf 1 0x40 0x3F800000, seq := 9 }, [], by decide⟩, ⟨(fun (x : HostCmd) (l : List HostCmd) => State.reset.live.dv fun
    d => d.setQueue 0 { items := x :: l }) ({ payload := payloadOf 1 0xFF 0, seq := 9 }) ([]), { payload := payloadOf 1 0xFF 0, seq := 9 },
    [], by decide⟩, ⟨(fun (x : HostCmd) (l : List HostCmd) => State.reset.live.dv fun d => d.setQueue 0 { items := x :: l })
    ({ payload := payloadOf 1 0x40 0x7F800000, seq := 9 }) ([]), { payload := payloadOf 1 0x40 0x7F800000, seq := 9 }, [], by decide⟩,
    ⟨(fun (x : HostCmd) (l : List HostCmd) => (State.reset.live.dv fun d => d.setQueue 0 { items := x :: l }).dv fun d =>
    { d with prog := { d.prog with stop := {}, params := [], changes := [] } }) ({ payload := payloadOf 1 0x02 0x43480000, seq := 9 })
    ([]), { payload := payloadOf 1 0x02 0x43480000, seq := 9 }, [], by decide⟩, ⟨(fun (x : HostCmd) (l : List HostCmd) =>
    State.reset.live.dv fun d => d.setQueue 0 { items := x :: l }) ({ payload := payloadOf 2 255 0x3F800000, seq := 9 }) ([]),
    { payload := payloadOf 2 255 0x3F800000, seq := 9 }, [], by decide⟩, ⟨(fun (x : HostCmd) (l : List HostCmd) => State.reset.live.dv fun
    d => d.setQueue 0 { items := x :: l }) ({ payload := payloadOf 3 255 0xC0800000, seq := 9 }) ([]),
    { payload := payloadOf 3 255 0xC0800000, seq := 9 }, [], by decide⟩, ⟨(fun (x : HostCmd) (l : List HostCmd) => State.reset.live.dv fun
    d => d.setQueue 0 { items := x :: l }) ({ payload := payloadOf 3 64 0x40800001, seq := 9 }) ([]),
    { payload := payloadOf 3 64 0x40800001, seq := 9 }, [], by decide⟩, ⟨(fun (x : HostCmd) (l : List HostCmd) => State.reset.live.dv fun d
    => d.setQueue 0 { items := x :: l }) ({ payload := payloadOf 4 0 0x3F800000, seq := 9 }) ([]),
    { payload := payloadOf 4 0 0x3F800000, seq := 9 }, [], by decide⟩, ⟨(fun (x : HostCmd) (l : List HostCmd) => (State.reset.live.dv fun d
    => d.setQueue 0 { items := x :: l }).dv fun d => { d with prog := { d.prog with xs := [] } })
    ({ payload := payloadOf 4 0 0x40400000, seq := 9 }) ([]), { payload := payloadOf 4 0 0x40400000, seq := 9 }, [], by decide⟩, ⟨(fun (x :
    HostCmd) (l : List HostCmd) => (State.reset.live.dv fun d => d.setQueue 0 { items := x :: l }).dv fun d =>
    { d with prog := { d.prog with xs := [], ys := [] } }) ({ payload := payloadOf 4 0 0x40000000, seq := 9 }) ([]),
    { payload := payloadOf 4 0 0x40000000, seq := 9 }, [], [(0x42960000, 0x3F800000), (0x42BE0000, 0)], by decide⟩, ⟨(fun (x : HostCmd) (l
    : List HostCmd) => State.reset.live.dv fun d => d.setQueue 0 { items := x :: l }) ({ payload := payloadOf 5 0 0x3F800000, seq := 9 })
    ([]), { payload := payloadOf 5 0 0x3F800000, seq := 9 }, [], by decide⟩, ⟨(fun (x : HostCmd) (l : List HostCmd) => (State.reset.live.dv
    fun d => d.setQueue 0 { items := x :: l }).dv fun d => { d with prog := { d.prog with stop := {} } })
    ({ payload := payloadOf 6 0 0x41200000, seq := 9 }) ([]), { payload := payloadOf 6 0 0x41200000, seq := 9 }, [], by decide⟩, ⟨(fun (x :
    HostCmd) (l : List HostCmd) => (State.reset.live.dv fun d => d.setQueue 0 { items := x :: l }).dv fun d =>
    { d with prog := { d.prog with stop := {} } }) ({ payload := payloadOf 6 0 0, seq := 9 }) ([]),
    { payload := payloadOf 6 0 0, seq := 9 }, [], by decide⟩, ⟨(fun (x : HostCmd) (l : List HostCmd) (k : Nat) => (State.reset.live.dv fun
    d => d.setQueue 0 { items := x :: l }).dv fun d =>
    { d with prog := { d.prog with stop := { causes := [k], ramp := true, staged := false } } })
    ({ payload := payloadOf 6 0 0x41200000, seq := 9 }) ([]) (5), { payload := payloadOf 6 0 0x41200000, seq := 9 }, [], 5, by decide⟩,
    ⟨(fun (x : HostCmd) (l : List HostCmd) => ((State.reset.live.dv fun d => d.setQueue 0 { items := x :: l }).dv fun d =>
    { d with tt := { d.tt with missRaised := [] } }).dv fun d =>
    { d with prog := { d.prog with coolTerm := none, trip := 0, starting := false, stop := { causes := [5] }, comp := {}, losses := [], mod := {}, params := [(0xA2, 0x40000000), (0xB7, 0x3F800000)] } })
    ({ payload := payloadOf 7 0 0, seq := 9 }) ([]), { payload := payloadOf 7 0 0, seq := 9 }, [], by decide⟩, ⟨(fun (x : HostCmd) (l :
    List HostCmd) => (State.reset.live.dv fun d => d.setQueue 0 { items := x :: l }).dv fun d =>
    { d with prog := { d.prog with trip := 0, starting := false, stop := { causes := [5] }, losses := [.dcLink], params := [(0xB7, 0x3F800000)] } })
    ({ payload := payloadOf 7 0 0, seq := 9 }) ([]), { payload := payloadOf 7 0 0, seq := 9 }, [], by decide⟩, ⟨(fun (x : HostCmd) (l :
    List HostCmd) => ((State.reset.live.dv fun d => d.setQueue 0 { items := x :: l }).dv fun d =>
    { d with tt := { d.tt with missRaised := [] } }).dv fun d =>
    { d with prog := { d.prog with coolTerm := none, trip := 2, starting := true, stop := {}, sync := .locked, comp := {}, losses := [], mod := {}, watch := {}, grid := { vmin := 0x3F800000, vmax := 0x3F800000, f := 0x42480000 }, params := [(0xA2, 0x40000000), (0xB7, 0)] } })
    ({ payload := payloadOf 7 0 0, seq := 9 }) ([]), { payload := payloadOf 7 0 0, seq := 9 }, [], by decide⟩, ⟨(fun (x : HostCmd) (l :
    List HostCmd) => (State.reset.live.dv fun d => d.setQueue 15 { items := x :: l }).dv fun d =>
    { d with prog := { d.prog with params := [(0x40, 0x40000000)] } }) ({ payload := payloadOf 0x10 0 0x447A0000, seq := 9 }) ([]),
    { payload := payloadOf 0x10 0 0x447A0000, seq := 9 }, [], by decide⟩, ⟨(fun (x : HostCmd) (l : List HostCmd) => (State.reset.live.dv
    fun d => d.setQueue 15 { items := x :: l }).dv fun d => { d with prog := { d.prog with params := [(0x40, 0x40000000)] } })
    ({ payload := payloadOf 0x10 0 0, seq := 9 }) ([]), { payload := payloadOf 0x10 0 0, seq := 9 }, [], by decide⟩, ⟨(fun (x : HostCmd) (l
    : List HostCmd) => (State.reset.live.dv fun d => d.setQueue 14 { items := x :: l }).dv fun d =>
    { d with prog := { d.prog with coolTerm := some (1, 2) } }) ({ payload := payloadOf 0x11 0 0x3F800000, seq := 9 }) ([]),
    { payload := payloadOf 0x11 0 0x3F800000, seq := 9 }, [], by decide⟩, ⟨(fun (x : HostCmd) (l : List HostCmd) => (State.reset.live.dv
    fun d => d.setQueue 14 { items := x :: l }).dv fun d => { d with prog := { d.prog with coolTerm := none } })
    ({ payload := payloadOf 0x11 0 0, seq := 9 }) ([]), { payload := payloadOf 0x11 0 0, seq := 9 }, [], by decide⟩, ⟨(fun (x : HostCmd) (l
    : List HostCmd) => State.reset.live.dv fun d => d.setQueue 0 { items := x :: l }) ({ payload := payloadOf 0x08 0 0, seq := 9 }) ([]),
    { payload := payloadOf 0x08 0 0, seq := 9 }, [], by decide⟩, ⟨(fun (x : HostCmd) (l : List HostCmd) => State.reset.live.dv fun d =>
    d.setQueue 14 { items := x :: l }) ({ payload := payloadOf 0x10 0 0, seq := 9 }) ([]), { payload := payloadOf 0x10 0 0, seq := 9 }, [],
    by decide⟩, ⟨(fun (x : HostCmd) (l : List HostCmd) => State.reset.live.dv fun d => d.setQueue 15 { items := x :: l })
    ({ payload := payloadOf 0x11 0 0, seq := 9 }) ([]), { payload := payloadOf 0x11 0 0, seq := 9 }, [], by decide⟩, ⟨(fun (i : Nat) (v :
    Nat) => ((State.reset.live.w .TIDE_CNTLO 0 9).w .TIDE_CNTHI 0 0).dv fun d =>
    { d with prog := { d.prog with changes := [(9, .param i v)] } }) (0x40) (0x3F800000), 0x40, 0x3F800000, by decide⟩, ⟨(fun (n : Nat) (p
    : CtlTable) (k : Nat × CtlChange) => ((State.reset.live.w .TIDE_CNTLO 0 9).w .TIDE_CNTHI 0 0).dv fun d =>
    { d with prog := { d.prog with changes := [(9, .table n p), k] } }) (4) (tableOf [(0, 1), (2, 3)]) ((10, .param 1 1)), 4, tableOf [(0,
    1), (2, 3)], (10, .param 1 1), by decide⟩⟩

/-- States and operands that meet the hypotheses of each clause of `Obligations.ControlProgramCommands` that has some. -/
theorem witness_controlProgramCommands :
    (∃ (s : State) (n : Nat), (s.dev.pushCode 15 = 1) ∧ (n < 2) ∧ (s.dev.fm.booted = true)) ∧ (∃ (s : State) (n : Nat) (span : Nat),
      (s.dev.pushCode 15 = 1) ∧ (2 ≤ n) ∧ (10000 * span ≤ (n - 1) * 10 ^ 9) ∧ (s.dev.fm.booted = true)) ∧ (∃ (s : State), (s.dev.fm.booted
      = false)) ∧ (∃ (s : State), (s.dev.sys.cdReset = false) ∧ (s.dev.permitByFrequency = true) ∧ (s.dev.lasted (some s.dev.prog.permitAt)
      0x3D4CCCCD = true)) ∧ (∃ (s : State), (s.dev.sys.cdReset = false) ∧ (s.dev.permitByFrequency = false ∨ s.dev.lasted (some
      s.dev.prog.permitAt) 0x3D4CCCCD = false)) ∧ (∃ (s : State), (s.dev.sys.cdReset = false) ∧ (s.dev.prog.permitOut = true) ∧ (fpEq
      (s.dev.param 0x40) 0 = false) ∧ (s.dev.lasted (some s.dev.prog.permitFrom) (s.dev.param 0x46) = true)) ∧ (∃ (s : State),
      (s.dev.sys.cdReset = false) ∧ (s.dev.prog.permitOut = false ∨ s.dev.lasted (some s.dev.prog.permitFrom) (s.dev.param 0x46) = false))
      ∧ (∃ (s : State), (s.dev.sys.cdReset = false) ∧ (s.dev.prog.coolTerm = none) ∧ (s.dev.lasted (some s.dev.prog.coolAt) 0x3C23D70A =
      true)) ∧ (∃ (s : State), (s.dev.sys.cdReset = false) ∧ (s.dev.lasted (some s.dev.prog.coolAt) 0x3C23D70A = false)) ∧ (∃ (s : State),
      (s.dev.sys.cdReset = false) ∧ (s.dev.prog.coolTerm.isSome = true) ∧ (s.dev.lasted (some s.dev.prog.coolFrom) (s.dev.param 0x52) =
      true) ∧ (s.dev.prog.stop.causes = [])) ∧ (∃ (s : State), (s.dev.sys.cdReset = false) ∧ (s.dev.prog.coolTerm = none)) ∧ (∃ (s :
      State), (s.dev.sys.cdReset = false) ∧ (s.dev.prog.host.isSome = true) ∧ (s.dev.lasted (some s.dev.prog.hostAt) (s.dev.param 0x90) =
      true)) ∧ (∃ (s : State), (s.dev.sys.cdReset = false) ∧ (s.dev.prog.host = none ∨ s.dev.lasted (some s.dev.prog.hostAt) (s.dev.param
      0x90) = false)) ∧ (∃ (s : State), (s.dev.sys.cdReset = false) ∧ (s.dev.prog.comp.curtail = true) ∧ (s.dev.paramNat 0xA1 <
      s.dev.prog.comp.ovpN) ∧ (s.dev.prog.stop.causes = [])) ∧ (∃ (s : State), (s.dev.sys.cdReset = false) ∧ (s.dev.prog.comp.curtail =
      false ∨ s.dev.prog.comp.ovpN ≤ s.dev.paramNat 0xA1)) ∧ (∃ (s : State), (s.dev.sys.cdReset = false) ∧ (s.dev.loopClosed = true) ∧
      (s.dev.prog.losses.contains .phaseCurrent = true) ∧ (s.dev.holdLimit (lossRole .phaseCurrent) < s.dev.prog.holds.at 0 0)) ∧ (∃ (s :
      State), (s.dev.sys.cdReset = false) ∧ (s.dev.loopClosed = true) ∧ (s.dev.prog.losses.contains .phaseCurrents = true) ∧
      (s.dev.holdLimit (lossRole .phaseCurrents) < s.dev.prog.holds.at 0 0)) ∧ (∃ (s : State), (s.dev.sys.cdReset = false) ∧
      (s.dev.loopClosed = true) ∧ (s.dev.prog.losses.contains .dcLink = true) ∧ (s.dev.holdLimit (lossRole .dcLink) < s.dev.prog.holds.at 0
      0) ∧ (s.dev.paramNat 0xA4 = 255)) ∧ (∃ (s : State), (s.dev.sys.cdReset = false) ∧ (s.dev.loopClosed = true) ∧
      (s.dev.prog.losses.contains .gridVoltage = true) ∧ (s.dev.holdLimit (lossRole .gridVoltage) < s.dev.prog.holds.at 0 0)) ∧ (∃ (s :
      State), (s.dev.sys.cdReset = false) ∧ (s.dev.loopClosed = true) ∧ (s.dev.prog.losses.contains .permit = true) ∧ (s.dev.holdLimit
      (lossRole .permit) < s.dev.prog.holds.at 0 9)) ∧ (∃ (s : State), (s.dev.sys.cdReset = false) ∧ (s.dev.loopClosed = true) ∧
      (s.dev.prog.losses.contains .temperature = true) ∧ (s.dev.holdLimit (lossRole .temperature) < s.dev.prog.holds.at 0 8) ∧
      (s.dev.prog.coolTerm = none)) ∧ (∃ (s : State), (s.dev.sys.cdReset = false) ∧ (s.dev.loopClosed = true) ∧ (s.dev.paramNat 0xA2 <
      s.dev.prog.mod.out.length)) ∧ (∃ (s : State), (s.dev.sys.cdReset = false) ∧ (s.dev.loopClosed = false)) ∧ (∃ (s : State),
      (s.dev.sys.cdReset = false) ∧ (s.dev.rampOver = true)) ∧ (∃ (s : State), (s.dev.sys.cdReset = false) ∧ (s.dev.rampOver = false)) ∧ (∃
      (s : State) (task : Fin 512) (x : Task), (s.dev.sys.cdReset = false) ∧ (s.dev.taskOf task.val = some x) ∧ (s.dev.isCompetition x =
      false) ∧ ((x.outs.any fun o => o.cls == 8 || o.cls == 3) = false) ∧ (s.dev.pushCode 0 = 1) ∧ (s.dev.fm.booted = true)) ∧ (∃ (s :
      State) (task : Fin 512) (x : Task), (s.dev.sys.cdReset = false) ∧ (s.dev.taskOf task.val = some x) ∧ ((x.outs.any fun o => o.cls == 8
      || o.cls == 3) = true) ∧ (s.dev.pushCode 0 = 1) ∧ (s.dev.fm.booted = true)) ∧ (∃ (s : State) (task : Fin 512), (s.dev.sys.cdReset =
      false) ∧ (s.dev.taskOf task.val = none)) ∧ (∃ (s : State), (s.dev.fm.booted = false)) ∧ (∃ (s : State) (id : Fin 512) (u : Nat) (p :
      Nat) (tk : Task), (s.dev.sys.cdReset = false) ∧ (s.dev.prog.changes = []) ∧ (s.dev.taskOf id.val = some tk) ∧ (tk.rate ≤ 6) ∧
      (s.dev.input .competition (tk.input 0 0) = (u, true)) ∧ (p = (if s.dev.prog.comp.fromMeasured || s.dev.stopped || s.dev.seenBit 27
      then s.dev.prog.cur.power else s.dev.prog.comp.pstar))) ∧ (∃ (s : State) (id : Fin 512) (u : Nat) (p : Nat) (tk : Task),
      (s.dev.sys.cdReset = false) ∧ (s.dev.prog.changes = []) ∧ (s.dev.taskOf id.val = some tk) ∧ (tk.rate ≤ 6) ∧ (s.dev.input .competition
      (tk.input 0 0) = (u, true)) ∧ (p = (if s.dev.prog.comp.fromMeasured || s.dev.stopped || s.dev.seenBit 27 then s.dev.prog.cur.power
      else s.dev.prog.comp.pstar)) ∧ (minChain (s.dev.candidates p u) / 2 ^ 32 = 0xFFFFFFFF)) ∧ (∃ (s : State) (id : Fin 512) (u : Nat) (tk
      : Task), (s.dev.sys.cdReset = false) ∧ (s.dev.prog.changes = []) ∧ (s.dev.taskOf id.val = some tk) ∧ (tk.rate = 0) ∧ (s.dev.input
      .dcLink (tk.input 0 0) = (u, true)) ∧ (s.dev.prog.seen.tag ≠ 7)) ∧ (∃ (s : State) (id : Fin 512) (u : Nat) (tk : Task),
      (s.dev.sys.cdReset = false) ∧ (s.dev.prog.changes = []) ∧ (s.dev.taskOf id.val = some tk) ∧ (tk.rate = 0) ∧ (s.dev.input .dcLink
      (tk.input 0 0) = (u, true)) ∧ (s.dev.prog.seen.tag = 7)) ∧ (∃ (s : State) (id : Fin 512) (h : Nat) (tk : Task), (s.dev.sys.cdReset =
      false) ∧ (s.dev.prog.changes = []) ∧ (s.dev.taskOf id.val = some tk) ∧ (tk.inputsOf 2 = []) ∧ (s.dev.prog.seen.cellHot = some h)) ∧
      (∃ (s : State) (id : Fin 512) (u : Nat) (tk : Task), (s.dev.sys.cdReset = false) ∧ (s.dev.prog.changes = []) ∧ (s.dev.taskOf id.val =
      some tk) ∧ (s.dev.paramOn 0x40 = true) ∧ (s.dev.input .support (some (2, 62)) = (u, true)) ∧ ((tk.inputsOf 2).contains (2, 62) =
      true) ∧ (fpLe 0x3B79096C (fDiv (s.dev.pairVoltage 62 u) (s.dev.param 0x42)) = true) ∧ (fpLe (fDiv (s.dev.pairVoltage 62 u)
      (s.dev.param 0x42)) 0x3CA7EF9E = true)) ∧ (∃ (s : State) (id : Fin 512) (u : Nat) (tk : Task), (s.dev.sys.cdReset = false) ∧
      (s.dev.prog.changes = []) ∧ (s.dev.taskOf id.val = some tk) ∧ (s.dev.paramOn 0x40 = true) ∧ (s.dev.input .support (some (2, 62)) =
      (u, true)) ∧ ((tk.inputsOf 2).contains (2, 62) = true) ∧ (fpLe 0x3B6BEDFA (fDiv (s.dev.pairVoltage 62 u) (s.dev.param 0x42)) = false)
      ∧ (fpLe 0x3B79096C (fDiv (s.dev.pairVoltage 62 u) (s.dev.param 0x42)) = false) ∧ (s.dev.prog.permitOut = true) ∧ (s.dev.lasted (some
      s.dev.prog.permitFrom) (s.dev.param 0x46) = true)) ∧ (∃ (s : State) (id : Fin 512) (tk : Task), (s.dev.sys.cdReset = false) ∧
      (s.dev.prog.changes = []) ∧ (s.dev.taskOf id.val = some tk) ∧ (fpEq (s.dev.param 0x40) 0 = true) ∧ (s.dev.paramOn 0x40 = false) ∧
      (s.dev.paramOn 0x80 = false) ∧ (s.dev.paramOn 0x70 = true) ∧ (fpLt (fAdd (s.dev.param 0xC0) (s.dev.param 0x71))
      s.dev.prog.seen.grid.f = true)) ∧ (∃ (s : State) (id : Fin 512) (tk : Task), (s.dev.sys.cdReset = false) ∧ (s.dev.prog.changes = [])
      ∧ (s.dev.taskOf id.val = some tk) ∧ (fpEq (s.dev.param 0x40) 0 = true) ∧ (s.dev.paramOn 0x40 = false) ∧ (s.dev.paramOn 0x80 = true))
      ∧ (∃ (s : State) (id : Fin 512) (n : Nat) (tk : Task), (s.dev.sys.cdReset = false) ∧ (s.dev.prog.changes = []) ∧ (s.dev.taskOf id.val
      = some tk) ∧ (tk.inputsOf 3 = [(3, n)]) ∧ (s.dev.itemFresh .cells (3, n) = true)) ∧ (∃ (s : State) (id : Fin 512) (n : Nat) (tk :
      Task), (s.dev.sys.cdReset = false) ∧ (s.dev.prog.changes = []) ∧ (s.dev.taskOf id.val = some tk) ∧ (tk.inputsOf 3 = [(3, n)]) ∧
      (s.dev.itemFresh .cells (3, n) = false)) ∧ (∃ (s : State) (id : Fin 512) (tk : Task), (s.dev.sys.cdReset = false) ∧
      (s.dev.prog.changes = []) ∧ (s.dev.taskOf id.val = some tk) ∧ (tk.rate = 0) ∧ (tk.inputsOf 3 = []) ∧ (s.dev.seenBit 27 = true) ∧
      (s.dev.prog.stop.causes = []) ∧ (s.dev.prog.stop.ramp = false) ∧ (s.dev.prog.mod.out = [])) ∧ (∃ (s : State) (id : Fin 512) (tk :
      Task), (s.dev.sys.cdReset = false) ∧ (s.dev.prog.changes = []) ∧ (s.dev.taskOf id.val = some tk) ∧ (tk.rate = 0) ∧ (tk.inputsOf 3 =
      []) ∧ (s.dev.seenBit 27 = false) ∧ (s.dev.prog.stop.causes = []) ∧ (s.dev.prog.seen.stop.causes = []) ∧ (s.dev.prog.stop.ramp =
      false) ∧ (s.dev.prog.mod.out = []) ∧ (s.dev.prog.mod.running = true)) ∧ (∃ (s : State) (id : Fin 512), (s.dev.sys.cdReset = false) ∧
      (s.dev.prog.changes = []) ∧ (s.dev.taskOf id.val = none)) ∧ (∃ (s : State), (s.dev.sys.cdReset = false) ∧ (s.dev.prog.changes = []) ∧
      (s.dev.on .SAF_PGCFG_EN = false)) ∧ (∃ (s : State), (s.dev.sys.cdReset = false) ∧ (s.dev.prog.changes = []) ∧ (∀ k, k < 512 →
      s.dev.onAt .NODE_LCFG_EN k = false) ∧ (s.dev.prog.seen.tag ≠ 7)) ∧ (∃ (s : State) (n : Nat), (s.dev.sys.cdReset = false) ∧
      (s.dev.prog.changes = []) ∧ ((List.range 512).flatMap s.dev.landingNodes = [n]) ∧ (Dev.optimiserFresh s.mem s.dev n = true) ∧
      (s.dev.prog.seen.tag ≠ 7) ∧ (s.dev.prog.seen.curtail = false) ∧ ((s.dev.prog.scans.at {} n).phase ≠ 3)) :=
  ⟨⟨(((State.reset.live.w .TWIN_STAT_STATE 0 0).w .PWM_STAT_LEAD 0 1).dv fun d => d.setQueue 15 {}).dv fun d =>
    { d with fm := { d.fm with booted := true } }, 1, by decide⟩, ⟨(((State.reset.live.w .TWIN_STAT_STATE 0 0).w .PWM_STAT_LEAD 0 1).dv fun
    d => d.setQueue 15 {}).dv fun d => { d with fm := { d.fm with booted := true } }, 2, 100000, by decide⟩, ⟨State.reset.dv fun d =>
    { d with fm := { d.fm with booted := false } }, by decide⟩, ⟨(((State.reset.live.w .TIDE_PERIOD_ACT 0 4000).w .TIDE_CNTLO 0
    0x80000000).w .TIDE_CNTHI 0 0).dv fun d => { d with prog := { d.prog with permitAt := 0, params := [(0x40, 0x40000000)] } }, by
    decide⟩, ⟨State.reset.live.dv fun d => { d with prog := { d.prog with params := [(0x40, 0)] } }, by decide⟩, ⟨(((State.reset.live.w
    .TIDE_PERIOD_ACT 0 4000).w .TIDE_CNTLO 0 0x80000000).w .TIDE_CNTHI 0 0).dv fun d =>
    { d with prog := { d.prog with permitFrom := 0, permitOut := true, params := [(0x40, 0x40000000)] } }, by decide⟩, ⟨State.reset.live.dv
    fun d => { d with prog := { d.prog with permitOut := false } }, by decide⟩, ⟨(((State.reset.live.w .TIDE_PERIOD_ACT 0 4000).w
    .TIDE_CNTLO 0 0x80000000).w .TIDE_CNTHI 0 0).dv fun d => { d with prog := { d.prog with coolAt := 0, coolTerm := none } }, by decide⟩,
    ⟨(((State.reset.live.w .TIDE_PERIOD_ACT 0 4000).w .TIDE_CNTLO 0 9).w .TIDE_CNTHI 0 0).dv fun d =>
    { d with prog := { d.prog with coolAt := 9 } }, by decide⟩, ⟨(((State.reset.live.w .TIDE_PERIOD_ACT 0 4000).w .TIDE_CNTLO 0
    0x80000000).w .TIDE_CNTHI 0 0).dv fun d => { d with prog := { d.prog with coolFrom := 0, coolTerm := some (1, 2), stop := {} } }, by
    decide⟩, ⟨State.reset.live.dv fun d => { d with prog := { d.prog with coolTerm := none } }, by decide⟩, ⟨(((State.reset.live.w
    .TIDE_PERIOD_ACT 0 4000).w .TIDE_CNTLO 0 0x80000000).w .TIDE_CNTHI 0 0).dv fun d =>
    { d with prog := { d.prog with hostAt := 0, host := some 5 } }, by decide⟩, ⟨State.reset.live.dv fun d =>
    { d with prog := { d.prog with host := none } }, by decide⟩, ⟨State.reset.live.dv fun d =>
    { d with prog := { d.prog with stop := {}, comp := { curtail := true, ovpN := 99 }, params := [(0xA1, 0x41200000)] } }, by decide⟩,
    ⟨State.reset.live.dv fun d => { d with prog := { d.prog with comp := {} } }, by decide⟩, ⟨(((State.reset.live.w .PWM_CTRL_ARM 0 1).w
    .PWM_STAT_LEAD 0 1).w .LEG_STAT_STATE (0) 1).dv fun d =>
    { d with prog := { d.prog with stop := {}, coolTerm := none, permitOut := false, rates := [], losses := [.phaseCurrent], holds := [(0, 300)], mod := { out := [1, 2, 3] }, params := [(0xA0, 0x40000000), (0xA1, 0x41200000), (0xA2, 0x40000000), (0xA4, 0x437F0000)] } },
    by decide⟩, ⟨(((State.reset.live.w .PWM_CTRL_ARM 0 1).w .PWM_STAT_LEAD 0 1).w .LEG_STAT_STATE (0) 1).dv fun d =>
    { d with prog := { d.prog with stop := {}, coolTerm := none, permitOut := false, rates := [], losses := [.phaseCurrents], holds := [(0, 300)], mod := { out := [1, 2, 3] }, params := [(0xA0, 0x40000000), (0xA1, 0x41200000), (0xA2, 0x40000000), (0xA4, 0x437F0000)] } },
    by decide⟩, ⟨(((State.reset.live.w .PWM_CTRL_ARM 0 1).w .PWM_STAT_LEAD 0 1).w .LEG_STAT_STATE (0) 1).dv fun d =>
    { d with prog := { d.prog with stop := {}, coolTerm := none, permitOut := false, rates := [], losses := [.dcLink], holds := [(0, 300)], mod := { out := [1, 2, 3] }, params := [(0xA0, 0x40000000), (0xA1, 0x41200000), (0xA2, 0x40000000), (0xA4, 0x437F0000)] } },
    by decide⟩, ⟨(((State.reset.live.w .PWM_CTRL_ARM 0 1).w .PWM_STAT_LEAD 0 1).w .LEG_STAT_STATE (0) 1).dv fun d =>
    { d with prog := { d.prog with stop := {}, coolTerm := none, permitOut := false, rates := [], losses := [.gridVoltage], holds := [(0, 300)], mod := { out := [1, 2, 3] }, params := [(0xA0, 0x40000000), (0xA1, 0x41200000), (0xA2, 0x40000000), (0xA4, 0x437F0000)] } },
    by decide⟩, ⟨(((State.reset.live.w .PWM_CTRL_ARM 0 1).w .PWM_STAT_LEAD 0 1).w .LEG_STAT_STATE (0) 1).dv fun d =>
    { d with prog := { d.prog with stop := {}, coolTerm := none, permitOut := false, rates := [], losses := [.permit], holds := [(9, 300)], mod := { out := [1, 2, 3] }, params := [(0xA0, 0x40000000), (0xA1, 0x41200000), (0xA2, 0x40000000), (0xA4, 0x437F0000)] } },
    by decide⟩, ⟨(((State.reset.live.w .PWM_CTRL_ARM 0 1).w .PWM_STAT_LEAD 0 1).w .LEG_STAT_STATE (0) 1).dv fun d =>
    { d with prog := { d.prog with stop := {}, coolTerm := none, permitOut := false, rates := [], losses := [.temperature], holds := [(8, 300)], mod := { out := [1, 2, 3] }, params := [(0xA0, 0x40000000), (0xA1, 0x41200000), (0xA2, 0x40000000), (0xA4, 0x437F0000)] } },
    by decide⟩, ⟨(((State.reset.live.w .PWM_CTRL_ARM 0 1).w .PWM_STAT_LEAD 0 1).w .LEG_STAT_STATE (0) 1).dv fun d =>
    { d with prog := { d.prog with stop := {}, coolTerm := none, permitOut := false, rates := [], losses := [.cells], holds := [(1, 300)], mod := { out := [1, 2, 3] }, params := [(0xA0, 0x40000000), (0xA1, 0x41200000), (0xA2, 0x40000000), (0xA4, 0x437F0000)] } },
    by decide⟩, ⟨State.reset.live.w .PWM_CTRL_ARM 0 0, by decide⟩, ⟨((((State.reset.live.w .TIDE_PERIOD_ACT 0 4000).w .TIDE_CNTLO 0
    0x80000000).w .TIDE_CNTHI 0 0).dv fun d =>
    { d with tt := { d.tt with active := some { tasks := [{ sampleTask with outs := [{ cls := 8, count := 2, first := 22 }, { cls := 3, count := 1, first := 7 }] }] } } }).dv
    fun d =>
    { d with prog := { d.prog with mod := { task := some 5 }, cur := { rampFrom := some 0 }, stop := { causes := [5], ramp := true } } },
    by decide⟩, ⟨State.reset.live.dv fun d => { d with prog := { d.prog with stop := {} } }, by decide⟩, ⟨(fun (x : Task) =>
    ((((State.reset.live.w .TWIN_STAT_STATE 0 0).w .PWM_STAT_LEAD 0 1).dv fun d => d.setQueue 0 {}).dv fun d =>
    { d with tt := { d.tt with active := some { tasks := [x] } } }).dv fun d => { d with fm := { d.fm with booted := true } })
    (sampleTask), 5, sampleTask, by decide⟩, ⟨(fun (x : Task) => (((((State.reset.live.w .TWIN_STAT_STATE 0 0).w .PWM_STAT_LEAD 0 1).dv fun
    d => d.setQueue 0 {}).w .PWM_CTRL_ARM 0 1).dv fun d => { d with tt := { d.tt with active := some { tasks := [x] } } }).dv fun d =>
    { d with fm := { d.fm with booted := true } }) ({ sampleTask with outs := [{ cls := 8, count := 1, first := 0 }] }), 5,
    { sampleTask with outs := [{ cls := 8, count := 1, first := 0 }] }, by decide⟩, ⟨State.reset.live.dv fun d =>
    { d with tt := { d.tt with active := none } }, 5, by decide⟩, ⟨State.reset.dv fun d => { d with fm := { d.fm with booted := false } },
    by decide⟩, ⟨(fun (u : Nat) (tk : Task) => (((((((State.reset.live.w .TIDE_PERIOD_ACT 0 4000).w .TIDE_CNTLO 0 0x80000000).w .TIDE_CNTHI
    0 0).dv fun d => { d with tt := { d.tt with active := some { tasks := [tk] } } }).dv fun d =>
    { d with prog := { params := d.prog.params } }).dv fun d => { d with prog := { d.prog with changes := [] } }).dv fun d => d.setBoard 1
    3 u 7).dv fun d =>
    { d with prog := { d.prog with comp := { fromMeasured := false, pstar := 0x4B189680, trk := some 0x4B000000 }, seen := { therm := some 0x4B189680 }, params := [(0xEC, 0), (1, 0x4B895440), (4, 0x44BB8000)] } })
    (0x44BB8000) ({ sampleTask with ins := [{ cls := 1, first := 3, count := 1 }] }), 5, 0x44BB8000, 0x4B189680,
    { sampleTask with ins := [{ cls := 1, first := 3, count := 1 }] }, by decide⟩, ⟨(fun (u : Nat) (tk : Task) => (((((((State.reset.live.w
    .TIDE_PERIOD_ACT 0 4000).w .TIDE_CNTLO 0 0x80000000).w .TIDE_CNTHI 0 0).dv fun d =>
    { d with tt := { d.tt with active := some { tasks := [tk] } } }).dv fun d => { d with prog := { params := d.prog.params } }).dv fun d
    => { d with prog := { d.prog with changes := [] } }).dv fun d => d.setBoard 1 3 u 7).dv fun d =>
    { d with prog := { d.prog with permit := some fpNaN, host := some fpNaN, hostAt := 2 ^ 31, comp := { trk := some fpNaN, duf := fpNaN }, cur := { power := fpNaN }, seen := { therm := some fpNaN, permit := some fpNaN, fw := some fpNaN, vw := some fpNaN }, params := [(0xEC, 0), (0x40, 0x40000000)] } })
    (fpNaN) ({ sampleTask with ins := [{ cls := 1, first := 3, count := 1 }] }), 5, fpNaN, fpNaN,
    { sampleTask with ins := [{ cls := 1, first := 3, count := 1 }] }, by decide⟩, ⟨(fun (u : Nat) (tk : Task) => (((((((State.reset.live.w
    .TIDE_PERIOD_ACT 0 4000).w .TIDE_CNTLO 0 0x80000000).w .TIDE_CNTHI 0 0).dv fun d =>
    { d with tt := { d.tt with active := some { tasks := [tk] } } }).dv fun d => { d with prog := { params := d.prog.params } }).dv fun d
    => { d with prog := { d.prog with changes := [] } }).dv fun d => d.setBoard 1 3 u 7).dv fun d =>
    { d with prog := { d.prog with seen := { tag := 2, pstar := 0x49000000 }, params := [(4, 0x44BB8000), (0x20, 0x3F800000), (0x21, 0x47C35000)] } })
    (0x44BB8000) ({ sampleTask with ins := [{ cls := 1, first := 3, count := 1 }] }), 5, 0x44BB8000,
    { sampleTask with ins := [{ cls := 1, first := 3, count := 1 }] }, by decide⟩, ⟨(fun (u : Nat) (tk : Task) => (((((((State.reset.live.w
    .TIDE_PERIOD_ACT 0 4000).w .TIDE_CNTLO 0 0x80000000).w .TIDE_CNTHI 0 0).dv fun d =>
    { d with tt := { d.tt with active := some { tasks := [tk] } } }).dv fun d => { d with prog := { params := d.prog.params } }).dv fun d
    => { d with prog := { d.prog with changes := [] } }).dv fun d => d.setBoard 1 3 u 7).dv fun d =>
    { d with prog := { d.prog with seen := { tag := 7, pstar := 0x49000000 }, params := [(4, 0x44BB8000), (0x20, 0x3F800000), (0x21, 0x47C35000)] } })
    (0x44BB8000) ({ sampleTask with ins := [{ cls := 1, first := 3, count := 1 }] }), 5, 0x44BB8000,
    { sampleTask with ins := [{ cls := 1, first := 3, count := 1 }] }, by decide⟩, ⟨(fun (h : Nat) (tk : Task) => ((((((State.reset.live.w
    .TIDE_PERIOD_ACT 0 4000).w .TIDE_CNTLO 0 0x80000000).w .TIDE_CNTHI 0 0).dv fun d =>
    { d with tt := { d.tt with active := some { tasks := [tk] } } }).dv fun d => { d with prog := { params := d.prog.params } }).dv fun d
    => { d with prog := { d.prog with changes := [] } }).dv fun d =>
    { d with prog := { d.prog with coolAt := 2 ^ 31, seen := { cellHot := some h } } }) (0x42700000) (sampleTask), 5, 0x42700000,
    sampleTask, by decide⟩, ⟨(fun (u : Nat) (tk : Task) => ((((((((State.reset.live.w .TIDE_PERIOD_ACT 0 4000).w .TIDE_CNTLO 0
    0x80000000).w .TIDE_CNTHI 0 0).dv fun d => { d with tt := { d.tt with active := some { tasks := [tk] } } }).dv fun d =>
    { d with prog := { params := d.prog.params } }).dv fun d => { d with prog := { d.prog with changes := [] } }).w .ADC_CFG_ALIGN (62)
    0).dv fun d => d.setBoard 2 62 u 7).dv fun d => { d with prog := { d.prog with params := [(0x40, 0x3F800000), (0x70, 0)] } }) (10922)
    ({ sampleTask with rate := 4, ins := [{ cls := 2, first := 62, count := 1 }] }), 5, 10922,
    { sampleTask with rate := 4, ins := [{ cls := 2, first := 62, count := 1 }] }, by decide⟩, ⟨(fun (u : Nat) (tk : Task) =>
    ((((((((State.reset.live.w .TIDE_PERIOD_ACT 0 4000).w .TIDE_CNTLO 0 0x80000000).w .TIDE_CNTHI 0 0).dv fun d =>
    { d with tt := { d.tt with active := some { tasks := [tk] } } }).dv fun d => { d with prog := { params := d.prog.params } }).dv fun d
    => { d with prog := { d.prog with changes := [] } }).w .ADC_CFG_ALIGN (62) 0).dv fun d => d.setBoard 2 62 u 7).dv fun d =>
    { d with prog := { d.prog with permitOut := true, permitFrom := 0, params := [(0x40, 0x3F800000), (0x70, 0)] } }) (0)
    ({ sampleTask with rate := 4, ins := [{ cls := 2, first := 62, count := 1 }] }), 5, 0,
    { sampleTask with rate := 4, ins := [{ cls := 2, first := 62, count := 1 }] }, by decide⟩, ⟨(fun (tk : Task) =>
    ((((((State.reset.live.w .TIDE_PERIOD_ACT 0 4000).w .TIDE_CNTLO 0 0x80000000).w .TIDE_CNTHI 0 0).dv fun d =>
    { d with tt := { d.tt with active := some { tasks := [tk] } } }).dv fun d => { d with prog := { params := d.prog.params } }).dv fun d
    => { d with prog := { d.prog with changes := [] } }).dv fun d =>
    { d with prog := { d.prog with params := [(1, 0x4B895440)], seen := { grid := { f := 0x424C0000 }, pstar := 0x4B000000 } } })
    ({ sampleTask with rate := 4, ins := [{ cls := 2, first := 62, count := 1 }] }), 5,
    { sampleTask with rate := 4, ins := [{ cls := 2, first := 62, count := 1 }] }, by decide⟩, ⟨(fun (tk : Task) =>
    ((((((State.reset.live.w .TIDE_PERIOD_ACT 0 4000).w .TIDE_CNTLO 0 0x80000000).w .TIDE_CNTHI 0 0).dv fun d =>
    { d with tt := { d.tt with active := some { tasks := [tk] } } }).dv fun d => { d with prog := { params := d.prog.params } }).dv fun d
    => { d with prog := { d.prog with changes := [] } }).dv fun d =>
    { d with prog := { d.prog with params := [(1, 0x4B895440), (0x80, 0x3F800000)], seen := { grid := { vmax := 0x3F8A3D71 } } } })
    ({ sampleTask with rate := 4, ins := [{ cls := 2, first := 62, count := 1 }] }), 5,
    { sampleTask with rate := 4, ins := [{ cls := 2, first := 62, count := 1 }] }, by decide⟩, ⟨(fun (n : Nat) (tk : Task) =>
    (((((((State.reset.live.w .TIDE_PERIOD_ACT 0 4000).w .TIDE_CNTLO 0 0x80000000).w .TIDE_CNTHI 0 0).dv fun d =>
    { d with tt := { d.tt with active := some { tasks := [tk] } } }).dv fun d => { d with prog := { params := d.prog.params } }).dv fun d
    => { d with prog := { d.prog with changes := [] } }).dv fun d => d.setBoard 3 n 0xFF9 7).dv fun d =>
    { d with prog := { d.prog with params := [(0x53, 0)] } }) (1499)
    ({ sampleTask with ins := [{ cls := 3, first := 1499, count := 1 }] }), 5, 1499,
    { sampleTask with ins := [{ cls := 3, first := 1499, count := 1 }] }, by decide⟩, ⟨(fun (n : Nat) (tk : Task) =>
    ((((((State.reset.live.w .TIDE_PERIOD_ACT 0 4000).w .TIDE_CNTLO 0 0x80000000).w .TIDE_CNTHI 0 0).dv fun d =>
    { d with tt := { d.tt with active := some { tasks := [tk] } } }).dv fun d => { d with prog := { params := d.prog.params } }).dv fun d
    => { d with prog := { d.prog with changes := [] } }).dv fun d => d.setBoard 3 n (2 ^ 48) 0) (0)
    ({ sampleTask with ins := [{ cls := 3, first := 0, count := 1 }] }), 5, 0,
    { sampleTask with ins := [{ cls := 3, first := 0, count := 1 }] }, by decide⟩, ⟨(fun (tk : Task) => ((((((State.reset.live.w
    .TIDE_PERIOD_ACT 0 4000).w .TIDE_CNTLO 0 0x80000000).w .TIDE_CNTHI 0 0).dv fun d =>
    { d with tt := { d.tt with active := some { tasks := [tk] } } }).dv fun d => { d with prog := { params := d.prog.params } }).dv fun d
    => { d with prog := { d.prog with changes := [] } }).dv fun d =>
    { d with prog := { d.prog with mod := { running := true }, seen := { word := 2 ^ 27 } } })
    ({ sampleTask with outs := [{ cls := 8, count := 2, first := 0 }, { cls := 3, count := 1, first := 1499 }] }), 5,
    { sampleTask with outs := [{ cls := 8, count := 2, first := 0 }, { cls := 3, count := 1, first := 1499 }] }, by decide⟩, ⟨(fun (tk :
    Task) => ((((((State.reset.live.w .TIDE_PERIOD_ACT 0 4000).w .TIDE_CNTLO 0 0x80000000).w .TIDE_CNTHI 0 0).dv fun d =>
    { d with tt := { d.tt with active := some { tasks := [tk] } } }).dv fun d => { d with prog := { params := d.prog.params } }).dv fun d
    => { d with prog := { d.prog with changes := [] } }).dv fun d => { d with prog := { d.prog with mod := { running := true } } })
    ({ sampleTask with outs := [{ cls := 8, count := 2, first := 0 }, { cls := 3, count := 1, first := 1499 }] }), 5,
    { sampleTask with outs := [{ cls := 8, count := 2, first := 0 }, { cls := 3, count := 1, first := 1499 }] }, by decide⟩,
    ⟨(State.reset.live.dv fun d => { d with tt := { d.tt with active := none } }).dv fun d =>
    { d with prog := { d.prog with changes := [] } }, 5, by decide⟩, ⟨(State.reset.live.w .SAF_PGCFG_EN 0 0).dv fun d =>
    { d with prog := { d.prog with changes := [] } }, by decide⟩, ⟨(State.reset.live.dv fun d =>
    { d with regs := d.regs.filter fun r => r.1.1.blk ≠ .NODE }).dv fun d => { d with prog := { d.prog with changes := [], seen := {} } },
    by decide⟩, ⟨(fun (n : Nat) => (fun (x : State) =>
    { x with mem := memPut (memPut x.mem (berthSram + 0x2B) [0x10, 1]) (berthSram + 0x54) [0, 0, 0x80, 0x3F] }) ((((((((State.reset.live.dv
    fun d => { d with regs := d.regs.filter fun r => r.1.1.blk ≠ .NODE }).w .NODE_LCFG_EN (0) 1).w .NODE_LCFG_COUNT (0) 1).w
    .NODE_LBASE_BASE (0) n).w .NODE_RNDLO 0 9).dv fun d =>
    { d with prog := { d.prog with changes := [], scans := [], seen := { tag := 2 } } }).dv fun d =>
    { d with node := { d.node with accepted := [(n, 9)] } }).dv fun d =>
    { d with pager := { d.pager with lines := [(n, { berth := 0, res := true })] } })) (5000), 5000, by decide⟩⟩

/-- States and operands that meet the hypotheses of each clause of `Obligations.GridProgramCommands` that has some. -/
theorem witness_gridProgramCommands :
    (∃ (s : State), (s.dev.sys.cdReset = false) ∧ (s.dev.prog.sync = .searching) ∧ (s.dev.lasted s.dev.prog.pll.lockFrom (s.dev.param 0xC3)
      = true)) ∧ (∃ (s : State), (s.dev.sys.cdReset = false) ∧ (s.dev.prog.sync ≠ .searching)) ∧ (∃ (s : State), (s.dev.sys.cdReset =
      false) ∧ (s.dev.prog.sync = .locked) ∧ (fpLt s.dev.prog.grid.v1 (s.dev.param 0xC2) = true ∨ s.dev.prog.pll.lost = true)) ∧ (∃ (s :
      State), (s.dev.sys.cdReset = false) ∧ (s.dev.prog.sync ≠ .locked)) ∧ (∃ (s : State), (s.dev.sys.cdReset = false) ∧ (s.dev.prog.sync =
      .free) ∧ (s.dev.lockVoltage = true) ∧ (s.dev.prog.pll.lost = false)) ∧ (∃ (s : State), (s.dev.sys.cdReset = false) ∧ (s.dev.prog.sync
      ≠ .free)) ∧ (∃ (s : State), (s.dev.sys.cdReset = false) ∧ (s.dev.prog.sync = .free) ∧ (s.dev.lasted s.dev.prog.pll.freeFrom
      0x40000000 = true)) ∧ (∃ (s : State), (s.dev.sys.cdReset = false) ∧ (s.dev.prog.sync ≠ .free ∨ s.dev.lasted s.dev.prog.pll.freeFrom
      0x40000000 = false)) ∧ (∃ (s : State), (s.dev.sys.cdReset = false) ∧ (s.dev.paramNat 0xD6 ≤ s.dev.prog.cur.entN) ∧ (s.dev.prog.ride =
      false)) ∧ (∃ (s : State), (s.dev.sys.cdReset = false) ∧ (s.dev.prog.cur.entN < s.dev.paramNat 0xD6 ∨ s.dev.prog.ride = true)) ∧ (∃ (s
      : State), (s.dev.sys.cdReset = false) ∧ (s.dev.prog.tu = true) ∧ (fpLe (s.dev.param 0xD7) (s.dev.seconds s.dev.prog.watch.tuOff) =
      true)) ∧ (∃ (s : State), (s.dev.sys.cdReset = false) ∧ (s.dev.prog.tov = true) ∧ (fpLe (s.dev.param 0xD7) (s.dev.seconds
      s.dev.prog.watch.tovOff) = true)) ∧ (∃ (s : State) (exceed : Bool), (s.dev.sys.cdReset = false) ∧ ((if exceed then s.dev.prog.tov
      else s.dev.prog.tu) = false ∨ fpLe (s.dev.param 0xD7) (s.dev.seconds (if exceed then s.dev.prog.watch.tovOff else
      s.dev.prog.watch.tuOff)) = false)) ∧ (∃ (s : State) (element : Fin 4), (s.dev.sys.cdReset = false) ∧ (s.dev.freqDue element.val =
      true)) ∧ (∃ (s : State) (element : Fin 4), (s.dev.sys.cdReset = false) ∧ (s.dev.freqDue element.val = false)) ∧ (∃ (s : State),
      (s.dev.sys.cdReset = false) ∧ (s.dev.mayPerturb = true) ∧ (s.dev.perturbDue = true) ∧ (s.dev.prog.pwin = false)) ∧ (∃ (s : State),
      (s.dev.sys.cdReset = false) ∧ (s.dev.mayPerturb = false ∨ s.dev.perturbDue = false ∨ s.dev.prog.pwin = true)) ∧ (∃ (s : State),
      (s.dev.sys.cdReset = false) ∧ (s.dev.prog.pwin = true) ∧ (s.dev.lasted s.dev.prog.pll.winAt (fDiv (s.dev.param 0xF2) 0x447A0000) =
      true) ∧ (s.dev.perturbPositive = false)) ∧ (∃ (s : State), (s.dev.sys.cdReset = false) ∧ (s.dev.prog.pwin = true) ∧ (s.dev.lasted
      s.dev.prog.pll.winAt (fDiv (s.dev.param 0xF2) 0x447A0000) = true) ∧ (s.dev.perturbPositive = true)) ∧ (∃ (s : State),
      (s.dev.sys.cdReset = false) ∧ (s.dev.prog.pwin = false)) ∧ (∃ (s : State) (n : Nat), (s.dev.nextWindow = some n) ∧ (s.dev.paramOn
      0xF9 = true) ∧ (s.dev.on .ETH_PTPCTL_LOCKED = true) ∧ (s.dev.pushCode 0 = 1) ∧ (s.dev.fm.booted = true)) ∧ (∃ (s : State),
      (s.dev.nextWindow = none ∨ s.dev.paramOn 0xF9 = false ∨ s.dev.on .ETH_PTPCTL_LOCKED = false)) ∧ (∃ (s : State), (s.dev.fm.booted =
      false)) ∧ (∃ (s : State), (s.dev.sys.cdReset = false) ∧ (s.dev.prog.trip ≠ 0 ∨ s.dev.prog.starting = true) ∧ (s.dev.paramOn 0xB7 =
      true) ∧ (s.dev.gridGood = true) ∧ (s.dev.lasted s.dev.prog.pll.rcFrom (s.dev.param 0xB1) = true) ∧ (s.dev.prog.stop.causes = [])) ∧
      (∃ (s : State), (s.dev.sys.cdReset = false) ∧ (s.dev.gridGood = false ∨ s.dev.paramOn 0xB7 = false ∨ s.dev.lasted
      s.dev.prog.pll.rcFrom (s.dev.param 0xB1) = false)) ∧ (∃ (s : State), (s.dev.sys.cdReset = false) ∧ (s.dev.prog.enter = true) ∧
      (s.dev.lasted (some s.dev.prog.pll.enterAt) (s.dev.param 0xB6) = true)) ∧ (∃ (s : State), (s.dev.sys.cdReset = false) ∧
      (s.dev.prog.enter = false ∨ s.dev.lasted (some s.dev.prog.pll.enterAt) (s.dev.param 0xB6) = false)) ∧ (∃ (s : State) (id : Fin 512)
      (va : Nat) (vb : Nat) (vc : Nat) (tk : Task), (s.dev.sys.cdReset = false) ∧ (s.dev.prog.changes = []) ∧ (s.dev.taskOf id.val = some
      tk) ∧ (s.dev.input .sync (tk.input 0 0) = (va, true)) ∧ (s.dev.input .sync (tk.input 0 1) = (vb, true)) ∧ (s.dev.input .sync
      (tk.input 0 2) = (vc, true))) ∧ (∃ (s : State) (id : Fin 512) (va : Nat) (vb : Nat) (vc : Nat) (k : Nat) (tk : Task),
      (s.dev.sys.cdReset = false) ∧ (s.dev.prog.changes = []) ∧ (s.dev.taskOf id.val = some tk) ∧ (s.dev.input .sync (tk.input 0 0) = (va,
      true)) ∧ (s.dev.input .sync (tk.input 0 1) = (vb, true)) ∧ (s.dev.input .sync (tk.input 0 2) = (vc, true)) ∧ (s.dev.prog.watch.causes
      = [k]) ∧ (s.dev.prog.trip = 0)) ∧ (∃ (s : State) (id : Fin 512) (tk : Task), (s.dev.sys.cdReset = false) ∧ (s.dev.prog.changes = [])
      ∧ (s.dev.taskOf id.val = some tk) ∧ (s.dev.prog.sync = .locked) ∧ ((s.dev.input .sync (tk.input 0 0)).2 = false)) ∧ (∃ (s : State)
      (id : Fin 512) (tk : Task), (s.dev.sys.cdReset = false) ∧ (s.dev.prog.changes = []) ∧ (s.dev.taskOf id.val = some tk) ∧
      (s.dev.prog.tu = true) ∧ (fpLt s.dev.prog.grid.vmin (s.dev.param 0xD4) = true) ∧ (fpLt s.dev.prog.grid.vmin (s.dev.look 4
      (s.dev.seconds (s.dev.prog.tuT + 2 ^ tk.rate))) = true) ∧ (fpLe (s.dev.param 0xD7) (s.dev.seconds 0) = false)) ∧ (∃ (s : State) (id :
      Fin 512) (tk : Task), (s.dev.sys.cdReset = false) ∧ (s.dev.prog.changes = []) ∧ (s.dev.taskOf id.val = some tk) ∧ (s.dev.prog.tu =
      false) ∧ (fpLt s.dev.prog.grid.vmin (s.dev.param 0xD4) = true) ∧ (fpLe (s.dev.param 0xD7) (s.dev.seconds 0) = false)) ∧ (∃ (s :
      State) (id : Fin 512) (tk : Task), (s.dev.sys.cdReset = false) ∧ (s.dev.prog.changes = []) ∧ (s.dev.taskOf id.val = some tk) ∧
      (s.dev.prog.tu = false) ∧ (s.dev.prog.tov = false) ∧ (fpLt s.dev.prog.grid.vmin (s.dev.param 0xD4) = false) ∧ (fpLt (s.dev.param
      0xD5) s.dev.prog.grid.vmax = false)) ∧ (∃ (s : State) (id : Fin 512) (tk : Task), (s.dev.sys.cdReset = false) ∧ (s.dev.prog.changes =
      []) ∧ (s.dev.taskOf id.val = some tk) ∧ (s.dev.passiveBlocked = true)) ∧ (∃ (s : State) (id : Fin 512) (tk : Task),
      (s.dev.sys.cdReset = false) ∧ (s.dev.prog.changes = []) ∧ (s.dev.taskOf id.val = some tk) ∧ (s.dev.passiveBlocked = false) ∧
      (s.dev.paramOn 0xFA = true) ∧ (fpLt (s.dev.param 0xFB) (fpAbs s.dev.prog.grid.rocof) = true) ∧ (2 ≤ s.dev.prog.watch.rocN)) ∧ (∃ (s :
      State) (id : Fin 512) (o : Nat) (tk : Task), (s.dev.sys.cdReset = false) ∧ (s.dev.prog.changes = []) ∧ (s.dev.taskOf id.val = some
      tk) ∧ (s.dev.passiveBlocked = false) ∧ (s.dev.paramOn 0xFA = false) ∧ (s.dev.paramOn 0xFD = true) ∧ (s.dev.prog.watch.delta[(fpInt
      (fDiv (fDiv 0x3F800000 (s.dev.param 0xC0)) (s.dev.seconds (2 ^ tk.rate)))).toNat - 1]? = some o) ∧ (fpLt (s.dev.param 0xFE) (fMul
      (fpRat ((toSigned 32 (atanTurn s.dev.prog.grid.uq s.dev.prog.grid.ud + 2 ^ 32 - o)).natAbs) (2 ^ 32)) 0x43B40000) = true)) ∧ (∃ (s :
      State) (id : Fin 512) (ia : Nat) (ib : Nat) (ic : Nat) (u : Nat) (va : Nat) (vb : Nat) (vc : Nat) (tk : Task), (s.dev.sys.cdReset =
      false) ∧ (s.dev.prog.changes = []) ∧ (s.dev.taskOf id.val = some tk) ∧ (tk.rate = 0) ∧ ((currentInputs tk).map (s.dev.input .current)
      = [(ia, true), (ib, true), (ic, true), (u, true), (va, true), (vb, true), (vc, true)]) ∧ (s.dev.seenBit 27 = true ∨ s.dev.seenBit 31
      = false)) ∧ (∃ (s : State) (id : Fin 512) (ia : Nat) (ib : Nat) (ic : Nat) (u : Nat) (va : Nat) (vb : Nat) (vc : Nat) (tk : Task),
      (s.dev.sys.cdReset = false) ∧ (s.dev.prog.changes = []) ∧ (s.dev.taskOf id.val = some tk) ∧ (tk.rate = 0) ∧ ((currentInputs tk).map
      (s.dev.input .current) = [(ia, true), (ib, true), (ic, true), (u, true), (va, true), (vb, true), (vc, true)]) ∧ (s.dev.prog.ride =
      false) ∧ (fpLt (s.dev.vfast (clarkeOf va vb vc)) (s.dev.param 0xD4) = true) ∧ (s.dev.paramNat 0xD6 ≤ satAdd 255 s.dev.prog.cur.entN
      1)) ∧ (∃ (s : State) (id : Fin 512) (ia : Nat) (ib : Nat) (ic : Nat) (u : Nat) (va : Nat) (vb : Nat) (vc : Nat) (tk : Task),
      (s.dev.sys.cdReset = false) ∧ (s.dev.prog.changes = []) ∧ (s.dev.taskOf id.val = some tk) ∧ (tk.rate = 0) ∧ ((currentInputs tk).map
      (s.dev.input .current) = [(ia, true), (ib, true), (ic, true), (u, true), (va, true), (vb, true), (vc, true)]) ∧ (fpLt
      s.dev.prog.seen.grid.vmin (s.dev.param 0xD8) = true)) ∧ (∃ (s : State) (id : Fin 512) (ia : Nat) (ib : Nat) (ic : Nat) (u : Nat) (va
      : Nat) (vb : Nat) (vc : Nat) (n : Nat) (tk : Task), (s.dev.sys.cdReset = false) ∧ (s.dev.prog.changes = []) ∧ (s.dev.taskOf id.val =
      some tk) ∧ (tk.rate = 0) ∧ ((currentInputs tk).map (s.dev.input .current) = [(ia, true), (ib, true), (ic, true), (u, true), (va,
      true), (vb, true), (vc, true)]) ∧ (s.dev.seenBit 27 = false) ∧ (s.dev.seenBit 29 = false) ∧ (s.dev.seenBit 31 = true) ∧
      (s.dev.prog.ride = false) ∧ (s.dev.prog.mc = false) ∧ (s.dev.prog.cur.exit = none) ∧ (s.dev.prog.cur.mcEnd = none) ∧
      (s.dev.prog.seen.stop.causes = []) ∧ (s.dev.prog.seen.stop.ramp = false) ∧ (s.dev.paramOn 0xB8 = false) ∧ (fpLt (s.dev.vfast
      (clarkeOf va vb vc)) (s.dev.param 0xD4) = false) ∧ (fpLt (s.dev.param 0xD5) (s.dev.vfast (clarkeOf va vb vc)) = false) ∧ (1 ≤
      s.dev.paramNat 0xD6) ∧ (fpLt s.dev.prog.seen.grid.vmin (s.dev.param 0xD8) = false) ∧ (fpLt (s.dev.param 0xDA)
      s.dev.prog.seen.grid.vmax = false) ∧ (n = (s.dev.prog.seen.grid.theta + turnsOf (fMul s.dev.prog.seen.grid.f (s.dev.seconds 1)) +
      s.dev.prog.seen.grid.thd) % 2 ^ 32)) :=
  ⟨⟨(((State.reset.live.w .TIDE_PERIOD_ACT 0 4000).w .TIDE_CNTLO 0 0x80000000).w .TIDE_CNTHI 0 0).dv fun d =>
    { d with prog := { d.prog with sync := .searching, pll := { lockFrom := some 0 } } }, by decide⟩, ⟨State.reset.live.dv fun d =>
    { d with prog := { d.prog with sync := .locked } }, by decide⟩, ⟨(((State.reset.live.w .TIDE_PERIOD_ACT 0 4000).w .TIDE_CNTLO 0
    0x80000000).w .TIDE_CNTHI 0 0).dv fun d => { d with prog := { d.prog with sync := .locked, pll := { lost := true } } }, by decide⟩,
    ⟨State.reset.live.dv fun d => { d with prog := { d.prog with sync := .free } }, by decide⟩, ⟨(((State.reset.live.w .TIDE_PERIOD_ACT 0
    4000).w .TIDE_CNTLO 0 0x80000000).w .TIDE_CNTHI 0 0).dv fun d =>
    { d with prog := { d.prog with sync := .free, pll := {}, grid := { v1 := 0x3F800000 } } }, by decide⟩, ⟨State.reset.live.dv fun d =>
    { d with prog := { d.prog with sync := .locked } }, by decide⟩, ⟨(((State.reset.live.w .TIDE_PERIOD_ACT 0 4000).w .TIDE_CNTLO 0
    0x80000000).w .TIDE_CNTHI 0 0).dv fun d => { d with prog := { d.prog with sync := .free, pll := { freeFrom := some 0 } } }, by decide⟩,
    ⟨State.reset.live.dv fun d => { d with prog := { d.prog with sync := .locked } }, by decide⟩, ⟨State.reset.live.dv fun d =>
    { d with prog := { d.prog with ride := false, pwin := true, cur := { entN := 8 }, params := [(0xD6, 0x41000000)] } }, by decide⟩,
    ⟨State.reset.live.dv fun d => { d with prog := { d.prog with ride := true } }, by decide⟩, ⟨(((State.reset.live.w .TIDE_PERIOD_ACT 0
    4000).w .TIDE_CNTLO 0 0x80000000).w .TIDE_CNTHI 0 0).dv fun d =>
    { d with prog := { d.prog with tu := true, tov := false, tuT := 9, watch := { tuOff := 2000000 } } }, by decide⟩,
    ⟨(((State.reset.live.w .TIDE_PERIOD_ACT 0 4000).w .TIDE_CNTLO 0 0x80000000).w .TIDE_CNTHI 0 0).dv fun d =>
    { d with prog := { d.prog with tu := true, tov := true, tovT := 9, watch := { tovOff := 2000000 } } }, by decide⟩, ⟨(fun (exceed :
    Bool) => State.reset.live.dv fun d => { d with prog := { d.prog with tu := exceed, tov := !exceed } }) (true), true, by decide⟩, ⟨(fun
    (element : Fin 4) => (((State.reset.live.w .TIDE_PERIOD_ACT 0 4000).w .TIDE_CNTLO 0 0x80000000).w .TIDE_CNTHI 0 0).dv fun d =>
    { d with prog := { d.prog with watch := { freqT := [(element.val, 2 ^ 31)] } } }) (3), 3, by decide⟩, ⟨State.reset.live.dv fun d =>
    { d with prog := { d.prog with watch := {} } }, 3, by decide⟩, ⟨((State.reset.live.w .TIDE_CNTLO 0 0x5).w .TIDE_CNTHI 0 0).dv fun d =>
    { d with prog := { d.prog with pwin := false, tu := false, tov := false, ride := false, params := [(0xB8, 0), (0xF0, 0x3F800000), (0xF8, 0x40A00000)] } },
    by decide⟩, ⟨State.reset.live.dv fun d => { d with prog := { d.prog with pwin := true } }, by decide⟩, ⟨(((State.reset.live.w
    .TIDE_PERIOD_ACT 0 4000).w .TIDE_CNTLO 0 0x80000000).w .TIDE_CNTHI 0 0).dv fun d =>
    { d with prog := { d.prog with pwin := true, isln := 1, pll := { winAt := some 0 } } }, by decide⟩, ⟨(((State.reset.live.w
    .TIDE_PERIOD_ACT 0 4000).w .TIDE_CNTLO 0 0x80000000).w .TIDE_CNTHI 0 0).dv fun d =>
    { d with prog := { d.prog with rates := [(5, 10)], pwin := true, isln := 1, pll := { winAt := some 0, past := [0x42480000, 0x42000000, 0x42000000, 0x42000000] }, params := [(0xF2, 0x41200000), (0xF5, 0x40000000)] } },
    by decide⟩, ⟨State.reset.live.dv fun d => { d with prog := { d.prog with pwin := false } }, by decide⟩, ⟨(((((((((((State.reset.live.w
    .TWIN_STAT_STATE 0 0).w .PWM_STAT_LEAD 0 1).dv fun d => d.setQueue 0 {}).dv fun d => { d with fm := { d.fm with booted := true } }).w
    .TIDE_PERIOD_ACT 0 4000).w .TIDE_CNTLO 0 0x1000).w .TIDE_CNTHI 0 0).w .TIDE_PTPS0 0 0).w .TIDE_PTPS1 0 0).w .TIDE_PTPNS 0 75000000).w
    .ETH_PTPCTL_LOCKED 0 1).dv fun d => { d with prog := { d.prog with params := [(0xF9, 0x3F800000), (0xF1, 0x42C80000)] } }, 6596, by
    decide⟩, ⟨State.reset.live.w .ETH_PTPCTL_LOCKED 0 0, by decide⟩, ⟨State.reset.dv fun d =>
    { d with fm := { d.fm with booted := false } }, by decide⟩, ⟨(((State.reset.live.w .TIDE_PERIOD_ACT 0 4000).w .TIDE_CNTLO 0
    0x80000000).w .TIDE_CNTHI 0 0).dv fun d =>
    { d with prog := { d.prog with stop := {}, sync := .locked, trip := 7, watch := {}, pll := { rcFrom := some 0 }, grid := { vmin := 0x3F800000, vmax := 0x3F800000, f := 0x42480000 }, params := [(0xB7, 0x3F800000)] } },
    by decide⟩, ⟨State.reset.live.dv fun d => { d with prog := { d.prog with sync := .searching } }, by decide⟩, ⟨(((State.reset.live.w
    .TIDE_PERIOD_ACT 0 4000).w .TIDE_CNTLO 0 0x80000000).w .TIDE_CNTHI 0 0).dv fun d =>
    { d with prog := { d.prog with enter := true, pll := { enterAt := 0 } } }, by decide⟩, ⟨State.reset.live.dv fun d =>
    { d with prog := { d.prog with enter := false } }, by decide⟩, ⟨(fun (va : Nat) (vb : Nat) (vc : Nat) (tk : Task) =>
    (((((((((State.reset.live.w .TIDE_PERIOD_ACT 0 4000).w .TIDE_CNTLO 0 0x80000000).w .TIDE_CNTHI 0 0).dv fun d =>
    { d with tt := { d.tt with active := some { tasks := [tk] } } }).dv fun d => { d with prog := { params := d.prog.params } }).dv fun d
    => { d with prog := { d.prog with changes := [] } }).dv fun d => d.setBoard 1 0 va 7).dv fun d => d.setBoard 1 1 vb 7).dv fun d =>
    d.setBoard 1 2 vc 7).dv fun d => { d with prog := { d.prog with params := [(2, 0x42C80000)] } }) (0x42C80000) (0xC2480000) (0xC2480000)
    ({ sampleTask with ins := [{ cls := 1, first := 0, count := 3 }] }), 5, 0x42C80000, 0xC2480000, 0xC2480000,
    { sampleTask with ins := [{ cls := 1, first := 0, count := 3 }] }, by decide⟩, ⟨(fun (va : Nat) (vb : Nat) (vc : Nat) (k : Nat) (tk :
    Task) => (((((((((State.reset.live.w .TIDE_PERIOD_ACT 0 4000).w .TIDE_CNTLO 0 0x80000000).w .TIDE_CNTHI 0 0).dv fun d =>
    { d with tt := { d.tt with active := some { tasks := [tk] } } }).dv fun d => { d with prog := { params := d.prog.params } }).dv fun d
    => { d with prog := { d.prog with changes := [] } }).dv fun d => d.setBoard 1 0 va 7).dv fun d => d.setBoard 1 1 vb 7).dv fun d =>
    d.setBoard 1 2 vc 7).dv fun d => { d with prog := { d.prog with watch := { causes := [k] }, params := [(2, 0x42C80000)] } })
    (0x42C80000) (0xC2480000) (0xC2480000) (4) ({ sampleTask with ins := [{ cls := 1, first := 0, count := 3 }] }), 5, 0x42C80000,
    0xC2480000, 0xC2480000, 4, { sampleTask with ins := [{ cls := 1, first := 0, count := 3 }] }, by decide⟩, ⟨(fun (tk : Task) =>
    ((((((State.reset.live.w .TIDE_PERIOD_ACT 0 4000).w .TIDE_CNTLO 0 0x80000000).w .TIDE_CNTHI 0 0).dv fun d =>
    { d with tt := { d.tt with active := some { tasks := [tk] } } }).dv fun d => { d with prog := { params := d.prog.params } }).dv fun d
    => { d with prog := { d.prog with changes := [] } }).dv fun d => { d with prog := { d.prog with sync := .locked } }) (sampleTask), 5,
    sampleTask, by decide⟩, ⟨(fun (tk : Task) => ((((((State.reset.live.w .TIDE_PERIOD_ACT 0 4000).w .TIDE_CNTLO 0 0x80000000).w
    .TIDE_CNTHI 0 0).dv fun d => { d with tt := { d.tt with active := some { tasks := [tk] } } }).dv fun d =>
    { d with prog := { params := d.prog.params } }).dv fun d => { d with prog := { d.prog with changes := [] } }).dv fun d =>
    { d with prog := { d.prog with tu := true, tov := false, tuT := 3000000, grid := { vmin := 0x3F000000 } } })
    ({ sampleTask with rate := 2 }), 5, { sampleTask with rate := 2 }, by decide⟩, ⟨(fun (tk : Task) => ((((((State.reset.live.w
    .TIDE_PERIOD_ACT 0 4000).w .TIDE_CNTLO 0 0x80000000).w .TIDE_CNTHI 0 0).dv fun d =>
    { d with tt := { d.tt with active := some { tasks := [tk] } } }).dv fun d => { d with prog := { params := d.prog.params } }).dv fun d
    => { d with prog := { d.prog with changes := [] } }).dv fun d =>
    { d with prog := { d.prog with tu := false, grid := { vmin := 0x3F000000 } } }) ({ sampleTask with rate := 2 }), 5,
    { sampleTask with rate := 2 }, by decide⟩, ⟨(fun (tk : Task) => ((((((State.reset.live.w .TIDE_PERIOD_ACT 0 4000).w .TIDE_CNTLO 0
    0x80000000).w .TIDE_CNTHI 0 0).dv fun d => { d with tt := { d.tt with active := some { tasks := [tk] } } }).dv fun d =>
    { d with prog := { params := d.prog.params } }).dv fun d => { d with prog := { d.prog with changes := [] } }).dv fun d =>
    { d with prog := { d.prog with tu := false, tov := false, grid := { vmin := 0x3F800000, vmax := 0x3F800000 } } })
    ({ sampleTask with rate := 2 }), 5, { sampleTask with rate := 2 }, by decide⟩, ⟨(fun (tk : Task) => ((((((State.reset.live.w
    .TIDE_PERIOD_ACT 0 4000).w .TIDE_CNTLO 0 0x80000000).w .TIDE_CNTHI 0 0).dv fun d =>
    { d with tt := { d.tt with active := some { tasks := [tk] } } }).dv fun d => { d with prog := { params := d.prog.params } }).dv fun d
    => { d with prog := { d.prog with changes := [] } }).dv fun d => { d with prog := { d.prog with sync := .searching } }) (sampleTask),
    5, sampleTask, by decide⟩, ⟨(fun (tk : Task) => ((((((State.reset.live.w .TIDE_PERIOD_ACT 0 4000).w .TIDE_CNTLO 0 0x80000000).w
    .TIDE_CNTHI 0 0).dv fun d => { d with tt := { d.tt with active := some { tasks := [tk] } } }).dv fun d =>
    { d with prog := { params := d.prog.params } }).dv fun d => { d with prog := { d.prog with changes := [] } }).dv fun d =>
    { d with prog := { d.prog with sync := .locked, watch := { rocN := 2 }, grid := { rocof := 0xC0000000 }, params := [(0xFA, 0x3F800000)] } })
    (sampleTask), 5, sampleTask, by decide⟩, ⟨(fun (o : Nat) (tk : Task) => ((((((State.reset.live.w .TIDE_PERIOD_ACT 0 4000).w .TIDE_CNTLO
    0 0x80000000).w .TIDE_CNTHI 0 0).dv fun d => { d with tt := { d.tt with active := some { tasks := [tk] } } }).dv fun d =>
    { d with prog := { params := d.prog.params } }).dv fun d => { d with prog := { d.prog with changes := [] } }).dv fun d =>
    { d with prog := { d.prog with sync := .locked, watch := { delta := List.replicate 8 o }, grid := { ud := 0x3F800000, uq := 0 }, params := [(0xFD, 0x3F800000)] } })
    (2 ^ 29) ({ sampleTask with rate := 8 }), 5, 2 ^ 29, { sampleTask with rate := 8 }, by decide⟩, ⟨(fun (ia : Nat) (ib : Nat) (ic : Nat)
    (u : Nat) (va : Nat) (vb : Nat) (vc : Nat) (tk : Task) => (((((((((((((State.reset.live.w .TIDE_PERIOD_ACT 0 4000).w .TIDE_CNTLO 0
    0x80000000).w .TIDE_CNTHI 0 0).dv fun d => { d with tt := { d.tt with active := some { tasks := [tk] } } }).dv fun d =>
    { d with prog := { params := d.prog.params } }).dv fun d => { d with prog := { d.prog with changes := [] } }).dv fun d => d.setBoard 1
    10 ia 7).dv fun d => d.setBoard 1 11 ib 7).dv fun d => d.setBoard 1 12 ic 7).dv fun d => d.setBoard 1 13 u 7).dv fun d => d.setBoard 1
    0 va 7).dv fun d => d.setBoard 1 1 vb 7).dv fun d => d.setBoard 1 2 vc 7).dv fun d =>
    { d with prog := { d.prog with params := [(2, 0x42C80000), (3, 0x41A00000)], seen := { word := 2 ^ 27 } } }) (0x41200000) (0xC0A00000)
    (0xC0A00000) (0x44BB8000) (0x42C80000) (0xC2480000) (0xC2480000)
    ({ sampleTask with ins := [{ cls := 1, first := 10, count := 3 }, { cls := 1, first := 13, count := 1 }, { cls := 1, first := 0, count := 3 }] }),
    5, 0x41200000, 0xC0A00000, 0xC0A00000, 0x44BB8000, 0x42C80000, 0xC2480000, 0xC2480000,
    { sampleTask with ins := [{ cls := 1, first := 10, count := 3 }, { cls := 1, first := 13, count := 1 }, { cls := 1, first := 0, count := 3 }] },
    by decide⟩, ⟨(fun (ia : Nat) (ib : Nat) (ic : Nat) (u : Nat) (va : Nat) (vb : Nat) (vc : Nat) (tk : Task) =>
    (((((((((((((State.reset.live.w .TIDE_PERIOD_ACT 0 4000).w .TIDE_CNTLO 0 0x80000000).w .TIDE_CNTHI 0 0).dv fun d =>
    { d with tt := { d.tt with active := some { tasks := [tk] } } }).dv fun d => { d with prog := { params := d.prog.params } }).dv fun d
    => { d with prog := { d.prog with changes := [] } }).dv fun d => d.setBoard 1 10 ia 7).dv fun d => d.setBoard 1 11 ib 7).dv fun d =>
    d.setBoard 1 12 ic 7).dv fun d => d.setBoard 1 13 u 7).dv fun d => d.setBoard 1 0 va 7).dv fun d => d.setBoard 1 1 vb 7).dv fun d =>
    d.setBoard 1 2 vc 7).dv fun d =>
    { d with prog := { d.prog with ride := false, cur := { entN := 7 }, params := [(0xD6, 0x41000000), (2, 0x44C80000), (3, 0x41A00000)] } })
    (0x41200000) (0xC0A00000) (0xC0A00000) (0x44BB8000) (0x42C80000) (0xC2480000) (0xC2480000)
    ({ sampleTask with ins := [{ cls := 1, first := 10, count := 3 }, { cls := 1, first := 13, count := 1 }, { cls := 1, first := 0, count := 3 }] }),
    5, 0x41200000, 0xC0A00000, 0xC0A00000, 0x44BB8000, 0x42C80000, 0xC2480000, 0xC2480000,
    { sampleTask with ins := [{ cls := 1, first := 10, count := 3 }, { cls := 1, first := 13, count := 1 }, { cls := 1, first := 0, count := 3 }] },
    by decide⟩, ⟨(fun (ia : Nat) (ib : Nat) (ic : Nat) (u : Nat) (va : Nat) (vb : Nat) (vc : Nat) (tk : Task) =>
    (((((((((((((State.reset.live.w .TIDE_PERIOD_ACT 0 4000).w .TIDE_CNTLO 0 0x80000000).w .TIDE_CNTHI 0 0).dv fun d =>
    { d with tt := { d.tt with active := some { tasks := [tk] } } }).dv fun d => { d with prog := { params := d.prog.params } }).dv fun d
    => { d with prog := { d.prog with changes := [] } }).dv fun d => d.setBoard 1 10 ia 7).dv fun d => d.setBoard 1 11 ib 7).dv fun d =>
    d.setBoard 1 12 ic 7).dv fun d => d.setBoard 1 13 u 7).dv fun d => d.setBoard 1 0 va 7).dv fun d => d.setBoard 1 1 vb 7).dv fun d =>
    d.setBoard 1 2 vc 7).dv fun d =>
    { d with prog := { d.prog with params := [(2, 0x42C80000), (3, 0x41A00000)], seen := { word := 2 ^ 31, grid := { vmin := 0x3E800000 } } } })
    (0x41200000) (0xC0A00000) (0xC0A00000) (0x44BB8000) (0x42C80000) (0xC2480000) (0xC2480000)
    ({ sampleTask with ins := [{ cls := 1, first := 10, count := 3 }, { cls := 1, first := 13, count := 1 }, { cls := 1, first := 0, count := 3 }] }),
    5, 0x41200000, 0xC0A00000, 0xC0A00000, 0x44BB8000, 0x42C80000, 0xC2480000, 0xC2480000,
    { sampleTask with ins := [{ cls := 1, first := 10, count := 3 }, { cls := 1, first := 13, count := 1 }, { cls := 1, first := 0, count := 3 }] },
    by decide⟩, ⟨(fun (ia : Nat) (ib : Nat) (ic : Nat) (u : Nat) (va : Nat) (vb : Nat) (vc : Nat) (tk : Task) =>
    (((((((((((((State.reset.live.w .TIDE_PERIOD_ACT 0 4000).w .TIDE_CNTLO 0 0x80000000).w .TIDE_CNTHI 0 0).dv fun d =>
    { d with tt := { d.tt with active := some { tasks := [tk] } } }).dv fun d => { d with prog := { params := d.prog.params } }).dv fun d
    => { d with prog := { d.prog with changes := [] } }).dv fun d => d.setBoard 1 10 ia 7).dv fun d => d.setBoard 1 11 ib 7).dv fun d =>
    d.setBoard 1 12 ic 7).dv fun d => d.setBoard 1 13 u 7).dv fun d => d.setBoard 1 0 va 7).dv fun d => d.setBoard 1 1 vb 7).dv fun d =>
    d.setBoard 1 2 vc 7).dv fun d =>
    { d with prog := { d.prog with params := [(1, 0x461C4000), (2, 0x42F5999A), (3, 0x41A00000), (0x10, 0x3F800000), (0x11, 0x42C80000)], seen := { word := 2 ^ 31, pstar := 0x459C4000, grid := { vmin := 0x3F800000, vmax := 0x3F800000, ud := 0x42C80000 } } } })
    (0x41200000) (0xC0A00000) (0xC0A00000) (0x44BB8000) (0x42C80000) (0xC2480000) (0xC2480000)
    ({ sampleTask with ins := [{ cls := 1, first := 10, count := 3 }, { cls := 1, first := 13, count := 1 }, { cls := 1, first := 0, count := 3 }] }),
    5, 0x41200000, 0xC0A00000, 0xC0A00000, 0x44BB8000, 0x42C80000, 0xC2480000, 0xC2480000, 0,
    { sampleTask with ins := [{ cls := 1, first := 10, count := 3 }, { cls := 1, first := 13, count := 1 }, { cls := 1, first := 0, count := 3 }] },
    by decide⟩⟩

/-- States and operands that meet the hypotheses of each clause of `Obligations.LandingCommands` that has some. -/
theorem witness_landingCommands :
    (∃ (s : State), (s.dev.sys.cdReset = false) ∧ (s.dev.landingsBad = false) ∧ ((s.dev.rd .NODE_CFG_RETRY + 1) * s.dev.rd .NODE_CFG_RWIN <
      s.dev.rd .NODE_ROUND_MS)) ∧ (∃ (s : State), (s.dev.sys.cdReset = false) ∧ (s.dev.rd .NODE_ROUND_MS ≤ (s.dev.rd .NODE_CFG_RETRY + 1) *
      s.dev.rd .NODE_CFG_RWIN)) ∧ (∃ (s : State), (s.dev.sys.cdReset = false)) ∧ (∃ (s : State) (landing : Fin 512) (value : BitVec 32),
      (s.dev.sys.cdReset = false) ∧ (s.dev.onAt .NODE_LCFG_EN landing.val = false) ∧ (bitOf value.toNat 31 = true) ∧
      (((((s.dev.answer.lcfgFields landing.val value.toNat).flagAt .NODE_LCFG_EN landing.val true).wrAt .NODE_LCFG_STATE landing.val
      0).landingsBad) = false)) ∧ (∃ (s : State) (landing : Fin 512), (s.dev.sys.cdReset = false) ∧ (s.dev.onAt .NODE_LCFG_EN landing.val =
      true)) ∧ (∃ (s : State) (landing : Fin 512) (value : BitVec 32), (s.dev.sys.cdReset = false) ∧ (s.dev.onAt .NODE_LCFG_EN landing.val
      = false) ∧ (bitOf value.toNat 31 = true) ∧ (s.dev.landBase landing.val < 1536)) ∧ (∃ (s : State), (s.dev.sys.cdReset = false) ∧
      (s.dev.on .NODE_CTRL_RUN = true) ∧ (s.dev.on .NODE_STAT_RUNNING = false) ∧ (s.dev.tt.opened = true) ∧ (s.dev.tide % 4096 = 0) ∧
      (s.dev.rd64 .NODE_RNDLO .NODE_RNDHI < 2 ^ 64 - 1)) ∧ (∃ (s : State), (s.dev.sys.cdReset = false) ∧ (s.dev.on .NODE_CTRL_RUN = true) ∧
      (s.dev.on .NODE_STAT_RUNNING = true) ∧ (s.dev.node.start + s.dev.rd .NODE_RNDFR ≤ s.dev.tide) ∧ (s.dev.rd64 .NODE_RNDLO .NODE_RNDHI <
      2 ^ 64 - 1)) ∧ (∃ (s : State) (f : List (BitVec 8)) (m : List (BitVec 8)) (l : Nat), (s.dev.sys.cdReset = false) ∧
      (s.dev.boardsPaired = false) ∧ (m = (netFrame f).body) ∧ (l = msgNat m 2 2) ∧ (s.dev.nalziaCheck (netFrame f) = 0) ∧ (msgNat m 1 1 =
      3) ∧ (s.dev.landNext l = 0) ∧ (s.dev.rdAt .NODE_LCFG_STATE l = 0) ∧ (s.dev.onAt .NODE_LCFG_EN l = true)) ∧ (∃ (s : State) (f : List
      (BitVec 8)) (m : List (BitVec 8)) (l : Nat), (s.dev.sys.cdReset = false) ∧ (s.dev.boardsPaired = false) ∧ (m = (netFrame f).body) ∧
      (l = msgNat m 2 2) ∧ (s.dev.nalziaCheck (netFrame f) = 0) ∧ (msgNat m 1 1 = 3) ∧ (s.dev.landNext l ≠ 0)) ∧ (∃ (s : State),
      (s.dev.sys.cdReset = false) ∧ (s.dev.takesMirrored = true)) ∧ (∃ (s : State) (f : List (BitVec 8)), (s.dev.sys.cdReset = false) ∧
      (s.dev.takesMirrored = false) ∧ (s.dev.nalziaCheck (netFrame f) = 1)) ∧ (∃ (s : State) (f : List (BitVec 8)), (s.dev.sys.cdReset =
      false) ∧ (s.dev.takesMirrored = false) ∧ (s.dev.nalziaCheck (netFrame f) = 2)) ∧ (∃ (s : State) (f : List (BitVec 8)),
      (s.dev.sys.cdReset = false) ∧ (s.dev.takesMirrored = false) ∧ (s.dev.nalziaCheck (netFrame f) = 3)) ∧ (∃ (s : State) (landing : Fin
      512), (s.dev.sys.cdReset = false) ∧ (s.dev.boardsPaired = false) ∧ (s.dev.node.ackDue.at 0 landing.val ≠ 0) ∧ (s.dev.on
      .PWM_STAT_LEAD = true) ∧ (s.dev.landNext landing.val = 1) ∧ (s.dev.rd .NODE_PORTS_QUEUE = 0)) ∧ (∃ (s : State) (landing : Fin 512),
      (s.dev.sys.cdReset = false) ∧ (s.dev.node.ackDue.at 0 landing.val = 0)) ∧ (∃ (s : State) (landing : Fin 512), (s.dev.sys.cdReset =
      false) ∧ (s.dev.rdAt .NODE_LCFG_STATE landing.val = 2) ∧ (s.dev.onAt .NODE_LCFG_EN landing.val = true) ∧ (s.dev.landNext landing.val
      = 2) ∧ (s.dev.rd .NODE_CFG_LOSTR < s.dev.node.silent.at 0 landing.val) ∧ (s.dev.boardsPaired = false)) ∧ (∃ (s : State) (landing :
      Fin 512), (s.dev.sys.cdReset = false) ∧ (s.dev.rdAt .NODE_LCFG_STATE landing.val ≠ 2 ∨ s.dev.node.silent.at 0 landing.val ≤ s.dev.rd
      .NODE_CFG_LOSTR)) ∧ (∃ (s : State), (s.dev.sys.cdReset = false)) ∧ (∃ (s : State), (s.dev.sys.cdReset = false) ∧ (s.dev.on
      .NODE_CTRL_BCEN = true) ∧ (s.dev.on .PWM_STAT_LEAD = true) ∧ (s.dev.node.bcLast = none) ∧ (s.dev.tide % 2 ^ s.dev.rd .NODE_CFG_BCK =
      0) ∧ (s.dev.rd .NODE_PORTS_ETH = 1) ∧ (s.dev.rd .NODE_PORTS_QUEUE = 0)) ∧ (∃ (s : State) (w : List (BitVec 8)) (n : Nat) (o : List
      (BitVec 8) × Nat), (s.dev.sys.cdReset = false) ∧ (s.dev.on .NODE_CTRL_BCEN = true) ∧ (s.dev.on .PWM_STAT_LEAD = true) ∧ (s.dev.tide %
      2 ^ s.dev.rd .NODE_CFG_BCK ≠ 0) ∧ (s.dev.node.bcRead = some (w, n)) ∧ (s.dev.node.bcLast = some o) ∧ (o.1 = w.take 16) ∧ (40000000 ≤
      (s.dev.tide - o.2) * s.dev.rd .TIDE_PERIOD_ACT) ∧ (s.dev.rd .NODE_PORTS_ETH = 1) ∧ (s.dev.rd .NODE_PORTS_QUEUE = 0)) ∧ (∃ (s : State)
      (w : List (BitVec 8)) (n : Nat) (o : List (BitVec 8) × Nat), (s.dev.sys.cdReset = false) ∧ (s.dev.on .NODE_CTRL_BCEN = true) ∧
      (s.dev.tide % 2 ^ s.dev.rd .NODE_CFG_BCK ≠ 0) ∧ (s.dev.node.bcRead = some (w, n)) ∧ (s.dev.node.bcLast = some o) ∧ (o.1 = w.take 16)
      ∧ ((s.dev.tide - o.2) * s.dev.rd .TIDE_PERIOD_ACT < 40000000)) ∧ (∃ (s : State), (s.dev.on .NODE_CTRL_BCEN = false)) :=
  ⟨⟨((((State.reset.dv fun d => { d with regs := [] }).live).w .NODE_CFG_RETRY 0 2).w .NODE_CFG_RWIN 0 5).w .NODE_ROUND_MS 0 16, by
    decide⟩, ⟨((State.reset.live.w .NODE_CFG_RETRY 0 2).w .NODE_CFG_RWIN 0 5).w .NODE_ROUND_MS 0 15, by decide⟩, ⟨State.reset.live, by
    decide⟩, ⟨(((State.reset.dv fun d => { d with regs := [] }).live).w .NODE_PORTS_ETH 0 15).w .NODE_LBASE_BASE (511) 261120, 511,
    0x80400005, by decide⟩, ⟨State.reset.live.w .NODE_LCFG_EN (511) 1, 511, by decide⟩, ⟨(State.reset.live.w .NODE_LCFG_EN (511) 0).w
    .NODE_LBASE_BASE (511) 1535, 511, 0x80001000, by decide⟩, ⟨(((State.reset.live.w .NODE_CTRL_RUN 0 1).w .NODE_STAT_RUNNING 0 0).w
    .TIDE_CNTLO 0 8192).dv fun d => { d with tt := { d.tt with opened := true } }, by decide⟩, ⟨((((State.reset.live.w .NODE_CTRL_RUN 0
    1).w .NODE_STAT_RUNNING 0 1).w .TIDE_CNTLO 0 8193).w .NODE_RNDFR 0 100).dv fun d => { d with node := { d.node with start := 8093 } },
    by decide⟩, ⟨((((((((((State.reset.live.w .TWIN_STAT_STATE 0 0).w .PWM_STAT_LEAD 0 1).w .NODE_LCFG_EN (511) 1).w .NODE_LMACLO (511)
    7).w .NODE_LMACHI (511) 0).w .NODE_CFG_TRANS 0 1).w .NODE_PROTO_ETYPE 0 0x88B5).w .NODE_LCFG_PORT (511) 3).w .NODE_PORTS_QUEUE 0 0).w
    .NODE_LCFG_STATE (511) 0).dv fun d => { d with node := { d.node with states := [] } }, etherFrame 0 7 none 0x88B5 ((leBytes 1 1 ++
    leBytes 1 3 ++ leBytes 2 511 ++ leBytes 8 0 ++ leBytes 1 0 ++ leBytes 1 1 ++ leBytes 2 32 ++ leBytes 32 0) ++ leBytes 4 (crc32 (leBytes
    1 1 ++ leBytes 1 3 ++ leBytes 2 511 ++ leBytes 8 0 ++ leBytes 1 0 ++ leBytes 1 1 ++ leBytes 2 32 ++ leBytes 32 0))), (netFrame
    (etherFrame 0 7 none 0x88B5 ((leBytes 1 1 ++ leBytes 1 3 ++ leBytes 2 511 ++ leBytes 8 0 ++ leBytes 1 0 ++ leBytes 1 1 ++ leBytes 2 32
    ++ leBytes 32 0) ++ leBytes 4 (crc32 (leBytes 1 1 ++ leBytes 1 3 ++ leBytes 2 511 ++ leBytes 8 0 ++ leBytes 1 0 ++ leBytes 1 1 ++
    leBytes 2 32 ++ leBytes 32 0))))).body, 511, by decide⟩, ⟨((((((((((State.reset.live.w .TWIN_STAT_STATE 0 0).w .PWM_STAT_LEAD 0 1).w
    .NODE_LCFG_EN (511) 1).w .NODE_LMACLO (511) 7).w .NODE_LMACHI (511) 0).w .NODE_CFG_TRANS 0 1).w .NODE_PROTO_ETYPE 0 0x88B5).w
    .NODE_LCFG_PORT (511) 3).w .NODE_PORTS_QUEUE 0 0).w .NODE_LCFG_STATE (511) 2).dv fun d =>
    { d with node := { d.node with states := [] } }, etherFrame 0 7 none 0x88B5 ((leBytes 1 1 ++ leBytes 1 3 ++ leBytes 2 511 ++ leBytes 8
    0 ++ leBytes 1 0 ++ leBytes 1 1 ++ leBytes 2 32 ++ leBytes 32 0) ++ leBytes 4 (crc32 (leBytes 1 1 ++ leBytes 1 3 ++ leBytes 2 511 ++
    leBytes 8 0 ++ leBytes 1 0 ++ leBytes 1 1 ++ leBytes 2 32 ++ leBytes 32 0))), (netFrame (etherFrame 0 7 none 0x88B5 ((leBytes 1 1 ++
    leBytes 1 3 ++ leBytes 2 511 ++ leBytes 8 0 ++ leBytes 1 0 ++ leBytes 1 1 ++ leBytes 2 32 ++ leBytes 32 0) ++ leBytes 4 (crc32 (leBytes
    1 1 ++ leBytes 1 3 ++ leBytes 2 511 ++ leBytes 8 0 ++ leBytes 1 0 ++ leBytes 1 1 ++ leBytes 2 32 ++ leBytes 32 0))))).body, 511, by
    decide⟩, ⟨((State.reset.live.w .TWIN_STAT_INST 0 1).w .TWIN_STAT_STATE 0 3).w .PWM_STAT_LEAD 0 0, by decide⟩,
    ⟨((((((((State.reset.live.w .TWIN_STAT_STATE 0 0).w .PWM_STAT_LEAD 0 1).w .NODE_LCFG_EN (511) 1).w .NODE_LMACLO (511) 7).w .NODE_LMACHI
    (511) 0).w .NODE_CFG_TRANS 0 1).w .NODE_PROTO_ETYPE 0 0x88B5).w .NODE_LCFG_PORT (511) 3).w .NODE_PORTS_QUEUE 0 0, etherFrame 0 7 none
    0x88B5 ((leBytes 1 2 ++ leBytes 1 3 ++ leBytes 2 511 ++ leBytes 8 0 ++ leBytes 1 0 ++ leBytes 1 1 ++ leBytes 2 32 ++ leBytes 32 0) ++
    leBytes 4 (crc32 (leBytes 1 1 ++ leBytes 1 3 ++ leBytes 2 511 ++ leBytes 8 0 ++ leBytes 1 0 ++ leBytes 1 1 ++ leBytes 2 32 ++ leBytes
    32 0))), by decide⟩, ⟨((((((((State.reset.live.w .TWIN_STAT_STATE 0 0).w .PWM_STAT_LEAD 0 1).w .NODE_LCFG_EN (511) 1).w .NODE_LMACLO
    (511) 7).w .NODE_LMACHI (511) 0).w .NODE_CFG_TRANS 0 1).w .NODE_PROTO_ETYPE 0 0x88B5).w .NODE_LCFG_PORT (511) 3).w .NODE_PORTS_QUEUE 0
    0, etherFrame 0 7 none 0x88B5 ((leBytes 1 1 ++ leBytes 1 3 ++ leBytes 2 511 ++ leBytes 8 0 ++ leBytes 1 0 ++ leBytes 1 1 ++ leBytes 2
    32 ++ leBytes 32 0) ++ leBytes 4 0), by decide⟩, ⟨((((((((State.reset.live.w .TWIN_STAT_STATE 0 0).w .PWM_STAT_LEAD 0 1).w
    .NODE_LCFG_EN (511) 1).w .NODE_LMACLO (511) 7).w .NODE_LMACHI (511) 0).w .NODE_CFG_TRANS 0 1).w .NODE_PROTO_ETYPE 0 0x88B5).w
    .NODE_LCFG_PORT (511) 3).w .NODE_PORTS_QUEUE 0 0, etherFrame 0 7 none 0x0806 (leBytes 1 1 ++ leBytes 1 3 ++ leBytes 2 511 ++ leBytes 8
    0 ++ leBytes 1 0 ++ leBytes 1 1 ++ leBytes 2 32 ++ leBytes 32 0), by decide⟩, ⟨((((((((((State.reset.live.w .TWIN_STAT_STATE 0 0).w
    .PWM_STAT_LEAD 0 1).w .NODE_LCFG_EN (511) 1).w .NODE_LMACLO (511) 7).w .NODE_LMACHI (511) 0).w .NODE_CFG_TRANS 0 1).w .NODE_PROTO_ETYPE
    0 0x88B5).w .NODE_LCFG_PORT (511) 3).w .NODE_PORTS_QUEUE 0 0).w .NODE_LCFG_STATE (511) 1).dv fun d =>
    { d with node := { d.node with ackDue := [(511, 9)], states := [] } }, 511, by decide⟩, ⟨(((((((((State.reset.live.w .TWIN_STAT_STATE 0
    0).w .PWM_STAT_LEAD 0 1).w .NODE_LCFG_EN (511) 1).w .NODE_LMACLO (511) 7).w .NODE_LMACHI (511) 0).w .NODE_CFG_TRANS 0 1).w
    .NODE_PROTO_ETYPE 0 0x88B5).w .NODE_LCFG_PORT (511) 3).w .NODE_PORTS_QUEUE 0 0).dv fun d =>
    { d with node := { d.node with ackDue := [] } }, 511, by decide⟩, ⟨((((State.reset.live.w .NODE_LCFG_EN (511) 1).w .NODE_LCFG_STATE
    (511) 2).w .NODE_CFG_LOSTR 0 3).dv fun d => { d with node := { d.node with states := [], silent := [(511, 4)] } }).w .TWIN_STAT_STATE 0
    0, 511, by decide⟩, ⟨State.reset.live.w .NODE_LCFG_STATE (511) 1, 511, by decide⟩, ⟨State.reset.live, by decide⟩,
    ⟨(((((((((((((State.reset.live.w .TWIN_STAT_STATE 0 0).w .PWM_STAT_LEAD 0 1).w .NODE_LCFG_EN (511) 1).w .NODE_LMACLO (511) 7).w
    .NODE_LMACHI (511) 0).w .NODE_CFG_TRANS 0 1).w .NODE_PROTO_ETYPE 0 0x88B5).w .NODE_LCFG_PORT (511) 3).w .NODE_PORTS_QUEUE 0 0).w
    .NODE_CTRL_BCEN 0 1).w .NODE_CFG_BCK 0 3).w .TIDE_CNTLO 0 16).w .NODE_PORTS_ETH 0 1).dv fun d =>
    { d with node := { d.node with bcLast := none } }, by decide⟩, ⟨(fun (w : List (BitVec 8)) (n : Nat) (o : List (BitVec 8) × Nat) =>
    ((((((((((((((State.reset.live.w .TWIN_STAT_STATE 0 0).w .PWM_STAT_LEAD 0 1).w .NODE_LCFG_EN (511) 1).w .NODE_LMACLO (511) 7).w
    .NODE_LMACHI (511) 0).w .NODE_CFG_TRANS 0 1).w .NODE_PROTO_ETYPE 0 0x88B5).w .NODE_LCFG_PORT (511) 3).w .NODE_PORTS_QUEUE 0 0).w
    .NODE_CTRL_BCEN 0 1).w .NODE_CFG_BCK 0 3).w .TIDE_PERIOD_ACT 0 4000).w .TIDE_CNTLO 0 16001).w .NODE_PORTS_ETH 0 1).dv fun d =>
    { d with node := { d.node with bcRead := some (w, n), bcLast := some o } }) (leBytes 32 5) (16000) ((leBytes 16 5, 9)), leBytes 32 5,
    16000, (leBytes 16 5, 9), by decide⟩, ⟨(fun (w : List (BitVec 8)) (n : Nat) (o : List (BitVec 8) × Nat) =>
    ((((((((((((((State.reset.live.w .TWIN_STAT_STATE 0 0).w .PWM_STAT_LEAD 0 1).w .NODE_LCFG_EN (511) 1).w .NODE_LMACLO (511) 7).w
    .NODE_LMACHI (511) 0).w .NODE_CFG_TRANS 0 1).w .NODE_PROTO_ETYPE 0 0x88B5).w .NODE_LCFG_PORT (511) 3).w .NODE_PORTS_QUEUE 0 0).w
    .NODE_CTRL_BCEN 0 1).w .NODE_CFG_BCK 0 3).w .TIDE_PERIOD_ACT 0 4000).w .TIDE_CNTLO 0 19).w .NODE_PORTS_ETH 0 1).dv fun d =>
    { d with node := { d.node with bcRead := some (w, n), bcLast := some o } }) (leBytes 32 5) (16) ((leBytes 16 5, 9)), leBytes 32 5, 16,
    (leBytes 16 5, 9), by decide⟩, ⟨State.reset.w .NODE_CTRL_BCEN 0 0, by decide⟩⟩

/-- States and operands that meet the hypotheses of each clause of `Obligations.VisitCommands` that has some. -/
theorem witness_visitCommands :
    (∃ (s : State) (landing : Fin 512) (block : Fin 32), (s.dev.sys.cdReset = false) ∧ (s.dev.on .NODE_STAT_RUNNING = true) ∧ (s.dev.onAt
      .NODE_LCFG_EN landing.val = true) ∧ (s.dev.blockLocals landing.val block.val ≠ []) ∧ (s.dev.visitFrame landing.val block.val =
      s.dev.tide) ∧ (s.dev.rdAt .NODE_LCFG_STATE landing.val = 2) ∧ (∀ i, i ∈ s.dev.blockLocals landing.val block.val → s.dev.spanState
      (s.dev.lineAt (s.dev.landBase landing.val + i) 0) 32 = 0) ∧ (s.dev.on .PWM_STAT_LEAD = true) ∧ (s.dev.rd .NODE_PORTS_QUEUE = 0) ∧
      (s.dev.node.joined = false)) ∧ (∃ (s : State) (landing : Fin 512) (block : Fin 32) (n : Nat) (x : Line), (s.dev.sys.cdReset = false)
      ∧ (s.dev.on .NODE_STAT_RUNNING = true) ∧ (s.dev.onAt .NODE_LCFG_EN landing.val = true) ∧ (s.dev.blockLocals landing.val block.val ≠
      []) ∧ (s.dev.visitFrame landing.val block.val = s.dev.tide) ∧ (s.dev.rdAt .NODE_LCFG_STATE landing.val ≠ 2) ∧ (s.dev.blockLocals
      landing.val block.val = [n]) ∧ (s.dev.line (s.dev.landBase landing.val + n) = some x) ∧ (x.res = true)) ∧ (∃ (s : State) (landing :
      Fin 512) (block : Fin 32), (s.dev.on .NODE_STAT_RUNNING = false ∨ s.dev.visitFrame landing.val block.val ≠ s.dev.tide)) ∧ (∃ (s :
      State) (landing : Fin 512) (block : Fin 32) (v : Visit), (s.dev.sys.cdReset = false) ∧ (s.dev.visitOf landing.val block.val = some v)
      ∧ (v.waiting ≠ []) ∧ (v.expired = false) ∧ (v.retries < s.dev.rd .NODE_CFG_RETRY) ∧ (s.dev.rwinPast v = true) ∧ (v.landing =
      landing.val) ∧ (v.block = block.val) ∧ (s.dev.rdAt .NODE_LCFG_STATE landing.val = 2) ∧ (s.dev.on .PWM_STAT_LEAD = true) ∧ (s.dev.rd
      .NODE_PORTS_QUEUE = 0)) ∧ (∃ (s : State) (landing : Fin 512) (block : Fin 32) (v : Visit), (s.dev.sys.cdReset = false) ∧
      (s.dev.visitOf landing.val block.val = some v) ∧ (v.waiting ≠ []) ∧ (v.expired = false) ∧ (v.retries < s.dev.rd .NODE_CFG_RETRY) ∧
      (s.dev.rwinPast v = true) ∧ (v.landing = landing.val) ∧ (v.block = block.val) ∧ (s.dev.rdAt .NODE_LCFG_STATE landing.val = 2) ∧
      (s.dev.on .PWM_STAT_LEAD = false)) ∧ (∃ (s : State) (landing : Fin 512) (block : Fin 32) (v : Visit), (s.dev.sys.cdReset = false) ∧
      (s.dev.visitOf landing.val block.val = some v) ∧ (s.dev.rd .NODE_CFG_RETRY ≤ v.retries)) ∧ (∃ (s : State) (landing : Fin 512) (block
      : Fin 32) (v : Visit) (w : Nat × List (BitVec 8)) (x : Line), (s.dev.sys.cdReset = false) ∧ (s.dev.visitOf landing.val block.val =
      some v) ∧ (v.waiting = [w]) ∧ (v.expired = false) ∧ (s.dev.rd .NODE_CFG_RETRY ≤ v.retries ∨ s.dev.rdAt .NODE_LCFG_STATE landing.val ≠
      2) ∧ (s.dev.rwinPast v = true) ∧ (v.landing = landing.val) ∧ (v.block = block.val) ∧ (s.dev.line (s.dev.landBase landing.val + w.1) =
      some x) ∧ (x.res = true)) ∧ (∃ (s : State) (f : List (BitVec 8)) (m : List (BitVec 8)) (l : Nat) (k : Nat) (v : Visit) (w : Nat ×
      List (BitVec 8)), (s.dev.sys.cdReset = false) ∧ (s.dev.boardsPaired = false) ∧ (m = (netFrame f).body) ∧ (l = msgNat m 2 2) ∧
      (s.dev.nalziaCheck (netFrame f) = 0) ∧ (msgNat m 1 1 = 2) ∧ (msgNat m 0xD 1 = 1) ∧ (s.dev.rdAt .NODE_LCFG_STATE l = 2) ∧ (msgNat m 8
      4 = s.dev.round32 ∨ (msgNat m 8 4 + 1) % 2 ^ 32 = s.dev.round32) ∧ (k = msgNat m 0xC 1 % 128) ∧ (k < 32) ∧ (s.dev.visitOf l k = some
      v) ∧ (v.landing = l) ∧ (v.block = k) ∧ (v.expired = false) ∧ (v.answered = []) ∧ (v.waiting = [w]) ∧ (w.1 = msgNat m 16 2) ∧ (msgNat
      w.2 3 1 = msgNat m 19 1) ∧ (32 * k ≤ w.1) ∧ (w.1 ≤ 32 * k + 31) ∧ (w.1 < s.dev.landCount l) ∧ (reportClass (msgNat m 20 1) = true)) ∧
      (∃ (s : State) (f : List (BitVec 8)) (m : List (BitVec 8)) (l : Nat), (s.dev.sys.cdReset = false) ∧ (s.dev.boardsPaired = false) ∧ (m
      = (netFrame f).body) ∧ (l = msgNat m 2 2) ∧ (s.dev.nalziaCheck (netFrame f) = 0) ∧ (msgNat m 1 1 = 2) ∧ (s.dev.rdAt .NODE_LCFG_STATE
      l ≠ 2 ∨ 32 ≤ msgNat m 0xC 1 % 128)) ∧ (∃ (s : State) (f : List (BitVec 8)) (m : List (BitVec 8)) (l : Nat) (k : Nat),
      (s.dev.sys.cdReset = false) ∧ (s.dev.boardsPaired = false) ∧ (m = (netFrame f).body) ∧ (l = msgNat m 2 2) ∧ (s.dev.nalziaCheck
      (netFrame f) = 0) ∧ (msgNat m 1 1 = 2) ∧ (msgNat m 0xD 1 = 1) ∧ (s.dev.rdAt .NODE_LCFG_STATE l = 2) ∧ (msgNat m 8 4 = s.dev.round32)
      ∧ (k = msgNat m 0xC 1 % 128) ∧ (k < 32) ∧ (s.dev.visitOf l k = none)) ∧ (∃ (s : State) (x : Entry) (l : Line), (s.dev.sys.cdReset =
      false) ∧ (s.dev.node.entries = [x]) ∧ (s.dev.node.raised = []) ∧ (x.edge ≤ s.dev.tide) ∧ (s.dev.line x.node = some l) ∧ (l.res =
      true) ∧ (x.body.length = 72) ∧ (s.dev.tide < 2 ^ 64)) ∧ (∃ (s : State) (k : Nat) (l : Line), (s.dev.sys.cdReset = false) ∧
      (s.dev.node.entries = []) ∧ (s.dev.node.raised = [k]) ∧ (s.dev.landCount k = 1) ∧ (s.dev.line (s.dev.landBase k) = some l) ∧ (l.res =
      true)) ∧ (∃ (s : State), (s.dev.sys.cdReset = false) ∧ (∀ x, x ∈ s.dev.node.entries → s.dev.tide < x.edge) ∧ (s.dev.node.raised =
      [])) :=
  ⟨⟨(((((((((((((((((((State.reset.live.w .TWIN_STAT_STATE 0 0).w .PWM_STAT_LEAD 0 1).w .NODE_LCFG_EN (511) 1).w .NODE_LMACLO (511) 7).w
    .NODE_LMACHI (511) 0).w .NODE_CFG_TRANS 0 1).w .NODE_PROTO_ETYPE 0 0x88B5).w .NODE_LCFG_PORT (511) 3).w .NODE_PORTS_QUEUE 0 0).w
    .NODE_STAT_RUNNING 0 1).w .NODE_LCFG_STATE (511) 2).w .NODE_LBASE_BASE (511) 2000).w .NODE_LCFG_COUNT (511) 1).w .NODE_RNDFR 0 16384).w
    .TIDE_CNTLO 0 611).w .TIDE_CNTHI 0 0).w .BERTH_CFG_NTSIZE 0 1).dv fun d => { d with eccm := { d.eccm with bad := [] } }).dv fun d =>
    { d with node := { d.node with start := 100, joined := false } }).dv fun d =>
    { d with pager := { d.pager with lines := [(2000, { berth := 1540, res := true })] } }, 511, 0, by decide⟩, ⟨(fun (x : Line) =>
    (((((((((((((((((((((State.reset.live.w .TWIN_STAT_STATE 0 0).w .PWM_STAT_LEAD 0 1).w .NODE_LCFG_EN (511) 1).w .NODE_LMACLO (511) 7).w
    .NODE_LMACHI (511) 0).w .NODE_CFG_TRANS 0 1).w .NODE_PROTO_ETYPE 0 0x88B5).w .NODE_LCFG_PORT (511) 3).w .NODE_PORTS_QUEUE 0 0).w
    .NODE_STAT_RUNNING 0 1).w .NODE_LCFG_STATE (511) 2).w .NODE_LBASE_BASE (511) 2000).w .NODE_LCFG_COUNT (511) 1).w .NODE_RNDFR 0 16384).w
    .TIDE_CNTLO 0 611).w .TIDE_CNTHI 0 0).w .BERTH_CFG_NTSIZE 0 1).dv fun d => { d with eccm := { d.eccm with bad := [] } }).dv fun d =>
    { d with node := { d.node with start := 100, joined := false } }).dv fun d =>
    { d with pager := { d.pager with lines := [(2000, { berth := 1540, res := true })] } }).w .NODE_LCFG_STATE (511) 1).dv fun d =>
    { d with pager := { d.pager with lines := [(2000, x)] } }) ({ berth := 1540, res := true }), 511, 0, 0, { berth := 1540, res := true },
    by decide⟩, ⟨State.reset.w .NODE_STAT_RUNNING 0 0, 0, 0, by decide⟩, ⟨(fun (v : Visit) => (((((((((((((((State.reset.live.w
    .TWIN_STAT_STATE 0 0).w .PWM_STAT_LEAD 0 1).w .NODE_LCFG_EN (511) 1).w .NODE_LMACLO (511) 7).w .NODE_LMACHI (511) 0).w .NODE_CFG_TRANS
    0 1).w .NODE_PROTO_ETYPE 0 0x88B5).w .NODE_LCFG_PORT (511) 3).w .NODE_PORTS_QUEUE 0 0).w .NODE_LCFG_STATE (511) 2).w .NODE_CFG_RETRY 0
    2).w .NODE_CFG_RWIN 0 1).w .TIDE_PERIOD_ACT 0 4000).w .TIDE_CNTLO 0 200).w .TIDE_CNTHI 0 0).dv fun d =>
    { d with node := { d.node with visits := [v] } })
    ({ landing := 511, block := 31, frame := 100, retries := 1, waiting := [(3, leBytes 40 3)] }), 511, 31,
    { landing := 511, block := 31, frame := 100, retries := 1, waiting := [(3, leBytes 40 3)] }, by decide⟩, ⟨(fun (v : Visit) =>
    ((((((((((((((((State.reset.live.w .TWIN_STAT_STATE 0 0).w .PWM_STAT_LEAD 0 1).w .NODE_LCFG_EN (511) 1).w .NODE_LMACLO (511) 7).w
    .NODE_LMACHI (511) 0).w .NODE_CFG_TRANS 0 1).w .NODE_PROTO_ETYPE 0 0x88B5).w .NODE_LCFG_PORT (511) 3).w .NODE_PORTS_QUEUE 0 0).w
    .NODE_LCFG_STATE (511) 2).w .NODE_CFG_RETRY 0 2).w .NODE_CFG_RWIN 0 1).w .TIDE_PERIOD_ACT 0 4000).w .TIDE_CNTLO 0 200).w .TIDE_CNTHI 0
    0).dv fun d => { d with node := { d.node with visits := [v] } }).w .PWM_STAT_LEAD 0 0)
    ({ landing := 511, block := 31, frame := 100, retries := 1, waiting := [(3, leBytes 40 3)] }), 511, 31,
    { landing := 511, block := 31, frame := 100, retries := 1, waiting := [(3, leBytes 40 3)] }, by decide⟩, ⟨(fun (v : Visit) =>
    ((((((((((((((((State.reset.live.w .TWIN_STAT_STATE 0 0).w .PWM_STAT_LEAD 0 1).w .NODE_LCFG_EN (511) 1).w .NODE_LMACLO (511) 7).w
    .NODE_LMACHI (511) 0).w .NODE_CFG_TRANS 0 1).w .NODE_PROTO_ETYPE 0 0x88B5).w .NODE_LCFG_PORT (511) 3).w .NODE_PORTS_QUEUE 0 0).w
    .NODE_LCFG_STATE (511) 2).w .NODE_CFG_RETRY 0 2).w .NODE_CFG_RWIN 0 1).w .TIDE_PERIOD_ACT 0 4000).w .TIDE_CNTLO 0 200).w .TIDE_CNTHI 0
    0).dv fun d => { d with node := { d.node with visits := [v] } }).w .NODE_CFG_RETRY 0 1)
    ({ landing := 511, block := 31, frame := 100, retries := 1, waiting := [(3, leBytes 40 3)] }), 511, 31,
    { landing := 511, block := 31, frame := 100, retries := 1, waiting := [(3, leBytes 40 3)] }, by decide⟩, ⟨(fun (v : Visit) (x : Line)
    => (((((((((((((((((State.reset.live.w .TWIN_STAT_STATE 0 0).w .PWM_STAT_LEAD 0 1).w .NODE_LCFG_EN (511) 1).w .NODE_LMACLO (511) 7).w
    .NODE_LMACHI (511) 0).w .NODE_CFG_TRANS 0 1).w .NODE_PROTO_ETYPE 0 0x88B5).w .NODE_LCFG_PORT (511) 3).w .NODE_PORTS_QUEUE 0 0).w
    .NODE_LCFG_STATE (511) 2).w .NODE_CFG_RETRY 0 2).w .NODE_CFG_RWIN 0 1).w .NODE_LBASE_BASE (511) 2000).w .TIDE_PERIOD_ACT 0 4000).w
    .TIDE_CNTLO 0 200).w .TIDE_CNTHI 0 0).dv fun d => { d with node := { d.node with visits := [v] } }).dv fun d =>
    { d with pager := { d.pager with lines := [(2003, x)] } })
    ({ landing := 511, block := 31, frame := 100, retries := 2, waiting := [(3, leBytes 40 3)] }) ({ berth := 1540, res := true }), 511,
    31, { landing := 511, block := 31, frame := 100, retries := 2, waiting := [(3, leBytes 40 3)] }, (3, leBytes 40 3),
    { berth := 1540, res := true }, by decide⟩, ⟨(fun (v : Visit) => (((((((((((((State.reset.live.w .TWIN_STAT_STATE 0 0).w .PWM_STAT_LEAD
    0 1).w .NODE_LCFG_EN (511) 1).w .NODE_LMACLO (511) 7).w .NODE_LMACHI (511) 0).w .NODE_CFG_TRANS 0 1).w .NODE_PROTO_ETYPE 0 0x88B5).w
    .NODE_LCFG_PORT (511) 3).w .NODE_PORTS_QUEUE 0 0).w .NODE_LCFG_STATE (511) 2).w .NODE_LBASE_BASE (511) 2000).w .NODE_LCFG_COUNT (511)
    4).w .NODE_RNDLO 0 70).dv fun d => { d with node := { d.node with visits := [v] } })
    ({ landing := 511, block := 0, frame := 100, waiting := [(3, leBytes 3 0 ++ leBytes 1 9 ++ leBytes 36 0)] }), etherFrame 0 7 none
    0x88B5 ((leBytes 1 1 ++ leBytes 1 2 ++ leBytes 2 511 ++ leBytes 4 0 ++ leBytes 4 70 ++ leBytes 1 0 ++ leBytes 1 1 ++ leBytes 2 72 ++
    (leBytes 2 3 ++ leBytes 1 0 ++ leBytes 1 9 ++ leBytes 1 0x10 ++ leBytes 67 0)) ++ leBytes 4 (crc32 (leBytes 1 1 ++ leBytes 1 2 ++
    leBytes 2 511 ++ leBytes 4 0 ++ leBytes 4 70 ++ leBytes 1 0 ++ leBytes 1 1 ++ leBytes 2 72 ++ (leBytes 2 3 ++ leBytes 1 0 ++ leBytes 1
    9 ++ leBytes 1 0x10 ++ leBytes 67 0)))), (netFrame (etherFrame 0 7 none 0x88B5 ((leBytes 1 1 ++ leBytes 1 2 ++ leBytes 2 511 ++ leBytes
    4 0 ++ leBytes 4 70 ++ leBytes 1 0 ++ leBytes 1 1 ++ leBytes 2 72 ++ (leBytes 2 3 ++ leBytes 1 0 ++ leBytes 1 9 ++ leBytes 1 0x10 ++
    leBytes 67 0)) ++ leBytes 4 (crc32 (leBytes 1 1 ++ leBytes 1 2 ++ leBytes 2 511 ++ leBytes 4 0 ++ leBytes 4 70 ++ leBytes 1 0 ++
    leBytes 1 1 ++ leBytes 2 72 ++ (leBytes 2 3 ++ leBytes 1 0 ++ leBytes 1 9 ++ leBytes 1 0x10 ++ leBytes 67 0)))))).body, 511, 0,
    { landing := 511, block := 0, frame := 100, waiting := [(3, leBytes 3 0 ++ leBytes 1 9 ++ leBytes 36 0)] }, (3, leBytes 3 0 ++ leBytes
    1 9 ++ leBytes 36 0), by decide⟩, ⟨(((((((((State.reset.live.w .TWIN_STAT_STATE 0 0).w .PWM_STAT_LEAD 0 1).w .NODE_LCFG_EN (511) 1).w
    .NODE_LMACLO (511) 7).w .NODE_LMACHI (511) 0).w .NODE_CFG_TRANS 0 1).w .NODE_PROTO_ETYPE 0 0x88B5).w .NODE_LCFG_PORT (511) 3).w
    .NODE_PORTS_QUEUE 0 0).w .NODE_LCFG_STATE (511) 1, etherFrame 0 7 none 0x88B5 ((leBytes 1 1 ++ leBytes 1 2 ++ leBytes 2 511 ++ leBytes
    4 0 ++ leBytes 4 70 ++ leBytes 1 0 ++ leBytes 1 1 ++ leBytes 2 72 ++ (leBytes 2 3 ++ leBytes 1 0 ++ leBytes 1 9 ++ leBytes 1 0x10 ++
    leBytes 67 0)) ++ leBytes 4 (crc32 (leBytes 1 1 ++ leBytes 1 2 ++ leBytes 2 511 ++ leBytes 4 0 ++ leBytes 4 70 ++ leBytes 1 0 ++
    leBytes 1 1 ++ leBytes 2 72 ++ (leBytes 2 3 ++ leBytes 1 0 ++ leBytes 1 9 ++ leBytes 1 0x10 ++ leBytes 67 0)))), (netFrame (etherFrame
    0 7 none 0x88B5 ((leBytes 1 1 ++ leBytes 1 2 ++ leBytes 2 511 ++ leBytes 4 0 ++ leBytes 4 70 ++ leBytes 1 0 ++ leBytes 1 1 ++ leBytes 2
    72 ++ (leBytes 2 3 ++ leBytes 1 0 ++ leBytes 1 9 ++ leBytes 1 0x10 ++ leBytes 67 0)) ++ leBytes 4 (crc32 (leBytes 1 1 ++ leBytes 1 2 ++
    leBytes 2 511 ++ leBytes 4 0 ++ leBytes 4 70 ++ leBytes 1 0 ++ leBytes 1 1 ++ leBytes 2 72 ++ (leBytes 2 3 ++ leBytes 1 0 ++ leBytes 1
    9 ++ leBytes 1 0x10 ++ leBytes 67 0)))))).body, 511, by decide⟩, ⟨(((((((((((State.reset.live.w .TWIN_STAT_STATE 0 0).w .PWM_STAT_LEAD
    0 1).w .NODE_LCFG_EN (511) 1).w .NODE_LMACLO (511) 7).w .NODE_LMACHI (511) 0).w .NODE_CFG_TRANS 0 1).w .NODE_PROTO_ETYPE 0 0x88B5).w
    .NODE_LCFG_PORT (511) 3).w .NODE_PORTS_QUEUE 0 0).w .NODE_LCFG_STATE (511) 2).w .NODE_RNDLO 0 70).dv fun d =>
    { d with node := { d.node with visits := [] } }, etherFrame 0 7 none 0x88B5 ((leBytes 1 1 ++ leBytes 1 2 ++ leBytes 2 511 ++ leBytes 4
    0 ++ leBytes 4 70 ++ leBytes 1 0 ++ leBytes 1 1 ++ leBytes 2 72 ++ (leBytes 2 3 ++ leBytes 1 0 ++ leBytes 1 9 ++ leBytes 1 0x10 ++
    leBytes 67 0)) ++ leBytes 4 (crc32 (leBytes 1 1 ++ leBytes 1 2 ++ leBytes 2 511 ++ leBytes 4 0 ++ leBytes 4 70 ++ leBytes 1 0 ++
    leBytes 1 1 ++ leBytes 2 72 ++ (leBytes 2 3 ++ leBytes 1 0 ++ leBytes 1 9 ++ leBytes 1 0x10 ++ leBytes 67 0)))), (netFrame (etherFrame
    0 7 none 0x88B5 ((leBytes 1 1 ++ leBytes 1 2 ++ leBytes 2 511 ++ leBytes 4 0 ++ leBytes 4 70 ++ leBytes 1 0 ++ leBytes 1 1 ++ leBytes 2
    72 ++ (leBytes 2 3 ++ leBytes 1 0 ++ leBytes 1 9 ++ leBytes 1 0x10 ++ leBytes 67 0)) ++ leBytes 4 (crc32 (leBytes 1 1 ++ leBytes 1 2 ++
    leBytes 2 511 ++ leBytes 4 0 ++ leBytes 4 70 ++ leBytes 1 0 ++ leBytes 1 1 ++ leBytes 2 72 ++ (leBytes 2 3 ++ leBytes 1 0 ++ leBytes 1
    9 ++ leBytes 1 0x10 ++ leBytes 67 0)))))).body, 511, 0, by decide⟩, ⟨(fun (x : Entry) (l : Line) => ((((State.reset.live.w
    .TWIN_STAT_STATE 0 0).w .TIDE_CNTLO 0 9).w .TIDE_CNTHI 0 0).dv fun d =>
    { d with node := { d.node with entries := [x], raised := [] } }).dv fun d => { d with pager := { d.pager with lines := [(2000, l)] } })
    ({ edge := 9, node := 2000, round := 5, during := 6, body := leBytes 8 0x0807060504030201 ++ leBytes 64 77 })
    ({ berth := 1540, res := true }),
    { edge := 9, node := 2000, round := 5, during := 6, body := leBytes 8 0x0807060504030201 ++ leBytes 64 77 },
    { berth := 1540, res := true }, by decide⟩, ⟨(fun (k : Nat) (l : Line) => (fun (x : State) =>
    { x with mem := memPut x.mem (berthSram + 0x2B) [0x10, 1] }) ((((State.reset.live.w .NODE_LCFG_COUNT (511) 1).w .NODE_LBASE_BASE (511)
    2000).dv fun d => { d with node := { d.node with entries := [], raised := [k] } }).dv fun d =>
    { d with pager := { d.pager with lines := [(2000, l)] } })) (511) ({ berth := 1536, res := true }), 511,
    { berth := 1536, res := true }, by decide⟩, ⟨State.reset.live.dv fun d =>
    { d with node := { d.node with entries := [], raised := [] } }, by decide⟩⟩

/-- States and operands that meet the hypotheses of each clause of `Obligations.EthernetCommands` that has some. -/
theorem witness_ethernetCommands :
    (∃ (s : State) (port : Fin 4) (f : List (BitVec 8)), (s.dev.sys.cdReset = false) ∧ (s.dev.onAt .ETH_CTRL_EN port.val = true) ∧
      (frameGood f = false)) ∧ (∃ (s : State) (port : Fin 4), (s.dev.sys.cdReset = false) ∧ (s.dev.onAt .ETH_CTRL_EN port.val = false)) ∧
      (∃ (s : State) (port : Fin 4) (f : List (BitVec 8)) (full : Bool), (s.dev.sys.cdReset = false) ∧ (s.dev.onAt .ETH_CTRL_EN port.val =
      true) ∧ (frameGood f = true) ∧ (full = true ∨ s.dev.vlanDrops port.val (netFrame f) = true) ∧ ((netFrame f).ptp = none)) ∧ (∃ (s :
      State) (port : Fin 4) (f : List (BitVec 8)) (full : Bool), (s.dev.sys.cdReset = false) ∧ (s.dev.onAt .ETH_CTRL_EN port.val = true) ∧
      (frameGood f = true) ∧ (full = false) ∧ ((netFrame f).ptp = none) ∧ ((netFrame f).vid = none) ∧ (s.dev.onAt .ETH_VLAN_TAGIN port.val
      = false) ∧ (s.dev.onAt .ETH_VLAN_FILT port.val = false) ∧ (∀ q < 8, s.dev.onAt .ETH_QCFG_EN (8 * port.val + q) = false)) ∧ (∃ (s :
      State) (port : Fin 4) (f : List (BitVec 8)) (full : Bool), (s.dev.sys.cdReset = false) ∧ (s.dev.onAt .ETH_CTRL_EN port.val = true) ∧
      (frameGood f = true) ∧ (full = false) ∧ ((netFrame f).ptp = none) ∧ ((netFrame f).vid = none) ∧ (s.dev.onAt .ETH_VLAN_TAGIN port.val
      = false) ∧ (s.dev.onAt .ETH_VLAN_FILT port.val = false) ∧ (s.dev.queueMatches port.val 7 (netFrame f) = true)) ∧ (∃ (s : State) (port
      : Fin 4) (f : List (BitVec 8)) (full : Bool) (typ : Nat) (seq : Nat), (s.dev.sys.cdReset = false) ∧ (s.dev.onAt .ETH_CTRL_EN port.val
      = true) ∧ (frameGood f = true) ∧ (full = true) ∧ ((netFrame f).ptp = some (typ, seq, true)) ∧ (seq < 2 ^ 16) ∧ (s.dev.on
      .ETH_PTPCTL_EN = true) ∧ (s.dev.ethn.stamps.at [] port.val = [])) ∧ (∃ (s : State) (port : Fin 4) (ip : BitVec 32),
      (s.dev.sys.cdReset = false) ∧ (s.dev.onAt .ETH_CTRL_EN port.val = true) ∧ (s.dev.rdAt .ETH_IP port.val = ip.toNat)) ∧ (∃ (s : State)
      (port : Fin 4) (ip : BitVec 32), (s.dev.rdAt .ETH_IP port.val ≠ ip.toNat)) ∧ (∃ (s : State) (port : Fin 4) (up : Bool),
      (s.dev.sys.cdReset = false) ∧ (s.dev.onAt .ETH_CTRL_EN port.val = true) ∧ (s.dev.onAt .CAP_CLS_HELD (16 + port.val) = true) ∧
      (s.dev.onAt .ETH_STAT_LINK port.val ≠ up)) ∧ (∃ (s : State) (port : Fin 4), (s.dev.onAt .CAP_CLS_HELD (16 + port.val) = false) ∧
      (s.dev.onAt .ETH_STAT_LINK port.val = false)) ∧ (∃ (s : State), (s.dev.sys.cdReset = false)) ∧ (∃ (s : State), (s.dev.sys.cdReset =
      false) ∧ (s.dev.ethn.adj = none)) ∧ (∃ (s : State) (port : Fin 4) (x : Stamp) (l : List Stamp), (s.dev.ethn.stamps.at [] port.val = x
      :: l)) :=
  ⟨⟨State.reset.live.w .ETH_CTRL_EN (3) 1, 3, leBytes 63 0, by decide⟩, ⟨State.reset.live.w .ETH_CTRL_EN (3) 0, 3, by decide⟩,
    ⟨State.reset.live.w .ETH_CTRL_EN (3) 1, 3, etherFrame 0x010203040506 7 none 0x88B5 (leBytes 46 5), true, by decide⟩, ⟨((State.reset.dv
    fun d => { d with regs := [] }).live).w .ETH_CTRL_EN (3) 1, 3, etherFrame 0x010203040506 7 none 0x88B5 (leBytes 46 5), false, by
    decide⟩, ⟨((((((State.reset.dv fun d => { d with regs := [] }).live).w .ETH_CTRL_EN (3) 1).w .ETH_QCFG_EN (31) 1).w .ETH_QCFG_KIND (31)
    1).w .ETH_QMAT_VALUE (31) 0x88B5).dv fun d => d.setCell .ethQueue 31 { owner := some .ferryman }, 3, etherFrame 0x010203040506 7 none
    0x88B5 (leBytes 46 5), false, by decide⟩, ⟨(fun (ns : BitVec 17) => ((State.reset.live.w .ETH_CTRL_EN (3) 1).w .ETH_PTPCTL_EN 0 1).dv
    fun d => { d with ethn := { d.ethn with stamps := [], ns := 999999999, sec := 5 } }) (131071), 3, etherFrame 0x011B19000000 7 none
    0x88F7 (beBytes 1 1 ++ leBytes 29 0 ++ beBytes 2 9 ++ leBytes 12 0), true, 1, 9, by decide⟩, ⟨(State.reset.live.w .ETH_CTRL_EN (3) 1).w
    .ETH_IP (3) 77, 3, 77, by decide⟩, ⟨State.reset.w .ETH_IP (3) 77, 3, 78, by decide⟩, ⟨((State.reset.live.w .ETH_CTRL_EN (3) 1).w
    .CAP_CLS_HELD (19) 1).w .ETH_STAT_LINK (3) 0, 3, true, by decide⟩, ⟨(State.reset.w .CAP_CLS_HELD (19) 0).w .ETH_STAT_LINK (3) 0, 3, by
    decide⟩, ⟨State.reset.live, by decide⟩, ⟨State.reset.live.dv fun d => { d with ethn := { d.ethn with adj := none } }, by decide⟩, ⟨(fun
    (x : Stamp) (l : List Stamp) => State.reset.dv fun d => { d with ethn := { d.ethn with stamps := [(3, x :: l)] } })
    ({ sec := 1, ns := 8, tx := true, typ := 3, seq := 4 }) ([{ sec := 2, ns := 8, tx := true, typ := 3, seq := 4 }]), 3,
    { sec := 1, ns := 8, tx := true, typ := 3, seq := 4 }, [{ sec := 2, ns := 8, tx := true, typ := 3, seq := 4 }], by decide⟩⟩

/-- States and operands that meet the hypotheses of each clause of `Obligations.PagerCommands` that has some. -/
theorem witness_pagerCommands :
    (∃ (s : State) (node : BitVec 18), (s.dev.ddrOn = true) ∧ (node.toNat < s.dev.nodeCount) ∧ (s.dev.residency node.toNat = true) ∧
      (s.dev.line node.toNat = none) ∧ (node.toNat < 1536)) ∧ (∃ (s : State) (node : BitVec 18), (s.dev.ddrOn = true) ∧ (node.toNat <
      s.dev.nodeCount) ∧ (s.dev.residency node.toNat = true) ∧ (s.dev.line node.toNat = none) ∧ (1536 ≤ node.toNat) ∧ (s.dev.pager.lines =
      [])) ∧ (∃ (s : State) (node : BitVec 18), (s.dev.ddrOn = false ∨ s.dev.nodeCount ≤ node.toNat ∨ (s.dev.line node.toNat).isSome = true
      ∨ s.dev.residency node.toNat = false)) ∧ (∃ (s : State) (node : BitVec 18) (x : Line), (s.dev.ddrOn = true) ∧ (s.dev.line node.toNat
      = some x) ∧ (x.res = false) ∧ (x.queued = []) ∧ (s.dev.spanState (s.dev.nodeRecord node.toNat) 256 = 0) ∧ (s.dev.rd .TWIN_STAT_STATE
      ≠ 2)) ∧ (∃ (s : State) (node : BitVec 18) (x : Line), (s.dev.sys.cdReset = false) ∧ (s.dev.line node.toNat = some x) ∧ (x.res =
      false) ∧ (x.late = false) ∧ (s.dev.residentDue node.toNat = true)) ∧ (∃ (s : State) (node : BitVec 18), (s.dev.sys.cdReset = false) ∧
      (s.dev.line node.toNat = none) ∧ (node.toNat < 1536) ∧ (node.toNat < s.dev.nodeCount) ∧ (s.dev.residentDue node.toNat = true)) ∧ (∃
      (s : State) (node : BitVec 18) (x : Line), (s.dev.line node.toNat = some x) ∧ (x.res = true ∨ x.late = true ∨ s.dev.residentDue
      node.toNat = false)) ∧ (∃ (s : State) (node : BitVec 18) (x : Line), (s.dev.ddrOn = true) ∧ (s.dev.line node.toNat = some x) ∧ (x.res
      = true) ∧ (x.dirty = 0) ∧ (s.dev.residency node.toNat = true)) ∧ (∃ (s : State) (node : BitVec 18) (x : Line), (s.dev.ddrOn = true) ∧
      (s.dev.line node.toNat = some x) ∧ (x.res = true) ∧ (x.dirty = 0) ∧ (s.dev.residency node.toNat = false)) ∧ (∃ (s : State) (node :
      BitVec 18) (x : Line) (k : Fin 8), (s.dev.ddrOn = true) ∧ (s.dev.line node.toNat = some x) ∧ (x.res = true) ∧ (x.dirty = 2 ^ k.val) ∧
      (s.dev.residency node.toNat = true) ∧ (s.dev.spanState (x.addr (32 * k.val)) 32 = 0) ∧ (s.dev.rd .TWIN_STAT_STATE ≠ 2)) ∧ (∃ (s :
      State) (node : BitVec 18) (x : Line) (n : Nat), (s.dev.ddrOn = true) ∧ (n = node.toNat) ∧ (n < 1536) ∧ (s.dev.line n = some x) ∧
      (x.usable = true) ∧ (x.res = true) ∧ (s.dev.on .BERTH_CFG_CHEN = true) ∧ (s.dev.tide % 64 = 0) ∧ (s.dev.rd .TWIN_STAT_STATE ≠ 2)) ∧
      (∃ (s : State) (node : BitVec 18), (s.dev.sys.cdReset = false) ∧ (s.dev.pager.reinit = none) ∧ (s.dev.nodeCount ≤ node.toNat)) ∧ (∃
      (s : State) (node : BitVec 18), (s.dev.sys.cdReset = false) ∧ (s.dev.pager.reinit = none) ∧ (node.toNat < s.dev.nodeCount) ∧
      ((s.dev.line node.toNat).isSome = true)) ∧ (∃ (s : State) (node : BitVec 18), (s.dev.sys.cdReset = false) ∧ (s.dev.pager.reinit =
      none) ∧ (node.toNat < s.dev.nodeCount) ∧ (s.dev.line node.toNat = none) ∧ (((s.dev.tt.active.toList ++ s.dev.tt.pending.toList).any
      fun x => x.names node.toNat) = true)) ∧ (∃ (s : State) (node : BitVec 18), (s.dev.sys.cdReset = false) ∧ (s.dev.pager.reinit = none)
      ∧ (node.toNat < s.dev.nodeCount) ∧ (s.dev.line node.toNat = none) ∧ (s.dev.timetabled = false)) ∧ (∃ (s : State) (n : Nat),
      (s.dev.pager.reinit = some n) ∧ (s.dev.rd .TWIN_STAT_STATE ≠ 2)) ∧ (∃ (s : State), (s.dev.sys.cdReset = false)) :=
  ⟨⟨((((State.reset.live.w .DDR_STAT_STATE 0 2).w .BERTH_CFG_NTSIZE 0 64).w .BERTH_NTBASE_BASE 0 0).dv fun d =>
    { d with tt := { d.tt with active := some {} } }).dv fun d => { d with pager := { d.pager with lines := [(3, {})] } }, 1535, by
    decide⟩, ⟨((((State.reset.live.w .DDR_STAT_STATE 0 2).w .BERTH_CFG_NTSIZE 0 64).w .BERTH_NTBASE_BASE 0 0).dv fun d =>
    { d with tt := { d.tt with active := some { tasks := [{ sampleTask with nodes := [{ cls := 0, count := 1, first := 2000 }] }] } } }).dv
    fun d => { d with pager := { d.pager with lines := [] } }, 2000, by decide⟩, ⟨State.reset.dv fun d =>
    { d with sys := { d.sys with cdReset := true } }, 3, by decide⟩, ⟨(fun (x : Line) => (fun (x : State) =>
    { x with mem := memPutNat [] (0x4000 * 2000 + 16) 8 77 }) ((((((State.reset.live.w .DDR_STAT_STATE 0 2).w .BERTH_CFG_NTSIZE 0 64).w
    .BERTH_NTBASE_BASE 0 0).w .TWIN_STAT_STATE 0 0).dv fun d => { d with eccm := { d.eccm with bad := [] } }).dv fun d =>
    { d with pager := { d.pager with lines := [(2000, x)] } })) ({ berth := 1540 }), 2000, { berth := 1540 }, by decide⟩, ⟨(fun (x : Line)
    => (State.reset.live.dv fun d =>
    { d with tt := { d.tt with active := some { tasks := [{ sampleTask with nodes := [{ cls := 0, count := 1, first := 2000 }] }] } } }).dv
    fun d => { d with pager := { d.pager with lines := [(3, {}), (2000, x)] } }) ({ berth := 1540 }), 2000, { berth := 1540 }, by decide⟩,
    ⟨((State.reset.live.w .BERTH_CFG_NTSIZE 0 64).dv fun d => { d with tt := { d.tt with active := some {} } }).dv fun d =>
    { d with pager := { d.pager with lines := [] } }, 1535, by decide⟩, ⟨(fun (x : Line) => State.reset.dv fun d =>
    { d with pager := { d.pager with lines := [(2000, x)] } }) ({ berth := 1540, res := true }), 2000, { berth := 1540, res := true }, by
    decide⟩, ⟨(fun (x : Line) => ((((State.reset.live.w .DDR_STAT_STATE 0 2).w .BERTH_CFG_NTSIZE 0 64).w .BERTH_NTBASE_BASE 0 0).dv fun d
    => { d with tt := { d.tt with active := some {} } }).dv fun d => { d with pager := { d.pager with lines := [(1535, x)] } })
    ({ berth := 1535, res := true }), 1535, { berth := 1535, res := true }, by decide⟩, ⟨(fun (x : Line) => (((((State.reset.live.w
    .DDR_STAT_STATE 0 2).w .BERTH_CFG_NTSIZE 0 64).w .BERTH_NTBASE_BASE 0 0).dv fun d =>
    { d with tt := { d.tt with active := none, pending := none } }).dv fun d =>
    { d with pager := { d.pager with lines := [(2000, x)] } }).dv fun d =>
    { d with eccm := { d.eccm with bad := [((translationTable + 8000) / 8, 2)] } }) ({ berth := 1540, res := true }), 2000,
    { berth := 1540, res := true }, by decide⟩, ⟨(fun (x : Line) => (fun (x : State) => { x with mem := memPutNat [] 0x1010200000 8 77 })
    (((((((State.reset.live.w .DDR_STAT_STATE 0 2).w .BERTH_CFG_NTSIZE 0 64).w .BERTH_NTBASE_BASE 0 0).w .TWIN_STAT_STATE 0 0).dv fun d =>
    { d with tt := { d.tt with active := some {} } }).dv fun d => { d with eccm := { d.eccm with bad := [] } }).dv fun d =>
    { d with pager := { d.pager with lines := [(1535, x)] } })) ({ berth := 1535, res := true, dirty := 128 }), 1535,
    { berth := 1535, res := true, dirty := 128 }, 7, by decide⟩, ⟨(fun (x : Line) => ((((((((State.reset.live.w .DDR_STAT_STATE 0 2).w
    .BERTH_CFG_NTSIZE 0 64).w .BERTH_NTBASE_BASE 0 0).w .TWIN_STAT_STATE 0 0).w .BERTH_CFG_CHEN 0 1).w .BERTH_HOFF_HOFFC 0 244).w
    .TIDE_CNTLO 0 16320).w .TIDE_CNTHI 0 0).dv fun d => { d with pager := { d.pager with lines := [(1535, x)] } })
    ({ berth := 1535, res := true, usable := true }), 1535, { berth := 1535, res := true, usable := true }, 1535, by decide⟩,
    ⟨(((State.reset.live.w .DDR_STAT_STATE 0 2).w .BERTH_CFG_NTSIZE 0 64).w .BERTH_NTBASE_BASE 0 0).w .BERTH_CFG_NTSIZE 0 0, 2000, by
    decide⟩, ⟨((((State.reset.live.w .DDR_STAT_STATE 0 2).w .BERTH_CFG_NTSIZE 0 64).w .BERTH_NTBASE_BASE 0 0).w .BERTH_CFG_NTSIZE 0 64).dv
    fun d => { d with pager := { d.pager with lines := [(2000, {})], reinit := none } }, 2000, by decide⟩, ⟨(((((State.reset.live.w
    .DDR_STAT_STATE 0 2).w .BERTH_CFG_NTSIZE 0 64).w .BERTH_NTBASE_BASE 0 0).w .BERTH_CFG_NTSIZE 0 64).dv fun d =>
    { d with pager := { d.pager with lines := [], reinit := none } }).dv fun d =>
    { d with tt := { d.tt with active := some { tasks := [{ sampleTask with nodes := [{ cls := 0, count := 1, first := 2000 }] }] } } },
    2000, by decide⟩, ⟨((((State.reset.live.w .DDR_STAT_STATE 0 2).w .BERTH_CFG_NTSIZE 0 64).w .BERTH_NTBASE_BASE 0 0).dv fun d =>
    { d with pager := { d.pager with lines := [], reinit := none } }).dv fun d =>
    { d with tt := { d.tt with active := none, pending := none } }, 2000, by decide⟩, ⟨(fun (n : Nat) => ((((State.reset.live.w
    .DDR_STAT_STATE 0 2).w .BERTH_CFG_NTSIZE 0 64).w .BERTH_NTBASE_BASE 0 0).w .TWIN_STAT_STATE 0 0).dv fun d =>
    { d with pager := { d.pager with reinit := some n } }) (2000), 2000, by decide⟩, ⟨State.reset.live, by decide⟩⟩

/-- States and operands that meet the hypotheses of each clause of `Obligations.DdrCommands` that has some. -/
theorem witness_ddrCommands :
    (∃ (s : State), (s.dev.sys.cdReset = false) ∧ (s.dev.rd .DDR_STAT_STATE = 0)) ∧ (∃ (s : State), (s.dev.rd .DDR_STAT_STATE ≠ 0)) ∧ (∃ (s
      : State), (s.dev.sys.cdReset = false) ∧ (s.dev.rd .DDR_STAT_STATE = 1) ∧ (s.dev.rd .DDR_CFG_DENS ≠ 2)) ∧ (∃ (s : State),
      (s.dev.sys.cdReset = false) ∧ (s.dev.rd .DDR_STAT_STATE = 1) ∧ (s.dev.rd .DDR_CFG_DENS = 2) ∧ (s.dev.on .DDR_CFG_RANKS = true)) ∧ (∃
      (s : State), (s.dev.sys.cdReset = false) ∧ (s.dev.rd .DDR_STAT_STATE = 2)) ∧ (∃ (s : State) (a : Nat) (n : Nat), (s.dev.sys.cdReset =
      false) ∧ (s.dev.on .DDR_STAT_FBUSY = false) ∧ (a = s.dev.rd .DDR_FILLADLO * 64 + 2 ^ 32 * s.dev.rd .DDR_FILLADHI) ∧ (n = 64 *
      s.dev.rd .DDR_FILLLEN) ∧ (s.dev.fillRange a n = true) ∧ (s.dev.timetabled = false) ∧ (s.dev.rd .DDR_STAT_STATE = 2)) ∧ (∃ (s : State)
      (a : Nat) (n : Nat), (s.dev.sys.cdReset = false) ∧ (s.dev.on .DDR_STAT_FBUSY = false) ∧ (a = s.dev.rd .DDR_FILLADLO * 64 + 2 ^ 32 *
      s.dev.rd .DDR_FILLADHI) ∧ (n = 64 * s.dev.rd .DDR_FILLLEN) ∧ (s.dev.fillRange a n = false)) ∧ (∃ (s : State) (a : Nat) (n : Nat),
      (s.dev.sys.cdReset = false) ∧ (s.dev.on .DDR_STAT_FBUSY = false) ∧ (a = s.dev.rd .DDR_FILLADLO * 64 + 2 ^ 32 * s.dev.rd
      .DDR_FILLADHI) ∧ (n = 64 * s.dev.rd .DDR_FILLLEN) ∧ (s.dev.fillRange a n = true) ∧ (s.dev.timetabled = true) ∧ (s.dev.touchesLines a
      (a + n) = true)) ∧ (∃ (s : State) (a : Nat) (n : Nat), (s.dev.sys.cdReset = false) ∧ (s.dev.on .DDR_STAT_FBUSY = false) ∧ (a =
      s.dev.rd .DDR_FILLADLO * 64 + 2 ^ 32 * s.dev.rd .DDR_FILLADHI) ∧ (n = 64 * s.dev.rd .DDR_FILLLEN) ∧ (s.dev.fillRange a n = true) ∧
      (s.dev.timetabled = false) ∧ (s.dev.rd .DDR_STAT_STATE ≠ 2)) ∧ (∃ (s : State), (s.dev.sys.cdReset = false) ∧ (s.dev.on
      .DDR_STAT_FBUSY = true)) ∧ (∃ (s : State) (a : Nat) (n : Nat) (p : Nat), (s.dev.sys.cdReset = false) ∧ (s.dev.onAt .CAP_CLS_HELD 11 =
      true) ∧ (s.dev.eccm.fill = some (a, n, p)) ∧ (n % 64 = 0) ∧ (n ≤ 2 ^ 40) ∧ (a ≠ 0)) ∧ (∃ (s : State) (a : Nat) (n : Nat) (p : Nat),
      (s.dev.sys.cdReset = false) ∧ (s.dev.eccm.fill = some (a, n, p)) ∧ (n % 64 = 0) ∧ (a ≠ 0)) ∧ (∃ (s : State) (ch : Fin 9),
      (s.dev.sys.cdReset = false) ∧ (s.dev.bit .DDR_HALT ch.val = true) ∧ (s.dev.eccm.halts.at 0 ch.val = 0 ∨ s.dev.wordState
      (s.dev.eccm.halts.at 0 ch.val - 1) < 2)) ∧ (∃ (s : State) (ch : Fin 9) (a : Nat), (s.dev.sys.cdReset = false) ∧ (s.dev.bit .DDR_HALT
      ch.val = true) ∧ (s.dev.eccm.halts.at 0 ch.val = a + 1) ∧ (2 ≤ s.dev.wordState a)) ∧ (∃ (s : State) (ch : Fin 9), (s.dev.bit
      .DDR_HALT ch.val = false)) :=
  ⟨⟨State.reset.live.w .DDR_STAT_STATE 0 0, by decide⟩, ⟨State.reset.w .DDR_STAT_STATE 0 2, by decide⟩, ⟨(State.reset.live.w
    .DDR_STAT_STATE 0 1).w .DDR_CFG_DENS 0 1, by decide⟩, ⟨((State.reset.live.w .DDR_STAT_STATE 0 1).w .DDR_CFG_DENS 0 2).w .DDR_CFG_RANKS
    0 1, by decide⟩, ⟨State.reset.live.w .DDR_STAT_STATE 0 2, by decide⟩, ⟨(((((State.reset.live.w .DDR_STAT_FBUSY 0 0).w .DDR_STAT_STATE 0
    2).w .DDR_FILLADLO 0 3).w .DDR_FILLADHI 0 0).w .DDR_FILLLEN 0 2).dv fun d =>
    { d with tt := { d.tt with active := none, pending := none } }, 192, 128, by decide⟩, ⟨(((((State.reset.live.w .DDR_STAT_FBUSY 0 0).w
    .DDR_STAT_STATE 0 2).w .DDR_FILLADLO 0 3).w .DDR_FILLADHI 0 0).w .DDR_FILLLEN 0 2).w .DDR_FILLADHI 0 255, 192 + 2 ^ 32 * 255, 128, by
    decide⟩, ⟨(((((((State.reset.live.w .DDR_STAT_FBUSY 0 0).w .DDR_STAT_STATE 0 2).w .DDR_FILLADLO 0 3).w .DDR_FILLADHI 0 0).w
    .DDR_FILLLEN 0 2).dv fun d => { d with tt := { d.tt with active := some {} } }).w .BERTH_CFG_NTSIZE 0 1).w .BERTH_NTBASE_BASE 0 0, 192,
    128, by decide⟩, ⟨((((((State.reset.live.w .DDR_STAT_FBUSY 0 0).w .DDR_STAT_STATE 0 2).w .DDR_FILLADLO 0 3).w .DDR_FILLADHI 0 0).w
    .DDR_FILLLEN 0 2).w .DDR_STAT_STATE 0 1).dv fun d => { d with tt := { d.tt with active := none, pending := none } }, 192, 128, by
    decide⟩, ⟨State.reset.live.w .DDR_STAT_FBUSY 0 1, by decide⟩, ⟨(fun (a : Nat) (n : Nat) (p : Nat) => (State.reset.live.w .CAP_CLS_HELD
    (11) 1).dv fun d => { d with eccm := { d.eccm with fill := some (a, n, p) } }) (192) (128) (0x0102030405060708), 192, 128,
    0x0102030405060708, by decide⟩, ⟨(fun (a : Nat) (n : Nat) (p : Nat) => State.reset.live.dv fun d =>
    { d with eccm := { d.eccm with fill := some (a, n, p) } }) (192) (128) (0x0102030405060708), 192, 128, 0x0102030405060708, by decide⟩,
    ⟨(State.reset.live.w .DDR_HALT 0 511).dv fun d => { d with eccm := { d.eccm with bad := [], halts := [(8, 65)] } }, 8, by decide⟩,
    ⟨(State.reset.live.w .DDR_HALT 0 511).dv fun d => { d with eccm := { d.eccm with bad := [(8, 2)], halts := [(8, 65)] } }, 8, 64, by
    decide⟩, ⟨State.reset.w .DDR_HALT 0 0, 0, by decide⟩⟩

/-- States and operands that meet the hypotheses of each clause of `Obligations.EccCommands` that has some. -/
theorem witness_eccCommands :
    (∃ (s : State) (a : Nat), (s.dev.sys.cdReset = false) ∧ (s.dev.fm.diffAct = false) ∧ (s.dev.on .DDR_SCRUB_EN = true) ∧ (s.dev.rd
      .DDR_STAT_STATE = 2) ∧ (s.dev.eccm.fill = none) ∧ (a = s.dev.rd .DDR_SCRPOSLO + 2 ^ 32 * s.dev.rd .DDR_SCRPOSHI) ∧ (a < 0x1000000000)
      ∧ (s.dev.wordState a = 0)) ∧ (∃ (s : State) (a : Nat), (s.dev.sys.cdReset = false) ∧ (s.dev.fm.diffAct = false) ∧ (s.dev.on
      .DDR_SCRUB_EN = true) ∧ (s.dev.rd .DDR_STAT_STATE = 2) ∧ (s.dev.eccm.fill = none) ∧ (a = s.dev.rd .DDR_SCRPOSLO + 2 ^ 32 * s.dev.rd
      .DDR_SCRPOSHI) ∧ (a < 0x1000000000) ∧ (s.dev.wordState a = 0)) ∧ (∃ (s : State) (a : Nat), (s.dev.sys.cdReset = false) ∧
      (s.dev.fm.diffAct = false) ∧ (s.dev.on .DDR_SCRUB_EN = true) ∧ (s.dev.rd .DDR_STAT_STATE = 2) ∧ (s.dev.eccm.fill = none) ∧ (a =
      s.dev.rd .DDR_SCRPOSLO + 2 ^ 32 * s.dev.rd .DDR_SCRPOSHI) ∧ (a < 0x1000000000) ∧ (a % 8 = 0) ∧ (s.dev.wordState a = 0) ∧
      (s.dev.eccm.list.length < 4096)) ∧ (∃ (s : State) (a : Nat), (s.dev.eccm.sramPos = a) ∧ (a ≠ 0) ∧ (s.dev.engineBusy a = false) ∧
      (s.dev.wordState a = 0) ∧ (a < 2 ^ 40)) ∧ (∃ (s : State) (a : Nat), (s.dev.eccm.sramPos = a) ∧ (a ≠ 0) ∧ (s.dev.engineBusy a = true))
      ∧ (∃ (s : State) (a : Nat), (s.dev.eccm.sramPos = a) ∧ (ferrymanSram ≤ a) ∧ (a < 2 ^ 40) ∧ (s.dev.engineBusy a = false) ∧
      (s.dev.wordState a = 0)) ∧ (∃ (s : State), (s.dev.sys.cdReset = true) ∧ (s.dev.on .ECC_STAT_STF = false)) ∧ (∃ (s : State),
      (s.dev.sys.cdReset = true) ∧ (s.dev.on .ECC_STAT_STF = true)) ∧ (∃ (s : State), (s.dev.sys.cdReset = false) ∧ (s.dev.on .ECC_STAT_STF
      = false)) ∧ (∃ (s : State), (s.dev.on .GWY_BENCH_ON = true)) ∧ (∃ (s : State), (s.dev.on .GWY_BENCH_ON = false)) :=
  ⟨⟨((((((State.reset.live.w .DDR_SCRUB_EN 0 1).w .DDR_STAT_STATE 0 2).w .DDR_SCRPOSLO 0 64).w .DDR_SCRPOSHI 0 0).dv fun d =>
    { d with fm := { d.fm with diffAct := false } }).dv fun d => { d with eccm := { d.eccm with fill := none } }).dv fun d =>
    { d with eccm := { d.eccm with bad := [] } }, 64, by decide⟩, ⟨((((((State.reset.live.w .DDR_SCRUB_EN 0 1).w .DDR_STAT_STATE 0 2).w
    .DDR_SCRPOSLO 0 64).w .DDR_SCRPOSHI 0 0).dv fun d => { d with fm := { d.fm with diffAct := false } }).dv fun d =>
    { d with eccm := { d.eccm with fill := none } }).dv fun d => { d with eccm := { d.eccm with bad := [] } }, 64, by decide⟩,
    ⟨((((((State.reset.live.w .DDR_SCRUB_EN 0 1).w .DDR_STAT_STATE 0 2).w .DDR_SCRPOSLO 0 64).w .DDR_SCRPOSHI 0 0).dv fun d =>
    { d with fm := { d.fm with diffAct := false } }).dv fun d => { d with eccm := { d.eccm with fill := none } }).dv fun d =>
    { d with eccm := { d.eccm with bad := [], list := [] } }, 64, by decide⟩, ⟨(fun (a : Nat) => State.reset.dv fun d =>
    { d with eccm := { d.eccm with sramPos := a, bad := [] } }) (0x101007FFF8), 0x101007FFF8, by decide⟩, ⟨(fun (a : Nat) =>
    (State.reset.dv fun d => { d with eccm := { d.eccm with sramPos := a } }).dv fun d => d.setEngine 0 { running := true }) (engineWindow
    0 + 8), engineWindow 0 + 8, by decide⟩, ⟨(fun (a : Nat) => State.reset.dv fun d =>
    { d with eccm := { d.eccm with sramPos := a, bad := [] } }) (ferrymanSram + 8), ferrymanSram + 8, by decide⟩, ⟨(State.reset.dv fun d =>
    { d with sys := { d.sys with cdReset := true } }).w .ECC_STAT_STF 0 0, by decide⟩, ⟨(State.reset.dv fun d =>
    { d with sys := { d.sys with cdReset := true } }).w .ECC_STAT_STF 0 1, by decide⟩, ⟨(State.reset.dv fun d =>
    { d with sys := { d.sys with cdReset := false } }).w .ECC_STAT_STF 0 0, by decide⟩, ⟨State.reset.w .GWY_BENCH_ON 0 1, by decide⟩,
    ⟨State.reset.w .GWY_BENCH_ON 0 0, by decide⟩⟩

/-- States and operands that meet the hypotheses of each clause of `Obligations.FilterCommands` that has some. -/
theorem witness_filterCommands :
    (∃ (s : State) (n : Fin 48), (s.dev.cfg .MTR_SDCFG_CLK n.val < 6) ∧ (s.dev.sdLoss n.val = false)) ∧ (∃ (s : State) (n : Fin 48), (6 ≤
      s.dev.cfg .MTR_SDCFG_CLK n.val)) ∧ (∃ (s : State) (n : Fin 48) (k : Nat) (bits : List Bool) (r : Nat), (s.dev.sys.cdReset = false) ∧
      (s.dev.onAt .SDF_CFG_EN n.val = true) ∧ (s.dev.clockRuns (s.dev.cfg .MTR_SDCFG_CLK n.val) = true) ∧ (r = s.dev.rdAt .SDF_CFG_OSR
      n.val) ∧ (k % r = 0) ∧ (3 * (r - 1) + 1 ≤ k) ∧ (3 * (r - 1) + 1 ≤ bits.length) ∧ (s.dev.onAt .SDF_STAT_RUN n.val = true → k =
      (s.dev.filter n.val).edge + r)) ∧ (∃ (s : State) (n : Fin 48) (k : Nat), (s.dev.onAt .SDF_CFG_EN n.val = false ∨ s.dev.clockRuns
      (s.dev.cfg .MTR_SDCFG_CLK n.val) = false ∨ k % s.dev.rdAt .SDF_CFG_OSR n.val ≠ 0 ∨ k < 3 * (s.dev.rdAt .SDF_CFG_OSR n.val - 1) + 1))
      ∧ (∃ (s : State) (n : Fin 28) (bits : List Bool) (m : Nat), (s.dev.chanRuns n.val = true) ∧ (bits.length = 5 * s.dev.stageRatio
      n.val) ∧ (m = n.val / 7) ∧ (s.dev.cfgOn .MTR_MPCFG_EN m = false ∨ n.val % 7 ≠ s.dev.cfg .MTR_MPCFG_ZCSRC m)) ∧ (∃ (s : State) (n :
      Fin 28) (bits : List Bool) (m : Nat), (s.dev.chanRuns n.val = true) ∧ (bits.length = 5 * s.dev.stageRatio n.val) ∧ (m = n.val / 7) ∧
      (s.dev.cfgOn .MTR_MPCFG_EN m = true) ∧ (n.val % 7 = s.dev.cfg .MTR_MPCFG_ZCSRC m) ∧ (s.dev.onAt .MTR_MPSTAT_ZCTO m = false)) ∧ (∃ (s
      : State) (n : Fin 28) (bits : List Bool), (s.dev.chanRuns n.val = false ∨ bits.length ≠ 5 * s.dev.stageRatio n.val)) ∧ (∃ (s : State)
      (m : Fin 4) (k : Nat), (s.dev.cfgOn .MTR_MPCFG_EN m.val = true) ∧ (s.dev.onAt .MTR_MPSTAT_ZCTO m.val = false) ∧ (k = (s.dev.chan (7 *
      m.val + s.dev.cfg .MTR_MPCFG_ZCSRC m.val)).count) ∧ ((s.dev.point m.val).last.getD 0 + 256 * (if s.dev.cfgOn .MTR_MPCFG_FNOM m.val
      then 400 else 480) ≤ 256 * k)) ∧ (∃ (s : State) (m : Fin 4), (s.dev.cfgOn .MTR_MPCFG_EN m.val = false ∨ s.dev.onAt .MTR_MPSTAT_ZCTO
      m.val = true ∨ s.dev.crossingLate m.val = false)) :=
  ⟨⟨((State.reset.live.w .MTR_SDLOSS0 0 0).w .MTR_SDLOSS1 0 0).dv fun d =>
    { d with met := { d.met with act := [((.MTR_CHSEL_EN, 27), 1), ((.MTR_MPCFG_EN, 3), 1), ((.MTR_CHSEL_SD, 27), 47), ((.MTR_SDCFG_CLK, 0), 1), ((.MTR_SDCFG_CLK, 47), 5)] } },
    47, by decide⟩, ⟨State.reset.dv fun d => { d with met := { d.met with act := [((.MTR_SDCFG_CLK, 4), 6)] } }, 4, by decide⟩,
    ⟨((((State.reset.live.w .SDF_CFG_EN (47) 1).w .SDF_CFG_OSR (47) 16).w .SDF_STAT_RUN (47) 0).dv fun d =>
    { d with straps := { d.straps with twinst := false } }).dv fun d =>
    { d with met := { d.met with act := [((.MTR_SDCFG_CLK, 47), 5)], mclkRun := 32 } }, 47, 48, List.replicate 30 true ++ List.replicate 30
    false, 16, by decide⟩, ⟨State.reset.w .SDF_CFG_EN (47) 0, 47, 3, by decide⟩, ⟨(State.reset.dv fun d =>
    { d with straps := { d.straps with twinst := false } }).dv fun d =>
    { d with met := { d.met with act := [((.MTR_CHSEL_EN, 27), 1), ((.MTR_CHSEL_SD, 27), 47), ((.MTR_SDCFG_CLK, 47), 5), ((.MTR_MCLK_DIV, 5), 40), ((.MTR_MPCFG_EN, 3), 1), ((.MTR_MPCFG_ZCSRC, 3), 0)], mclkRun := 32, chans := [(27, { words := [5, 6, 7], vals := [3], count := 1 })], points := [(3, { armed := true })] } },
    27, List.replicate 625 true, 3, by decide⟩, ⟨((State.reset.dv fun d => { d with straps := { d.straps with twinst := false } }).w
    .MTR_MPSTAT_ZCTO (3) 0).dv fun d =>
    { d with met := { d.met with act := [((.MTR_CHSEL_EN, 27), 1), ((.MTR_CHSEL_SD, 27), 47), ((.MTR_SDCFG_CLK, 47), 5), ((.MTR_MCLK_DIV, 5), 40), ((.MTR_MPCFG_EN, 3), 1), ((.MTR_MPCFG_ZCSRC, 3), 6)], mclkRun := 32, chans := [(27, { words := [5, 6, 7], vals := [3], count := 1 })], points := [(3, { armed := true })] } },
    27, List.replicate 625 true, 3, by decide⟩, ⟨State.reset.dv fun d => { d with met := { d.met with act := [] } }, 27, [], by decide⟩,
    ⟨(State.reset.w .MTR_MPSTAT_ZCTO (3) 0).dv fun d =>
    { d with met := { d.met with act := [((.MTR_MPCFG_EN, 3), 1)], chans := [(21, { count := 480 })] } }, 3, 480, by decide⟩,
    ⟨State.reset.w .MTR_MPSTAT_ZCTO (3) 1, 3, by decide⟩⟩

/-- States and operands that meet the hypotheses of each clause of `Obligations.MeteringCommands` that has some. -/
theorem witness_meteringCommands :
    (∃ (s : State) (m : Fin 4) (w : WindowEnd) (l : List WindowEnd), (s.dev.cfgOn .MTR_MPCFG_EN m.val = true) ∧ (s.dev.cus.started = true)
      ∧ (s.dev.cus.frozen = false) ∧ ((s.dev.point m.val).wins = w :: l) ∧ (w.upto ≤ s.dev.pointCount m.val)) ∧ (∃ (s : State) (m : Fin 4)
      (w : WindowEnd) (l : List WindowEnd) (n : Nat) (k : Nat), (s.dev.cfgOn .MTR_MPCFG_EN m.val = true) ∧ (s.dev.cus.started = true) ∧
      (s.dev.cus.frozen = false) ∧ ((s.dev.point m.val).wins = w :: l) ∧ (w.upto ≤ s.dev.pointCount m.val) ∧ (n = w.cycles * 2048000000) ∧
      (k = w.last - w.first)) ∧ (∃ (s : State) (m : Fin 4), (s.dev.cfgOn .MTR_MPCFG_EN m.val = false ∨ (s.dev.point m.val).wins = [] ∨
      s.dev.counting = false)) ∧ (∃ (s : State) (m : Fin 4) (n : Nat) (comps : List Comp) (fixed : Bool) (r : List (Nat × List Comp ×
      Bool)), (s.dev.cfgOn .MTR_MPCFG_EN m.val = true) ∧ (s.dev.cus.started = true) ∧ (s.dev.cus.frozen = false) ∧ ((s.dev.point
      m.val).blocks = (n, comps, fixed) :: r) ∧ (n ≤ s.dev.pointCount m.val)) ∧ (∃ (s : State) (m : Fin 4), (s.dev.cfgOn .MTR_MPCFG_EN
      m.val = false ∨ s.dev.counting = false ∨ (s.dev.point m.val).blocks = [])) ∧ (∃ (s : State), (s.dev.cus.isSealed = false) ∧
      (s.dev.loadFaults = [])) ∧ (∃ (s : State) (x : Nat × Nat), (s.dev.cus.isSealed = false) ∧ (s.dev.loadFaults = [x]) ∧ (x.1 ≠ 0)) ∧ (∃
      (s : State), (s.dev.cus.isSealed = true)) ∧ (∃ (s : State) (k : Store (Fld × Nat) Nat), (s.dev.sys.cdReset = false) ∧ (s.dev.met.load
      = some k)) ∧ (∃ (s : State), (s.dev.met.load = none)) ∧ (∃ (s : State) (k : Fin 28) (a : Nat), (s.dev.cfgOn .MTR_CHSEL_EN k.val =
      true) ∧ (s.dev.cfg .MTR_CHTS_TSRC k.val = a) ∧ (a ≠ 0x7F) ∧ (s.dev.onAt .ADC_STAT_OPEN a = true)) ∧ (∃ (s : State) (k : Fin 28) (a :
      Nat) (u : Nat), (s.dev.cfgOn .MTR_CHSEL_EN k.val = true) ∧ (s.dev.cfg .MTR_CHTS_TSRC k.val = a) ∧ (a ≠ 0x7F) ∧ (s.dev.met.tseq.at 0
      k.val ≠ s.dev.rdAt .ADC_STAT_SEQ a + 1) ∧ (s.dev.onAt .ADC_STAT_OPEN a = false) ∧ (u = (fpFma (s.dev.cfg .MTR_CHTA k.val) (fpOfInt
      (s.dev.adc.code.at 0 a)).1 (s.dev.cfg .MTR_CHTB k.val)).1) ∧ (s.dev.boardsPaired = false)) ∧ (∃ (s : State) (k : Fin 28) (a : Nat) (u
      : Nat), (s.dev.cfgOn .MTR_CHSEL_EN k.val = true) ∧ (s.dev.cfg .MTR_CHTS_TSRC k.val = a) ∧ (a ≠ 0x7F) ∧ (s.dev.met.tseq.at 0 k.val ≠
      s.dev.rdAt .ADC_STAT_SEQ a + 1) ∧ (s.dev.onAt .ADC_STAT_OPEN a = false) ∧ (u = (fpFma (s.dev.cfg .MTR_CHTA k.val) (fpOfInt
      (s.dev.adc.code.at 0 a)).1 (s.dev.cfg .MTR_CHTB k.val)).1) ∧ (s.dev.boardsPaired = true) ∧ (s.dev.on .PWM_STAT_LEAD = true) ∧ (u ≠
      s.dev.rdAt .MTR_CHTMP k.val)) ∧ (∃ (s : State) (k : Fin 28) (a : Nat) (u : Nat), (s.dev.cfgOn .MTR_CHSEL_EN k.val = true) ∧
      (s.dev.cfg .MTR_CHTS_TSRC k.val = a) ∧ (a ≠ 0x7F) ∧ (s.dev.met.tseq.at 0 k.val ≠ s.dev.rdAt .ADC_STAT_SEQ a + 1) ∧ (s.dev.onAt
      .ADC_STAT_OPEN a = false) ∧ (u = (fpFma (s.dev.cfg .MTR_CHTA k.val) (fpOfInt (s.dev.adc.code.at 0 a)).1 (s.dev.cfg .MTR_CHTB
      k.val)).1) ∧ (s.dev.boardsPaired = true) ∧ (s.dev.on .PWM_STAT_LEAD = false)) ∧ (∃ (s : State) (k : Fin 28), (s.dev.cfgOn
      .MTR_CHSEL_EN k.val = false ∨ s.dev.cfg .MTR_CHTS_TSRC k.val = 0x7F)) ∧ (∃ (s : State) (k : Fin 28), (s.dev.cfgOn .MTR_CHSEL_EN k.val
      = true) ∧ (s.dev.cfg .MTR_CHTS_TSRC k.val ≠ 0x7F) ∧ (s.dev.onAt .MTR_CHST_TSTALE k.val = false)) ∧ (∃ (s : State) (k : Fin 6),
      (s.dev.straps.twinst = true) ∧ (s.dev.cfgOn .MTR_MCLK_EN k.val = true)) :=
  ⟨⟨(fun (w : WindowEnd) => (State.reset.dv fun d => { d with cus := { d.cus with started := true, frozen := false } }).dv fun d =>
    { d with met := { d.met with act := [((.MTR_MPCFG_EN, 3), 1)], points := [(3, { wins := [w] })], chans := (List.range 7).map fun k => (21 + k, { count := 1600, vals := (List.replicate 800 1000 ++ List.replicate 800 (-1000)) }) } })
    ({ upto := 1600, first := 0, last := 409600, cycles := 10 }), 3, { upto := 1600, first := 0, last := 409600, cycles := 10 }, [], by
    decide⟩, ⟨(fun (w : WindowEnd) (k : Nat) => (State.reset.dv fun d =>
    { d with cus := { d.cus with started := true, frozen := false } }).dv fun d =>
    { d with met := { d.met with act := [((.MTR_MPCFG_EN, 3), 1)], points := [(3, { wins := [w] })], chans := (List.range 7).map fun k => (21 + k, { count := 1600, vals := (List.replicate 800 1000 ++ List.replicate 800 (-1000)) }) } })
    ({ upto := 1600, first := 0, last := 409600, cycles := 10 }) (409600), 3, { upto := 1600, first := 0, last := 409600, cycles := 10 },
    [], 20480000000, 409600, by decide⟩, ⟨State.reset.dv fun d => { d with met := { d.met with points := [] } }, 3, by decide⟩, ⟨(fun (n :
    Nat) (comps : List Comp) (fixed : Bool) => (State.reset.dv fun d =>
    { d with cus := { d.cus with started := true, frozen := false, tl := [(96, 2 ^ 128 - 1), (127, 4)] } }).dv fun d =>
    { d with met := { d.met with act := [((.MTR_MPCFG_EN, 3), 1)], points := [(3, { blocks := [(n, comps, fixed)] })], chans := (List.range 7).map fun k => (21 + k, { count := 160, vals := (List.replicate 80 (1000 : Int) ++ List.replicate 80 (if k = 4 then 1000 else -900)) }) } })
    (160) ([]) (true), 3, 160, [], true, [], by decide⟩, ⟨State.reset.dv fun d => { d with met := { d.met with points := [] } }, 3, by
    decide⟩, ⟨(State.reset.dv fun d => { d with regs := [] }).dv fun d => { d with cus := { d.cus with isSealed := false } }, by decide⟩,
    ⟨((((State.reset.dv fun d => { d with regs := [] }).w .MTR_CHSEL_EN (27) 1).w .MTR_CHTS_NPTS (27) 0).w .MTR_CHTS_TSRC (27) 100).dv fun
    d => { d with cus := { d.cus with isSealed := false } }, (0x06, 27), by decide⟩, ⟨State.reset.dv fun d =>
    { d with cus := { d.cus with isSealed := true } }, by decide⟩, ⟨(fun (k : Store (Fld × Nat) Nat) => State.reset.live.dv fun d =>
    { d with met := { d.met with load := some k } }) ([((.MTR_MPCFG_EN, 2), 1), ((.MTR_SDCFG_CLK, 4), 1)]), [((.MTR_MPCFG_EN, 2), 1),
    ((.MTR_SDCFG_CLK, 4), 1)], by decide⟩, ⟨State.reset.dv fun d => { d with met := { d.met with load := none } }, by decide⟩,
    ⟨((((State.reset.dv fun d =>
    { d with met := { d.met with act := [((.MTR_CHSEL_EN, 27), 1), ((.MTR_CHTS_TSRC, 27), 5)], tseq := [(27, 8)] } }).w .ADC_STAT_SEQ (5)
    9).w .ADC_STAT_OPEN (5) 0).w .TWIN_STAT_INST 0 0).w .ADC_STAT_OPEN (5) 1, 27, 5, by decide⟩, ⟨(((State.reset.dv fun d =>
    { d with met := { d.met with act := [((.MTR_CHSEL_EN, 27), 1), ((.MTR_CHTS_TSRC, 27), 5)], tseq := [(27, 8)] } }).w .ADC_STAT_SEQ (5)
    9).w .ADC_STAT_OPEN (5) 0).w .TWIN_STAT_INST 0 0, 27, 5, 0, by decide⟩, ⟨(((((((State.reset.dv fun d =>
    { d with met := { d.met with act := [((.MTR_CHSEL_EN, 27), 1), ((.MTR_CHTS_TSRC, 27), 5)], tseq := [(27, 8)] } }).w .ADC_STAT_SEQ (5)
    9).w .ADC_STAT_OPEN (5) 0).w .TWIN_STAT_INST 0 0).w .TWIN_STAT_INST 0 1).w .TWIN_STAT_STATE 0 3).w .PWM_STAT_LEAD 0 1).w .MTR_CHTMP
    (27) 5, 27, 5, 0, by decide⟩, ⟨((((((State.reset.dv fun d =>
    { d with met := { d.met with act := [((.MTR_CHSEL_EN, 27), 1), ((.MTR_CHTS_TSRC, 27), 5)], tseq := [(27, 8)] } }).w .ADC_STAT_SEQ (5)
    9).w .ADC_STAT_OPEN (5) 0).w .TWIN_STAT_INST 0 0).w .TWIN_STAT_INST 0 1).w .TWIN_STAT_STATE 0 4).w .PWM_STAT_LEAD 0 0, 27, 5, 0, by
    decide⟩, ⟨State.reset.dv fun d => { d with met := { d.met with act := [] } }, 27, by decide⟩, ⟨((((State.reset.dv fun d =>
    { d with met := { d.met with act := [((.MTR_CHSEL_EN, 27), 1), ((.MTR_CHTS_TSRC, 27), 5)], tseq := [(27, 8)] } }).w .ADC_STAT_SEQ (5)
    9).w .ADC_STAT_OPEN (5) 0).w .TWIN_STAT_INST 0 0).w .MTR_CHST_TSTALE (27) 0, 27, by decide⟩, ⟨(State.reset.dv fun d =>
    { d with straps := { d.straps with twinst := true } }).dv fun d => { d with met := { d.met with act := [((.MTR_MCLK_EN, 5), 1)] } }, 5,
    by decide⟩⟩

/-- States and operands that meet the hypotheses of each clause of `Obligations.TallyCommands` that has some. -/
theorem witness_tallyCommands :
    (∃ (s : State) (j : Fin 16), (s.dev.cus.started = true) ∧ (s.dev.cus.frozen = false) ∧ (s.dev.paired = false) ∧ (s.dev.trackB j.val =
      false) ∧ (s.dev.cfg .TALLY_PUCFG_MODE j.val = 1)) ∧ (∃ (s : State) (j : Fin 16), (s.dev.cus.started = true) ∧ (s.dev.cus.frozen =
      false) ∧ (s.dev.paired = false) ∧ (s.dev.trackB j.val = false) ∧ (s.dev.cfg .TALLY_PUCFG_MODE j.val = 2)) ∧ (∃ (s : State) (j : Fin
      16), (s.dev.cus.started = true) ∧ (s.dev.cus.frozen = false) ∧ (s.dev.trackB j.val = false) ∧ (s.dev.cfg .TALLY_PUCFG_MODE j.val =
      3)) ∧ (∃ (s : State) (j : Fin 16), (s.dev.cus.started = true) ∧ (s.dev.cus.frozen = false) ∧ (s.dev.paired = false) ∧
      (s.dev.met.quad.at 0 j.val ≠ 0)) ∧ (∃ (s : State) (j : Fin 16), (s.dev.cus.started = true) ∧ (s.dev.cus.frozen = false) ∧
      (s.dev.met.quad.at 0 j.val ≠ 0)) ∧ (∃ (s : State), (s.dev.cus.started = true) ∧ (s.dev.cus.frozen = false) ∧ (s.dev.cus.writing =
      none) ∧ (s.dev.cus.due = true ∨ (s.dev.twin.commitEdge = none ∧ s.dev.cfg .TALLY_CFG_CP * 40000000 ≤ s.dev.cus.since) ∨
      (s.dev.twin.commitEdge.any fun x => decide (x ≤ s.dev.tide)) = true)) ∧ (∃ (s : State), (s.dev.cus.started = false ∨ s.dev.cus.frozen
      = true ∨ s.dev.cus.writing.isSome = true ∨ s.dev.commitDue = false)) ∧ (∃ (s : State) (k : Nat) (x : Snapshot), (s.dev.cus.writing =
      some (k, x))) ∧ (∃ (s : State) (k : Nat) (x : Snapshot), (s.dev.cus.writing = some (k, x)) ∧ (x.closing = []) ∧ (k < 2) ∧ (x.cseq < 2
      ^ 64)) ∧ (∃ (s : State), (s.dev.cus.started = true) ∧ (s.dev.cus.frozen = false) ∧ (s.dev.sys.sfPending.isSome = true ∨
      s.dev.sys.pdPending.isSome = true)) ∧ (∃ (s : State), (s.dev.cus.started = true) ∧ (s.dev.cus.frozen = false) ∧
      (s.dev.sys.sfPending.isSome = true ∨ s.dev.sys.pdPending.isSome = true) ∧ (∀ m < 4, s.dev.cfgOn .MTR_MPCFG_EN m = false)) ∧ (∃ (s :
      State), (s.dev.cus.frozen = true ∨ s.dev.cus.started = false ∨ (s.dev.sys.sfPending = none ∧ s.dev.sys.pdPending = none))) ∧ (∃ (s :
      State), (s.dev.cus.started = false) ∧ (s.dev.cus.slotA = none) ∧ (s.dev.cus.slotB = none) ∧ (s.dev.cus.marker = none) ∧
      (s.dev.cus.closing = []) ∧ (s.dev.straps.twinst = false)) ∧ (∃ (s : State) (x : Snapshot), (s.dev.cus.started = false) ∧
      (s.dev.cus.slotA = some x) ∧ (s.dev.cus.slotB = none) ∧ (s.dev.cus.marker = none) ∧ (x.lc = true) ∧ (x.rst = false) ∧ (x.closing =
      []) ∧ (x.blocks = []) ∧ (s.dev.straps.twinst = true) ∧ (s.dev.now < (x.iv.map fun v => v.nominal).getD 0) ∧ (x.cseq < 2 ^ 64)) ∧ (∃
      (s : State), (s.dev.cus.started = true)) ∧ (∃ (s : State) (v : Interval), (s.dev.cus.started = true) ∧ (s.dev.cus.frozen = false) ∧
      (s.dev.firstPoint = none) ∧ (s.dev.cus.iv = some v) ∧ (v.nominal ≤ s.dev.now)) ∧ (∃ (s : State) (v : Interval) (m : Fin 4) (n : Nat)
      (comps : List Comp) (fixed : Bool) (r : List (Nat × List Comp × Bool)), (s.dev.cus.started = true) ∧ (s.dev.cus.frozen = false) ∧
      (s.dev.firstPoint = some m.val) ∧ ((s.dev.point m.val).blocks = (n, comps, fixed) :: r) ∧ (n ≤ s.dev.pointCount m.val) ∧
      (s.dev.cus.iv = some v) ∧ (v.nominal ≤ s.dev.now)) ∧ (∃ (s : State) (v : Interval), (s.dev.firstPoint = none) ∧ (s.dev.cus.iv = some
      v) ∧ (s.dev.now < v.nominal)) :=
  ⟨⟨((State.reset.w .TWIN_STAT_INST 0 0).dv fun d => { d with cus := { d.cus with started := true, frozen := false } }).dv fun d =>
    { d with met := { d.met with act := [((.TALLY_PUCFG_MODE, 15), 1)] } }, 15, by decide⟩, ⟨((State.reset.w .TWIN_STAT_INST 0 0).dv fun d
    => { d with cus := { d.cus with started := true, frozen := false } }).dv fun d =>
    { d with met := { d.met with act := [((.TALLY_PUCFG_MODE, 15), 2)] } }, 15, by decide⟩, ⟨(State.reset.dv fun d =>
    { d with cus := { d.cus with started := true, frozen := false } }).dv fun d =>
    { d with met := { d.met with act := [((.TALLY_PUCFG_MODE, 14), 3)] } }, 14, by decide⟩, ⟨((State.reset.w .TWIN_STAT_INST 0 0).dv fun d
    => { d with cus := { d.cus with started := true, frozen := false } }).dv fun d => { d with met := { d.met with quad := [(14, 2)] } },
    14, by decide⟩, ⟨(State.reset.dv fun d => { d with cus := { d.cus with started := true, frozen := false } }).dv fun d =>
    { d with met := { d.met with quad := [(14, 2)] } }, 14, by decide⟩, ⟨(State.reset.dv fun d =>
    { d with cus := { d.cus with started := true, frozen := false } }).dv fun d =>
    { d with cus := { d.cus with writing := none, slot := 1, since := 0, due := true } }, by decide⟩, ⟨State.reset.dv fun d =>
    { d with cus := { d.cus with started := false } }, by decide⟩, ⟨(fun (k : Nat) (x : Snapshot) => State.reset.dv fun d =>
    { d with cus := { d.cus with writing := some (k, x) } }) (1) ({}), 1, {}, by decide⟩, ⟨(fun (k : Nat) (x : Snapshot) => State.reset.dv
    fun d => { d with cus := { d.cus with writing := some (k, x) } }) (1) ({ cseq := 2 ^ 64 - 1, reg := [(3, 4)] }), 1,
    { cseq := 2 ^ 64 - 1, reg := [(3, 4)] }, by decide⟩, ⟨(State.reset.dv fun d =>
    { d with cus := { d.cus with started := true, frozen := false } }).dv fun d =>
    { d with sys := { d.sys with pdPending := some .brownOut } }, by decide⟩, ⟨((State.reset.dv fun d =>
    { d with cus := { d.cus with started := true, frozen := false } }).dv fun d =>
    { d with sys := { d.sys with pdPending := some .brownOut } }).dv fun d => { d with met := { d.met with act := [] } }, by decide⟩,
    ⟨State.reset.dv fun d => { d with cus := { d.cus with frozen := true } }, by decide⟩, ⟨(State.reset.dv fun d =>
    { d with cus := { d.cus with started := false, slotA := none, slotB := none, marker := none, closing := [] } }).dv fun d =>
    { d with straps := { d.straps with twinst := false } }, by decide⟩, ⟨(fun (x : Snapshot) => ((State.reset.dv fun d =>
    { d with cus := { d.cus with started := false, slotA := some x, slotB := none, marker := none } }).dv fun d =>
    { d with straps := { d.straps with twinst := true } }).dv fun d => { d with fm := { d.fm with cal := 5 } })
    ({ lc := true, cseq := 9, reg := [(3, 4)], iv := some { nominal := 60000000 } }),
    { lc := true, cseq := 9, reg := [(3, 4)], iv := some { nominal := 60000000 } }, by decide⟩, ⟨State.reset.dv fun d =>
    { d with cus := { d.cus with started := true } }, by decide⟩, ⟨(fun (v : Interval) => (((State.reset.dv fun d =>
    { d with cus := { d.cus with started := true, frozen := false } }).dv fun d => { d with cus := { d.cus with iv := some v } }).dv fun d
    => { d with met := { d.met with act := [] } }).dv fun d => { d with fm := { d.fm with cal := 900000000 } }) ({ nominal := 900000000 }),
    { nominal := 900000000 }, by decide⟩, ⟨(fun (v : Interval) (n : Nat) (comps : List Comp) (fixed : Bool) => (((State.reset.dv fun d =>
    { d with cus := { d.cus with started := true, frozen := false } }).dv fun d => { d with cus := { d.cus with iv := some v } }).dv fun d
    =>
    { d with met := { d.met with act := [((.MTR_MPCFG_EN, 3), 1)], points := [(3, { blocks := [(n, comps, fixed)] })], chans := (List.range 7).map fun k => (21 + k, { count := 160, vals := List.replicate 160 5 }) } }).dv
    fun d => { d with fm := { d.fm with cal := 900000000 } }) ({ nominal := 900000000 }) (160) ([]) (true), { nominal := 900000000 }, 3,
    160, [], true, [], by decide⟩, ⟨(fun (v : Interval) => ((State.reset.dv fun d => { d with met := { d.met with act := [] } }).dv fun d
    => { d with cus := { d.cus with iv := some v } }).dv fun d => { d with fm := { d.fm with cal := 5 } }) ({ nominal := 900000000 }),
    { nominal := 900000000 }, by decide⟩⟩

/-- States and operands that meet the hypotheses of each clause of `Obligations.ManifestCommands` that has some. -/
theorem witness_manifestCommands :
    (∃ (s : State) (day : Nat), (s.dev.cus.anchorDue = some day) ∧ (s.dev.cus.anchorReady = true) ∧ (s.dev.cus.pend ≠ [])) ∧ (∃ (s : State)
      (day : Nat), (s.dev.cus.anchorDue = some day) ∧ (s.dev.cus.anchorReady = true) ∧ (s.dev.cus.pend = []) ∧ (s.dev.cus.coal = none) ∧
      (2200 ≤ s.dev.ringFree) ∧ (s.dev.cus.ring = [])) ∧ (∃ (s : State), (s.dev.cus.head < s.dev.lastRecord.1) ∧ (s.dev.paired = false)) ∧
      (∃ (s : State), (s.dev.lastRecord.1 ≤ s.dev.cus.head)) ∧ (∃ (s : State), (s.dev.paired = true) ∧ (s.dev.cus.confirmed ≤
      s.dev.cus.head)) ∧ (∃ (s : State), (s.dev.cus.pend = []) ∧ (s.dev.cus.coal = none)) ∧ (∃ (s : State) (r : List (BitVec 8)),
      (s.dev.cus.pend = [r]) ∧ (s.dev.cus.coal = none) ∧ (s.dev.cus.ring = []) ∧ (r.length + 32 ≤ 2097152) ∧ (24 ≤ r.length) ∧
      (s.dev.hawserUp = false)) ∧ (∃ (s : State) (r : Rec), (s.dev.rd64 .MAN_ACKLO .MAN_ACKHI ≤ s.dev.cus.head) ∧ (s.dev.cus.land <
      s.dev.rd64 .MAN_ACKLO .MAN_ACKHI) ∧ ((s.dev.cus.ring.find? fun r => decide (r.seq = s.dev.rd64 .MAN_ACKLO .MAN_ACKHI)) = some r) ∧
      ((r.bytes.drop (r.bytes.length - 32)).take 8 = leBytes 4 (s.dev.rd .MAN_ACKDG0) ++ leBytes 4 (s.dev.rd .MAN_ACKDG1))) ∧ (∃ (s :
      State), (s.dev.cus.head < s.dev.rd64 .MAN_ACKLO .MAN_ACKHI)) ∧ (∃ (s : State), (s.dev.cus.isSealed = true)) ∧ (∃ (s : State),
      (s.dev.cus.isSealed = false) ∧ (s.dev.cus.breaking.isSome = true)) ∧ (∃ (s : State), (s.dev.cus.isSealed = false) ∧
      (s.dev.cus.breaking = none) ∧ (s.dev.cus.jumper ≠ some true)) ∧ (∃ (s : State), (s.dev.cus.isSealed = false) ∧ (s.dev.cus.breaking =
      none) ∧ (s.dev.cus.jumper = some true) ∧ (s.dev.rd .MAN_SEALCHK = s.dev.rdAt .MTR_DGST 0) ∧ (s.dev.met.loadOk = false)) ∧ (∃ (s :
      State), (s.dev.cus.isSealed = false) ∧ (s.dev.cus.breaking = none) ∧ (s.dev.cus.jumper = some true) ∧ (s.dev.rd .MAN_SEALCHK ≠
      s.dev.rdAt .MTR_DGST 0)) ∧ (∃ (s : State), (s.dev.cus.isSealed = false) ∧ (s.dev.cus.breaking = none) ∧ (s.dev.cus.jumper = some
      true) ∧ (s.dev.rd .MAN_SEALCHK = s.dev.rdAt .MTR_DGST 0) ∧ (s.dev.met.loadOk = true) ∧ ((s.dev.meteringNames.any fun r => (s.dev.cell
      r.1 r.2).owner != none && (s.dev.cell r.1 r.2).owner != some .metering) = false)) ∧ (∃ (s : State), (s.dev.cus.breaking = none)) ∧ (∃
      (s : State), (s.dev.cus.breaking.isSome = true)) ∧ (∃ (s : State) (sigOk : Bool) (m : List (BitVec 8)), (s.dev.cus.breaking = some m)
      ∧ (s.dev.breakCode m sigOk ≠ 0) ∧ (s.dev.cus.ackWait = false)) ∧ (∃ (s : State) (m : List (BitVec 8)), (s.dev.cus.breaking = some m)
      ∧ (s.dev.breakCode m true = 0) ∧ (s.dev.cus.ackWait = false)) ∧ (∃ (s : State), (s.dev.cus.isSealed = false)) ∧ (∃ (s : State),
      (s.dev.cus.isSealed = true) ∧ (s.dev.cus.jumper.getD s.dev.cus.jumperKept = true) ∧ (s.dev.cus.pend = []) ∧ (s.dev.cus.ring = []) ∧
      (s.dev.hawserUp = false)) ∧ (∃ (s : State) (high : Bool) (v : BitVec 32) (r : Rec), ((s.dev.cus.ring.find? fun x => decide (x.seq =
      (if high then s.dev.rd .MAN_RDSEQLO + 2 ^ 32 * v.toNat else v.toNat + 2 ^ 32 * s.dev.rd .MAN_RDSEQHI))) = some r)) ∧ (∃ (s : State),
      (s.dev.cus.ring = [])) :=
  ⟨⟨(fun (day : Nat) => State.reset.dv fun d => { d with cus := { d.cus with anchorDue := some day, anchorReady := true, pend := [[]] } })
    (9000), 9000, by decide⟩, ⟨(fun (day : Nat) => State.reset.dv fun d =>
    { d with cus := { d.cus with anchorDue := some day, anchorReady := true, pend := [], coal := none, ring := [] } }) (9000), 9000, by
    decide⟩, ⟨(State.reset.w .TWIN_STAT_INST 0 0).dv fun d => { d with cus := { d.cus with ring := [⟨1, []⟩], head := 0 } }, by decide⟩,
    ⟨State.reset.dv fun d => { d with cus := { d.cus with ring := [⟨1, []⟩], head := 1 } }, by decide⟩, ⟨((State.reset.w .TWIN_STAT_INST 0
    1).w .TWIN_STAT_STATE 0 3).dv fun d => { d with cus := { d.cus with confirmed := 0 } }, by decide⟩, ⟨State.reset.dv fun d =>
    { d with cus := { d.cus with pend := [], coal := none } }, by decide⟩, ⟨(fun (r : List (BitVec 8)) => (State.reset.w .TWIN_STAT_STATE 0
    0).dv fun d => { d with cus := { d.cus with pend := [r], coal := none, ring := [] } }) (leBytes 96 7), leBytes 96 7, by decide⟩, ⟨(fun
    (r : Rec) => ((((State.reset.w .MAN_ACKLO 0 2).w .MAN_ACKHI 0 0).w .MAN_ACKDG0 0 5).w .MAN_ACKDG1 0 6).dv fun d =>
    { d with cus := { d.cus with ring := [⟨1, []⟩, r], head := 2, land := 0 } }) (⟨2, leBytes 8 0 ++ leBytes 4 5 ++ leBytes 28 6⟩), ⟨2,
    leBytes 8 0 ++ leBytes 4 5 ++ leBytes 28 6⟩, by decide⟩, ⟨(State.reset.w .MAN_ACKLO 0 2).dv fun d =>
    { d with cus := { d.cus with head := 1 } }, by decide⟩, ⟨((State.reset.w .MTR_DGST (0) 0).w .MAN_SEALCHK 0 0).dv fun d =>
    { d with cus := { d.cus with isSealed := true } }, by decide⟩, ⟨((State.reset.w .MTR_DGST (0) 0).w .MAN_SEALCHK 0 0).dv fun d =>
    { d with cus := { d.cus with isSealed := false, breaking := some [] } }, by decide⟩, ⟨((State.reset.w .MTR_DGST (0) 0).w .MAN_SEALCHK 0
    0).dv fun d => { d with cus := { d.cus with isSealed := false, breaking := none, jumper := some false } }, by decide⟩,
    ⟨(((State.reset.w .MTR_DGST (0) 0).w .MAN_SEALCHK 0 0).dv fun d =>
    { d with cus := { d.cus with isSealed := false, breaking := none, jumper := some true } }).dv fun d =>
    { d with met := { d.met with loadOk := false } }, by decide⟩, ⟨(((State.reset.w .MTR_DGST (0) 7).w .MAN_SEALCHK 0 0).dv fun d =>
    { d with cus := { d.cus with isSealed := false, breaking := none, jumper := some true } }).w .MAN_SEALCHK 0 5, by decide⟩,
    ⟨(((State.reset.w .MTR_DGST (0) 0).w .MAN_SEALCHK 0 0).dv fun d =>
    { d with cus := { d.cus with isSealed := false, breaking := none, jumper := some true } }).dv fun d =>
    { d with met := { d.met with loadOk := true, act := [] } }, by decide⟩, ⟨State.reset.dv fun d =>
    { d with cus := { d.cus with breaking := none } }, by decide⟩, ⟨State.reset.dv fun d =>
    { d with cus := { d.cus with breaking := some [] } }, by decide⟩, ⟨(fun (m : List (BitVec 8)) => State.reset.dv fun d =>
    { d with cus := { d.cus with breaking := some m, isSealed := true, jumper := some true, ackWait := false } }) ([]), true, [], by
    decide⟩, ⟨breakState, sampleBreak, ⟨rfl, breakCode_sampleBreak, rfl⟩⟩, ⟨State.reset.dv fun d =>
    { d with cus := { d.cus with isSealed := false } }, by decide⟩, ⟨(State.reset.w .TWIN_STAT_STATE 0 0).dv fun d =>
    { d with cus := { d.cus with isSealed := true, jumper := some true, pend := [], ring := [] } }, by decide⟩, ⟨(fun (r : Rec) =>
    (State.reset.w .MAN_RDSEQHI 0 1).dv fun d => { d with cus := { d.cus with ring := [r] } }) (⟨2 ^ 32 + 7, [1, 2]⟩), false, 7, ⟨2 ^ 32 +
    7, [1, 2]⟩, by decide⟩, ⟨State.reset.dv fun d => { d with cus := { d.cus with ring := [] } }, by decide⟩⟩

/-- States and operands that meet the hypotheses of each clause of `Obligations.ConverterInputCommands` that has some. -/
theorem witness_converterInputCommands :
    (∃ (s : State) (k : Fin 4), (s.dev.onAt .ADC_ADSTAT_BUSY k.val = true) ∧ (s.dev.onAt .ADC_ADCFG_SYNC k.val = true) ∧ (s.dev.tide % 2 ^
      s.dev.rdAt .ADC_ADCFG_SCANK k.val = 0)) ∧ (∃ (s : State) (k : Fin 4), (s.dev.onAt .ADC_ADCFG_SYNC k.val = true) ∧ (s.dev.tide % 2 ^
      s.dev.rdAt .ADC_ADCFG_SCANK k.val ≠ 0)) ∧ (∃ (s : State) (k : Fin 4) (i : Nat), (s.dev.onAt .ADC_ADSTAT_BUSY k.val = false) ∧
      (s.dev.onAt .ADC_ADCFG_SYNC k.val = false ∨ s.dev.tide % 2 ^ s.dev.rdAt .ADC_ADCFG_SCANK k.val = 0) ∧ (s.dev.adcNext k.val
      (s.dev.rdAt .ADC_ADCFG_INT k.val) 0 = some i) ∧ (i < 16) ∧ (s.dev.onAt .ADC_ADSTAT_RBK k.val = false)) ∧ (∃ (s : State) (k : Fin 4),
      (s.dev.onAt .ADC_ADSTAT_BUSY k.val = false) ∧ (s.dev.adcNext k.val (s.dev.rdAt .ADC_ADCFG_INT k.val) 0 = none)) ∧ (∃ (s : State) (k :
      Fin 4) (v : Int) (i : Nat) (n : Nat) (x : AdcConv), (s.dev.onAt .ADC_ADSTAT_BUSY k.val = true) ∧ (s.dev.adc.conv.at {} k.val = x) ∧
      (x.cur = some i) ∧ (i < 16) ∧ (n = k.val + 4 * i) ∧ (s.dev.on .ADC_DMACFG_EN = false) ∧ (s.dev.onAt .ADC_ADCFG_SYNC k.val = true) ∧
      (s.dev.onAt .ADC_STAT_OPEN n = false) ∧ (atRail x.diff x.pull (adcCode x.diff v) = false)) ∧ (∃ (s : State) (k : Fin 4) (v : Int) (i
      : Nat) (n : Nat) (x : AdcConv), (s.dev.onAt .ADC_ADSTAT_BUSY k.val = true) ∧ (s.dev.adc.conv.at {} k.val = x) ∧ (x.cur = some i) ∧ (i
      < 16) ∧ (n = k.val + 4 * i) ∧ (s.dev.on .ADC_DMACFG_EN = false) ∧ (s.dev.onAt .ADC_ADCFG_SYNC k.val = true) ∧ (s.dev.onAt
      .ADC_STAT_OPEN n = false) ∧ (atRail x.diff x.pull (adcCode x.diff v) = true) ∧ (s.dev.adc.rail.at 0 n = 3) ∧ (s.dev.adc.pull.at 0 n =
      x.pull)) ∧ (∃ (s : State) (k : Fin 4) (v : Int) (i : Nat) (x : AdcConv), (s.dev.onAt .ADC_ADSTAT_BUSY k.val = true) ∧
      (s.dev.adc.conv.at {} k.val = x) ∧ (x.cur = some i) ∧ (16 ≤ i) ∧ (i < 19) ∧ (s.dev.onAt .ADC_ADCFG_SYNC k.val = true) ∧
      (s.dev.sys.selfTestPassed = true ∨ (adcCode false v - internalCode (i - 16)).natAbs ≤ 8)) ∧ (∃ (s : State) (k : Fin 4) (v : Int) (i :
      Nat) (x : AdcConv), (s.dev.onAt .ADC_ADSTAT_BUSY k.val = true) ∧ (s.dev.adc.conv.at {} k.val = x) ∧ (x.cur = some i) ∧ (16 ≤ i) ∧ (i
      < 19) ∧ (s.dev.onAt .ADC_ADCFG_SYNC k.val = true) ∧ (s.dev.sys.selfTestPassed = false) ∧ (bitOf s.dev.adc.failed k.val = false) ∧ (8
      < (adcCode false v - internalCode (i - 16)).natAbs)) :=
  ⟨⟨((((State.reset.w .ADC_ADSTAT_BUSY (3) 1).w .ADC_ADCFG_SYNC (3) 1).w .TIDE_CNTLO 0 16).w .TIDE_CNTHI 0 0).w .ADC_ADCFG_SCANK (3) 4, 3,
    by decide⟩, ⟨(((State.reset.w .ADC_ADCFG_SYNC (3) 1).w .TIDE_CNTLO 0 17).w .TIDE_CNTHI 0 0).w .ADC_ADCFG_SCANK (3) 4, 3, by decide⟩,
    ⟨(((((((State.reset.w .TIDE_CNTLO 0 0).w .TIDE_CNTHI 0 0).w .ADC_ADSTAT_BUSY (3) 0).w .ADC_ADSTAT_RBK (3) 0).dv fun d => (List.range
    64).foldl (fun x n => (x.wrAt .ADC_CFG_EN n 0).wrAt .ADC_CFG_DIFF n 0) d).w .ADC_CFG_EN (63) 1).w .ADC_CFG_PULL (63) 2).dv fun d =>
    { d with adc := { d.adc with conv := [] } }, 3, 15, by decide⟩, ⟨((State.reset.w .ADC_ADSTAT_BUSY (3) 0).w .ADC_ADCFG_INT (3) 0).dv fun
    d => (List.range 64).foldl (fun x n => x.wrAt .ADC_CFG_EN n 0) d, 3, by decide⟩, ⟨(fun (x : AdcConv) => ((((State.reset.w
    .ADC_ADSTAT_BUSY (3) 1).w .ADC_DMACFG_EN 0 0).w .ADC_ADCFG_SYNC (3) 1).w .ADC_STAT_OPEN (63) 0).dv fun d =>
    { d with adc := { d.adc with conv := [(3, x)] } }) ({ cur := some 15, pos := 15, diff := true, pull := 3, align := true }), 3, 40000,
    15, 63, { cur := some 15, pos := 15, diff := true, pull := 3, align := true }, by decide⟩, ⟨(fun (x : AdcConv) => ((((State.reset.w
    .ADC_ADSTAT_BUSY (3) 1).w .ADC_DMACFG_EN 0 0).w .ADC_ADCFG_SYNC (3) 1).w .ADC_STAT_OPEN (63) 0).dv fun d =>
    { d with adc := { d.adc with conv := [(3, x)], rail := [(63, 3)], pull := [(63, 3)] } })
    ({ cur := some 15, pos := 15, diff := true, pull := 3 }), 3, -32440, 15, 63, { cur := some 15, pos := 15, diff := true, pull := 3 }, by
    decide⟩, ⟨(fun (x : AdcConv) => (((State.reset.w .ADC_ADSTAT_BUSY (3) 1).w .ADC_ADCFG_SYNC (3) 1).dv fun d =>
    { d with sys := { d.sys with selfTestPassed := false } }).dv fun d => { d with adc := { d.adc with conv := [(3, x)] } })
    ({ cur := some 17, pos := 17, int := 2 }), 3, 32760, 17, { cur := some 17, pos := 17, int := 2 }, by decide⟩, ⟨(fun (x : AdcConv) =>
    (((State.reset.w .ADC_ADSTAT_BUSY (3) 1).w .ADC_ADCFG_SYNC (3) 1).dv fun d =>
    { d with sys := { d.sys with selfTestPassed := false } }).dv fun d => { d with adc := { d.adc with conv := [(3, x)], failed := 0 } })
    ({ cur := some 18, pos := 18, int := 4 }), 3, 65526, 18, { cur := some 18, pos := 18, int := 4 }, by decide⟩⟩

/-- States and operands that meet the hypotheses of each clause of `Obligations.PumpEventCommands` that has some. -/
theorem witness_pumpEventCommands :
    (∃ (s : State) (code : BitVec 3), (code = 0 ∨ code = 7) ∧ (s.dev.pump.hall ≠ some code.toNat)) ∧ (∃ (s : State) (code : BitVec 3),
      (s.dev.pump.hall = some code.toNat)) ∧ (∃ (s : State) (code : BitVec 3) (o : Nat), (s.dev.pump.hall = some o) ∧ (o ≠ code.toNat) ∧
      ((hallPhases o).isSome = true) ∧ ((hallPhases code.toNat).isSome = true) ∧ (hallAdjacent o code.toNat = false)) ∧ (∃ (s : State)
      (code : BitVec 3) (o : Nat) (x : Nat) (y : Nat), (s.dev.pump.hall = some o) ∧ (hallPhases code.toNat = some (x, y)) ∧ (hallAdjacent o
      code.toNat = true) ∧ (s.dev.pump.step = .running) ∧ (s.dev.on .COOL_CTRL_DIR = false) ∧ (s.dev.pump.high = true) ∧
      (s.dev.pump.spans.length < 5)) ∧ (∃ (s : State), (s.dev.pump.stopping = true)) ∧ (∃ (s : State), (s.dev.pump.stopping = false) ∧
      (s.dev.pump.step = .precharge)) ∧ (∃ (s : State), (s.dev.pump.step = .running) ∧ (s.dev.pump.duty < 1024)) ∧ (∃ (s : State) (g : Fin
      6), (bitOf s.dev.pump.wait g.val = true)) ∧ (∃ (s : State) (g : Fin 6), (bitOf s.dev.pump.wait g.val = false)) ∧ (∃ (s : State) (g :
      Fin 6), (bitOf s.dev.pump.wait g.val = true)) ∧ (∃ (s : State) (g : Fin 6), (bitOf s.dev.pump.on g.val = true)) ∧ (∃ (s : State)
      (phase : Fin 3), (bitOf s.dev.pump.on (2 * phase.val) = true) ∧ (s.dev.pump.duty = 1024) ∧ (s.dev.pump.refresh = none)) ∧ (∃ (s :
      State) (us : Nat), (us < 100)) ∧ (∃ (s : State) (phase : Fin 3), (bitOf s.dev.pump.on (2 * phase.val) = true)) ∧ (∃ (s : State),
      (s.dev.pump.step = .fare)) ∧ (∃ (s : State), (s.dev.pumpState = 1) ∧ (s.dev.pump.step = .running) ∧ (s.dev.pump.stopping = false)) ∧
      (∃ (s : State), (s.dev.pumpState = 2) ∧ (0 < s.dev.pump.duty)) ∧ (∃ (s : State), (s.dev.pumpState = 2) ∧ (s.dev.on .COOL_CTRL_RUN =
      true) ∧ (s.dev.rd .COOL_FLOW_TMAX < s.dev.rd .COOL_SPD_T6 ∨ s.dev.pump.duty = 0)) ∧ (∃ (s : State), (s.dev.pumpState = 2) ∧ (s.dev.on
      .COOL_CTRL_RUN = true) ∧ (s.dev.rd .COOL_SPD_T6 ≤ s.dev.rd .COOL_FLOW_TMAX)) ∧ (∃ (s : State) (low : Bool), (s.dev.pumpState ≠ 2 ∨
      s.dev.on .COOL_CTRL_RUN = false ∨ s.dev.speedMay low = false)) ∧ (∃ (s : State), (s.dev.sys.spFailed = false) ∧ (s.dev.pushCode 14 =
      1) ∧ (s.dev.fm.booted = true)) ∧ (∃ (s : State), (s.dev.sys.spFailed = true)) ∧ (∃ (s : State), (s.dev.fm.booted = false)) :=
  ⟨⟨State.reset.dv fun d => { d with pump := { d.pump with hall := some 3 } }, 7, by decide⟩, ⟨State.reset.dv fun d =>
    { d with pump := { d.pump with hall := some 3 } }, 3, by decide⟩, ⟨(fun (o : Nat) => State.reset.dv fun d =>
    { d with pump := { d.pump with hall := some o } }) (3), 4, 3, by decide⟩, ⟨(fun (o : Nat) => (State.reset.w .COOL_CTRL_DIR 0 0).dv fun
    d => { d with pump := { d.pump with hall := some o, step := .running, high := true, on := 9 } }) (4), 5, 4, 2, 1, by decide⟩,
    ⟨State.reset.dv fun d => { d with pump := { d.pump with stopping := true, on := 5 } }, by decide⟩, ⟨State.reset.dv fun d =>
    { d with pump := { d.pump with stopping := false, step := .precharge, on := 42 } }, by decide⟩, ⟨State.reset.dv fun d =>
    { d with pump := { d.pump with step := .running, duty := 1023 } }, by decide⟩, ⟨State.reset.dv fun d =>
    { d with pump := { d.pump with wait := 63, on := 0 } }, 5, by decide⟩, ⟨State.reset.dv fun d =>
    { d with pump := { d.pump with wait := 0 } }, 0, by decide⟩, ⟨State.reset.dv fun d => { d with pump := { d.pump with wait := 63 } }, 5,
    by decide⟩, ⟨State.reset.dv fun d => { d with pump := { d.pump with on := 63 } }, 5, by decide⟩, ⟨State.reset.dv fun d =>
    { d with pump := { d.pump with on := 63, duty := 1024, refresh := none } }, 2, by decide⟩, ⟨State.reset, 99, by decide⟩,
    ⟨State.reset.dv fun d => { d with pump := { d.pump with on := 63 } }, 2, by decide⟩, ⟨State.reset.dv fun d =>
    { d with pump := { d.pump with step := .fare } }, by decide⟩, ⟨(State.reset.w .COOL_STAT_STATE 0 1).dv fun d =>
    { d with pump := { d.pump with step := .running, stopping := false } }, by decide⟩, ⟨(State.reset.w .COOL_STAT_STATE 0 2).dv fun d =>
    { d with pump := { d.pump with duty := 1 } }, by decide⟩, ⟨(((State.reset.w .COOL_STAT_STATE 0 2).w .COOL_CTRL_RUN 0 1).w
    .COOL_FLOW_TMAX 0 5).w .COOL_SPD_T6 0 6, by decide⟩, ⟨(((State.reset.w .COOL_STAT_STATE 0 2).w .COOL_CTRL_RUN 0 1).w .COOL_FLOW_TMAX 0
    6).w .COOL_SPD_T6 0 6, by decide⟩, ⟨State.reset.w .COOL_STAT_STATE 0 1, true, by decide⟩, ⟨((((((State.reset.dv fun d =>
    { d with fm := { d.fm with booted := true } }).live).w .TWIN_STAT_STATE 0 0).w .PWM_STAT_LEAD 0 1).w .COOL_STAT_FLOW 0 1).dv fun d =>
    { d with sys := { d.sys with spFailed := false } }).dv fun d => d.setQueue 14 {}, by decide⟩, ⟨State.reset.dv fun d =>
    { d with sys := { d.sys with spFailed := true } }, by decide⟩, ⟨State.reset.dv fun d => { d with fm := { d.fm with booted := false } },
    by decide⟩⟩

/-- States and operands that meet the hypotheses of each clause of `Obligations.PumpCommands` that has some. -/
theorem witness_pumpCommands :
    (∃ (s : State) (vbus : BitVec 16), (s.dev.sys.spFailed = false) ∧ (s.dev.pumpState = 0) ∧ (8000 < vbus.toNat)) ∧ (∃ (s : State) (vbus :
      BitVec 16), (s.dev.sys.spFailed = false) ∧ (s.dev.pumpState ≠ 0 ∨ vbus.toNat ≤ 8000)) ∧ (∃ (s : State) (x1 : Nat) (y1 : Nat) (x2 :
      Nat) (y2 : Nat) (x3 : Nat) (y3 : Nat) (a : Nat) (b2 : Nat) (e3 : Nat), (s.dev.on .COOL_STAT_DBUSY = true) ∧ (diagCode x1 y1 = some a)
      ∧ (diagCode x2 y2 = some b2) ∧ (diagCode x3 y3 = some e3)) ∧ (∃ (s : State), (s.dev.sys.spFailed = false) ∧ (s.dev.pumpState = 0) ∧
      (s.dev.on .COOL_STAT_DIAGOK = true) ∧ (s.dev.on .COOL_STAT_DBUSY = false) ∧ (s.dev.onAt .CAP_CLS_HELD 9 = false) ∧ (0 < s.dev.fareOf
      9)) ∧ (∃ (s : State), (s.dev.sys.spFailed = false) ∧ (s.dev.pumpState = 0) ∧ (s.dev.on .COOL_STAT_DIAGOK = false)) ∧ (∃ (s : State),
      (s.dev.sys.spFailed = false) ∧ (s.dev.pump.step = .running ∨ s.dev.pump.step = .precharge)) ∧ (∃ (s : State), (s.dev.sys.spFailed =
      false) ∧ (s.dev.pump.step = .fare)) ∧ (∃ (s : State), (s.dev.sys.spFailed = false) ∧ (s.dev.pump.step = .off) ∧ (s.dev.pumpState = 0
      ∨ s.dev.pumpState = 3)) ∧ (∃ (s : State), (s.dev.sys.spFailed = false) ∧ (s.dev.pump.step = .off) ∧ (s.dev.pumpState = 1 ∨
      s.dev.pumpState = 2)) ∧ (∃ (s : State), (s.dev.sys.spFailed = false) ∧ (s.dev.pumpState = 3) ∧ (s.dev.pumpFaultPresent = false)) ∧ (∃
      (s : State), (s.dev.sys.spFailed = false) ∧ (s.dev.pumpState = 3) ∧ (s.dev.pumpFaultPresent = true)) :=
  ⟨⟨(State.reset.dv fun d => { d with sys := { d.sys with spFailed := false } }).w .COOL_STAT_STATE 0 0, 8001, by decide⟩, ⟨(State.reset.dv
    fun d => { d with sys := { d.sys with spFailed := false } }).w .COOL_STAT_STATE 0 0, 8000, by decide⟩, ⟨State.reset.w .COOL_STAT_DBUSY
    0 1, 3500, 3699, 6000, 5900, 4000, 4000, 1, 1, 1, by decide⟩, ⟨(((((State.reset.dv fun d =>
    { d with sys := { d.sys with spFailed := false } }).w .COOL_STAT_STATE 0 0).w .COOL_STAT_DIAGOK 0 1).w .COOL_STAT_DBUSY 0 0).w
    .CAP_CLS_HELD (9) 0).w .CAP_CLFARE (9) 3, by decide⟩, ⟨((State.reset.dv fun d => { d with sys := { d.sys with spFailed := false } }).w
    .COOL_STAT_STATE 0 0).w .COOL_STAT_DIAGOK 0 0, by decide⟩, ⟨(State.reset.dv fun d =>
    { d with sys := { d.sys with spFailed := false } }).dv fun d => { d with pump := { d.pump with step := .running } }, by decide⟩,
    ⟨(State.reset.dv fun d => { d with sys := { d.sys with spFailed := false } }).dv fun d =>
    { d with pump := { d.pump with step := .fare } }, by decide⟩, ⟨((State.reset.dv fun d =>
    { d with sys := { d.sys with spFailed := false } }).dv fun d => { d with pump := { d.pump with step := .off } }).w .COOL_STAT_STATE 0
    3, by decide⟩, ⟨((State.reset.dv fun d => { d with sys := { d.sys with spFailed := false } }).dv fun d =>
    { d with pump := { d.pump with step := .off } }).w .COOL_STAT_STATE 0 2, by decide⟩, ⟨((State.reset.dv fun d =>
    { d with sys := { d.sys with spFailed := false } }).w .COOL_STAT_STATE 0 3).dv fun d =>
    { d with pump := { d.pump with drvLow := false, hall := some 3 } }, by decide⟩, ⟨((State.reset.dv fun d =>
    { d with sys := { d.sys with spFailed := false } }).w .COOL_STAT_STATE 0 3).dv fun d =>
    { d with pump := { d.pump with drvLow := false, hall := some 7 } }, by decide⟩⟩

/-- States and operands that meet the hypotheses of each clause of `Obligations.BootCommands` that has some. -/
theorem witness_bootCommands :
    (∃ (s : State), (s.dev.fm.booted = true ∨ s.dev.vcs.ferry.halted = true)) ∧ (∃ (s : State), (s.dev.fm.booted = false) ∧
      (s.dev.vcs.ferry.halted = false) ∧ (s.dev.sys.cdReset = true) ∧ (memNat s.mem (flashBase + 0) 4 ≠ 0x4D495653) ∧ (memNat s.mem
      (flashBase + 0x2000000) 4 ≠ 0x4D495653)) ∧ (∃ (s : State), (s.dev.fm.booted = false) ∧ (s.dev.vcs.ferry.halted = false) ∧
      ((s.dev.bootChoice s.mem).1 = 0)) ∧ (∃ (s : State) (value : BitVec 32), (value ≠ 0xC35A) ∧ (s.dev.on .FM_WDTCFG_EN = true)) ∧ (∃ (s :
      State), (s.dev.on .FM_WDTCFG_EN = true)) ∧ (∃ (s : State), (s.dev.on .FM_WDTCFG_EN = false)) ∧ (∃ (s : State) (value : BitVec 32) (q
      : Nat), (bitOf value.toNat 31 = true) ∧ (q = value.toNat % 16) ∧ (s.dev.pushCode q = 1)) ∧ (∃ (s : State) (value : BitVec 32) (q :
      Nat), (bitOf value.toNat 31 = true) ∧ (q = value.toNat % 16) ∧ (s.dev.pushCode q ≠ 1)) ∧ (∃ (s : State) (value : BitVec 32), (bitOf
      value.toNat 31 = false)) ∧ (∃ (s : State) (beyond : Bool) (r : LogReq) (l : List LogReq), (s.dev.fm.logPend = r :: l) ∧
      (s.dev.logExceeds r.src beyond = false)) ∧ (∃ (s : State) (beyond : Bool) (r : LogReq) (l : List LogReq), (s.dev.fm.logPend = r :: l)
      ∧ (s.dev.logExceeds r.src beyond = true)) ∧ (∃ (s : State), (s.dev.fm.logPend = [])) :=
  ⟨⟨State.reset.dv fun d => { d with fm := { d.fm with booted := true } }, by decide⟩, ⟨State.reset.dv fun d =>
    { d with fm := { d.fm with booted := false } }, by decide⟩, ⟨State.reset, by decide⟩, ⟨State.reset.w .FM_WDTCFG_EN 0 1, 5, by decide⟩,
    ⟨State.reset.w .FM_WDTCFG_EN 0 1, by decide⟩, ⟨State.reset.w .FM_WDTCFG_EN 0 0, by decide⟩, ⟨((State.reset.live.w .TWIN_STAT_STATE 0
    0).w .FM_HQLO 0 5).dv fun d => d.setQueue 15 { last := 2 ^ 15 - 1 }, 0x8000000F, 15, by decide⟩, ⟨State.reset.live, 0x8000000D, 13, by
    decide⟩, ⟨State.reset, 5, by decide⟩, ⟨(fun (r : LogReq) (l : List LogReq) => (State.reset.w .FM_LOGHEAD 0 16384).dv fun d =>
    { d with fm := { d.fm with logPend := r :: l, logLost := true } }) ({ src := 5, lvl := 2, data := 7 }) ([]), true,
    { src := 5, lvl := 2, data := 7 }, [], by decide⟩, ⟨(fun (r : LogReq) (l : List LogReq) => State.reset.dv fun d =>
    { d with fm := { d.fm with logPend := r :: l, log := [(3, { time := 4, src := 5 })], cal := 900 } })
    ({ src := 5, lvl := 2, data := 7 }) ([]), true, { src := 5, lvl := 2, data := 7 }, [], by decide⟩, ⟨State.reset.dv fun d =>
    { d with fm := { d.fm with logPend := [] } }, by decide⟩⟩

/-- States and operands that meet the hypotheses of each clause of `Obligations.CalendarAndStorageCommands` that has some. -/
theorem witness_calendarAndStorageCommands :
    (∃ (s : State) (v : Nat), (v = s.dev.rd64 .FM_CALSETLO .FM_CALSETHI) ∧ (v < calendarEnd) ∧ (((v : Int) - s.dev.fm.cal).natAbs <
      1000000)) ∧ (∃ (s : State) (v : Nat), (v = s.dev.rd64 .FM_CALSETLO .FM_CALSETHI) ∧ (v < calendarEnd) ∧ (1000000 ≤ ((v : Int) -
      s.dev.fm.cal).natAbs)) ∧ (∃ (s : State), (s.dev.fm.calStopped = false) ∧ (s.dev.sys.cdReset = true ∨ calendarEnd ≤ s.dev.now +
      s.dev.rd .TIDE_PERIOD_ACT / 400 + 1)) ∧ (∃ (s : State), (s.dev.fm.calStopped = true ∨ (s.dev.sys.cdReset = false ∧ s.dev.now +
      s.dev.rd .TIDE_PERIOD_ACT / 400 + 1 < calendarEnd))) ∧ (∃ (s : State) (utc : BitVec 64), (s.dev.on .ETH_PTPCTL_LOCKED = true) ∧
      (utc.toNat = s.dev.fm.cal) ∧ (s.dev.fm.booted = true)) ∧ (∃ (s : State) (utc : BitVec 64), (s.dev.on .ETH_PTPCTL_LOCKED = true) ∧
      (s.dev.fm.cal < utc.toNat) ∧ (utc.toNat < s.dev.fm.cal + 1000000) ∧ (s.dev.fm.booted = true)) ∧ (∃ (s : State) (utc : BitVec 64),
      (s.dev.on .ETH_PTPCTL_LOCKED = true) ∧ (s.dev.fm.cal + 1000000 ≤ utc.toNat) ∧ (utc.toNat < calendarEnd) ∧ (s.dev.fm.booted = true)) ∧
      (∃ (s : State), (s.dev.on .ETH_PTPCTL_LOCKED = false)) ∧ (∃ (s : State), (s.dev.fm.booted = false)) ∧ (∃ (s : State) (off : Nat)
      (data : List (BitVec 8)), (off + data.length ≤ 0x4000000) ∧ (0 < data.length)) ∧ (∃ (s : State) (off : Nat) (len : Nat), (off + len ≤
      0x4000000) ∧ (0 < len)) ∧ (∃ (s : State) (k : Nat), (s.dev.sys.cdReset = false) ∧ (s.dev.on .FM_CKPCFG_EN = true) ∧ (s.dev.now /
      60000000 % 1440 = 60 * s.dev.rd .FM_CKPCFG_HOUR + s.dev.rd .FM_CKPCFG_MIN) ∧ (s.dev.fm.ckptDay ≠ s.dev.now / 86400000000 + 1) ∧
      (s.dev.fm.diffAct = false) ∧ (s.dev.bit .DDR_HALT 7 = false) ∧ (s.dev.eccm.bad = []) ∧ (k =
      (match s.dev.newestCheckpoint with | some (i, _) => 1 - i | none => 0)) ∧ (s.dev.fm.booted = true)) ∧ (∃ (s : State) (k : Nat),
      (s.dev.sys.cdReset = false) ∧ (s.dev.on .FM_CKPCFG_EN = true) ∧ (s.dev.now / 60000000 % 1440 = 60 * s.dev.rd .FM_CKPCFG_HOUR +
      s.dev.rd .FM_CKPCFG_MIN) ∧ (s.dev.fm.ckptDay ≠ s.dev.now / 86400000000 + 1) ∧ (s.dev.fm.diffAct = false) ∧ (s.dev.bit .DDR_HALT 7 =
      true) ∧ (k = (match s.dev.newestCheckpoint with | some (i, _) => 1 - i | none => 0)) ∧ (s.dev.fm.booted = true)) ∧ (∃ (s : State),
      (s.dev.checkpointDue = false ∨ s.dev.fm.diffAct = true ∨ s.dev.sys.cdReset = true)) ∧ (∃ (s : State), (s.dev.fm.booted = false)) :=
  ⟨⟨((State.reset.w .FM_CALSETLO 0 5).w .FM_CALSETHI 0 0).dv fun d => { d with fm := { d.fm with cal := 1000004 } }, 5, by decide⟩,
    ⟨(((State.reset.w .FM_CALSETLO 0 5).w .FM_CALSETHI 0 0).dv fun d => { d with fm := { d.fm with cal := 1000005 } }).dv fun d =>
    { d with cus := { d.cus with iv := some {} } }, 5, by decide⟩, ⟨State.reset.dv fun d =>
    { d with fm := { d.fm with calStopped := false, cal := calendarEnd } }, by decide⟩, ⟨State.reset.dv fun d =>
    { d with fm := { d.fm with calStopped := true } }, by decide⟩, ⟨((State.reset.dv fun d =>
    { d with fm := { d.fm with booted := true } }).w .ETH_PTPCTL_LOCKED 0 1).dv fun d => { d with fm := { d.fm with cal := 7 } }, 7, by
    decide⟩, ⟨((State.reset.dv fun d => { d with fm := { d.fm with booted := true } }).w .ETH_PTPCTL_LOCKED 0 1).dv fun d =>
    { d with fm := { d.fm with cal := 7 } }, 8, by decide⟩, ⟨((State.reset.dv fun d => { d with fm := { d.fm with booted := true } }).w
    .ETH_PTPCTL_LOCKED 0 1).dv fun d => { d with fm := { d.fm with cal := 7 } }, 1000007, by decide⟩, ⟨State.reset.w .ETH_PTPCTL_LOCKED 0
    0, by decide⟩, ⟨State.reset.dv fun d => { d with fm := { d.fm with booted := false } }, by decide⟩, ⟨State.reset, 0x3FFFFFE, [5, 6], by
    decide⟩, ⟨State.reset, 0x3FFF000, 4096, by decide⟩, ⟨(((((((State.reset.dv fun d =>
    { d with fm := { d.fm with booted := true } }).live).w .FM_CKPCFG_EN 0 1).w .FM_CKPCFG_HOUR 0 3).w .FM_CKPCFG_MIN 0 10).w .DDR_HALT 0
    0).dv fun d => { d with eccm := { d.eccm with bad := [] } }).dv fun d =>
    { d with fm := { d.fm with cal := 11400000000, ckptDay := 0, diffAct := false, slots := [(0, { valid := true, ckseq := 4 })] } }, 1, by
    decide⟩, ⟨(((((((State.reset.dv fun d => { d with fm := { d.fm with booted := true } }).live).w .FM_CKPCFG_EN 0 1).w .FM_CKPCFG_HOUR 0
    3).w .FM_CKPCFG_MIN 0 10).w .DDR_HALT 0 128).dv fun d => { d with eccm := { d.eccm with bad := [] } }).dv fun d =>
    { d with fm := { d.fm with cal := 11400000000, ckptDay := 0, diffAct := false, slots := [(0, { valid := true, ckseq := 4 })] } }, 1, by
    decide⟩, ⟨State.reset.w .FM_CKPCFG_EN 0 0, by decide⟩, ⟨State.reset.dv fun d => { d with fm := { d.fm with booted := false } }, by
    decide⟩⟩

/-- States and operands that meet the hypotheses of each clause of `Obligations.ImageCommands` that has some. -/
theorem witness_imageCommands :
    (∃ (s : State), (s.dev.on .FM_UPDSTAT_BUSY = false)) ∧ (∃ (s : State), (s.dev.on .FM_UPDSTAT_BUSY = true)) ∧ (∃ (s : State) (sigOk :
      Bool) (k : Nat) (q : Nat), (s.dev.fm.verifying = some (k, q)) ∧ (s.dev.imageCode s.mem k q sigOk ≠ 0) ∧ (s.dev.fm.pendBank.at none k
      ≠ some q)) ∧ (∃ (s : State) (k : Nat) (q : Nat), (s.dev.fm.verifying = some (k, q)) ∧ (k ≠ 1) ∧ (k ≠ 2)) ∧ (∃ (s : State), (s.dev.on
      .FM_UPDSTAT_BUSY = false) ∧ (s.dev.fm.pendBank.at none (s.dev.rd .FM_UPDCFG_CLS) = none)) ∧ (∃ (s : State) (q : Nat), (s.dev.on
      .FM_UPDSTAT_BUSY = false) ∧ (s.dev.rd .FM_UPDCFG_CLS = 0) ∧ (s.dev.fm.pendBank.at none 0 = some q)) ∧ (∃ (s : State) (q : Nat),
      (s.dev.on .FM_UPDSTAT_BUSY = false) ∧ (s.dev.rd .FM_UPDCFG_CLS = 4) ∧ (s.dev.fm.pendBank.at none 4 = some q)) ∧ (∃ (s : State) (q :
      Nat), (s.dev.on .FM_UPDSTAT_BUSY = false) ∧ (s.dev.rd .FM_UPDCFG_CLS = 1) ∧ (s.dev.fm.pendBank.at none 1 = some q) ∧ (s.dev.halfInUse
      (imageHalf s.mem (imageAt 1 q)) = true)) ∧ (∃ (s : State) (q : Nat), (s.dev.fm.copying = some (4, q))) ∧ (∃ (s : State),
      (s.dev.fm.copying = none)) ∧ (∃ (s : State) (k : Nat) (a : Nat), (s.dev.rd .FM_UPDCFG_BANK = s.dev.activeBank (s.dev.rd
      .FM_UPDCFG_CLS)) ∧ (a = imageAt (s.dev.rd .FM_UPDCFG_CLS) (s.dev.rd .FM_UPDCFG_BANK)) ∧ (k = 64 * s.dev.rd .FM_UPDCFG_CLS + imageIdx
      s.mem a % 64)) ∧ (∃ (s : State), (s.dev.rd .FM_UPDCFG_BANK ≠ s.dev.activeBank (s.dev.rd .FM_UPDCFG_CLS))) ∧ (∃ (s : State),
      (s.dev.fm.attesting = true)) ∧ (∃ (s : State), (s.dev.fm.attesting = false)) :=
  ⟨⟨State.reset.w .FM_UPDSTAT_BUSY 0 0, by decide⟩, ⟨State.reset.w .FM_UPDSTAT_BUSY 0 1, by decide⟩, ⟨(fun (k : Nat) (q : Nat) =>
    State.reset.dv fun d => { d with fm := { d.fm with verifying := some (k, q), pendBank := [] } }) (3) (1), true, 3, 1, by decide⟩, ⟨(fun
    (k : Nat) (q : Nat) => State.reset.dv fun d => { d with fm := { d.fm with verifying := some (k, q) } }) (3) (0), 3, 0, by decide⟩,
    ⟨(State.reset.w .FM_UPDSTAT_BUSY 0 0).dv fun d => { d with fm := { d.fm with pendBank := [] } }, by decide⟩, ⟨(fun (q : Nat) =>
    ((State.reset.w .FM_UPDSTAT_BUSY 0 0).w .FM_UPDCFG_CLS 0 0).dv fun d => { d with fm := { d.fm with pendBank := [(0, some q)] } }) (1),
    1, by decide⟩, ⟨(fun (q : Nat) => ((State.reset.w .FM_UPDSTAT_BUSY 0 0).w .FM_UPDCFG_CLS 0 4).dv fun d =>
    { d with fm := { d.fm with pendBank := [(4, some q)] } }) (1), 1, by decide⟩, ⟨(fun (q : Nat) => (((State.reset.w .FM_UPDSTAT_BUSY 0
    0).w .FM_UPDCFG_CLS 0 1).dv fun d => { d with fm := { d.fm with pendBank := [(1, some q)] } }).dv fun d =>
    { d with tt := { d.tt with active := some { tasks := [sampleTask] } } }) (1), 1, by decide⟩, ⟨(fun (q : Nat) => State.reset.dv fun d =>
    { d with fm := { d.fm with copying := some (4, q) } }) (1), 1, by decide⟩, ⟨State.reset.dv fun d =>
    { d with fm := { d.fm with copying := none } }, by decide⟩, ⟨((State.reset.w .FM_UPDCFG_CLS 0 3).w .FM_UPDCFG_BANK 0 1).w .FM_ACTSEL 0
    8, 192, imageAt 3 1, by decide⟩, ⟨((State.reset.w .FM_UPDCFG_CLS 0 3).w .FM_UPDCFG_BANK 0 0).w .FM_ACTSEL 0 8, by decide⟩,
    ⟨State.reset.dv fun d => { d with fm := { d.fm with attesting := true } }, by decide⟩, ⟨State.reset.dv fun d =>
    { d with fm := { d.fm with attesting := false } }, by decide⟩⟩

/-- States and operands that meet the hypotheses of each clause of `Obligations.EventCommands` that has some. -/
theorem witness_eventCommands :
    (∃ (s : State) (n : Fin 512), (n.val ≠ 453) ∧ (reservedSource n.val = false) ∧ (controlSource n.val = false ∨ s.dev.sys.cdReset =
      false)) ∧ (∃ (s : State) (n : Fin 512), (n.val ≠ 453) ∧ (reservedSource n.val = true ∨ (controlSource n.val = true ∧
      s.dev.sys.cdReset = true))) ∧ (∃ (s : State) (n : Fin 64), (s.dev.sys.cdReset = false) ∧ (s.dev.on .PCNT_CTRL_EN = true) ∧ (s.dev.on
      .PCNT_CTRL_FRZ = false) ∧ (s.dev.onAt .PCNT_CFG_EN n.val = true) ∧ ((s.dev.onAt .PCNT_CFG_LVLM n.val = true ∧ s.dev.rdAt
      .PCNT_CFG_SRC n.val < 0x200) ∨ (0x294 ≤ s.dev.rdAt .PCNT_CFG_SRC n.val ∧ s.dev.rdAt .PCNT_CFG_SRC n.val ≤ 0x296)) ∧ (s.dev.ctChained
      n.val = false) ∧ (s.dev.onAt .PCNT_CFG_CHAIN n.val = false ∨ n.val % 2 = 1) ∧ (s.dev.ct n.val ≤ 2 ^ 48)) ∧ (∃ (s : State) (n : Fin
      64) (w : Nat), (s.dev.sys.cdReset = false) ∧ (s.dev.on .PCNT_CTRL_EN = true) ∧ (s.dev.on .PCNT_CTRL_FRZ = false) ∧ (s.dev.onAt
      .PCNT_CFG_EN n.val = true) ∧ (0x294 ≤ s.dev.rdAt .PCNT_CFG_SRC n.val ∧ s.dev.rdAt .PCNT_CFG_SRC n.val ≤ 0x296) ∧ (s.dev.onAt
      .PCNT_CFG_CHAIN n.val = true) ∧ (n.val % 2 = 0) ∧ (s.dev.ct n.val ≤ 2 ^ 48) ∧ (w = s.dev.ct (n.val + 1) + 1) ∧ (w < 2 ^ 48)) ∧ (∃ (s
      : State) (n : Fin 64), (s.dev.sys.cdReset = true ∨ s.dev.ctRuns n.val = false ∨ s.dev.ctOpen n.val = false ∨ s.dev.ctChained n.val =
      true)) ∧ (∃ (s : State), (s.dev.sys.cdReset = false)) ∧ (∃ (s : State) (n : Fin 64), (¬ (s.dev.onAt .PCNT_CFG_LVLM n.val = true ∧
      s.dev.rdAt .PCNT_CFG_SRC n.val < 512)) ∧ (¬ (660 ≤ s.dev.rdAt .PCNT_CFG_SRC n.val ∧ s.dev.rdAt .PCNT_CFG_SRC n.val ≤ 662))) ∧ (∃ (s :
      State) (r : TagRec) (l : List TagRec), (s.dev.sys.cdReset = false) ∧ (s.dev.evt.tagPend = r :: l) ∧ (s.dev.evt.tags.length < 16)) ∧
      (∃ (s : State) (r : TagRec) (l : List TagRec), (s.dev.sys.cdReset = false) ∧ (s.dev.evt.tagPend = r :: l) ∧ (16 ≤
      s.dev.evt.tags.length)) ∧ (∃ (s : State) (r : TagRec) (l : List TagRec), (s.dev.evt.tags = r :: l)) ∧ (∃ (s : State), (s.dev.evt.tags
      = [])) ∧ (∃ (s : State) (p : Fin 16), (s.dev.sys.cdReset = false) ∧ (s.dev.onAt .PCNT_BWCFG_EN p.val = true)) :=
  ⟨⟨((State.reset.w .EVT_RT_FM (496) 1).w .EVT_RT_PEND (496) 1).w .EVT_RT_LOG (496) 1, 496, by decide⟩, ⟨State.reset, 459, by decide⟩,
    ⟨(((((State.reset.live.w .PCNT_CTRL_EN 0 1).w .PCNT_CTRL_FRZ 0 0).w .PCNT_CFG_EN (63) 1).w .PCNT_CFG_SRC (63) 0x296).w .PCNT_CTHI (63)
    65535).w .PCNT_CTLO (63) 0xFFFFFFFF, 63, by decide⟩, ⟨(((((State.reset.live.w .PCNT_CTRL_EN 0 1).w .PCNT_CTRL_FRZ 0 0).w .PCNT_CFG_EN
    (62) 1).w .PCNT_CFG_SRC (62) 0x296).w .PCNT_CFG_CHAIN (62) 1).w .PCNT_CTLO (63) 0xFFFFFFFF, 62, 2 ^ 32, by decide⟩, ⟨State.reset.w
    .PCNT_CTRL_EN 0 0, 63, by decide⟩, ⟨State.reset.live, by decide⟩, ⟨State.reset.w .PCNT_CFG_LVLM (63) 0, 63, by decide⟩, ⟨(fun (r :
    TagRec) (l : List TagRec) => State.reset.live.dv fun d =>
    { d with evt := { d.evt with tagPend := r :: l, tags := List.replicate 15 {} } }) ({ a := 1, b := 2 }) ([]), { a := 1, b := 2 }, [], by
    decide⟩, ⟨(fun (r : TagRec) (l : List TagRec) => State.reset.live.dv fun d =>
    { d with evt := { d.evt with tagPend := r :: l, tags := List.replicate 16 {} } }) ({ a := 1, b := 2 }) ([]), { a := 1, b := 2 }, [], by
    decide⟩, ⟨(fun (r : TagRec) (l : List TagRec) => State.reset.dv fun d => { d with evt := { d.evt with tags := r :: l } })
    ({ a := 1, b := 2 }) ([]), { a := 1, b := 2 }, [], by decide⟩, ⟨State.reset.dv fun d => { d with evt := { d.evt with tags := [] } }, by
    decide⟩, ⟨State.reset.live.w .PCNT_BWCFG_EN (15) 1, 15, by decide⟩⟩

/-- States and operands that meet the hypotheses of each clause of `Obligations.BenchAndDebugCommands` that has some. -/
theorem witness_benchAndDebugCommands :
    (∃ (s : State), (s.dev.sys.cdReset = false) ∧ (s.dev.benchRefusal = 0)) ∧ (∃ (s : State), (s.dev.sys.cdReset = false) ∧
      (s.dev.benchRefusal ≠ 0)) ∧ (∃ (s : State), (s.dev.sys.cdReset = false) ∧ (s.dev.on .GWY_BENCH_ON = true)) ∧ (∃ (s : State),
      (s.dev.sys.cdReset = false) ∧ (s.dev.on .GWY_BENCH_ON = true) ∧ (s.dev.benchRefusal ≠ 0)) ∧ (∃ (s : State), (s.dev.benchRefusal = 0))
      ∧ (∃ (s : State) (op : JtagOp), (drivesBalls op = true) ∧ (s.dev.on .GWY_BENCH_ON = false) ∧ (s.dev.sys.cdReset = false)) ∧ (∃ (s :
      State) (op : JtagOp), (drivesBalls op = false ∨ s.dev.on .GWY_BENCH_ON = true)) ∧ (∃ (s : State), (s.dev.sys.cdReset = false)) ∧ (∃
      (s : State), (s.dev.sys.cdReset = false)) ∧ (∃ (s : State), (s.dev.sys.cdReset = false)) ∧ (∃ (s : State), (s.dev.sys.cdReset =
      false)) ∧ (∃ (s : State), (s.dev.sys.cdReset = false) ∧ (s.dev.on .GWY_BENCH_ON = true)) ∧ (∃ (s : State), (s.dev.sys.cdReset =
      false) ∧ (s.dev.on .GWY_BENCH_ON = false)) ∧ (∃ (s : State) (n : Fin 8), (s.dev.sys.cdReset = false) ∧ (s.dev.on .GWY_BENCH_ON =
      true) ∧ ((s.dev.engine n.val).halted = true)) ∧ (∃ (s : State), (s.dev.sys.cdReset = false)) :=
  ⟨⟨((State.reset.dv fun d => { d with regs := [] }).live).w .GWY_BENCH_STRAP 0 1, by decide⟩, ⟨State.reset.live.w .GWY_BENCH_STRAP 0 0, by
    decide⟩, ⟨State.reset.live.w .GWY_BENCH_ON 0 1, by decide⟩, ⟨(State.reset.live.w .GWY_BENCH_ON 0 1).w .GWY_BENCH_STRAP 0 0, by decide⟩,
    ⟨((State.reset.dv fun d => { d with regs := [] }).live).w .GWY_BENCH_STRAP 0 1, by decide⟩, ⟨State.reset.live.w .GWY_BENCH_ON 0 0,
    .extest, by decide⟩, ⟨State.reset.w .GWY_BENCH_ON 0 1, .extest, by decide⟩, ⟨State.reset.live, by decide⟩, ⟨State.reset.live, by
    decide⟩, ⟨State.reset.live, by decide⟩, ⟨State.reset.live, by decide⟩, ⟨State.reset.live.w .GWY_BENCH_ON 0 1, by decide⟩,
    ⟨State.reset.live.w .GWY_BENCH_ON 0 0, by decide⟩, ⟨(State.reset.live.w .GWY_BENCH_ON 0 1).dv fun d =>
    { d with vcs := { d.vcs with engines := [(7, { halted := true })] } }, 7, by decide⟩, ⟨State.reset.live, by decide⟩⟩

/-- States and operands that meet the hypotheses of each clause of `Obligations.TwinMessageCommands` that has some. -/
theorem witness_twinMessageCommands :
    (∃ (s : State) (msg : List (BitVec 8)), (s.dev.sys.cdReset = false) ∧ (s.dev.hawserPasses 1 msg = true)) ∧ (∃ (s : State) (msg : List
      (BitVec 8)), (s.dev.sys.cdReset = false) ∧ (s.dev.hawserPasses 1 msg = true) ∧ (s.dev.on .PWM_STAT_LEAD = false) ∧ (s.dev.rd
      .TWIN_STAT_STATE = 4) ∧ (s.dev.twin.dgstFrame + 1 = hwNat msg 4 8) ∧ (s.dev.twin.dgst ≠ hwNat (hwBody msg) 0 8) ∧ (hwNat (hwBody msg)
      8 1 = 3) ∧ (Nat.lor (hwNat (hwBody msg) 9 1) s.dev.twin.peerLerr = 0)) ∧ (∃ (s : State) (msg : List (BitVec 8)), (s.dev.sys.cdReset =
      false) ∧ (s.dev.hawserPasses 2 msg = true) ∧ (s.dev.rd .TWIN_STAT_STATE = 4) ∧ (hwNat (hwBody msg) 0 8 = s.dev.tide + 1)) ∧ (∃ (s :
      State) (msg : List (BitVec 8)), (s.dev.sys.cdReset = false) ∧ (s.dev.hawserPasses 2 msg = true)) ∧ (∃ (s : State) (msg : List (BitVec
      8)), (s.dev.sys.cdReset = false) ∧ (s.dev.hawserPasses 3 msg = true)) ∧ (∃ (s : State) (msg : List (BitVec 8)), (s.dev.sys.cdReset =
      false) ∧ (s.dev.hawserPasses 4 msg = true) ∧ ((hwBody msg).length = 6)) ∧ (∃ (s : State) (mseq : BitVec 32), (s.dev.sys.cdReset =
      false) ∧ (s.dev.takesMirrored = true) ∧ (s.dev.twin.rx.at 0 5 ≠ mseq.toNat + 1)) ∧ (∃ (s : State) (msg : List (BitVec 8)),
      (s.dev.sys.cdReset = false) ∧ (s.dev.hawserPasses 6 msg = true)) ∧ (∃ (s : State) (msg : List (BitVec 8)), (s.dev.sys.cdReset =
      false) ∧ (s.dev.hawserPasses 7 msg = true)) ∧ (∃ (s : State) (msg : List (BitVec 8)), (s.dev.sys.cdReset = false) ∧
      (s.dev.hawserPasses 8 msg = true) ∧ (s.dev.rd .TWIN_STAT_STATE ≠ 2 ∨ s.dev.rd .TWIN_RSSTAT_PHASE ≠ 3) ∧ (s.dev.paired = false)) ∧ (∃
      (s : State) (msg : List (BitVec 8)), (s.dev.sys.cdReset = false) ∧ (s.dev.hawserPasses 8 msg = true) ∧ (s.dev.rd .TWIN_STAT_STATE =
      2) ∧ (s.dev.rd .TWIN_RSSTAT_PHASE = 3) ∧ (hwNat (hwBody msg) 8 8 % 8 = 0) ∧ (hwNat (hwBody msg) 8 8 + 256 ≤ s.dev.dramEnd) ∧ ((hwBody
      msg).length = 272) ∧ (s.dev.twin.wrote = [])) ∧ (∃ (s : State) (msg : List (BitVec 8)), (s.dev.sys.cdReset = false) ∧
      (s.dev.hawserPasses 8 msg = true) ∧ (s.dev.paired = true) ∧ (hwNat (hwBody msg) 8 8 % 8 = 0) ∧ (hwNat (hwBody msg) 8 8 + 256 ≤
      s.dev.dramEnd) ∧ ((hwBody msg).length = 272)) ∧ (∃ (s : State) (a : BitVec 40), (s.dev.sys.cdReset = false) ∧ (s.dev.hawserUp = true)
      ∧ (a.toNat % 256 = 0) ∧ (s.dev.bit .DDR_HALT 5 = false) ∧ (s.dev.eccm.bad = []) ∧ (s.dev.rd .TWIN_STAT_STATE = 6) ∧ (s.dev.copies =
      true) ∧ (s.dev.copyUnit a.toNat = true)) ∧ (∃ (s : State) (a : BitVec 40), (s.dev.sys.cdReset = false) ∧ (s.dev.hawserUp = true) ∧
      (a.toNat % 256 = 0) ∧ (s.dev.bit .DDR_HALT 5 = false) ∧ (s.dev.eccm.bad = []) ∧ (s.dev.paired = true) ∧ (a.toNat < 0x1000200000)) ∧
      (∃ (s : State) (x : TwinStore) (r : List TwinStore), (s.dev.sys.cdReset = false) ∧ (s.dev.hawserUp = true) ∧ (s.dev.rd
      .TWIN_STAT_STATE = 6) ∧ (s.dev.twin.stores = x :: r)) ∧ (∃ (s : State) (mseq : BitVec 32) (x : TwinStore), (s.dev.sys.cdReset =
      false) ∧ (s.dev.on .TWIN_STAT_INST = true) ∧ (s.dev.twin.rx.at 0 9 ≠ mseq.toNat + 1) ∧ (s.dev.rd .TWIN_STAT_STATE = 2) ∧
      (s.dev.twin.wrote.at 0 ((dataSram x.engine.val + x.addr % 0x20000 / 8 * 8) / 8) ≤ x.tide + 1)) ∧ (∃ (s : State) (msg : List (BitVec
      8)), (s.dev.sys.cdReset = false) ∧ (s.dev.hawserPasses 11 msg = true)) ∧ (∃ (s : State) (typ : Fin 12) (mseq : BitVec 32) (k : Nat ×
      Nat × List (BitVec 8)), (s.dev.sys.cdReset = false) ∧ (s.dev.hawserUp = true) ∧ ((s.dev.twin.unacked.find? fun x => decide (x.1 =
      typ.val) && decide (x.2.1 = mseq.toNat)) = some k)) ∧ (∃ (s : State) (typ : Fin 12) (mseq : BitVec 32), ((s.dev.twin.unacked.find?
      fun x => decide (x.1 = typ.val) && decide (x.2.1 = mseq.toNat)) = none ∨ s.dev.hawserUp = false)) :=
  ⟨⟨(State.reset.live.w .TWIN_STAT_INST 0 1).dv fun d => { d with twin := { d.twin with rx := [] } }, sampleMsg 1 1 0 (leBytes 8 5 ++
    leBytes 1 3 ++ leBytes 31 0), by decide⟩, ⟨((((State.reset.live.w .TWIN_STAT_INST 0 1).dv fun d =>
    { d with twin := { d.twin with rx := [] } }).w .TWIN_STAT_STATE 0 4).w .PWM_STAT_LEAD 0 0).dv fun d =>
    { d with twin := { d.twin with dgst := 7, dgstFrame := 0, lerr1 := 1, lerr2 := 0, peerLerr := 0, rx := [] } }, sampleMsg 1 1 0 (leBytes
    8 5 ++ leBytes 1 3 ++ leBytes 31 0), by decide⟩, ⟨((((State.reset.live.w .TWIN_STAT_INST 0 1).dv fun d =>
    { d with twin := { d.twin with rx := [] } }).w .TWIN_STAT_STATE 0 4).w .TIDE_CNTLO 0 0).w .TIDE_CNTHI 0 0, sampleMsg 2 0 0 (leBytes 8 1
    ++ leBytes 104 0), by decide⟩, ⟨(State.reset.live.w .TWIN_STAT_INST 0 1).dv fun d => { d with twin := { d.twin with rx := [] } },
    sampleMsg 2 0 0 (leBytes 8 1 ++ leBytes 104 0), by decide⟩, ⟨(State.reset.live.w .TWIN_STAT_INST 0 1).dv fun d =>
    { d with twin := { d.twin with rx := [] } }, sampleMsg 3 0 0 (leBytes 192 1), by decide⟩, ⟨(State.reset.live.w .TWIN_STAT_INST 0 1).dv
    fun d => { d with twin := { d.twin with rx := [] } }, sampleMsg 4 0 0 (leBytes 2 1535 ++ leBytes 4 9), by decide⟩,
    ⟨(((State.reset.live.w .TWIN_STAT_INST 0 1).dv fun d => { d with twin := { d.twin with rx := [] } }).w .TWIN_STAT_STATE 0 4).w
    .PWM_STAT_LEAD 0 0, 0, by decide⟩, ⟨((State.reset.live.w .TWIN_STAT_INST 0 1).dv fun d =>
    { d with twin := { d.twin with rx := [] } }).dv fun d => { d with twin := { d.twin with mirrorArea := [], rx := [] } }, sampleMsg 6 0 0
    (leBytes 8 0 ++ leBytes 8 5 ++ leBytes 48 0), by decide⟩, ⟨(State.reset.live.w .TWIN_STAT_INST 0 1).dv fun d =>
    { d with twin := { d.twin with rx := [] } }, sampleMsg 7 0 0 (leBytes 8 5 ++ leBytes 8 0), by decide⟩, ⟨((State.reset.live.w
    .TWIN_STAT_INST 0 1).dv fun d => { d with twin := { d.twin with rx := [] } }).w .TWIN_STAT_STATE 0 5, sampleMsg 8 0 0 (leBytes 8 5 ++
    leBytes 8 0 ++ leBytes 256 0), by decide⟩, ⟨((((State.reset.live.w .TWIN_STAT_INST 0 1).dv fun d =>
    { d with twin := { d.twin with rx := [] } }).w .TWIN_STAT_STATE 0 2).w .TWIN_RSSTAT_PHASE 0 3).dv fun d =>
    { d with twin := { d.twin with wrote := [], rx := [] } }, sampleMsg 8 0 0 (leBytes 8 5 ++ leBytes 8 0x100 ++ List.replicate 256 9), by
    decide⟩, ⟨((((State.reset.live.w .TWIN_STAT_INST 0 1).dv fun d => { d with twin := { d.twin with rx := [] } }).w .TWIN_STAT_STATE 0
    4).dv fun d => { d with eccm := { d.eccm with bad := [(0x20, 3)] } }).dv fun d => { d with twin := { d.twin with rx := [] } },
    sampleMsg 8 0 0 (leBytes 8 5 ++ leBytes 8 0x100 ++ List.replicate 256 9), by decide⟩, ⟨((((((State.reset.live.w .TWIN_STAT_INST 0 1).dv
    fun d => { d with twin := { d.twin with rx := [] } }).w .TWIN_STAT_STATE 0 6).w .TWIN_STAT_LN0 0 1).w .DDR_HALT 0 0).dv fun d =>
    { d with eccm := { d.eccm with bad := [] } }).dv fun d =>
    { d with twin := { d.twin with copyFrom := some 0, cutAt := none, rx := [] } }, berthSram + 512, by decide⟩, ⟨(((((State.reset.live.w
    .TWIN_STAT_INST 0 1).dv fun d => { d with twin := { d.twin with rx := [] } }).w .TWIN_STAT_STATE 0 3).w .TWIN_STAT_LN0 0 1).w .DDR_HALT
    0 0).dv fun d => { d with eccm := { d.eccm with bad := [] } }, 512, by decide⟩, ⟨(fun (x : TwinStore) (r : List TwinStore) =>
    ((((State.reset.live.w .TWIN_STAT_INST 0 1).dv fun d => { d with twin := { d.twin with rx := [] } }).w .TWIN_STAT_STATE 0 6).w
    .TWIN_STAT_LN0 0 1).dv fun d => { d with twin := { d.twin with stores := x :: r, rx := [] } })
    ({ tide := 5, engine := 7, addr := 0x1FFF8, data := 7 }) ([]), { tide := 5, engine := 7, addr := 0x1FFF8, data := 7 }, [], by decide⟩,
    ⟨(((State.reset.live.w .TWIN_STAT_INST 0 1).dv fun d => { d with twin := { d.twin with rx := [] } }).w .TWIN_STAT_STATE 0 2).dv fun d
    => { d with twin := { d.twin with wrote := [], rx := [] } }, 0,
    { tide := 5, engine := 7, addr := 0x1FFF8, data := 0x1122334455667788 }, by decide⟩, ⟨((State.reset.live.w .TWIN_STAT_INST 0 1).dv fun
    d => { d with twin := { d.twin with rx := [] } }).dv fun d => { d with twin := { d.twin with unacked := [(6, 3, [1])], rx := [] } },
    sampleMsg 11 0 0 (leBytes 4 6 ++ leBytes 4 3), by decide⟩, ⟨(((State.reset.live.w .TWIN_STAT_INST 0 1).dv fun d =>
    { d with twin := { d.twin with rx := [] } }).w .TWIN_STAT_LN0 0 1).dv fun d =>
    { d with twin := { d.twin with unacked := [(6, 3, [1])], rx := [] } }, 6, 3, (6, 3, [1]), by decide⟩, ⟨State.reset.live.dv fun d =>
    { d with twin := { d.twin with unacked := [] } }, 6, 3, by decide⟩⟩

/-- States and operands that meet the hypotheses of each clause of `Obligations.TwinLeadCommands` that has some. -/
theorem witness_twinLeadCommands :
    (∃ (s : State) (msg : List (BitVec 8)), (s.dev.sys.cdReset = false) ∧ (s.dev.rd .TWIN_STAT_STATE = 6) ∧ (s.dev.hawserUp = true) ∧
      (s.dev.tide < ctlEdge (hwBody msg))) ∧ (∃ (s : State) (msg : List (BitVec 8)), (s.dev.sys.cdReset = false) ∧ (s.dev.hawserPasses 10
      msg = true) ∧ (s.dev.rd .TWIN_STAT_STATE = 2) ∧ (ctlCmd (hwBody msg) = 1) ∧ (ctlPart (hwBody msg) < 4) ∧ (s.dev.twin.pairAt = ctlEdge
      (hwBody msg))) ∧ (∃ (s : State) (msg : List (BitVec 8)), (s.dev.sys.cdReset = false) ∧ (s.dev.hawserPasses 10 msg = true) ∧ (s.dev.rd
      .TWIN_STAT_STATE = 4) ∧ (ctlCmd (hwBody msg) = 2)) ∧ (∃ (s : State) (msg : List (BitVec 8)), (s.dev.sys.cdReset = false) ∧
      (s.dev.hawserPasses 10 msg = true) ∧ (s.dev.rd .TWIN_STAT_STATE = 4) ∧ (ctlCmd (hwBody msg) = 4)) ∧ (∃ (s : State) (msg : List
      (BitVec 8)) (p : Timetable), (s.dev.sys.cdReset = false) ∧ (s.dev.tt.pending = some p) ∧ (s.dev.rd .TWIN_STAT_STATE = 3) ∧
      (s.dev.hawserUp = true) ∧ (s.dev.twin.peerTtPend = p.ttid) ∧ (ctlEdge (hwBody msg) % 4096 = 0) ∧ (s.dev.tide + 256 ≤ ctlEdge (hwBody
      msg)) ∧ (ctlEdge (hwBody msg) < 2 ^ 64)) ∧ (∃ (s : State) (msg : List (BitVec 8)), (s.dev.sys.cdReset = false) ∧ (s.dev.hawserPasses
      10 msg = true) ∧ (s.dev.rd .TWIN_STAT_STATE = 4) ∧ (ctlCmd (hwBody msg) = 3) ∧ (s.dev.tt.pending = none)) ∧ (∃ (s : State),
      (s.dev.sys.cdReset = false) ∧ (s.dev.rd .TWIN_STAT_STATE = 6) ∧ (s.dev.hawserUp = true) ∧ (s.dev.rd .TWIN_RSSTAT_PHASE = 3) ∧
      (s.dev.copySize ≤ s.dev.twin.bulk) ∧ (s.dev.twin.stores = []) ∧ ((s.dev.tide + 1) % 4096 = 0)) ∧ (∃ (s : State) (msg : List (BitVec
      8)), (s.dev.sys.cdReset = false) ∧ (s.dev.hawserPasses 10 msg = true) ∧ (s.dev.rd .TWIN_STAT_STATE = 2) ∧ (ctlCmd (hwBody msg) = 5) ∧
      (s.dev.rd .TWIN_RSSTAT_PHASE = 3)) ∧ (∃ (s : State) (x : Bool), (s.dev.sys.cdReset = false) ∧ (s.dev.twin.handover = some
      (s.dev.tide, x)) ∧ (s.dev.rd .TWIN_STAT_STATE = 3)) ∧ (∃ (s : State) (x : Bool), (s.dev.sys.cdReset = false) ∧ (s.dev.twin.handover =
      some (s.dev.tide, x)) ∧ (s.dev.rd .TWIN_STAT_STATE = 4)) ∧ (∃ (s : State), (s.dev.sys.cdReset = false) ∧ (s.dev.straps.twinst =
      true)) ∧ (∃ (s : State), (s.dev.straps.twinst = false)) ∧ (∃ (s : State), (s.dev.sys.cdReset = false) ∧ (s.dev.twin.declared = true)
      ∧ (s.dev.rd .TWIN_STAT_STATE = 4) ∧ (s.dev.tide = s.dev.twin.missAt)) ∧ (∃ (s : State), (s.dev.sys.cdReset = false) ∧
      (s.dev.twin.declared = true) ∧ (s.dev.rd .TWIN_STAT_STATE = 4) ∧ (s.dev.tide = s.dev.twin.missAt)) ∧ (∃ (s : State),
      (s.dev.sys.cdReset = false) ∧ (s.dev.rd .TWIN_STAT_STATE = 1) ∧ (s.dev.twin.contact = false)) ∧ (∃ (s : State), (s.dev.sys.cdReset =
      false) ∧ (s.dev.rd .TWIN_STAT_STATE = 1) ∧ (s.dev.twin.contact = false) ∧ (s.dev.on .PWM_STAT_LEAD = false)) ∧ (∃ (s : State),
      (s.dev.rd .TWIN_STAT_STATE ≠ 1 ∨ s.dev.twin.contact = true)) ∧ (∃ (s : State), (s.dev.sys.cdReset = false) ∧ (s.dev.rd
      .TWIN_STAT_STATE = 7) ∧ (s.dev.twin.dflt = false) ∧ (s.dev.rd .TWIN_STAT_PEER = 5)) ∧ (∃ (s : State), (s.dev.sys.cdReset = false) ∧
      (s.dev.rd .TWIN_STAT_STATE = 7) ∧ (s.dev.twin.dflt = true)) ∧ (∃ (s : State), (s.dev.sys.cdReset = false) ∧ (s.dev.rd
      .TWIN_STAT_STATE ≠ 7)) ∧ (∃ (s : State), (s.dev.sys.cdReset = false) ∧ (s.dev.rd .TWIN_STAT_STATE = 3)) ∧ (∃ (s : State),
      (s.dev.sys.cdReset = false) ∧ (s.dev.rd .TWIN_STAT_STATE ≠ 3)) ∧ (∃ (s : State), (s.dev.sys.cdReset = false) ∧ (s.dev.rd
      .TWIN_STAT_STATE = 4) ∧ (s.dev.on .PWM_STAT_LEAD = false)) ∧ (∃ (s : State), (s.dev.sys.cdReset = false) ∧ (s.dev.rd .TWIN_STAT_STATE
      ≠ 4)) ∧ (∃ (s : State), (s.dev.sys.cdReset = false)) ∧ (∃ (s : State), (s.dev.sys.cdReset = false)) :=
  ⟨⟨(((((((State.reset.live.w .TWIN_STAT_INST 0 1).dv fun d => { d with twin := { d.twin with rx := [] } }).w .TWIN_STAT_STATE 0 6).w
    .TWIN_STAT_LN0 0 1).w .TIDE_CNTLO 0 5).w .TIDE_CNTHI 0 0).dv fun d =>
    { d with twin := { d.twin with unacked := [(6, 3, [1])], rx := [] } }).dv fun d =>
    { d with met := { d.met with act := [((.MTR_MCLK_EN, 5), 1), ((.MTR_MCLK_DIV, 5), 10)], mclkRun := 32, mclkAge := [(5, 1000)] } },
    sampleMsg 10 0 0 (ctlBody 1 99 0), by decide⟩, ⟨(((State.reset.live.w .TWIN_STAT_INST 0 1).dv fun d =>
    { d with twin := { d.twin with rx := [] } }).w .TWIN_STAT_STATE 0 2).dv fun d =>
    { d with twin := { d.twin with pairAt := 99, rx := [] } }, sampleMsg 10 0 0 (ctlBody 1 99 5), by decide⟩, ⟨((State.reset.live.w
    .TWIN_STAT_INST 0 1).dv fun d => { d with twin := { d.twin with rx := [] } }).w .TWIN_STAT_STATE 0 4, sampleMsg 10 0 0 (ctlBody 2 99
    0), by decide⟩, ⟨((State.reset.live.w .TWIN_STAT_INST 0 1).dv fun d => { d with twin := { d.twin with rx := [] } }).w .TWIN_STAT_STATE
    0 4, sampleMsg 10 0 0 (ctlBody 4 99 0), by decide⟩, ⟨(fun (p : Timetable) => (((((((State.reset.live.w .TWIN_STAT_INST 0 1).dv fun d =>
    { d with twin := { d.twin with rx := [] } }).w .TWIN_STAT_STATE 0 3).w .TWIN_STAT_LN1 0 1).w .TIDE_CNTLO 0 0).w .TIDE_CNTHI 0 0).dv fun
    d => { d with twin := { d.twin with peerTtPend := p.ttid } }).dv fun d => { d with tt := { d.tt with pending := some p } })
    ({ ttid := 7 }), sampleMsg 10 0 0 (ctlBody 3 8192 7), { ttid := 7 }, by decide⟩, ⟨(((State.reset.live.w .TWIN_STAT_INST 0 1).dv fun d
    => { d with twin := { d.twin with rx := [] } }).w .TWIN_STAT_STATE 0 4).dv fun d => { d with tt := { d.tt with pending := none } },
    sampleMsg 10 0 0 (ctlBody 3 8192 7), by decide⟩, ⟨((((((((State.reset.live.w .TWIN_STAT_INST 0 1).dv fun d =>
    { d with twin := { d.twin with rx := [] } }).w .TWIN_STAT_STATE 0 6).w .TWIN_STAT_LN0 0 1).w .TWIN_RSSTAT_PHASE 0 3).w .TIDE_CNTLO 0
    4095).w .TIDE_CNTHI 0 0).w .BERTH_CFG_NTSIZE 0 1).dv fun d =>
    { d with twin := { d.twin with stores := [], bulk := 2 ^ 30, rx := [] } }, by decide⟩, ⟨(((State.reset.live.w .TWIN_STAT_INST 0 1).dv
    fun d => { d with twin := { d.twin with rx := [] } }).w .TWIN_STAT_STATE 0 2).w .TWIN_RSSTAT_PHASE 0 3, sampleMsg 10 0 0 (ctlBody 5 99
    0), by decide⟩, ⟨(fun (x : Bool) => ((((State.reset.live.w .TWIN_STAT_STATE 0 3).w .PWM_STAT_LEAD 0 1).w .TIDE_CNTLO 0 0).w .TIDE_CNTHI
    0 0).dv fun d => { d with twin := { d.twin with handover := some (0, x) } }) (true), true, by decide⟩, ⟨(fun (x : Bool) =>
    (((State.reset.live.w .TWIN_STAT_STATE 0 4).w .TIDE_CNTLO 0 0).w .TIDE_CNTHI 0 0).dv fun d =>
    { d with twin := { d.twin with handover := some (0, x) } }) (true), true, by decide⟩, ⟨State.reset.live.dv fun d =>
    { d with straps := { d.straps with twinst := true } }, by decide⟩, ⟨State.reset.dv fun d =>
    { d with straps := { d.straps with twinst := false } }, by decide⟩, ⟨(((State.reset.live.w .TWIN_STAT_STATE 0 4).w .TIDE_CNTLO 0 5).w
    .TIDE_CNTHI 0 0).dv fun d => { d with twin := { d.twin with declared := true, missAt := 5 } }, by decide⟩, ⟨((((State.reset.live.w
    .TWIN_STAT_STATE 0 4).w .PWM_CTRL_ARM 0 1).w .TIDE_CNTLO 0 5).w .TIDE_CNTHI 0 0).dv fun d =>
    { d with twin := { d.twin with declared := true, missAt := 5 } }, by decide⟩, ⟨(State.reset.live.w .TWIN_STAT_STATE 0 1).dv fun d =>
    { d with twin := { d.twin with contact := false } }, by decide⟩, ⟨((State.reset.live.w .TWIN_STAT_STATE 0 1).w .PWM_STAT_LEAD 0 0).dv
    fun d => { d with twin := { d.twin with contact := false } }, by decide⟩, ⟨State.reset.w .TWIN_STAT_STATE 0 3, by decide⟩,
    ⟨((State.reset.live.w .TWIN_STAT_STATE 0 7).w .TWIN_STAT_PEER 0 5).dv fun d => { d with twin := { d.twin with dflt := false } }, by
    decide⟩, ⟨(State.reset.live.w .TWIN_STAT_STATE 0 7).dv fun d => { d with twin := { d.twin with dflt := true } }, by decide⟩,
    ⟨State.reset.live.w .TWIN_STAT_STATE 0 3, by decide⟩, ⟨State.reset.live.w .TWIN_STAT_STATE 0 3, by decide⟩, ⟨State.reset.live.w
    .TWIN_STAT_STATE 0 4, by decide⟩, ⟨(State.reset.live.w .TWIN_STAT_STATE 0 4).w .PWM_STAT_LEAD 0 0, by decide⟩, ⟨State.reset.live.w
    .TWIN_STAT_STATE 0 3, by decide⟩, ⟨((State.reset.live.w .TWIN_STAT_STATE 0 8).w .TWIN_STAT_DFLT 0 1).dv fun d =>
    { d with twin := { d.twin with dflt := true } }, by decide⟩, ⟨State.reset.live.w .TWIN_CNT0_TAKEOVERS 0 3, by decide⟩⟩

/-- States and operands that meet the hypotheses of each clause of `Obligations.TwinFaultCommands` that has some. -/
theorem witness_twinFaultCommands :
    (∃ (s : State), (s.dev.sys.cdReset = false) ∧ (s.dev.on .TWIN_STAT_LN0 = true) ∧ (s.dev.on .TWIN_STAT_LN1 = true)) ∧ (∃ (s : State),
      (s.dev.sys.cdReset = false) ∧ (s.dev.on .TWIN_STAT_LN0 = false) ∧ (s.dev.on .TWIN_STAT_LN1 = true) ∧ (s.dev.on .TWIN_STAT_EXP =
      true)) ∧ (∃ (s : State), (s.dev.on .TWIN_STAT_LN0 = false) ∧ (s.dev.on .TWIN_STAT_LN1 = false)) ∧ (∃ (s : State), (s.dev.sys.cdReset
      = false) ∧ (s.dev.on .TWIN_STAT_INST = true) ∧ (s.dev.onAt .CAP_CLS_HELD 20 = true)) ∧ (∃ (s : State), (s.dev.on .TWIN_STAT_INST =
      false ∨ s.dev.onAt .CAP_CLS_HELD 20 = false)) ∧ (∃ (s : State), (s.dev.sys.cdReset = false) ∧ (s.dev.twin.heart ≠ s.dev.tide + 1) ∧
      (s.dev.rd .TWIN_STAT_STATE = 4) ∧ (s.dev.twin.missAt ≠ s.dev.tide)) ∧ (∃ (s : State), (s.dev.sys.cdReset = false) ∧ (s.dev.twin.heart
      ≠ s.dev.tide + 1) ∧ (s.dev.rd .TWIN_STAT_STATE = 4) ∧ (s.dev.twin.missAt = s.dev.tide) ∧ (0 < s.dev.tide) ∧ (s.dev.on .TWIN_STAT_LN0
      = true)) ∧ (∃ (s : State), (s.dev.sys.cdReset = false) ∧ (s.dev.on .TWIN_STAT_INST = true) ∧ (s.dev.on .TWIN_STAT_EXP = true)) ∧ (∃
      (s : State), (s.dev.on .TWIN_STAT_INST = false ∨ s.dev.on .TWIN_STAT_EXP = false)) ∧ (∃ (s : State), (s.dev.sys.cdReset = false) ∧
      (s.dev.rd .TWIN_STAT_STATE = 4) ∧ (s.dev.on .PWM_STAT_LEAD = false)) ∧ (∃ (s : State), (s.dev.sys.cdReset = false) ∧ (s.dev.rd
      .TWIN_STAT_STATE = 3)) ∧ (∃ (s : State) (l : Nat), (s.dev.sys.cdReset = false) ∧ (s.dev.failingLane = some l) ∧ (s.dev.on
      .TWIN_STAT_INST = false) ∧ (s.dev.rd .TWIN_STAT_STATE < 3) ∧ (s.dev.fm.booted = true)) ∧ (∃ (s : State) (l : Nat), (s.dev.sys.cdReset
      = false) ∧ (s.dev.failingLane = some l) ∧ (s.dev.on .TWIN_STAT_INST = false) ∧ (s.dev.rd .TWIN_STAT_STATE < 3) ∧ (s.dev.fm.booted =
      false)) ∧ (∃ (s : State) (l : Nat), (s.dev.sys.cdReset = false) ∧ (s.dev.failingLane = some l) ∧ (s.dev.on .TWIN_STAT_INST = true) ∧
      (s.dev.on .TWIN_STAT_EXP = false) ∧ (s.dev.rd .TWIN_STAT_STATE = 3)) ∧ (∃ (s : State) (l : Nat), (s.dev.sys.cdReset = false) ∧
      (s.dev.failingLane = some l) ∧ (s.dev.on .TWIN_STAT_INST = true) ∧ (s.dev.sys.devFailed = true) ∧ (s.dev.on .TWIN_STAT_EXP = true)) ∧
      (∃ (s : State), (s.dev.sys.cdReset = true ∨ s.dev.failingLane = none)) ∧ (∃ (s : State), (s.dev.sys.cdReset = false) ∧ (s.dev.rd
      .TWIN_STAT_STATE = 2) ∧ (∀ k < 4, s.dev.twin.parts.at [] k ≠ []) ∧ (s.dev.twin.pairAt < 2 ^ 64)) ∧ (∃ (s : State), (s.dev.sys.cdReset
      = true ∨ s.dev.rd .TWIN_STAT_STATE ≠ 2)) ∧ (∃ (s : State), (s.dev.sys.cdReset = false) ∧ (s.dev.rd .TWIN_STAT_STATE = 2 ∨ (s.dev.rd
      .TWIN_STAT_STATE = 6 ∧ 262144 < 20 * s.dev.twin.stores.length)) ∧ (s.dev.twin.attempts < 2)) ∧ (∃ (s : State), (s.dev.sys.cdReset =
      false) ∧ (s.dev.rd .TWIN_STAT_STATE = 2 ∨ (s.dev.rd .TWIN_STAT_STATE = 6 ∧ 262144 < 20 * s.dev.twin.stores.length)) ∧ (s.dev.rd
      .TWIN_STAT_STATE = 2 → s.dev.on .PWM_STAT_LEAD = false) ∧ (s.dev.twin.attempts = 2)) ∧ (∃ (s : State), (s.dev.sys.cdReset = true ∨
      (s.dev.rd .TWIN_STAT_STATE ≠ 2 ∧ s.dev.rd .TWIN_STAT_STATE ≠ 6) ∨ (s.dev.rd .TWIN_STAT_STATE = 6 ∧ s.dev.twin.stores = []))) ∧ (∃ (s
      : State), (s.dev.cus.heldRestart = none)) ∧ (∃ (s : State) (k : HeldRestart), (s.dev.cus.heldRestart = some k)) ∧ (∃ (s : State),
      (s.dev.sys.cdReset = false) ∧ (s.dev.cus.heldRestart = none) ∧ (s.dev.rd .TWIN_STAT_STATE = 6) ∧ (s.dev.rd .TWIN_MIRB_USED ≤ s.dev.rd
      .TWIN_MIRB_LIMIT) ∧ (s.dev.holdShort = false)) ∧ (∃ (s : State), (s.dev.sys.cdReset = false) ∧ (s.dev.cus.heldRestart = none) ∧
      (s.dev.rd .TWIN_STAT_STATE = 2) ∧ (s.dev.rd .TWIN_MIRB_USED ≤ s.dev.rd .TWIN_MIRB_LIMIT) ∧ (s.dev.holdShort = false)) ∧ (∃ (s :
      State) (q : Fin 10), (s.dev.sys.cdReset = false) ∧ (s.dev.cus.heldRestart = none) ∧ (s.dev.rd .TWIN_STAT_STATE = 6) ∧ (q ≠ 0)) :=
  ⟨⟨(((State.reset.live.w .TWIN_STAT_LN0 0 1).w .TWIN_STAT_LN1 0 1).w .TWIN_STAT_STATE 0 3).w .TWIN_STAT_INST 0 1, by decide⟩,
    ⟨((State.reset.live.w .TWIN_STAT_LN0 0 0).w .TWIN_STAT_LN1 0 1).w .TWIN_STAT_EXP 0 1, by decide⟩, ⟨(State.reset.w .TWIN_STAT_LN0 0 0).w
    .TWIN_STAT_LN1 0 0, by decide⟩, ⟨((State.reset.live.w .TWIN_STAT_INST 0 1).dv fun d => { d with twin := { d.twin with rx := [] } }).w
    .CAP_CLS_HELD (20) 1, by decide⟩, ⟨State.reset.w .CAP_CLS_HELD (20) 0, by decide⟩, ⟨(((State.reset.live.w .TWIN_STAT_STATE 0 4).w
    .TIDE_CNTLO 0 5).w .TIDE_CNTHI 0 0).dv fun d => { d with twin := { d.twin with heart := 5, missAt := 0 } }, by decide⟩,
    ⟨((((State.reset.live.w .TWIN_STAT_STATE 0 4).w .TWIN_STAT_LN0 0 1).w .TIDE_CNTLO 0 5).w .TIDE_CNTHI 0 0).dv fun d =>
    { d with twin := { d.twin with heart := 4, missAt := 5 } }, by decide⟩, ⟨(((State.reset.live.w .TWIN_STAT_INST 0 1).dv fun d =>
    { d with twin := { d.twin with rx := [] } }).w .TWIN_STAT_EXP 0 1).dv fun d =>
    { d with conv := { d.conv with legs := [(0, { s := true, hi := { on := true, gate := true }, lo := { gate := true } }), (23, { lo := { on := true, gate := true, delayed := true } })] } },
    by decide⟩, ⟨State.reset.w .TWIN_STAT_EXP 0 0, by decide⟩, ⟨((State.reset.live.w .TWIN_STAT_STATE 0 4).w .TWIN_STAT_ALGN 0 1).w
    .PWM_STAT_LEAD 0 0, by decide⟩, ⟨(State.reset.live.w .TWIN_STAT_STATE 0 3).w .TWIN_STAT_ALGN 0 1, by decide⟩, ⟨((((((State.reset.dv fun
    d => { d with fm := { d.fm with booted := true } }).live).dv fun d =>
    { d with eccm := { d.eccm with laneErrs := [(17, List.replicate 16 0)], deadLanes := [] } }).w .TWIN_STAT_INST 0 0).w .TWIN_STAT_STATE
    0 0).w .PWM_CTRL_ARM 0 1).w .CLINK_STAT_RUNNING (31) 1, 17, by decide⟩, ⟨(((((State.reset.dv fun d =>
    { d with fm := { d.fm with booted := false } }).live).dv fun d =>
    { d with eccm := { d.eccm with laneErrs := [(17, List.replicate 16 0)], deadLanes := [] } }).w .TWIN_STAT_INST 0 0).w .TWIN_STAT_STATE
    0 0).w .PWM_CTRL_ARM 0 1, 17, by decide⟩, ⟨((((State.reset.live.w .TWIN_STAT_INST 0 1).dv fun d =>
    { d with twin := { d.twin with rx := [] } }).dv fun d =>
    { d with eccm := { d.eccm with laneErrs := [(17, List.replicate 16 0)], deadLanes := [] } }).w .TWIN_STAT_STATE 0 3).w .TWIN_STAT_EXP 0
    0, 17, by decide⟩, ⟨(((((State.reset.live.w .TWIN_STAT_INST 0 1).dv fun d => { d with twin := { d.twin with rx := [] } }).dv fun d =>
    { d with eccm := { d.eccm with laneErrs := [(17, List.replicate 16 0)], deadLanes := [] } }).w .TWIN_STAT_STATE 0 3).w .TWIN_STAT_EXP 0
    1).dv fun d => { d with sys := { d.sys with devFailed := true } }, 17, by decide⟩, ⟨State.reset.dv fun d =>
    { d with eccm := { d.eccm with laneErrs := [] } }, by decide⟩, ⟨(State.reset.live.w .TWIN_STAT_STATE 0 2).dv fun d =>
    { d with twin := { d.twin with pairAt := 77, parts := [(0, [1]), (1, [1]), (2, [1]), (3, [1])] } }, by decide⟩, ⟨State.reset.w
    .TWIN_STAT_STATE 0 3, by decide⟩, ⟨(State.reset.live.w .TWIN_STAT_STATE 0 2).dv fun d =>
    { d with twin := { d.twin with attempts := 1 } }, by decide⟩, ⟨((State.reset.live.w .TWIN_STAT_STATE 0 2).w .PWM_STAT_LEAD 0 0).dv fun
    d => { d with twin := { d.twin with attempts := 2 } }, by decide⟩, ⟨State.reset.w .TWIN_STAT_STATE 0 3, by decide⟩, ⟨State.reset.dv fun
    d => { d with cus := { d.cus with heldRestart := none } }, by decide⟩, ⟨(fun (k : HeldRestart) => State.reset.dv fun d =>
    { d with cus := { d.cus with heldRestart := some k } }) ({}), {}, by decide⟩, ⟨((((State.reset.dv fun d =>
    { d with regs := [] }).live).w .TWIN_STAT_STATE 0 6).w .TWIN_MIRB_USED 0 0).dv fun d =>
    { d with cus := { d.cus with heldRestart := none } }, by decide⟩, ⟨((((State.reset.dv fun d => { d with regs := [] }).live).w
    .TWIN_STAT_STATE 0 2).w .TWIN_MIRB_USED 0 0).dv fun d => { d with cus := { d.cus with heldRestart := none } }, by decide⟩,
    ⟨(State.reset.live.w .TWIN_STAT_STATE 0 6).dv fun d => { d with cus := { d.cus with heldRestart := none } }, 3, by decide⟩⟩

/-- States and operands that meet the hypotheses of each clause of `Obligations.IntegerResults` that has some. -/
theorem witness_integerResults :
    (∃ (s : State) (i : Issue) (rd : Fin 32) (ra : Fin 32) (rb : Fin 32), (s.dev.issues i (opABC rd ra rb)) ∧ (s.dev.predicated i = true))
      ∧ (∃ (s : State) (i : Issue) (rd : Fin 32) (ra : Fin 32) (rb : Fin 32), (s.dev.issues i (opABC rd ra rb)) ∧ (s.dev.predicated i =
      true)) ∧ (∃ (s : State) (i : Issue) (rd : Fin 32) (ra : Fin 32) (rb : Fin 32), (s.dev.issues i (opABC rd ra rb)) ∧ (s.dev.predicated
      i = true)) ∧ (∃ (s : State) (i : Issue) (rd : Fin 32) (ra : Fin 32) (rb : Fin 32), (s.dev.issues i (opABC rd ra rb)) ∧
      (s.dev.predicated i = true)) ∧ (∃ (s : State) (i : Issue) (rd : Fin 32) (ra : Fin 32) (rb : Fin 32), (s.dev.issues i (opABC rd ra
      rb)) ∧ (s.dev.predicated i = true)) ∧ (∃ (s : State) (i : Issue) (rd : Fin 32) (ra : Fin 32) (rb : Fin 32), (s.dev.issues i (opABC rd
      ra rb)) ∧ (s.dev.predicated i = true)) ∧ (∃ (s : State) (i : Issue) (rd : Fin 32) (ra : Fin 32) (rb : Fin 32), (s.dev.issues i (opABC
      rd ra rb)) ∧ (s.dev.predicated i = true)) ∧ (∃ (s : State) (i : Issue) (rd : Fin 32) (ra : Fin 32) (rb : Fin 32), (s.dev.issues i
      (opABC rd ra rb)) ∧ (s.dev.predicated i = true)) ∧ (∃ (s : State) (i : Issue) (rd : Fin 32) (ra : Fin 32) (rb : Fin 32),
      (s.dev.issues i (opABC rd ra rb)) ∧ (s.dev.predicated i = true)) ∧ (∃ (s : State) (i : Issue) (rd : Fin 32) (ra : Fin 32) (rb : Fin
      32), (s.dev.issues i (opABC rd ra rb)) ∧ (s.dev.predicated i = true)) ∧ (∃ (s : State) (i : Issue) (rd : Fin 32) (ra : Fin 32) (rb :
      Fin 32), (s.dev.issues i (opABC rd ra rb)) ∧ (s.dev.predicated i = true)) ∧ (∃ (s : State) (i : Issue) (rd : Fin 32) (ra : Fin 32)
      (rb : Fin 32), (s.dev.issues i (opABC rd ra rb)) ∧ (s.dev.predicated i = true)) ∧ (∃ (s : State) (i : Issue) (rd : Fin 32) (ra : Fin
      32) (rb : Fin 32), (s.dev.issues i (opABC rd ra rb)) ∧ (s.dev.predicated i = true)) ∧ (∃ (s : State) (i : Issue) (rd : Fin 32) (ra :
      Fin 32), (s.dev.issues i (opAB rd ra)) ∧ (s.dev.predicated i = true)) ∧ (∃ (s : State) (i : Issue) (rd : Fin 32) (ra : Fin 32),
      (s.dev.issues i (opAB rd ra)) ∧ (s.dev.predicated i = true)) ∧ (∃ (s : State) (i : Issue) (rd : Fin 32) (ra : Fin 32), (s.dev.issues
      i (opAB rd ra)) ∧ (s.dev.predicated i = true)) ∧ (∃ (s : State) (i : Issue) (rd : Fin 32) (ra : Fin 32), (s.dev.issues i (opAB rd
      ra)) ∧ (s.dev.predicated i = true)) ∧ (∃ (s : State) (i : Issue) (rd : Fin 32) (ra : Fin 32), (s.dev.issues i (opAB rd ra)) ∧
      (s.dev.predicated i = true)) ∧ (∃ (s : State) (i : Issue) (rd : Fin 32) (ra : Fin 32), (s.dev.issues i (opAB rd ra)) ∧
      (s.dev.predicated i = true)) ∧ (∃ (s : State) (i : Issue) (rd : Fin 32) (ra : Fin 32), (s.dev.issues i (opAB rd ra)) ∧
      (s.dev.predicated i = true)) ∧ (∃ (s : State) (i : Issue) (rd : Fin 32), (s.dev.issues i ({ writes := [rd], safety := true })) ∧
      (s.dev.predicated i = true)) ∧ (∃ (s : State) (i : Issue) (rd : Fin 32), (s.dev.issues i
      ({ reads := [rd], writes := [rd], safety := true })) ∧ (s.dev.predicated i = true)) ∧ (∃ (s : State) (i : Issue) (rd : Fin 32) (ra :
      Fin 32) (rb : Fin 32), (s.dev.issues i (opABC rd ra rb 3)) ∧ (s.dev.predicated i = true)) ∧ (∃ (s : State) (i : Issue) (rd : Fin 32)
      (ra : Fin 32) (rb : Fin 32), (s.dev.issues i (opABC rd ra rb 3)) ∧ (s.dev.predicated i = true)) ∧ (∃ (s : State) (i : Issue) (rd :
      Fin 32) (ra : Fin 32) (rb : Fin 32), (s.dev.issues i (opABC rd ra rb 3)) ∧ (s.dev.predicated i = true)) ∧ (∃ (s : State) (i : Issue)
      (rd : Fin 32) (ra : Fin 32) (rb : Fin 32), (s.dev.issues i (opABC rd ra rb 3)) ∧ (s.dev.predicated i = true)) ∧ (∃ (s : State) (i :
      Issue) (rd : Fin 32) (ra : Fin 32) (rb : Fin 32), (s.dev.issues i (opABC rd ra rb 18 true)) ∧ (s.dev.predicated i = true)) ∧ (∃ (s :
      State) (i : Issue) (rd : Fin 32) (ra : Fin 32) (rb : Fin 32), (s.dev.issues i (opABC rd ra rb 18 true)) ∧ (s.dev.predicated i =
      true)) ∧ (∃ (s : State) (i : Issue) (rd : Fin 32) (ra : Fin 32) (rb : Fin 32), (s.dev.issues i (opABC rd ra rb 18 true)) ∧
      (s.dev.predicated i = true)) ∧ (∃ (s : State) (i : Issue) (rd : Fin 32) (ra : Fin 32) (rb : Fin 32), (s.dev.issues i (opABC rd ra rb
      18 true)) ∧ (s.dev.predicated i = true)) :=
  ⟨⟨(fun (i : Issue) => ((State.reset.live).prep (.ce 7)).dv fun d =>
    { d with vcs := { d.vcs with engines := d.vcs.engines.set {} (Eng.index i.eng) { d.unit i with g := [(3, 0x8000000000000003), (4, 5)] } } })
    ({ eng := .ce 7, pr := 0, pn := false, word := 0x00000001 }), { eng := .ce 7, pr := 0, pn := false, word := 0x00000001 }, 0, 0, 0, by
    decide⟩, ⟨(fun (i : Issue) => ((State.reset.live).prep (.ce 7)).dv fun d =>
    { d with vcs := { d.vcs with engines := d.vcs.engines.set {} (Eng.index i.eng) { d.unit i with g := [(3, 0x8000000000000003), (4, 5)] } } })
    ({ eng := .ce 7, pr := 0, pn := false, word := 0x00000002 }), { eng := .ce 7, pr := 0, pn := false, word := 0x00000002 }, 0, 0, 0, by
    decide⟩, ⟨(fun (i : Issue) => ((State.reset.live).prep (.ce 7)).dv fun d =>
    { d with vcs := { d.vcs with engines := d.vcs.engines.set {} (Eng.index i.eng) { d.unit i with g := [(3, 0x8000000000000003), (4, 5)] } } })
    ({ eng := .ce 7, pr := 0, pn := false, word := 0x00000003 }), { eng := .ce 7, pr := 0, pn := false, word := 0x00000003 }, 0, 0, 0, by
    decide⟩, ⟨(fun (i : Issue) => ((State.reset.live).prep (.ce 7)).dv fun d =>
    { d with vcs := { d.vcs with engines := d.vcs.engines.set {} (Eng.index i.eng) { d.unit i with g := [(3, 0x8000000000000003), (4, 5)] } } })
    ({ eng := .ce 7, pr := 0, pn := false, word := 0x00000004 }), { eng := .ce 7, pr := 0, pn := false, word := 0x00000004 }, 0, 0, 0, by
    decide⟩, ⟨(fun (i : Issue) => ((State.reset.live).prep (.ce 7)).dv fun d =>
    { d with vcs := { d.vcs with engines := d.vcs.engines.set {} (Eng.index i.eng) { d.unit i with g := [(3, 0x8000000000000003), (4, 5)] } } })
    ({ eng := .ce 7, pr := 0, pn := false, word := 0x00000005 }), { eng := .ce 7, pr := 0, pn := false, word := 0x00000005 }, 0, 0, 0, by
    decide⟩, ⟨(fun (i : Issue) => ((State.reset.live).prep (.ce 7)).dv fun d =>
    { d with vcs := { d.vcs with engines := d.vcs.engines.set {} (Eng.index i.eng) { d.unit i with g := [(3, 0x8000000000000003), (4, 5)] } } })
    ({ eng := .ce 7, pr := 0, pn := false, word := 0x00000006 }), { eng := .ce 7, pr := 0, pn := false, word := 0x00000006 }, 0, 0, 0, by
    decide⟩, ⟨(fun (i : Issue) => ((State.reset.live).prep (.ce 7)).dv fun d =>
    { d with vcs := { d.vcs with engines := d.vcs.engines.set {} (Eng.index i.eng) { d.unit i with g := [(3, 0x8000000000000003), (4, 5)] } } })
    ({ eng := .ce 7, pr := 0, pn := false, word := 0x00000007 }), { eng := .ce 7, pr := 0, pn := false, word := 0x00000007 }, 0, 0, 0, by
    decide⟩, ⟨(fun (i : Issue) => ((State.reset.live).prep (.ce 7)).dv fun d =>
    { d with vcs := { d.vcs with engines := d.vcs.engines.set {} (Eng.index i.eng) { d.unit i with g := [(3, 0x8000000000000003), (4, 5)] } } })
    ({ eng := .ce 7, pr := 0, pn := false, word := 0x00000008 }), { eng := .ce 7, pr := 0, pn := false, word := 0x00000008 }, 0, 0, 0, by
    decide⟩, ⟨(fun (i : Issue) => ((State.reset.live).prep (.ce 7)).dv fun d =>
    { d with vcs := { d.vcs with engines := d.vcs.engines.set {} (Eng.index i.eng) { d.unit i with g := [(3, 0x8000000000000003), (4, 5)] } } })
    ({ eng := .ce 7, pr := 0, pn := false, word := 0x00000009 }), { eng := .ce 7, pr := 0, pn := false, word := 0x00000009 }, 0, 0, 0, by
    decide⟩, ⟨(fun (i : Issue) => ((State.reset.live).prep (.ce 7)).dv fun d =>
    { d with vcs := { d.vcs with engines := d.vcs.engines.set {} (Eng.index i.eng) { d.unit i with g := [(3, 0x8000000000000003), (4, 5)] } } })
    ({ eng := .ce 7, pr := 0, pn := false, word := 0x0000000A }), { eng := .ce 7, pr := 0, pn := false, word := 0x0000000A }, 0, 0, 0, by
    decide⟩, ⟨(fun (i : Issue) => ((State.reset.live).prep (.ce 7)).dv fun d =>
    { d with vcs := { d.vcs with engines := d.vcs.engines.set {} (Eng.index i.eng) { d.unit i with g := [(3, 0x8000000000000003), (4, 5)] } } })
    ({ eng := .ce 7, pr := 0, pn := false, word := 0x0000000B }), { eng := .ce 7, pr := 0, pn := false, word := 0x0000000B }, 0, 0, 0, by
    decide⟩, ⟨(fun (i : Issue) => ((State.reset.live).prep (.ce 7)).dv fun d =>
    { d with vcs := { d.vcs with engines := d.vcs.engines.set {} (Eng.index i.eng) { d.unit i with g := [(3, 0x8000000000000003), (4, 5)] } } })
    ({ eng := .ce 7, pr := 0, pn := false, word := 0x0000000C }), { eng := .ce 7, pr := 0, pn := false, word := 0x0000000C }, 0, 0, 0, by
    decide⟩, ⟨(fun (i : Issue) => ((State.reset.live).prep (.ce 7)).dv fun d =>
    { d with vcs := { d.vcs with engines := d.vcs.engines.set {} (Eng.index i.eng) { d.unit i with g := [(3, 0x8000000000000003), (4, 5)] } } })
    ({ eng := .ce 7, pr := 0, pn := false, word := 0x0000000D }), { eng := .ce 7, pr := 0, pn := false, word := 0x0000000D }, 0, 0, 0, by
    decide⟩, ⟨(fun (i : Issue) => ((State.reset.live).prep (.ce 7)).dv fun d =>
    { d with vcs := { d.vcs with engines := d.vcs.engines.set {} (Eng.index i.eng) { d.unit i with g := [(3, 0x8000000000000003), (4, 5)] } } })
    ({ eng := .ce 7, pr := 0, pn := false, word := 0x00400FFF }), { eng := .ce 7, pr := 0, pn := false, word := 0x00400FFF }, 0, 0, by
    decide⟩, ⟨(fun (i : Issue) => ((State.reset.live).prep (.ce 7)).dv fun d =>
    { d with vcs := { d.vcs with engines := d.vcs.engines.set {} (Eng.index i.eng) { d.unit i with g := [(3, 0x8000000000000003), (4, 5)] } } })
    ({ eng := .ce 7, pr := 0, pn := false, word := 0x00800FFF }), { eng := .ce 7, pr := 0, pn := false, word := 0x00800FFF }, 0, 0, by
    decide⟩, ⟨(fun (i : Issue) => ((State.reset.live).prep (.ce 7)).dv fun d =>
    { d with vcs := { d.vcs with engines := d.vcs.engines.set {} (Eng.index i.eng) { d.unit i with g := [(3, 0x8000000000000003), (4, 5)] } } })
    ({ eng := .ce 7, pr := 0, pn := false, word := 0x00C00FFF }), { eng := .ce 7, pr := 0, pn := false, word := 0x00C00FFF }, 0, 0, by
    decide⟩, ⟨(fun (i : Issue) => ((State.reset.live).prep (.ce 7)).dv fun d =>
    { d with vcs := { d.vcs with engines := d.vcs.engines.set {} (Eng.index i.eng) { d.unit i with g := [(3, 0x8000000000000003), (4, 5)] } } })
    ({ eng := .ce 7, pr := 0, pn := false, word := 0x01000FFF }), { eng := .ce 7, pr := 0, pn := false, word := 0x01000FFF }, 0, 0, by
    decide⟩, ⟨(fun (i : Issue) => ((State.reset.live).prep (.ce 7)).dv fun d =>
    { d with vcs := { d.vcs with engines := d.vcs.engines.set {} (Eng.index i.eng) { d.unit i with g := [(3, 0x8000000000000003), (4, 5)] } } })
    ({ eng := .ce 7, pr := 0, pn := false, word := 0x0140003F }), { eng := .ce 7, pr := 0, pn := false, word := 0x0140003F }, 0, 0, by
    decide⟩, ⟨(fun (i : Issue) => ((State.reset.live).prep (.ce 7)).dv fun d =>
    { d with vcs := { d.vcs with engines := d.vcs.engines.set {} (Eng.index i.eng) { d.unit i with g := [(3, 0x8000000000000003), (4, 5)] } } })
    ({ eng := .ce 7, pr := 0, pn := false, word := 0x0140043F }), { eng := .ce 7, pr := 0, pn := false, word := 0x0140043F }, 0, 0, by
    decide⟩, ⟨(fun (i : Issue) => ((State.reset.live).prep (.ce 7)).dv fun d =>
    { d with vcs := { d.vcs with engines := d.vcs.engines.set {} (Eng.index i.eng) { d.unit i with g := [(3, 0x8000000000000003), (4, 5)] } } })
    ({ eng := .ce 7, pr := 0, pn := false, word := 0x0140083F }), { eng := .ce 7, pr := 0, pn := false, word := 0x0140083F }, 0, 0, by
    decide⟩, ⟨(fun (i : Issue) => ((State.reset.live).prep (.ce 7)).dv fun d =>
    { d with vcs := { d.vcs with engines := d.vcs.engines.set {} (Eng.index i.eng) { d.unit i with g := [(3, 0x8000000000000003), (4, 5)] } } })
    ({ eng := .ce 7, pr := 0, pn := false, word := 0x0F810003 }), { eng := .ce 7, pr := 0, pn := false, word := 0x0F810003 }, 0, by
    decide⟩, ⟨(fun (i : Issue) => ((State.reset.live).prep (.ce 7)).dv fun d =>
    { d with vcs := { d.vcs with engines := d.vcs.engines.set {} (Eng.index i.eng) { d.unit i with g := [(3, 0x8000000000000003), (4, 5)] } } })
    ({ eng := .ce 7, pr := 0, pn := false, word := 0x0F800003 }), { eng := .ce 7, pr := 0, pn := false, word := 0x0F800003 }, 0, by
    decide⟩, ⟨(fun (i : Issue) => ((State.reset.live).prep (.ce 7)).dv fun d =>
    { d with vcs := { d.vcs with engines := d.vcs.engines.set {} (Eng.index i.eng) { d.unit i with g := [(3, 0x8000000000000003), (4, 5)] } } })
    ({ eng := .ce 7, pr := 0, pn := false, word := 0x01800000 }), { eng := .ce 7, pr := 0, pn := false, word := 0x01800000 }, 0, 0, 0, by
    decide⟩, ⟨(fun (i : Issue) => ((State.reset.live).prep (.ce 7)).dv fun d =>
    { d with vcs := { d.vcs with engines := d.vcs.engines.set {} (Eng.index i.eng) { d.unit i with g := [(3, 0x8000000000000003), (4, 5)] } } })
    ({ eng := .ce 7, pr := 0, pn := false, word := 0x01800001 }), { eng := .ce 7, pr := 0, pn := false, word := 0x01800001 }, 0, 0, 0, by
    decide⟩, ⟨(fun (i : Issue) => ((State.reset.live).prep (.ce 7)).dv fun d =>
    { d with vcs := { d.vcs with engines := d.vcs.engines.set {} (Eng.index i.eng) { d.unit i with g := [(3, 0x8000000000000003), (4, 5)] } } })
    ({ eng := .ce 7, pr := 0, pn := false, word := 0x01800002 }), { eng := .ce 7, pr := 0, pn := false, word := 0x01800002 }, 0, 0, 0, by
    decide⟩, ⟨(fun (i : Issue) => ((State.reset.live).prep (.ce 7)).dv fun d =>
    { d with vcs := { d.vcs with engines := d.vcs.engines.set {} (Eng.index i.eng) { d.unit i with g := [(3, 0x8000000000000003), (4, 5)] } } })
    ({ eng := .ce 7, pr := 0, pn := false, word := 0x01800003 }), { eng := .ce 7, pr := 0, pn := false, word := 0x01800003 }, 0, 0, 0, by
    decide⟩, ⟨(fun (i : Issue) => ((State.reset.live).prep (.ce 7)).dv fun d =>
    { d with vcs := { d.vcs with engines := d.vcs.engines.set {} (Eng.index i.eng) { d.unit i with g := [(3, 0x8000000000000003), (4, 5)] } } })
    ({ eng := .ce 7, pr := 0, pn := false, word := 0x01C00000 }), { eng := .ce 7, pr := 0, pn := false, word := 0x01C00000 }, 0, 0, 0, by
    decide⟩, ⟨(fun (i : Issue) => ((State.reset.live).prep (.ce 7)).dv fun d =>
    { d with vcs := { d.vcs with engines := d.vcs.engines.set {} (Eng.index i.eng) { d.unit i with g := [(3, 0x8000000000000003), (4, 5)] } } })
    ({ eng := .ce 7, pr := 0, pn := false, word := 0x01C00001 }), { eng := .ce 7, pr := 0, pn := false, word := 0x01C00001 }, 0, 0, 0, by
    decide⟩, ⟨(fun (i : Issue) => ((State.reset.live).prep (.ce 7)).dv fun d =>
    { d with vcs := { d.vcs with engines := d.vcs.engines.set {} (Eng.index i.eng) { d.unit i with g := [(3, 0x8000000000000003), (4, 5)] } } })
    ({ eng := .ce 7, pr := 0, pn := false, word := 0x01C00002 }), { eng := .ce 7, pr := 0, pn := false, word := 0x01C00002 }, 0, 0, 0, by
    decide⟩, ⟨(fun (i : Issue) => ((State.reset.live).prep (.ce 7)).dv fun d =>
    { d with vcs := { d.vcs with engines := d.vcs.engines.set {} (Eng.index i.eng) { d.unit i with g := [(3, 0x8000000000000003), (4, 5)] } } })
    ({ eng := .ce 7, pr := 0, pn := false, word := 0x01C00003 }), { eng := .ce 7, pr := 0, pn := false, word := 0x01C00003 }, 0, 0, 0, by
    decide⟩⟩

/-- States and operands that meet the hypotheses of each clause of `Obligations.CompareAndTransferResults` that has some. -/
theorem witness_compareAndTransferResults :
    (∃ (s : State) (i : Issue) (pd : Fin 8) (ra : Fin 32) (rb : Fin 32), (s.dev.issues i
      ({ reads := [ra, rb], writes := [regP pd], safety := true })) ∧ (s.dev.predicated i = true)) ∧ (∃ (s : State) (i : Issue) (pd : Fin
      8) (ra : Fin 32), (s.dev.issues i ({ reads := [ra], writes := [regP pd], safety := true })) ∧ (s.dev.predicated i = true)) ∧ (∃ (s :
      State) (i : Issue) (pd : Fin 8) (pa : Fin 8) (pb : Fin 8), (s.dev.issues i
      ({ reads := [regP pa, regP pb], writes := [regP pd], safety := true })) ∧ (s.dev.predicated i = true)) ∧ (∃ (s : State) (i : Issue)
      (pd : Fin 8) (pa : Fin 8) (pb : Fin 8), (s.dev.issues i ({ reads := [regP pa, regP pb], writes := [regP pd], safety := true })) ∧
      (s.dev.predicated i = true)) ∧ (∃ (s : State) (i : Issue) (pd : Fin 8) (pa : Fin 8) (pb : Fin 8), (s.dev.issues i
      ({ reads := [regP pa, regP pb], writes := [regP pd], safety := true })) ∧ (s.dev.predicated i = true)) ∧ (∃ (s : State) (i : Issue)
      (pd : Fin 8) (pa : Fin 8) (pb : Fin 8), (s.dev.issues i ({ reads := [regP pa, regP pb], writes := [regP pd], safety := true })) ∧
      (s.dev.predicated i = true)) ∧ (∃ (s : State) (i : Issue) (off : BitVec 22) (k : Nat), (s.dev.issues i
      ({ lat := 0, branch := true, safety := true })) ∧ (s.dev.predicated i = true) ∧ (k = ((((s.dev.unit i).pc : Int) + 4 * off.toInt) % 2
      ^ 64).toNat) ∧ (k % 4 = 0) ∧ (i.eng = .ferryman ∨ k ≤ 0xFFFC)) ∧ (∃ (s : State) (i : Issue) (rd : Fin 32) (off : BitVec 17) (k :
      Nat), (s.dev.issues i ({ writes := [rd], branch := true, safety := true })) ∧ (s.dev.predicated i = true) ∧ (k = ((((s.dev.unit i).pc
      : Int) + 4 * off.toInt) % 2 ^ 64).toNat) ∧ (k % 4 = 0) ∧ (i.eng = .ferryman ∨ k ≤ 0xFFFC)) ∧ (∃ (s : State) (i : Issue) (ra : Fin 32)
      (k : Nat), (s.dev.issues i ({ lat := 0, reads := [ra], branch := true, safety := true })) ∧ (s.dev.predicated i = true) ∧ (k =
      ((s.dev.unit i).gr ra).toNat) ∧ (k % 4 = 0) ∧ (i.eng = .ferryman ∨ k ≤ 0xFFFC)) ∧ (∃ (s : State) (i : Issue) (rd : Fin 32) (sreg :
      BitVec 12) (k : Nat), (s.dev.issues i
      ({ cls := 2, writes := [rd], control := decide (sreg.toNat < 0x800), safety := decide (sreg.toNat < 0x800) })) ∧ (s.dev.predicated i
      = true) ∧ (s.dev.wordState (fetchAt (Eng.index i.eng) (s.dev.unit i).pc) = 0) ∧ (i.eng = .ferryman → sreg.toNat < 0x800 ∨
      s.dev.vcs.ferry.priv = true) ∧ (s.dev.sreg (Eng.index i.eng) (s.dev.cycleOf i
      ({ cls := 2, writes := [rd], control := decide (sreg.toNat < 0x800), safety := decide (sreg.toNat < 0x800) })) sreg.toNat = some k))
      ∧ (∃ (s : State) (i : Issue) (sreg : BitVec 12) (ra : Fin 32), (s.dev.issues i
      ({ cls := 2, lat := 1, reads := [ra], control := decide (sreg.toNat < 0x800), safety := decide (sreg.toNat < 0x800) })) ∧
      (s.dev.predicated i = true) ∧ (sreg.toNat = 0x006)) ∧ (∃ (s : State) (i : Issue) (sreg : BitVec 12) (ra : Fin 32), (s.dev.issues i
      ({ cls := 2, lat := 1, reads := [ra], control := decide (sreg.toNat < 0x800), safety := decide (sreg.toNat < 0x800) })) ∧
      (s.dev.predicated i = true) ∧ (sreg.toNat = 0x800) ∧ (i.eng = .ferryman) ∧ (s.dev.vcs.ferry.priv = true)) ∧ (∃ (s : State) (i :
      Issue) (sreg : BitVec 12) (ra : Fin 32), (s.dev.issues i
      ({ cls := 2, lat := 1, reads := [ra], control := decide (sreg.toNat < 0x800), safety := decide (sreg.toNat < 0x800) })) ∧
      (s.dev.predicated i = true) ∧ (sreg.toNat = 0x801) ∧ (i.eng = .ferryman) ∧ (s.dev.vcs.ferry.priv = true)) ∧ (∃ (s : State) (i :
      Issue) (sreg : BitVec 12) (ra : Fin 32), (s.dev.issues i
      ({ cls := 2, lat := 1, reads := [ra], control := decide (sreg.toNat < 0x800), safety := decide (sreg.toNat < 0x800) })) ∧
      (s.dev.predicated i = true) ∧ (sreg.toNat = 0x803) ∧ (i.eng = .ferryman) ∧ (s.dev.vcs.ferry.priv = true)) ∧ (∃ (s : State) (i :
      Issue) (sreg : BitVec 12) (ra : Fin 32), (s.dev.issues i
      ({ cls := 2, lat := 1, reads := [ra], control := decide (sreg.toNat < 0x800), safety := decide (sreg.toNat < 0x800) })) ∧
      (s.dev.predicated i = true) ∧ (sreg.toNat = 0x804) ∧ (i.eng = .ferryman) ∧ (s.dev.vcs.ferry.priv = true)) ∧ (∃ (s : State) (i :
      Issue) (sreg : BitVec 12) (ra : Fin 32), (s.dev.issues i
      ({ cls := 2, lat := 1, reads := [ra], control := decide (sreg.toNat < 0x800), safety := decide (sreg.toNat < 0x800) })) ∧
      (s.dev.predicated i = true) ∧ (sreg.toNat = 0x805) ∧ (i.eng = .ferryman) ∧ (s.dev.vcs.ferry.priv = true)) :=
  ⟨⟨(fun (i : Issue) => ((State.reset.live).prep (.ce 7)).dv fun d =>
    { d with vcs := { d.vcs with engines := d.vcs.engines.set {} (Eng.index i.eng) { d.unit i with g := [(3, 0x8000000000000003), (4, 5)] } } })
    ({ eng := .ce 7, pr := 0, pn := false, word := 0x02000004 }), { eng := .ce 7, pr := 0, pn := false, word := 0x02000004 }, 0, 0, 0, by
    decide⟩, ⟨(fun (i : Issue) => ((State.reset.live).prep (.ce 7)).dv fun d =>
    { d with vcs := { d.vcs with engines := d.vcs.engines.set {} (Eng.index i.eng) { d.unit i with g := [(3, 0x8000000000000003), (4, 5)] } } })
    ({ eng := .ce 7, pr := 0, pn := false, word := 0x024007FF }), { eng := .ce 7, pr := 0, pn := false, word := 0x024007FF }, 0, 0, by
    decide⟩, ⟨((State.reset.live).prep (.ce 7)), { eng := .ce 7, pr := 0, pn := false, word := 0x0280C000 }, 0, 0, 6, by decide⟩,
    ⟨((State.reset.live).prep (.ce 7)), { eng := .ce 7, pr := 0, pn := false, word := 0x0280C001 }, 0, 0, 6, by decide⟩,
    ⟨((State.reset.live).prep (.ce 7)), { eng := .ce 7, pr := 0, pn := false, word := 0x0280C002 }, 0, 0, 6, by decide⟩,
    ⟨((State.reset.live).prep (.ce 7)), { eng := .ce 7, pr := 0, pn := false, word := 0x0280C003 }, 0, 0, 6, by decide⟩,
    ⟨((State.reset.live).prep (.ce 7)), { eng := .ce 7, pr := 0, pn := false, word := 0x06000004 }, 4, 16, by decide⟩,
    ⟨((State.reset.live).prep (.ce 7)), { eng := .ce 7, pr := 0, pn := false, word := 0x06400004 }, 0, 4, 16, by decide⟩, ⟨(fun (i : Issue)
    => ((State.reset.live).prep (.ce 7)).dv fun d =>
    { d with vcs := { d.vcs with engines := d.vcs.engines.set {} (Eng.index i.eng) { d.unit i with g := [(2, 0x40)] } } })
    ({ eng := .ce 7, pr := 0, pn := false, word := 0x06802000 }), { eng := .ce 7, pr := 0, pn := false, word := 0x06802000 }, 2, 0x40, by
    decide⟩, ⟨((State.reset.live).prep (.ce 7)), { eng := .ce 7, pr := 0, pn := false, word := 0x05400005 }, 0, 5, 1000, by decide⟩, ⟨(fun
    (i : Issue) => ((State.reset.live).prep (.ce 7)).dv fun d =>
    { d with vcs := { d.vcs with engines := d.vcs.engines.set {} (Eng.index i.eng) { d.unit i with g := [(3, 0x8000000000000003), (4, 5)] } } })
    ({ eng := .ce 7, pr := 0, pn := false, word := 0x05470006 }), { eng := .ce 7, pr := 0, pn := false, word := 0x05470006 }, 6, 3, by
    decide⟩, ⟨(fun (i : Issue) => ((State.reset.live).prep (.ferryman)).dv fun d =>
    { d with vcs := { d.vcs with engines := d.vcs.engines.set {} (Eng.index i.eng) { d.unit i with g := [(3, 0x8000000000000003), (4, 5)] } } })
    ({ eng := .ferryman, pr := 0, pn := false, word := 0x05470800 }), { eng := .ferryman, pr := 0, pn := false, word := 0x05470800 },
    0x800, 3, by decide⟩, ⟨(fun (i : Issue) => ((State.reset.live).prep (.ferryman)).dv fun d =>
    { d with vcs := { d.vcs with engines := d.vcs.engines.set {} (Eng.index i.eng) { d.unit i with g := [(3, 0x8000000000000003), (4, 5)] } } })
    ({ eng := .ferryman, pr := 0, pn := false, word := 0x05470801 }), { eng := .ferryman, pr := 0, pn := false, word := 0x05470801 },
    0x801, 3, by decide⟩, ⟨(fun (i : Issue) => ((State.reset.live).prep (.ferryman)).dv fun d =>
    { d with vcs := { d.vcs with engines := d.vcs.engines.set {} (Eng.index i.eng) { d.unit i with g := [(3, 0x8000000000000003), (4, 5)] } } })
    ({ eng := .ferryman, pr := 0, pn := false, word := 0x05470803 }), { eng := .ferryman, pr := 0, pn := false, word := 0x05470803 },
    0x803, 3, by decide⟩, ⟨(fun (i : Issue) => ((State.reset.live).prep (.ferryman)).dv fun d =>
    { d with vcs := { d.vcs with engines := d.vcs.engines.set {} (Eng.index i.eng) { d.unit i with g := [(3, 0x8000000000000003), (4, 5)] } } })
    ({ eng := .ferryman, pr := 0, pn := false, word := 0x05470804 }), { eng := .ferryman, pr := 0, pn := false, word := 0x05470804 },
    0x804, 3, by decide⟩, ⟨(fun (i : Issue) => ((State.reset.live).prep (.ferryman)).dv fun d =>
    { d with vcs := { d.vcs with engines := d.vcs.engines.set {} (Eng.index i.eng) { d.unit i with g := [(3, 0x8000000000000003), (4, 5)] } } })
    ({ eng := .ferryman, pr := 0, pn := false, word := 0x05470805 }), { eng := .ferryman, pr := 0, pn := false, word := 0x05470805 },
    0x805, 3, by decide⟩⟩

/-- States and operands that meet the hypotheses of each clause of `Obligations.FloatResults` that has some. -/
theorem witness_floatResults :
    (∃ (s : State) (i : Issue) (rd : Fin 32) (ra : Fin 32) (rb : Fin 32), (s.dev.issues i
      ({ cls := 1, lat := 4, reads := [regG ra, regG rb], writes := [regG rd] })) ∧ (s.dev.predicated i = true)) ∧ (∃ (s : State) (i :
      Issue) (rd : Fin 32) (ra : Fin 32) (rb : Fin 32), (s.dev.issues i
      ({ cls := 1, lat := 4, reads := [regG ra, regG rb], writes := [regG rd] })) ∧ (s.dev.predicated i = true)) ∧ (∃ (s : State) (i :
      Issue) (rd : Fin 32) (ra : Fin 32) (rb : Fin 32), (s.dev.issues i
      ({ cls := 1, lat := 4, reads := [regG ra, regG rb], writes := [regG rd] })) ∧ (s.dev.predicated i = true)) ∧ (∃ (s : State) (i :
      Issue) (rd : Fin 32) (ra : Fin 32) (rb : Fin 32), (s.dev.issues i
      ({ cls := 1, lat := 2, reads := [regG ra, regG rb], writes := [regG rd] })) ∧ (s.dev.predicated i = true)) ∧ (∃ (s : State) (i :
      Issue) (rd : Fin 32) (ra : Fin 32) (rb : Fin 32), (s.dev.issues i
      ({ cls := 1, lat := 2, reads := [regG ra, regG rb], writes := [regG rd] })) ∧ (s.dev.predicated i = true)) ∧ (∃ (s : State) (i :
      Issue) (rd : Fin 32) (ra : Fin 32), (s.dev.issues i ({ cls := 1, lat := 2, reads := [regG ra], writes := [regG rd] })) ∧
      (s.dev.predicated i = true)) ∧ (∃ (s : State) (i : Issue) (rd : Fin 32) (ra : Fin 32), (s.dev.issues i
      ({ cls := 1, lat := 2, reads := [regG ra], writes := [regG rd] })) ∧ (s.dev.predicated i = true)) ∧ (∃ (s : State) (i : Issue) (rd :
      Fin 32) (ra : Fin 32) (rb : Fin 32), (s.dev.issues i ({ cls := 1, lat := 2, reads := [regG ra, regG rb], writes := [regG rd] })) ∧
      (s.dev.predicated i = true)) ∧ (∃ (s : State) (i : Issue) (rd : Fin 32) (ra : Fin 32) (rb : Fin 32), (s.dev.issues i
      ({ cls := 1, lat := 2, reads := [regG ra, regG rb], writes := [regG rd] })) ∧ (s.dev.predicated i = true)) ∧ (∃ (s : State) (i :
      Issue) (rd : Fin 32) (ra : Fin 32), (s.dev.issues i ({ cls := 1, lat := 4, reads := [regG ra], writes := [regG rd] })) ∧
      (s.dev.predicated i = true)) ∧ (∃ (s : State) (i : Issue) (rd : Fin 32) (ra : Fin 32), (s.dev.issues i
      ({ cls := 1, lat := 4, reads := [regG ra], writes := [regG rd] })) ∧ (s.dev.predicated i = true)) ∧ (∃ (s : State) (i : Issue) (rd :
      Fin 32) (ra : Fin 32), (s.dev.issues i ({ cls := 1, lat := 4, reads := [regG ra], writes := [regG rd] })) ∧ (s.dev.predicated i =
      true)) ∧ (∃ (s : State) (i : Issue) (rd : Fin 32) (ra : Fin 32) (rb : Fin 32) (rc : Fin 32), (s.dev.issues i
      ({ cls := 1, lat := 4, reads := [regG ra, regG rb, regG rc], writes := [regG rd] })) ∧ (s.dev.predicated i = true)) ∧ (∃ (s : State)
      (i : Issue) (rd : Fin 32) (ra : Fin 32) (rb : Fin 32) (rc : Fin 32), (s.dev.issues i
      ({ cls := 1, lat := 4, reads := [regG ra, regG rb, regG rc], writes := [regG rd] })) ∧ (s.dev.predicated i = true)) ∧ (∃ (s : State)
      (i : Issue) (rd : Fin 32) (ra : Fin 32) (rb : Fin 32) (rc : Fin 32), (s.dev.issues i
      ({ cls := 1, lat := 4, reads := [regG ra, regG rb, regG rc], writes := [regG rd] })) ∧ (s.dev.predicated i = true)) ∧ (∃ (s : State)
      (i : Issue) (rd : Fin 32) (ra : Fin 32) (rb : Fin 32) (rc : Fin 32), (s.dev.issues i
      ({ cls := 1, lat := 4, reads := [regG ra, regG rb, regG rc], writes := [regG rd] })) ∧ (s.dev.predicated i = true)) ∧ (∃ (s : State)
      (i : Issue) (rd : Fin 32) (ra : Fin 32) (rb : Fin 32), (s.dev.issues i
      ({ cls := 1, lat := 18, reads := [regG ra, regG rb], writes := [regG rd], div := true })) ∧ (s.dev.predicated i = true)) ∧ (∃ (s :
      State) (i : Issue) (rd : Fin 32) (ra : Fin 32), (s.dev.issues i
      ({ cls := 1, lat := 20, reads := [regG ra], writes := [regG rd], div := true })) ∧ (s.dev.predicated i = true)) ∧ (∃ (s : State) (i :
      Issue) (pd : Fin 8) (ra : Fin 32) (rb : Fin 32), (s.dev.issues i
      ({ cls := 1, lat := 2, reads := [regG ra, regG rb], writes := [regP pd] })) ∧ (s.dev.predicated i = true)) ∧ (∃ (s : State) (i :
      Issue) (pd : Fin 8) (ra : Fin 32) (rb : Fin 32), (s.dev.issues i
      ({ cls := 1, lat := 2, reads := [regG ra, regG rb], writes := [regP pd] })) ∧ (s.dev.predicated i = true)) ∧ (∃ (s : State) (i :
      Issue) (pd : Fin 8) (ra : Fin 32) (rb : Fin 32), (s.dev.issues i
      ({ cls := 1, lat := 2, reads := [regG ra, regG rb], writes := [regP pd] })) ∧ (s.dev.predicated i = true)) ∧ (∃ (s : State) (i :
      Issue) (pd : Fin 8) (ra : Fin 32) (rb : Fin 32), (s.dev.issues i
      ({ cls := 1, lat := 2, reads := [regG ra, regG rb], writes := [regP pd] })) ∧ (s.dev.predicated i = true)) :=
  ⟨⟨(fun (i : Issue) => ((State.reset.live).prep (.ce 7)).dv fun d =>
    { d with vcs := { d.vcs with engines := d.vcs.engines.set {} (Eng.index i.eng) { d.unit i with g := [(3, 0x8000000000000003), (4, 5)] } } })
    ({ eng := .ce 7, pr := 0, pn := false, word := 0x030A0000 }), { eng := .ce 7, pr := 0, pn := false, word := 0x030A0000 }, 5, 0, 0, by
    decide⟩, ⟨(fun (i : Issue) => ((State.reset.live).prep (.ce 7)).dv fun d =>
    { d with vcs := { d.vcs with engines := d.vcs.engines.set {} (Eng.index i.eng) { d.unit i with g := [(3, 0x8000000000000003), (4, 5)] } } })
    ({ eng := .ce 7, pr := 0, pn := false, word := 0x030A0001 }), { eng := .ce 7, pr := 0, pn := false, word := 0x030A0001 }, 5, 0, 0, by
    decide⟩, ⟨(fun (i : Issue) => ((State.reset.live).prep (.ce 7)).dv fun d =>
    { d with vcs := { d.vcs with engines := d.vcs.engines.set {} (Eng.index i.eng) { d.unit i with g := [(3, 0x8000000000000003), (4, 5)] } } })
    ({ eng := .ce 7, pr := 0, pn := false, word := 0x030A0002 }), { eng := .ce 7, pr := 0, pn := false, word := 0x030A0002 }, 5, 0, 0, by
    decide⟩, ⟨(fun (i : Issue) => ((State.reset.live).prep (.ce 7)).dv fun d =>
    { d with vcs := { d.vcs with engines := d.vcs.engines.set {} (Eng.index i.eng) { d.unit i with g := [(3, 0x8000000000000003), (4, 5)] } } })
    ({ eng := .ce 7, pr := 0, pn := false, word := 0x030A0003 }), { eng := .ce 7, pr := 0, pn := false, word := 0x030A0003 }, 5, 0, 0, by
    decide⟩, ⟨(fun (i : Issue) => ((State.reset.live).prep (.ce 7)).dv fun d =>
    { d with vcs := { d.vcs with engines := d.vcs.engines.set {} (Eng.index i.eng) { d.unit i with g := [(3, 0x8000000000000003), (4, 5)] } } })
    ({ eng := .ce 7, pr := 0, pn := false, word := 0x030A0004 }), { eng := .ce 7, pr := 0, pn := false, word := 0x030A0004 }, 5, 0, 0, by
    decide⟩, ⟨(fun (i : Issue) => ((State.reset.live).prep (.ce 7)).dv fun d =>
    { d with vcs := { d.vcs with engines := d.vcs.engines.set {} (Eng.index i.eng) { d.unit i with g := [(3, 0x8000000000000003), (4, 5)] } } })
    ({ eng := .ce 7, pr := 0, pn := false, word := 0x030A0005 }), { eng := .ce 7, pr := 0, pn := false, word := 0x030A0005 }, 5, 0, by
    decide⟩, ⟨(fun (i : Issue) => ((State.reset.live).prep (.ce 7)).dv fun d =>
    { d with vcs := { d.vcs with engines := d.vcs.engines.set {} (Eng.index i.eng) { d.unit i with g := [(3, 0x8000000000000003), (4, 5)] } } })
    ({ eng := .ce 7, pr := 0, pn := false, word := 0x030A0006 }), { eng := .ce 7, pr := 0, pn := false, word := 0x030A0006 }, 5, 0, by
    decide⟩, ⟨(fun (i : Issue) => ((State.reset.live).prep (.ce 7)).dv fun d =>
    { d with vcs := { d.vcs with engines := d.vcs.engines.set {} (Eng.index i.eng) { d.unit i with g := [(3, 0x8000000000000003), (4, 5)] } } })
    ({ eng := .ce 7, pr := 0, pn := false, word := 0x030A0007 }), { eng := .ce 7, pr := 0, pn := false, word := 0x030A0007 }, 5, 0, 0, by
    decide⟩, ⟨(fun (i : Issue) => ((State.reset.live).prep (.ce 7)).dv fun d =>
    { d with vcs := { d.vcs with engines := d.vcs.engines.set {} (Eng.index i.eng) { d.unit i with g := [(3, 0x8000000000000003), (4, 5)] } } })
    ({ eng := .ce 7, pr := 0, pn := false, word := 0x030A0008 }), { eng := .ce 7, pr := 0, pn := false, word := 0x030A0008 }, 5, 0, 0, by
    decide⟩, ⟨(fun (i : Issue) => ((State.reset.live).prep (.ce 7)).dv fun d =>
    { d with vcs := { d.vcs with engines := d.vcs.engines.set {} (Eng.index i.eng) { d.unit i with g := [(3, 0x8000000000000003), (4, 5)] } } })
    ({ eng := .ce 7, pr := 0, pn := false, word := 0x030A0009 }), { eng := .ce 7, pr := 0, pn := false, word := 0x030A0009 }, 5, 0, by
    decide⟩, ⟨(fun (i : Issue) => ((State.reset.live).prep (.ce 7)).dv fun d =>
    { d with vcs := { d.vcs with engines := d.vcs.engines.set {} (Eng.index i.eng) { d.unit i with g := [(3, 0x8000000000000003), (4, 5)] } } })
    ({ eng := .ce 7, pr := 0, pn := false, word := 0x030A000A }), { eng := .ce 7, pr := 0, pn := false, word := 0x030A000A }, 5, 0, by
    decide⟩, ⟨(fun (i : Issue) => ((State.reset.live).prep (.ce 7)).dv fun d =>
    { d with vcs := { d.vcs with engines := d.vcs.engines.set {} (Eng.index i.eng) { d.unit i with g := [(3, 0x8000000000000003), (4, 5)] } } })
    ({ eng := .ce 7, pr := 0, pn := false, word := 0x030A000B }), { eng := .ce 7, pr := 0, pn := false, word := 0x030A000B }, 5, 0, by
    decide⟩, ⟨(fun (i : Issue) => ((State.reset.live).prep (.ce 7)).dv fun d =>
    { d with vcs := { d.vcs with engines := d.vcs.engines.set {} (Eng.index i.eng) { d.unit i with g := [(3, 0x8000000000000003), (4, 5)] } } })
    ({ eng := .ce 7, pr := 0, pn := false, word := 0x034A0000 }), { eng := .ce 7, pr := 0, pn := false, word := 0x034A0000 }, 5, 0, 0, 0,
    by decide⟩, ⟨(fun (i : Issue) => ((State.reset.live).prep (.ce 7)).dv fun d =>
    { d with vcs := { d.vcs with engines := d.vcs.engines.set {} (Eng.index i.eng) { d.unit i with g := [(3, 0x8000000000000003), (4, 5)] } } })
    ({ eng := .ce 7, pr := 0, pn := false, word := 0x034A0001 }), { eng := .ce 7, pr := 0, pn := false, word := 0x034A0001 }, 5, 0, 0, 0,
    by decide⟩, ⟨(fun (i : Issue) => ((State.reset.live).prep (.ce 7)).dv fun d =>
    { d with vcs := { d.vcs with engines := d.vcs.engines.set {} (Eng.index i.eng) { d.unit i with g := [(3, 0x8000000000000003), (4, 5)] } } })
    ({ eng := .ce 7, pr := 0, pn := false, word := 0x034A0002 }), { eng := .ce 7, pr := 0, pn := false, word := 0x034A0002 }, 5, 0, 0, 0,
    by decide⟩, ⟨(fun (i : Issue) => ((State.reset.live).prep (.ce 7)).dv fun d =>
    { d with vcs := { d.vcs with engines := d.vcs.engines.set {} (Eng.index i.eng) { d.unit i with g := [(3, 0x8000000000000003), (4, 5)] } } })
    ({ eng := .ce 7, pr := 0, pn := false, word := 0x034A0003 }), { eng := .ce 7, pr := 0, pn := false, word := 0x034A0003 }, 5, 0, 0, 0,
    by decide⟩, ⟨(fun (i : Issue) => ((State.reset.live).prep (.ce 7)).dv fun d =>
    { d with vcs := { d.vcs with engines := d.vcs.engines.set {} (Eng.index i.eng) { d.unit i with g := [(3, 0x8000000000000003), (4, 5)] } } })
    ({ eng := .ce 7, pr := 0, pn := false, word := 0x038A0000 }), { eng := .ce 7, pr := 0, pn := false, word := 0x038A0000 }, 5, 0, 0, by
    decide⟩, ⟨(fun (i : Issue) => ((State.reset.live).prep (.ce 7)).dv fun d =>
    { d with vcs := { d.vcs with engines := d.vcs.engines.set {} (Eng.index i.eng) { d.unit i with g := [(3, 0x8000000000000003), (4, 5)] } } })
    ({ eng := .ce 7, pr := 0, pn := false, word := 0x038A0001 }), { eng := .ce 7, pr := 0, pn := false, word := 0x038A0001 }, 5, 0, by
    decide⟩, ⟨(fun (i : Issue) => ((State.reset.live).prep (.ce 7)).dv fun d =>
    { d with vcs := { d.vcs with engines := d.vcs.engines.set {} (Eng.index i.eng) { d.unit i with g := [(3, 0x8000000000000003), (4, 5)] } } })
    ({ eng := .ce 7, pr := 0, pn := false, word := 0x03F80000 }), { eng := .ce 7, pr := 0, pn := false, word := 0x03F80000 }, 7, 0, 0, by
    decide⟩, ⟨(fun (i : Issue) => ((State.reset.live).prep (.ce 7)).dv fun d =>
    { d with vcs := { d.vcs with engines := d.vcs.engines.set {} (Eng.index i.eng) { d.unit i with g := [(3, 0x8000000000000003), (4, 5)] } } })
    ({ eng := .ce 7, pr := 0, pn := false, word := 0x03F80001 }), { eng := .ce 7, pr := 0, pn := false, word := 0x03F80001 }, 7, 0, 0, by
    decide⟩, ⟨(fun (i : Issue) => ((State.reset.live).prep (.ce 7)).dv fun d =>
    { d with vcs := { d.vcs with engines := d.vcs.engines.set {} (Eng.index i.eng) { d.unit i with g := [(3, 0x8000000000000003), (4, 5)] } } })
    ({ eng := .ce 7, pr := 0, pn := false, word := 0x03F80002 }), { eng := .ce 7, pr := 0, pn := false, word := 0x03F80002 }, 7, 0, 0, by
    decide⟩, ⟨(fun (i : Issue) => ((State.reset.live).prep (.ce 7)).dv fun d =>
    { d with vcs := { d.vcs with engines := d.vcs.engines.set {} (Eng.index i.eng) { d.unit i with g := [(3, 0x8000000000000003), (4, 5)] } } })
    ({ eng := .ce 7, pr := 0, pn := false, word := 0x03F80003 }), { eng := .ce 7, pr := 0, pn := false, word := 0x03F80003 }, 7, 0, 0, by
    decide⟩⟩

/-- States and operands that meet the hypotheses of each clause of `Obligations.VectorResults` that has some. -/
theorem witness_vectorResults :
    (∃ (s : State) (i : Issue) (vd : Fin 16) (va : Fin 16) (vb : Fin 16), (s.dev.issues i
      ({ cls := 1, lat := 4, reads := [regV va, regV vb], writes := [regV vd] })) ∧ (s.dev.predicated i = true)) ∧ (∃ (s : State) (i :
      Issue) (vd : Fin 16) (va : Fin 16) (vb : Fin 16), (s.dev.issues i
      ({ cls := 1, lat := 4, reads := [regV va, regV vb], writes := [regV vd] })) ∧ (s.dev.predicated i = true)) ∧ (∃ (s : State) (i :
      Issue) (vd : Fin 16) (va : Fin 16) (vb : Fin 16), (s.dev.issues i
      ({ cls := 1, lat := 4, reads := [regV va, regV vb], writes := [regV vd] })) ∧ (s.dev.predicated i = true)) ∧ (∃ (s : State) (i :
      Issue) (vd : Fin 16) (va : Fin 16) (vb : Fin 16), (s.dev.issues i
      ({ cls := 1, lat := 2, reads := [regV va, regV vb], writes := [regV vd] })) ∧ (s.dev.predicated i = true)) ∧ (∃ (s : State) (i :
      Issue) (vd : Fin 16) (va : Fin 16) (vb : Fin 16), (s.dev.issues i
      ({ cls := 1, lat := 2, reads := [regV va, regV vb], writes := [regV vd] })) ∧ (s.dev.predicated i = true)) ∧ (∃ (s : State) (i :
      Issue) (vd : Fin 16) (va : Fin 16) (vb : Fin 16) (vc : Fin 16), (s.dev.issues i
      ({ cls := 1, lat := 4, reads := [regV va, regV vb, regV vc], writes := [regV vd] })) ∧ (s.dev.predicated i = true)) ∧ (∃ (s : State)
      (i : Issue) (vd : Fin 16) (va : Fin 16) (vb : Fin 16), (s.dev.issues i
      ({ cls := 1, lat := 4, reads := [regV va, regV vb, regV vd], writes := [regV vd] })) ∧ (s.dev.predicated i = true)) ∧ (∃ (s : State)
      (i : Issue) (vd : Fin 16) (va : Fin 16), (s.dev.issues i ({ cls := 1, lat := 2, reads := [regV va], writes := [regV vd] })) ∧
      (s.dev.predicated i = true)) ∧ (∃ (s : State) (i : Issue) (vd : Fin 16) (va : Fin 16), (s.dev.issues i
      ({ cls := 1, lat := 2, reads := [regV va], writes := [regV vd] })) ∧ (s.dev.predicated i = true)) ∧ (∃ (s : State) (i : Issue) (vd :
      Fin 16) (va : Fin 16) (vb : Fin 16) (vc : Fin 16), (s.dev.issues i
      ({ cls := 1, lat := 2, reads := [regV va, regV vb, regV vc], writes := [regV vd] })) ∧ (s.dev.predicated i = true)) ∧ (∃ (s : State)
      (i : Issue) (vd : Fin 16) (va : Fin 16), (s.dev.issues i ({ cls := 1, lat := 2, reads := [regV va], writes := [regV vd] })) ∧
      (s.dev.predicated i = true)) ∧ (∃ (s : State) (i : Issue) (vd : Fin 16) (ga : Fin 32), (s.dev.issues i
      ({ cls := 1, lat := 2, reads := [regG ga], writes := [regV vd] })) ∧ (s.dev.predicated i = true)) ∧ (∃ (s : State) (i : Issue) (vd :
      Fin 16) (ga : Fin 32), (s.dev.issues i ({ cls := 1, lat := 2, reads := [regV vd, regG ga], writes := [regV vd] })) ∧
      (s.dev.predicated i = true)) ∧ (∃ (s : State) (i : Issue) (vd : Fin 16) (ga : Fin 32), (s.dev.issues i
      ({ cls := 1, lat := 6, reads := [regG ga], writes := [regV vd] })) ∧ (s.dev.predicated i = true)) ∧ (∃ (s : State) (i : Issue) (rd :
      Fin 32) (va : Fin 16), (s.dev.issues i ({ cls := 1, lat := 2, reads := [regV va], writes := [regG rd] })) ∧ (s.dev.predicated i =
      true)) ∧ (∃ (s : State) (i : Issue) (rd : Fin 32) (va : Fin 16), (s.dev.issues i
      ({ cls := 1, lat := 2, reads := [regV va], writes := [regG rd] })) ∧ (s.dev.predicated i = true)) ∧ (∃ (s : State) (i : Issue) (vd :
      Fin 16) (va : Fin 16), (s.dev.issues i ({ cls := 1, lat := 6, reads := [regV va], writes := [regV vd] })) ∧ (s.dev.predicated i =
      true)) ∧ (∃ (s : State) (i : Issue) (vd : Fin 16) (va : Fin 16), (s.dev.issues i
      ({ cls := 1, lat := 6, reads := [regV va], writes := [regV vd] })) ∧ (s.dev.predicated i = true)) ∧ (∃ (s : State) (i : Issue) (vd :
      Fin 16) (va : Fin 16) (vb : Fin 16), (s.dev.issues i ({ cls := 1, lat := 6, reads := [regV va, regV vb], writes := [regV vd] })) ∧
      (s.dev.predicated i = true)) ∧ (∃ (s : State) (i : Issue) (vd : Fin 16) (va : Fin 16) (vb : Fin 16), (s.dev.issues i
      ({ cls := 1, lat := 6, reads := [regV va, regV vb], writes := [regV vd] })) ∧ (s.dev.predicated i = true)) :=
  ⟨⟨(fun (i : Issue) => ((State.reset.live).prep (.ce 7)).dv fun d =>
    { d with vcs := { d.vcs with engines := d.vcs.engines.set {} (Eng.index i.eng) { d.unit i with v := [(1, 0x3F800000400000004040000040800000)], g := [(3, 0x40000000)] } } })
    ({ eng := .ce 7, pr := 0, pn := false, word := 0x04444000 }), { eng := .ce 7, pr := 0, pn := false, word := 0x04444000 }, 1, 1, 0, by
    decide⟩, ⟨(fun (i : Issue) => ((State.reset.live).prep (.ce 7)).dv fun d =>
    { d with vcs := { d.vcs with engines := d.vcs.engines.set {} (Eng.index i.eng) { d.unit i with v := [(1, 0x3F800000400000004040000040800000)], g := [(3, 0x40000000)] } } })
    ({ eng := .ce 7, pr := 0, pn := false, word := 0x04444001 }), { eng := .ce 7, pr := 0, pn := false, word := 0x04444001 }, 1, 1, 0, by
    decide⟩, ⟨(fun (i : Issue) => ((State.reset.live).prep (.ce 7)).dv fun d =>
    { d with vcs := { d.vcs with engines := d.vcs.engines.set {} (Eng.index i.eng) { d.unit i with v := [(1, 0x3F800000400000004040000040800000)], g := [(3, 0x40000000)] } } })
    ({ eng := .ce 7, pr := 0, pn := false, word := 0x04444002 }), { eng := .ce 7, pr := 0, pn := false, word := 0x04444002 }, 1, 1, 0, by
    decide⟩, ⟨(fun (i : Issue) => ((State.reset.live).prep (.ce 7)).dv fun d =>
    { d with vcs := { d.vcs with engines := d.vcs.engines.set {} (Eng.index i.eng) { d.unit i with v := [(1, 0x3F800000400000004040000040800000)], g := [(3, 0x40000000)] } } })
    ({ eng := .ce 7, pr := 0, pn := false, word := 0x04444005 }), { eng := .ce 7, pr := 0, pn := false, word := 0x04444005 }, 1, 1, 0, by
    decide⟩, ⟨(fun (i : Issue) => ((State.reset.live).prep (.ce 7)).dv fun d =>
    { d with vcs := { d.vcs with engines := d.vcs.engines.set {} (Eng.index i.eng) { d.unit i with v := [(1, 0x3F800000400000004040000040800000)], g := [(3, 0x40000000)] } } })
    ({ eng := .ce 7, pr := 0, pn := false, word := 0x04444006 }), { eng := .ce 7, pr := 0, pn := false, word := 0x04444006 }, 1, 1, 0, by
    decide⟩, ⟨(fun (i : Issue) => ((State.reset.live).prep (.ce 7)).dv fun d =>
    { d with vcs := { d.vcs with engines := d.vcs.engines.set {} (Eng.index i.eng) { d.unit i with v := [(1, 0x3F800000400000004040000040800000)], g := [(3, 0x40000000)] } } })
    ({ eng := .ce 7, pr := 0, pn := false, word := 0x04444003 }), { eng := .ce 7, pr := 0, pn := false, word := 0x04444003 }, 1, 1, 0, 0,
    by decide⟩, ⟨(fun (i : Issue) => ((State.reset.live).prep (.ce 7)).dv fun d =>
    { d with vcs := { d.vcs with engines := d.vcs.engines.set {} (Eng.index i.eng) { d.unit i with v := [(1, 0x3F800000400000004040000040800000)], g := [(3, 0x40000000)] } } })
    ({ eng := .ce 7, pr := 0, pn := false, word := 0x04444004 }), { eng := .ce 7, pr := 0, pn := false, word := 0x04444004 }, 1, 1, 0, by
    decide⟩, ⟨(fun (i : Issue) => ((State.reset.live).prep (.ce 7)).dv fun d =>
    { d with vcs := { d.vcs with engines := d.vcs.engines.set {} (Eng.index i.eng) { d.unit i with v := [(1, 0x3F800000400000004040000040800000)], g := [(3, 0x40000000)] } } })
    ({ eng := .ce 7, pr := 0, pn := false, word := 0x04444007 }), { eng := .ce 7, pr := 0, pn := false, word := 0x04444007 }, 1, 1, by
    decide⟩, ⟨(fun (i : Issue) => ((State.reset.live).prep (.ce 7)).dv fun d =>
    { d with vcs := { d.vcs with engines := d.vcs.engines.set {} (Eng.index i.eng) { d.unit i with v := [(1, 0x3F800000400000004040000040800000)], g := [(3, 0x40000000)] } } })
    ({ eng := .ce 7, pr := 0, pn := false, word := 0x04444008 }), { eng := .ce 7, pr := 0, pn := false, word := 0x04444008 }, 1, 1, by
    decide⟩, ⟨(fun (i : Issue) => ((State.reset.live).prep (.ce 7)).dv fun d =>
    { d with vcs := { d.vcs with engines := d.vcs.engines.set {} (Eng.index i.eng) { d.unit i with v := [(1, 0x3F800000400000004040000040800000)], g := [(3, 0x40000000)] } } })
    ({ eng := .ce 7, pr := 0, pn := false, word := 0x04444009 }), { eng := .ce 7, pr := 0, pn := false, word := 0x04444009 }, 1, 1, 0, 0,
    by decide⟩, ⟨(fun (i : Issue) => ((State.reset.live).prep (.ce 7)).dv fun d =>
    { d with vcs := { d.vcs with engines := d.vcs.engines.set {} (Eng.index i.eng) { d.unit i with v := [(1, 0x3F800000400000004040000040800000)], g := [(3, 0x40000000)] } } })
    ({ eng := .ce 7, pr := 0, pn := false, word := 0x048440C0 }), { eng := .ce 7, pr := 0, pn := false, word := 0x048440C0 }, 1, 1, by
    decide⟩, ⟨(fun (i : Issue) => ((State.reset.live).prep (.ce 7)).dv fun d =>
    { d with vcs := { d.vcs with engines := d.vcs.engines.set {} (Eng.index i.eng) { d.unit i with v := [(1, 0x3F800000400000004040000040800000)], g := [(3, 0x40000000)] } } })
    ({ eng := .ce 7, pr := 0, pn := false, word := 0x04C62000 }), { eng := .ce 7, pr := 0, pn := false, word := 0x04C62000 }, 1, 3, by
    decide⟩, ⟨(fun (i : Issue) => ((State.reset.live).prep (.ce 7)).dv fun d =>
    { d with vcs := { d.vcs with engines := d.vcs.engines.set {} (Eng.index i.eng) { d.unit i with v := [(1, 0x3F800000400000004040000040800000)], g := [(3, 0x40000000)] } } })
    ({ eng := .ce 7, pr := 0, pn := false, word := 0x04C62001 }), { eng := .ce 7, pr := 0, pn := false, word := 0x04C62001 }, 1, 3, by
    decide⟩, ⟨(fun (i : Issue) => ((State.reset.live).prep (.ce 7)).dv fun d =>
    { d with vcs := { d.vcs with engines := d.vcs.engines.set {} (Eng.index i.eng) { d.unit i with v := [(1, 0x3F800000400000004040000040800000)], g := [(3, 0x40000000)] } } })
    ({ eng := .ce 7, pr := 0, pn := false, word := 0x04C62004 }), { eng := .ce 7, pr := 0, pn := false, word := 0x04C62004 }, 1, 3, by
    decide⟩, ⟨(fun (i : Issue) => ((State.reset.live).prep (.ce 7)).dv fun d =>
    { d with vcs := { d.vcs with engines := d.vcs.engines.set {} (Eng.index i.eng) { d.unit i with v := [(1, 0x3F800000400000004040000040800000)], g := [(3, 0x40000000)] } } })
    ({ eng := .ce 7, pr := 0, pn := false, word := 0x04FE1802 }), { eng := .ce 7, pr := 0, pn := false, word := 0x04FE1802 }, 31, 0, by
    decide⟩, ⟨(fun (i : Issue) => ((State.reset.live).prep (.ce 7)).dv fun d =>
    { d with vcs := { d.vcs with engines := d.vcs.engines.set {} (Eng.index i.eng) { d.unit i with v := [(1, 0x3F800000400000004040000040800000)], g := [(3, 0x40000000)] } } })
    ({ eng := .ce 7, pr := 0, pn := false, word := 0x04FE0003 }), { eng := .ce 7, pr := 0, pn := false, word := 0x04FE0003 }, 31, 0, by
    decide⟩, ⟨(fun (i : Issue) => ((State.reset.live).prep (.ce 7)).dv fun d =>
    { d with vcs := { d.vcs with engines := d.vcs.engines.set {} (Eng.index i.eng) { d.unit i with v := [(1, 0x3F800000400000004040000040800000)], g := [(3, 0x40000000)] } } })
    ({ eng := .ce 7, pr := 0, pn := false, word := 0x05044000 }), { eng := .ce 7, pr := 0, pn := false, word := 0x05044000 }, 1, 1, by
    decide⟩, ⟨(fun (i : Issue) => ((State.reset.live).prep (.ce 7)).dv fun d =>
    { d with vcs := { d.vcs with engines := d.vcs.engines.set {} (Eng.index i.eng) { d.unit i with v := [(1, 0x3F800000400000004040000040800000)], g := [(3, 0x40000000)] } } })
    ({ eng := .ce 7, pr := 0, pn := false, word := 0x05044001 }), { eng := .ce 7, pr := 0, pn := false, word := 0x05044001 }, 1, 1, by
    decide⟩, ⟨(fun (i : Issue) => ((State.reset.live).prep (.ce 7)).dv fun d =>
    { d with vcs := { d.vcs with engines := d.vcs.engines.set {} (Eng.index i.eng) { d.unit i with v := [(1, 0x3F800000400000004040000040800000)], g := [(3, 0x40000000)] } } })
    ({ eng := .ce 7, pr := 0, pn := false, word := 0x05044002 }), { eng := .ce 7, pr := 0, pn := false, word := 0x05044002 }, 1, 1, 0, by
    decide⟩, ⟨(fun (i : Issue) => ((State.reset.live).prep (.ce 7)).dv fun d =>
    { d with vcs := { d.vcs with engines := d.vcs.engines.set {} (Eng.index i.eng) { d.unit i with v := [(1, 0x3F800000400000004040000040800000)], g := [(3, 0x40000000)] } } })
    ({ eng := .ce 7, pr := 0, pn := false, word := 0x05044003 }), { eng := .ce 7, pr := 0, pn := false, word := 0x05044003 }, 1, 1, 0, by
    decide⟩⟩

/-- States and operands that meet the hypotheses of each clause of `Obligations.LoadsAndStores` that has some. -/
theorem witness_loadsAndStores :
    (∃ (s : State) (i : Issue) (rd : Fin 32) (ra : Fin 32) (imm : BitVec 12) (k : Nat), (s.dev.issues i
      ({ lat := 3, reads := [regG ra], writes := [regG rd], port := 1, safety := true })) ∧ (s.dev.predicated i = true) ∧ (i.eng ≠
      .ferryman) ∧ (k = (s.dev.unit i).ea ra imm) ∧ (k % 8 = 0) ∧ (k + 8 ≤ 0x20000) ∧ (s.dev.spanState (dataSram (Eng.index i.eng) + k) 8 ≤
      1)) ∧ (∃ (s : State) (i : Issue) (rd : Fin 32) (ra : Fin 32) (imm : BitVec 12) (k : Nat), (s.dev.issues i
      ({ lat := 3, reads := [regG ra], writes := [regG rd], port := 1, safety := true })) ∧ (s.dev.predicated i = true) ∧ (i.eng =
      .ferryman) ∧ (s.dev.sys.cdReset = false) ∧ (k = (s.dev.unit i).ea ra imm) ∧ (k + 8 ≤ s.dev.dramEnd) ∧ (k + 8 ≤ 0x1000000000) ∧
      (s.dev.vcs.ferry.permits k 8 0 = true) ∧ (s.dev.spanState k 8 ≤ 1)) ∧ (∃ (s : State) (i : Issue) (rd : Fin 32) (ra : Fin 32) (imm :
      BitVec 12) (k : Nat), (s.dev.issues i ({ lat := 3, reads := [regG ra], writes := [regG rd], port := 1, safety := true })) ∧
      (s.dev.predicated i = true) ∧ (i.eng ≠ .ferryman) ∧ (k = (s.dev.unit i).ea ra imm) ∧ (k % 4 = 0) ∧ (k + 4 ≤ 0x20000) ∧
      (s.dev.spanState (dataSram (Eng.index i.eng) + k) 4 ≤ 1)) ∧ (∃ (s : State) (i : Issue) (rd : Fin 32) (ra : Fin 32) (imm : BitVec 12)
      (k : Nat), (s.dev.issues i ({ lat := 3, reads := [regG ra], writes := [regG rd], port := 1, safety := true })) ∧ (s.dev.predicated i
      = true) ∧ (i.eng = .ferryman) ∧ (s.dev.sys.cdReset = false) ∧ (k = (s.dev.unit i).ea ra imm) ∧ (k + 4 ≤ s.dev.dramEnd) ∧ (k + 4 ≤
      0x1000000000) ∧ (s.dev.vcs.ferry.permits k 4 0 = true) ∧ (s.dev.spanState k 4 ≤ 1)) ∧ (∃ (s : State) (i : Issue) (vd : Fin 16) (ra :
      Fin 32) (imm : BitVec 12) (k : Nat), (s.dev.issues i ({ lat := 3, reads := [regG ra], writes := [regV vd], port := 1 })) ∧
      (s.dev.predicated i = true) ∧ (i.eng ≠ .ferryman) ∧ (k = (s.dev.unit i).ea ra imm) ∧ (k % 16 = 0) ∧ (k + 16 ≤ 0x20000) ∧
      (s.dev.spanState (dataSram (Eng.index i.eng) + k) 16 ≤ 1)) ∧ (∃ (s : State) (i : Issue) (vd : Fin 16) (ra : Fin 32) (imm : BitVec 12)
      (k : Nat), (s.dev.issues i ({ lat := 3, reads := [regG ra], writes := [regV vd], port := 1 })) ∧ (s.dev.predicated i = true) ∧ (i.eng
      = .ferryman) ∧ (s.dev.sys.cdReset = false) ∧ (k = (s.dev.unit i).ea ra imm) ∧ (k + 16 ≤ s.dev.dramEnd) ∧ (k + 16 ≤ 0x1000000000) ∧
      (s.dev.vcs.ferry.permits k 16 0 = true) ∧ (s.dev.spanState k 16 ≤ 1)) ∧ (∃ (s : State) (i : Issue) (ra : Fin 32) (imm : BitVec 12) (k
      : Nat) (rs : Fin 32), (s.dev.issues i ({ lat := 0, reads := [regG ra, regG rs], port := 1, safety := true })) ∧ (s.dev.predicated i =
      true) ∧ (i.eng ≠ .ferryman) ∧ (k = (s.dev.unit i).ea ra imm) ∧ (k % 8 = 0) ∧ (k + 8 ≤ 0x20000) ∧ (8 = 4 → s.dev.wordState (dataSram
      (Eng.index i.eng) + k) ≤ 1)) ∧ (∃ (s : State) (i : Issue) (ra : Fin 32) (imm : BitVec 12) (k : Nat) (rs : Fin 32), (s.dev.issues i
      ({ lat := 0, reads := [regG ra, regG rs], port := 1, safety := true })) ∧ (s.dev.predicated i = true) ∧ (i.eng = .ferryman) ∧
      (s.dev.sys.cdReset = false) ∧ (k = (s.dev.unit i).ea ra imm) ∧ (k % 8 = 0) ∧ (k + 8 ≤ s.dev.dramEnd) ∧ (k + 8 ≤ 0x1000000000) ∧
      (s.dev.vcs.ferry.permits k 8 1 = true) ∧ (s.dev.timetabled = false) ∧ (s.dev.on .GWY_BENCH_ON = false) ∧ (8 = 4 → s.dev.wordState k ≤
      1)) ∧ (∃ (s : State) (i : Issue) (ra : Fin 32) (imm : BitVec 12) (k : Nat) (rs : Fin 32), (s.dev.issues i
      ({ lat := 0, reads := [regG ra, regG rs], port := 3, safety := true })) ∧ (s.dev.predicated i = true) ∧ (i.eng ≠ .ferryman) ∧ (k =
      (s.dev.unit i).ea ra imm) ∧ (k % 4 = 0) ∧ (k + 4 ≤ 0x20000) ∧ (4 = 4 → s.dev.wordState (dataSram (Eng.index i.eng) + k) ≤ 1)) ∧ (∃ (s
      : State) (i : Issue) (ra : Fin 32) (imm : BitVec 12) (k : Nat) (rs : Fin 32), (s.dev.issues i
      ({ lat := 0, reads := [regG ra, regG rs], port := 3, safety := true })) ∧ (s.dev.predicated i = true) ∧ (i.eng = .ferryman) ∧
      (s.dev.sys.cdReset = false) ∧ (k = (s.dev.unit i).ea ra imm) ∧ (k % 4 = 0) ∧ (k + 4 ≤ s.dev.dramEnd) ∧ (k + 4 ≤ 0x1000000000) ∧
      (s.dev.vcs.ferry.permits k 4 1 = true) ∧ (s.dev.timetabled = false) ∧ (s.dev.on .GWY_BENCH_ON = false) ∧ (4 = 4 → s.dev.wordState k ≤
      1)) ∧ (∃ (s : State) (i : Issue) (ra : Fin 32) (imm : BitVec 12) (k : Nat) (vs : Fin 16), (s.dev.issues i
      ({ lat := 0, reads := [regG ra, regV vs], port := 1 })) ∧ (s.dev.predicated i = true) ∧ (i.eng ≠ .ferryman) ∧ (k = (s.dev.unit i).ea
      ra imm) ∧ (k % 16 = 0) ∧ (k + 16 ≤ 0x20000) ∧ (16 = 4 → s.dev.wordState (dataSram (Eng.index i.eng) + k) ≤ 1)) ∧ (∃ (s : State) (i :
      Issue) (ra : Fin 32) (imm : BitVec 12) (k : Nat) (vs : Fin 16), (s.dev.issues i
      ({ lat := 0, reads := [regG ra, regV vs], port := 1 })) ∧ (s.dev.predicated i = true) ∧ (i.eng = .ferryman) ∧ (s.dev.sys.cdReset =
      false) ∧ (k = (s.dev.unit i).ea ra imm) ∧ (k % 16 = 0) ∧ (k + 16 ≤ s.dev.dramEnd) ∧ (k + 16 ≤ 0x1000000000) ∧
      (s.dev.vcs.ferry.permits k 16 1 = true) ∧ (s.dev.timetabled = false) ∧ (s.dev.on .GWY_BENCH_ON = false) ∧ (16 = 4 → s.dev.wordState k
      ≤ 1)) ∧ (∃ (s : State) (i : Issue) (rd : Fin 32) (ra : Fin 32) (rb : Fin 32) (k : Nat), (s.dev.issues i
      ({ cls := 1, lat := 6, reads := [regG ra, regG rb], writes := [regG rd], lookup := true, port := 1 })) ∧ (s.dev.predicated i = true)
      ∧ (i.eng ≠ .ferryman) ∧ (k = ((s.dev.unit i).gr rb).toNat) ∧ (k % 16 = 0) ∧ (2 ≤ memNat s.mem (dataSram (Eng.index i.eng) + k) 2) ∧
      (memNat s.mem (dataSram (Eng.index i.eng) + k) 2 ≤ 1024) ∧ (∀ u ∈ lutIReads (fun n a => memNat s.mem (dataSram (Eng.index i.eng) + a)
      n) ((s.dev.unit i).fr ra) k, s.dev.wordState (dataSram (Eng.index i.eng) + u) ≤ 1) ∧ (k + (16 + 4 * memNat s.mem (dataSram (Eng.index
      i.eng) + k) 2) ≤ 0x20000)) ∧ (∃ (s : State) (i : Issue) (rd : Fin 32) (ra : Fin 32) (rb : Fin 32) (k : Nat), (s.dev.issues i
      ({ cls := 1, lat := 6, reads := [regG ra, regG rb], writes := [regG rd], lookup := true, port := 1 })) ∧ (s.dev.predicated i = true)
      ∧ (i.eng = .ferryman) ∧ (k = ((s.dev.unit i).gr rb).toNat) ∧ (k % 16 = 0) ∧ (2 ≤ memNat s.mem (ferrymanSram + k) 2) ∧ (memNat s.mem
      (ferrymanSram + k) 2 ≤ 1024) ∧ (∀ u ∈ lutIReads (fun n a => memNat s.mem (ferrymanSram + a) n) ((s.dev.unit i).fr ra) k,
      s.dev.wordState (ferrymanSram + u) ≤ 1) ∧ (k + (16 + 4 * memNat s.mem (ferrymanSram + k) 2) ≤ 0x20000) ∧ (s.dev.vcs.ferry.permits
      (ferrymanSram + k) (16 + 4 * memNat s.mem (ferrymanSram + k) 2) 0 = true)) ∧ (∃ (s : State) (i : Issue) (rd : Fin 32) (ra : Fin 32)
      (rb : Fin 32) (k : Nat), (s.dev.issues i
      ({ cls := 1, lat := 6, reads := [regG ra, regG rb], writes := [regG rd], lookup := true, port := 1 })) ∧ (s.dev.predicated i = true)
      ∧ (i.eng ≠ .ferryman) ∧ (k = ((s.dev.unit i).gr rb).toNat) ∧ (k % 16 = 0) ∧ (2 ≤ memNat s.mem (dataSram (Eng.index i.eng) + k) 2) ∧
      (memNat s.mem (dataSram (Eng.index i.eng) + k) 2 ≤ 32) ∧ (∀ u ∈ lutBReads (fun n a => memNat s.mem (dataSram (Eng.index i.eng) + a)
      n) ((s.dev.unit i).fr ra) k, s.dev.wordState (dataSram (Eng.index i.eng) + u) ≤ 1) ∧ (k + (12 * memNat s.mem (dataSram (Eng.index
      i.eng) + k) 2 + 4) ≤ 0x20000)) ∧ (∃ (s : State) (i : Issue) (rd : Fin 32) (ra : Fin 32) (rb : Fin 32) (k : Nat), (s.dev.issues i
      ({ cls := 1, lat := 6, reads := [regG ra, regG rb], writes := [regG rd], lookup := true, port := 1 })) ∧ (s.dev.predicated i = true)
      ∧ (i.eng = .ferryman) ∧ (k = ((s.dev.unit i).gr rb).toNat) ∧ (k % 16 = 0) ∧ (2 ≤ memNat s.mem (ferrymanSram + k) 2) ∧ (memNat s.mem
      (ferrymanSram + k) 2 ≤ 32) ∧ (∀ u ∈ lutBReads (fun n a => memNat s.mem (ferrymanSram + a) n) ((s.dev.unit i).fr ra) k,
      s.dev.wordState (ferrymanSram + u) ≤ 1) ∧ (k + (12 * memNat s.mem (ferrymanSram + k) 2 + 4) ≤ 0x20000) ∧ (s.dev.vcs.ferry.permits
      (ferrymanSram + k) (12 * memNat s.mem (ferrymanSram + k) 2 + 4) 0 = true)) :=
  ⟨⟨(fun (i : Issue) => (fun (x : State) => { x with mem := memPut x.mem (dataSram 7 + (0x20000 - 8)) [1, 2, 3, 4, 5, 6, 7, 8] })
    (((State.reset.live).prep (.ce 7)).dv fun d =>
    { d with vcs := { d.vcs with engines := d.vcs.engines.set {} (Eng.index i.eng) { d.unit i with g := [(2, 0x20000)], v := [(1, 7)] } } }))
    ({ eng := .ce 7, pr := 0, pn := false, word := 0x08062FF8 }), { eng := .ce 7, pr := 0, pn := false, word := 0x08062FF8 }, 3, 2, (-8),
    0x20000 - 8, by decide⟩, ⟨(fun (i : Issue) => (fun (x : State) => { x with mem := memPut x.mem 0x104 [1, 2, 3, 4, 5, 6, 7, 8] })
    ((((State.reset.live).prep (.ferryman)).dv fun d =>
    { d with vcs := { d.vcs with engines := d.vcs.engines.set {} (Eng.index i.eng) { d.unit i with g := [(2, 0x100)], v := [(1, 7)] } } }).dv
    fun d => { d with sys := { d.sys with dramGiB := 16 } })) ({ eng := .ferryman, pr := 0, pn := false, word := 0x08062004 }),
    { eng := .ferryman, pr := 0, pn := false, word := 0x08062004 }, 3, 2, 4, 0x104, by decide⟩, ⟨(fun (i : Issue) => (fun (x : State) =>
    { x with mem := memPut x.mem (dataSram 7 + (0x20000 - 4)) [1, 2, 3, 4, 5, 6, 7, 8] }) (((State.reset.live).prep (.ce 7)).dv fun d =>
    { d with vcs := { d.vcs with engines := d.vcs.engines.set {} (Eng.index i.eng) { d.unit i with g := [(2, 0x20000)], v := [(1, 7)] } } }))
    ({ eng := .ce 7, pr := 0, pn := false, word := 0x08462FFC }), { eng := .ce 7, pr := 0, pn := false, word := 0x08462FFC }, 3, 2, (-4),
    0x20000 - 4, by decide⟩, ⟨(fun (i : Issue) => (fun (x : State) => { x with mem := memPut x.mem 0x104 [1, 2, 3, 4, 5, 6, 7, 8] })
    ((((State.reset.live).prep (.ferryman)).dv fun d =>
    { d with vcs := { d.vcs with engines := d.vcs.engines.set {} (Eng.index i.eng) { d.unit i with g := [(2, 0x100)], v := [(1, 7)] } } }).dv
    fun d => { d with sys := { d.sys with dramGiB := 16 } })) ({ eng := .ferryman, pr := 0, pn := false, word := 0x08462004 }),
    { eng := .ferryman, pr := 0, pn := false, word := 0x08462004 }, 3, 2, 4, 0x104, by decide⟩, ⟨(fun (i : Issue) => (fun (x : State) =>
    { x with mem := memPut x.mem (dataSram 7 + (0x20000 - 16)) [1, 2, 3, 4, 5, 6, 7, 8] }) (((State.reset.live).prep (.ce 7)).dv fun d =>
    { d with vcs := { d.vcs with engines := d.vcs.engines.set {} (Eng.index i.eng) { d.unit i with g := [(2, 0x20000)], v := [(1, 7)] } } }))
    ({ eng := .ce 7, pr := 0, pn := false, word := 0x08862FF0 }), { eng := .ce 7, pr := 0, pn := false, word := 0x08862FF0 }, 3, 2, (-16),
    0x20000 - 16, by decide⟩, ⟨(fun (i : Issue) => (fun (x : State) => { x with mem := memPut x.mem 0x104 [1, 2, 3, 4, 5, 6, 7, 8] })
    ((((State.reset.live).prep (.ferryman)).dv fun d =>
    { d with vcs := { d.vcs with engines := d.vcs.engines.set {} (Eng.index i.eng) { d.unit i with g := [(2, 0x100)], v := [(1, 7)] } } }).dv
    fun d => { d with sys := { d.sys with dramGiB := 16 } })) ({ eng := .ferryman, pr := 0, pn := false, word := 0x08862004 }),
    { eng := .ferryman, pr := 0, pn := false, word := 0x08862004 }, 3, 2, 4, 0x104, by decide⟩, ⟨(fun (i : Issue) =>
    ((State.reset.live).prep (.ce 7)).dv fun d =>
    { d with vcs := { d.vcs with engines := d.vcs.engines.set {} (Eng.index i.eng) { d.unit i with g := [(2, 0x20000), (3, 0x8877665544332211)], v := [(1, 7)] } } })
    ({ eng := .ce 7, pr := 0, pn := false, word := 0x08C62FF8 }), { eng := .ce 7, pr := 0, pn := false, word := 0x08C62FF8 }, 2, (-8),
    0x20000 - 8, 3, by decide⟩, ⟨(fun (i : Issue) => (((((State.reset.live).prep (.ferryman)).dv fun d =>
    { d with vcs := { d.vcs with engines := d.vcs.engines.set {} (Eng.index i.eng) { d.unit i with g := [(2, 0x100), (3, 0x8877665544332211)], v := [(1, 7)] } } }).dv
    fun d => { d with sys := { d.sys with dramGiB := 16 } }).w .GWY_BENCH_ON 0 0).dv fun d => d.onTt fun t =>
    { t with active := none, pending := none }) ({ eng := .ferryman, pr := 0, pn := false, word := 0x08C62010 }),
    { eng := .ferryman, pr := 0, pn := false, word := 0x08C62010 }, 2, 0x10, 0x110, 3, by decide⟩, ⟨(fun (i : Issue) =>
    ((State.reset.live).prep (.ce 7)).dv fun d =>
    { d with vcs := { d.vcs with engines := d.vcs.engines.set {} (Eng.index i.eng) { d.unit i with g := [(2, 0x20000), (3, 0x8877665544332211)], v := [(1, 7)] } } })
    ({ eng := .ce 7, pr := 0, pn := false, word := 0x09062FFC }), { eng := .ce 7, pr := 0, pn := false, word := 0x09062FFC }, 2, (-4),
    0x20000 - 4, 3, by decide⟩, ⟨(fun (i : Issue) => (((((State.reset.live).prep (.ferryman)).dv fun d =>
    { d with vcs := { d.vcs with engines := d.vcs.engines.set {} (Eng.index i.eng) { d.unit i with g := [(2, 0x100), (3, 0x8877665544332211)], v := [(1, 7)] } } }).dv
    fun d => { d with sys := { d.sys with dramGiB := 16 } }).w .GWY_BENCH_ON 0 0).dv fun d => d.onTt fun t =>
    { t with active := none, pending := none }) ({ eng := .ferryman, pr := 0, pn := false, word := 0x09062010 }),
    { eng := .ferryman, pr := 0, pn := false, word := 0x09062010 }, 2, 0x10, 0x110, 3, by decide⟩, ⟨(fun (i : Issue) =>
    ((State.reset.live).prep (.ce 7)).dv fun d =>
    { d with vcs := { d.vcs with engines := d.vcs.engines.set {} (Eng.index i.eng) { d.unit i with g := [(2, 0x20000), (3, 0x8877665544332211)], v := [(1, 7)] } } })
    ({ eng := .ce 7, pr := 0, pn := false, word := 0x09422FF0 }), { eng := .ce 7, pr := 0, pn := false, word := 0x09422FF0 }, 2, (-16),
    0x20000 - 16, 1, by decide⟩, ⟨(fun (i : Issue) => (((((State.reset.live).prep (.ferryman)).dv fun d =>
    { d with vcs := { d.vcs with engines := d.vcs.engines.set {} (Eng.index i.eng) { d.unit i with g := [(2, 0x100), (3, 0x8877665544332211)], v := [(1, 7)] } } }).dv
    fun d => { d with sys := { d.sys with dramGiB := 16 } }).w .GWY_BENCH_ON 0 0).dv fun d => d.onTt fun t =>
    { t with active := none, pending := none }) ({ eng := .ferryman, pr := 0, pn := false, word := 0x09422010 }),
    { eng := .ferryman, pr := 0, pn := false, word := 0x09422010 }, 2, 0x10, 0x110, 1, by decide⟩, ⟨(fun (i : Issue) => (fun (x : State) =>
    { x with mem := memPut x.mem (dataSram 7 + 0x100) (leBytes 4 2 ++ leBytes 4 0 ++ leBytes 4 0x3F800000 ++ leBytes 4 0x3F800000 ++ leBytes 4 0x40000000 ++ leBytes 4 0x40400000 ++ leBytes 4 0x40000000) })
    (((((State.reset.live).prep (.ce 7)).dv fun d =>
    { d with vcs := { d.vcs with engines := d.vcs.engines.set {} (Eng.index i.eng) { d.unit i with g := [(3, 0x40000000), (4, 0x100)], v := [(1, 7)] } } }).dv
    fun d => { d with sys := { d.sys with dramGiB := 16 } }).dv fun d => { d with eccm := {} }))
    ({ eng := .ce 7, pr := 0, pn := false, word := 0x043E3200 }), { eng := .ce 7, pr := 0, pn := false, word := 0x043E3200 }, 31, 3, 4,
    0x100, by decide⟩, ⟨(fun (i : Issue) => (fun (x : State) =>
    { x with mem := memPut x.mem (ferrymanSram + 0x100) (leBytes 4 2 ++ leBytes 4 0 ++ leBytes 4 0x3F800000 ++ leBytes 4 0x3F800000 ++ leBytes 4 0x40000000 ++ leBytes 4 0x40400000 ++ leBytes 4 0x40000000) })
    (((((State.reset.live).prep (.ferryman)).dv fun d =>
    { d with vcs := { d.vcs with engines := d.vcs.engines.set {} (Eng.index i.eng) { d.unit i with g := [(3, 0x40000000), (4, 0x100)], v := [(1, 7)] } } }).dv
    fun d => { d with sys := { d.sys with dramGiB := 16 } }).dv fun d => { d with eccm := {} }))
    ({ eng := .ferryman, pr := 0, pn := false, word := 0x043E3200 }), { eng := .ferryman, pr := 0, pn := false, word := 0x043E3200 }, 31,
    3, 4, 0x100, by decide⟩, ⟨(fun (i : Issue) => (fun (x : State) =>
    { x with mem := memPut x.mem (dataSram 7 + 0x100) (leBytes 4 2 ++ leBytes 4 0 ++ leBytes 4 0x3F800000 ++ leBytes 4 0x3F800000 ++ leBytes 4 0x40000000 ++ leBytes 4 0x40400000 ++ leBytes 4 0x40000000) })
    (((((State.reset.live).prep (.ce 7)).dv fun d =>
    { d with vcs := { d.vcs with engines := d.vcs.engines.set {} (Eng.index i.eng) { d.unit i with g := [(3, 0x40000000), (4, 0x100)], v := [(1, 7)] } } }).dv
    fun d => { d with sys := { d.sys with dramGiB := 16 } }).dv fun d => { d with eccm := {} }))
    ({ eng := .ce 7, pr := 0, pn := false, word := 0x043E3201 }), { eng := .ce 7, pr := 0, pn := false, word := 0x043E3201 }, 31, 3, 4,
    0x100, by decide⟩, ⟨(fun (i : Issue) => (fun (x : State) =>
    { x with mem := memPut x.mem (ferrymanSram + 0x100) (leBytes 4 2 ++ leBytes 4 0 ++ leBytes 4 0x3F800000 ++ leBytes 4 0x3F800000 ++ leBytes 4 0x40000000 ++ leBytes 4 0x40400000 ++ leBytes 4 0x40000000) })
    (((((State.reset.live).prep (.ferryman)).dv fun d =>
    { d with vcs := { d.vcs with engines := d.vcs.engines.set {} (Eng.index i.eng) { d.unit i with g := [(3, 0x40000000), (4, 0x100)], v := [(1, 7)] } } }).dv
    fun d => { d with sys := { d.sys with dramGiB := 16 } }).dv fun d => { d with eccm := {} }))
    ({ eng := .ferryman, pr := 0, pn := false, word := 0x043E3201 }), { eng := .ferryman, pr := 0, pn := false, word := 0x043E3201 }, 31,
    3, 4, 0x100, by decide⟩⟩

/-- States and operands that meet the hypotheses of each clause of `Obligations.BoardedAndLiveLineResults` that has some. -/
theorem witness_boardedAndLiveLineResults :
    (∃ (s : State) (i : Issue) (rd : Fin 32) (u : BitVec 8) (ra : Fin 32) (q : SetEntry), (s.dev.issues i
      ({ lat := 3, reads := [regG ra], writes := [regG rd], safety := true, management := false })) ∧ (s.dev.predicated i = true) ∧
      (((s.dev.inputs (Eng.index i.eng)).drop u.toNat).head? = some q) ∧ (((s.dev.unit i).gr ra).toNat < q.count) ∧ (s.dev.itemState q
      ((s.dev.unit i).gr ra).toNat ≤ 1)) ∧ (∃ (s : State) (i : Issue) (vd : Fin 16) (u : BitVec 8) (ra : Fin 32) (q : SetEntry),
      (s.dev.issues i ({ lat := 3, reads := [regG ra], writes := [regV vd], management := false })) ∧ (s.dev.predicated i = true) ∧
      (((s.dev.inputs (Eng.index i.eng)).drop u.toNat).head? = some q) ∧ (((s.dev.unit i).gr ra).toNat < q.count) ∧ (∀ j, j < 4 →
      ((s.dev.unit i).gr ra).toNat + j < q.count → s.dev.itemState q (((s.dev.unit i).gr ra).toNat + j) ≤ 1)) ∧ (∃ (s : State) (i : Issue)
      (u : BitVec 8) (ra : Fin 32) (rs : Fin 32) (q : SetEntry), (s.dev.issues i
      ({ lat := 0, reads := [regG ra, regG rs], safety := true, management := false })) ∧ (s.dev.predicated i = true) ∧ (((s.dev.outs
      (Eng.index i.eng)).drop u.toNat).head? = some q) ∧ (q.cls ≠ 8) ∧ (q.cls ≠ 0x0A) ∧ (((s.dev.unit i).gr ra).toNat < q.count)) ∧ (∃ (s :
      State) (i : Issue) (u : BitVec 8) (ra : Fin 32) (rs : Fin 32) (q : SetEntry), (s.dev.issues i
      ({ lat := 0, reads := [regG ra, regG rs], safety := true, management := false })) ∧ (s.dev.predicated i = true) ∧ (((s.dev.outs
      (Eng.index i.eng)).drop u.toNat).head? = some q) ∧ (q.cls = 8) ∧ (((s.dev.unit i).gr ra).toNat / 4 < q.count)) ∧ (∃ (s : State) (i :
      Issue) (rd : Fin 32) (u : BitVec 8) (ra : Fin 32) (k : Nat) (l : Line), (s.dev.issues i
      ({ lat := 8, reads := [regG ra], writes := [regG rd], management := false })) ∧ (s.dev.predicated i = true) ∧ (k = ((s.dev.unit i).gr
      ra).toNat) ∧ (u.toNat % 8 = 0) ∧ (k < s.dev.nodeCount) ∧ (s.dev.nodeNamed (Eng.index i.eng) k = true) ∧ (s.dev.usableLine k = some l)
      ∧ ((s.dev.tt.acts.at {} (s.dev.unit i).task).stores = []) ∧ (s.dev.spanState (l.addr u.toNat) 8 ≤ 1)) ∧ (∃ (s : State) (i : Issue)
      (vd : Fin 16) (u : BitVec 8) (ra : Fin 32) (k : Nat) (l : Line), (s.dev.issues i
      ({ lat := 8, reads := [regG ra], writes := [regV vd], management := false })) ∧ (s.dev.predicated i = true) ∧ (k = ((s.dev.unit i).gr
      ra).toNat) ∧ (u.toNat % 16 = 0) ∧ (k < s.dev.nodeCount) ∧ (s.dev.nodeNamed (Eng.index i.eng) k = true) ∧ (s.dev.usableLine k = some
      l) ∧ ((s.dev.tt.acts.at {} (s.dev.unit i).task).stores = []) ∧ (s.dev.spanState (l.addr u.toNat) 16 ≤ 1)) ∧ (∃ (s : State) (i :
      Issue) (u : BitVec 8) (ra : Fin 32) (k : Nat) (l : Line) (rs : Fin 32), (s.dev.issues i
      ({ lat := 0, reads := [regG ra, regG rs], management := false })) ∧ (s.dev.predicated i = true) ∧ (k = ((s.dev.unit i).gr ra).toNat)
      ∧ (u.toNat % 8 = 0) ∧ (k < s.dev.nodeCount) ∧ (s.dev.nodeNamed (Eng.index i.eng) k = true) ∧ (s.dev.usableLine k = some l) ∧
      (s.dev.nodeWritten (Eng.index i.eng) k = true) ∧ (s.dev.fieldNode k = false)) ∧ (∃ (s : State) (i : Issue) (u : BitVec 8) (ra : Fin
      32) (k : Nat) (l : Line) (vs : Fin 16), (s.dev.issues i ({ lat := 0, reads := [regG ra, regV vs], management := false })) ∧
      (s.dev.predicated i = true) ∧ (k = ((s.dev.unit i).gr ra).toNat) ∧ (u.toNat % 16 = 0) ∧ (k < s.dev.nodeCount) ∧ (s.dev.nodeNamed
      (Eng.index i.eng) k = true) ∧ (s.dev.usableLine k = some l) ∧ (s.dev.nodeWritten (Eng.index i.eng) k = true) ∧ (s.dev.fieldNode k =
      false)) :=
  ⟨⟨(fun (i : Issue) (q : SetEntry) => (((State.reset.live).prep (.ce 7)).dv fun d =>
    { d with vcs := { d.vcs with engines := d.vcs.engines.set {} (Eng.index i.eng) { d.unit i with task := 5, g := [(2, 2), (3, 0x77), (6, 14)] }, boarded := [(boardKey 4 4, 9)] } }).dv
    fun d => { d with tt := { d.tt with active := some { tasks := [{ sampleTask with engine := Eng.index i.eng, ins := [q] }] } } })
    ({ eng := .ce 7, pr := 0, pn := false, word := 0x09BE2000 }) ({ cls := 4, first := 2, count := 3 }),
    { eng := .ce 7, pr := 0, pn := false, word := 0x09BE2000 }, 31, 0, 2, { cls := 4, first := 2, count := 3 }, by decide⟩, ⟨(fun (i :
    Issue) (q : SetEntry) => (((State.reset.live).prep (.ce 7)).dv fun d =>
    { d with vcs := { d.vcs with engines := d.vcs.engines.set {} (Eng.index i.eng) { d.unit i with task := 5, g := [(2, 2), (3, 0x77), (6, 14)] }, boarded := [(boardKey 4 4, 9)] } }).dv
    fun d => { d with tt := { d.tt with active := some { tasks := [{ sampleTask with engine := Eng.index i.eng, ins := [q] }] } } })
    ({ eng := .ce 7, pr := 0, pn := false, word := 0x09DE2000 }) ({ cls := 4, first := 2, count := 3 }),
    { eng := .ce 7, pr := 0, pn := false, word := 0x09DE2000 }, 15, 0, 2, { cls := 4, first := 2, count := 3 }, by decide⟩, ⟨(fun (i :
    Issue) (q : SetEntry) => (((State.reset.live).prep (.ce 7)).dv fun d =>
    { d with vcs := { d.vcs with engines := d.vcs.engines.set {} (Eng.index i.eng) { d.unit i with task := 5, g := [(2, 2), (3, 0x77), (6, 14)] }, boarded := [(boardKey 4 4, 9)] } }).dv
    fun d => { d with tt := { d.tt with active := some { tasks := [{ sampleTask with engine := Eng.index i.eng, outs := [q] }] } } })
    ({ eng := .ce 7, pr := 0, pn := false, word := 0x0A062000 }) ({ cls := 4, first := 2, count := 3 }),
    { eng := .ce 7, pr := 0, pn := false, word := 0x0A062000 }, 0, 2, 3, { cls := 4, first := 2, count := 3 }, by decide⟩, ⟨(fun (i :
    Issue) (q : SetEntry) => (((State.reset.live).prep (.ce 7)).dv fun d =>
    { d with vcs := { d.vcs with engines := d.vcs.engines.set {} (Eng.index i.eng) { d.unit i with task := 5, g := [(2, 2), (3, 0x77), (6, 14)] }, boarded := [(boardKey 4 4, 9)] } }).dv
    fun d => { d with tt := { d.tt with active := some { tasks := [{ sampleTask with engine := Eng.index i.eng, outs := [q] }] } } })
    ({ eng := .ce 7, pr := 0, pn := false, word := 0x0A066000 }) ({ cls := 8, first := 2, count := 4 }),
    { eng := .ce 7, pr := 0, pn := false, word := 0x0A066000 }, 0, 6, 3, { cls := 8, first := 2, count := 4 }, by decide⟩, ⟨(fun (i :
    Issue) (l : Line) => (((((State.reset.live).prep (.ce 7)).dv fun d =>
    { d with vcs := { d.vcs with engines := d.vcs.engines.set {} (Eng.index i.eng) { d.unit i with task := 5, seg := 0, g := [(2, 3), (3, 0x77)], v := [(1, 7)] } } }).w
    .BERTH_CFG_NTSIZE 0 16).dv fun d =>
    { d with tt := { d.tt with active := some { tasks := [{ sampleTask with engine := Eng.index i.eng, nodes := [{ cls := 0, first := 3, count := 1 }] }] }, acts := [] } }).dv
    fun d => { d with pager := { d.pager with lines := [(3, l)] } }) ({ eng := .ce 7, pr := 0, pn := false, word := 0x0A4620F0 })
    ({ berth := 9, res := true, usable := true, dmg := false }), { eng := .ce 7, pr := 0, pn := false, word := 0x0A4620F0 }, 3, 0xF0, 2, 3,
    { berth := 9, res := true, usable := true, dmg := false }, by decide⟩, ⟨(fun (i : Issue) (l : Line) => (((((State.reset.live).prep (.ce
    7)).dv fun d =>
    { d with vcs := { d.vcs with engines := d.vcs.engines.set {} (Eng.index i.eng) { d.unit i with task := 5, seg := 0, g := [(2, 3), (3, 0x77)], v := [(1, 7)] } } }).w
    .BERTH_CFG_NTSIZE 0 16).dv fun d =>
    { d with tt := { d.tt with active := some { tasks := [{ sampleTask with engine := Eng.index i.eng, nodes := [{ cls := 0, first := 3, count := 1 }] }] }, acts := [] } }).dv
    fun d => { d with pager := { d.pager with lines := [(3, l)] } }) ({ eng := .ce 7, pr := 0, pn := false, word := 0x0A8620F0 })
    ({ berth := 9, res := true, usable := true, dmg := false }), { eng := .ce 7, pr := 0, pn := false, word := 0x0A8620F0 }, 3, 0xF0, 2, 3,
    { berth := 9, res := true, usable := true, dmg := false }, by decide⟩, ⟨(fun (i : Issue) (l : Line) => (((((State.reset.live).prep (.ce
    7)).dv fun d =>
    { d with vcs := { d.vcs with engines := d.vcs.engines.set {} (Eng.index i.eng) { d.unit i with task := 5, seg := 0, g := [(2, 3), (3, 0x77)], v := [(1, 7)] } } }).w
    .BERTH_CFG_NTSIZE 0 16).dv fun d =>
    { d with tt := { d.tt with active := some { tasks := [{ sampleTask with engine := Eng.index i.eng, nodes := [{ cls := 0, first := 3, count := 1 }], outs := [{ cls := 10, first := 3, count := 1 }] }] }, acts := [] } }).dv
    fun d => { d with pager := { d.pager with lines := [(3, l)] } }) ({ eng := .ce 7, pr := 0, pn := false, word := 0x0AC620F0 })
    ({ berth := 9, res := true, usable := true, dmg := false }), { eng := .ce 7, pr := 0, pn := false, word := 0x0AC620F0 }, 0xF0, 2, 3,
    { berth := 9, res := true, usable := true, dmg := false }, 3, by decide⟩, ⟨(fun (i : Issue) (l : Line) => (((((State.reset.live).prep
    (.ce 7)).dv fun d =>
    { d with vcs := { d.vcs with engines := d.vcs.engines.set {} (Eng.index i.eng) { d.unit i with task := 5, seg := 0, g := [(2, 3), (3, 0x77)], v := [(1, 7)] } } }).w
    .BERTH_CFG_NTSIZE 0 16).dv fun d =>
    { d with tt := { d.tt with active := some { tasks := [{ sampleTask with engine := Eng.index i.eng, nodes := [{ cls := 0, first := 3, count := 1 }], outs := [{ cls := 10, first := 3, count := 1 }] }] }, acts := [] } }).dv
    fun d => { d with pager := { d.pager with lines := [(3, l)] } }) ({ eng := .ce 7, pr := 0, pn := false, word := 0x0B0220F0 })
    ({ berth := 9, res := true, usable := true, dmg := false }), { eng := .ce 7, pr := 0, pn := false, word := 0x0B0220F0 }, 0xF0, 2, 3,
    { berth := 9, res := true, usable := true, dmg := false }, 1, by decide⟩⟩

/-- States and operands that meet the hypotheses of each clause of `Obligations.SegmentEndsAndProcessor` that has some. -/
theorem witness_segmentEndsAndProcessor :
    (∃ (s : State) (i : Issue) (q : Task), (s.dev.issues i ({ lat := 0, safety := true, management := false })) ∧ (s.dev.predicated i =
      true) ∧ (s.dev.taskOf (s.dev.unit i).task = some q) ∧ ((s.dev.unit i).seg + 1 < q.segs)) ∧ (∃ (s : State) (i : Issue) (q : Task),
      (s.dev.issues i ({ lat := 0, safety := true, management := false })) ∧ (s.dev.predicated i = true) ∧ (s.dev.taskOf (s.dev.unit
      i).task = some q) ∧ (q.segs ≤ (s.dev.unit i).seg + 1) ∧ (s.dev.safetyTask (Eng.index i.eng) = false)) ∧ (∃ (s : State) (i : Issue) (q
      : Task), (s.dev.issues i ({ lat := 0, safety := true, management := false })) ∧ (s.dev.predicated i = true) ∧ (s.dev.taskOf
      (s.dev.unit i).task = some q) ∧ (q.segs ≤ (s.dev.unit i).seg + 1) ∧ (i.eng = .se) ∧ (s.dev.safetyTask 8 = true) ∧ (s.dev.saf.pClear =
      false) ∧ (s.dev.locked false = false)) ∧ (∃ (s : State) (i : Issue), (s.dev.issues i
      ({ lat := 0, safety := true, management := false })) ∧ (s.dev.predicated i = true) ∧ (s.dev.safetyTask (Eng.index i.eng) = false)) ∧
      (∃ (s : State) (i : Issue), (s.dev.issues i (opPriv)) ∧ (s.dev.predicated i = true) ∧ (s.dev.vcs.ferry.priv = true) ∧ (i.eng =
      .ferryman)) ∧ (∃ (s : State) (i : Issue), (s.dev.issues i (opPriv)) ∧ (s.dev.predicated i = true) ∧ (s.dev.vcs.ferry.priv = true) ∧
      (i.eng = .ferryman)) ∧ (∃ (s : State) (i : Issue), (s.dev.issues i (opPriv)) ∧ (s.dev.predicated i = true) ∧ (s.dev.vcs.ferry.priv =
      true) ∧ (i.eng = .ferryman)) ∧ (∃ (s : State) (l : Nat), (s.dev.mlowest = some l) ∧ (s.dev.vcs.ferry.mie = true) ∧
      (s.dev.vcs.ferry.halted = false)) ∧ (∃ (s : State), (s.dev.mlowest = none ∨ s.dev.vcs.ferry.mie = false ∨ s.dev.vcs.ferry.halted =
      true)) :=
  ⟨⟨(fun (i : Issue) => (((State.reset.live).prep (.ce 7)).dv fun d =>
    { d with vcs := { d.vcs with engines := d.vcs.engines.set {} (Eng.index i.eng) { d.unit i with task := 5, seg := 0 } } }).dv fun d =>
    { d with tt := { d.tt with active := some { tasks := [{ sampleTask with engine := Eng.index i.eng, segs := 2 }] }, acts := [] } })
    ({ eng := .ce 7, pr := 0, pn := false, word := 0x0B400000 }), { eng := .ce 7, pr := 0, pn := false, word := 0x0B400000 },
    { sampleTask with engine := 7, segs := 2 }, by decide⟩, ⟨(fun (i : Issue) => ((((State.reset.live).prep (.ce 7)).dv fun d =>
    { d with vcs := { d.vcs with engines := d.vcs.engines.set {} (Eng.index i.eng) { d.unit i with task := 5, seg := 0 } } }).dv fun d =>
    { d with tt := { d.tt with active := some { tasks := [{ sampleTask with engine := Eng.index i.eng, segs := 1 }] }, acts := [] } }).w
    .TTB_TSK_CONSEC (5) 3) ({ eng := .ce 7, pr := 0, pn := false, word := 0x0B400000 }),
    { eng := .ce 7, pr := 0, pn := false, word := 0x0B400000 }, { sampleTask with engine := 7 }, by decide⟩, ⟨(fun (i : Issue) =>
    (((((State.reset.live).prep (.se)).dv fun d =>
    { d with vcs := { d.vcs with engines := d.vcs.engines.set {} (Eng.index i.eng) { d.unit i with task := 5, seg := 0 } } }).dv fun d =>
    { d with tt := { d.tt with active := some { tasks := [{ sampleTask with engine := Eng.index i.eng, outs := [{ cls := 9, first := 0, count := 8 }] }] }, acts := [] } }).w
    .SAF_STAT_LOCKP 0 0).dv fun d => { d with saf := { d.saf with pClear := false } })
    ({ eng := .se, pr := 1, pn := true, word := 0x3B400000 }), { eng := .se, pr := 1, pn := true, word := 0x3B400000 },
    { sampleTask with engine := 8, outs := [{ cls := 9, first := 0, count := 8 }] }, by decide⟩, ⟨(fun (i : Issue) =>
    (((State.reset.live).prep (.ce 7)).dv fun d =>
    { d with vcs := { d.vcs with engines := d.vcs.engines.set {} (Eng.index i.eng) { d.unit i with task := 5, seg := 0 } } }).dv fun d =>
    { d with tt := { d.tt with active := some { tasks := [{ sampleTask with engine := Eng.index i.eng, segs := 1 }] }, acts := [] } })
    ({ eng := .ce 7, pr := 0, pn := false, word := 0x0B400001 }), { eng := .ce 7, pr := 0, pn := false, word := 0x0B400001 }, by decide⟩,
    ⟨((State.reset.live).prep (.ferryman)).dv fun d =>
    { d with vcs := { d.vcs with ferry := { d.vcs.ferry with mepc := 0x1010000100, pmie := true, entries := [true, false], plevel := 9 } } },
    { eng := .ferryman, pr := 0, pn := false, word := 0x0B800000 }, by decide⟩, ⟨((State.reset.live).prep (.ferryman)),
    { eng := .ferryman, pr := 0, pn := false, word := 0x0B800001 }, by decide⟩, ⟨((State.reset.live).prep (.ferryman)),
    { eng := .ferryman, pr := 0, pn := false, word := 0x0B800002 }, by decide⟩, ⟨((((State.reset.dv fun d => { d with regs := [] }).w
    .EVT_RT_PEND (511) 1).w .EVT_RT_FM (511) 1).w .EVT_RT_LVL (511) 5).dv fun d =>
    { d with vcs := { d.vcs with ferry := { mie := true, mvec := 0x1010000000 } } }, 5, by decide⟩, ⟨State.reset, by decide⟩⟩

/-- States and operands that meet the hypotheses of each clause of `Obligations.PredicatedOffAndTraps` that has some. -/
theorem witness_predicatedOffAndTraps :
    (∃ (s : State) (i : Issue) (rd : Fin 32) (ra : Fin 32) (rb : Fin 32), (s.dev.issues i (opABC rd ra rb 18 true)) ∧ (s.dev.predicated i =
      false)) ∧ (∃ (s : State) (i : Issue) (pd : Fin 8) (ra : Fin 32) (rb : Fin 32), (s.dev.issues i
      ({ reads := [ra, rb], writes := [regP pd], safety := true })) ∧ (s.dev.predicated i = false)) ∧ (∃ (s : State) (i : Issue) (rd : Fin
      32) (ra : Fin 32), (s.dev.issues i ({ cls := 1, lat := 20, reads := [regG ra], writes := [regG rd], div := true })) ∧
      (s.dev.predicated i = false)) ∧ (∃ (s : State) (i : Issue), (s.dev.issues i ({ lat := 0, branch := true, safety := true })) ∧
      (s.dev.predicated i = false)) ∧ (∃ (s : State) (i : Issue) (rd : Fin 32) (ra : Fin 32), (s.dev.issues i
      ({ lat := 3, reads := [regG ra], writes := [regG rd], port := 1, safety := true })) ∧ (s.dev.predicated i = false)) ∧ (∃ (s : State)
      (i : Issue) (ra : Fin 32) (rs : Fin 32), (s.dev.issues i ({ lat := 0, reads := [regG ra, regG rs], port := 1, safety := true })) ∧
      (s.dev.predicated i = false)) ∧ (∃ (s : State) (i : Issue) (ra : Fin 32) (rs : Fin 32), (s.dev.issues i
      ({ lat := 0, reads := [regG ra, regG rs], safety := true, management := false })) ∧ (s.dev.predicated i = false)) ∧ (∃ (s : State) (i
      : Issue) (ra : Fin 32) (rs : Fin 32), (s.dev.issues i ({ lat := 0, reads := [regG ra, regG rs], management := false })) ∧
      (s.dev.predicated i = false)) ∧ (∃ (s : State) (i : Issue), (s.dev.issues i ({ lat := 0, safety := true, management := false })) ∧
      (s.dev.predicated i = false)) ∧ (∃ (s : State) (i : Issue), (i.eng = .ferryman) ∧ (s.dev.issues i opPriv) ∧ (s.dev.predicated i =
      true) ∧ (s.dev.vcs.ferry.priv = false)) ∧ (∃ (s : State) (i : Issue), (i.eng = .ferryman) ∧ (s.dev.issues i opPriv) ∧
      (s.dev.predicated i = true) ∧ (s.dev.vcs.ferry.priv = false)) ∧ (∃ (s : State) (i : Issue), (i.eng = .ferryman) ∧ (s.dev.issues i
      opPriv) ∧ (s.dev.predicated i = true) ∧ (s.dev.vcs.ferry.priv = false)) ∧ (∃ (s : State) (i : Issue) (n : Fin 8), (i.eng = .ce n) ∧
      (s.dev.canIssue n.val ((s.dev.engine n.val).cycle opPriv i.pr.val) = true) ∧ (s.dev.wordState (fetchAt n.val (s.dev.engine n.val).pc)
      ≤ 1) ∧ ((s.dev.engine n.val).pc ≤ 0xFFFC) ∧ ((s.dev.engine n.val).earliest < (s.dev.engine n.val).budget) ∧ (s.dev.onAt
      .CE_TRAP_VALID n.val = false) ∧ ((s.dev.engine n.val).task < 128)) ∧ (∃ (s : State) (i : Issue) (n : Fin 8) (rd : Fin 32) (ra : Fin
      32) (imm : BitVec 12), (i.eng = .ce n) ∧ (s.dev.issues i
      { lat := 3, reads := [regG ra], writes := [regG rd], port := 1, safety := true }) ∧ (s.dev.predicated i = true) ∧ ((s.dev.engine
      n.val).ea ra imm % 8 ≠ 0 ∨ 0x20000 < (s.dev.engine n.val).ea ra imm + 8) ∧ (s.dev.onAt .CE_TRAP_VALID n.val = false)) ∧ (∃ (s :
      State) (i : Issue) (n : Fin 8) (rd : Fin 32) (ra : Fin 32) (rb : Fin 32), (i.eng = .ce n) ∧ (decodeVcs i.eng i.word = none) ∧
      (s.dev.canIssue n.val ((s.dev.engine n.val).cycle (opABC rd ra rb) i.pr.val) = true) ∧ (s.dev.wordState (fetchAt n.val (s.dev.engine
      n.val).pc) ≤ 1) ∧ ((s.dev.engine n.val).pc ≤ 0xFFFC) ∧ ((s.dev.engine n.val).earliest < (s.dev.engine n.val).budget) ∧ (s.dev.onAt
      .CE_TRAP_VALID n.val = false) ∧ ((s.dev.engine n.val).task < 128)) ∧ (∃ (s : State) (i : Issue) (rd : Fin 32) (ra : Fin 32) (rb : Fin
      32), (i.eng = .ferryman) ∧ (decodeVcs i.eng i.word = none) ∧ (s.dev.canIssue 10 ((s.dev.engine 10).cycle (opABC rd ra rb) i.pr.val) =
      true) ∧ (s.dev.mtakes = none) ∧ (s.dev.fetchTrap 10 (s.dev.engine 10).pc = (none, s.dev)) ∧ (s.dev.wordState (fetchAt 10
      (s.dev.engine 10).pc) ≤ 1)) :=
  ⟨⟨(fun (i : Issue) => ((State.reset.live).prep (.ce 7)).dv fun d =>
    { d with vcs := { d.vcs with engines := d.vcs.engines.set {} (Eng.index i.eng) { d.unit i with p := 0 } } })
    ({ eng := .ce 7, pr := 5, pn := false, word := 0xA1C00000 }), { eng := .ce 7, pr := 5, pn := false, word := 0xA1C00000 }, 0, 0, 0, by
    decide⟩, ⟨(fun (i : Issue) => ((State.reset.live).prep (.ce 7)).dv fun d =>
    { d with vcs := { d.vcs with engines := d.vcs.engines.set {} (Eng.index i.eng) { d.unit i with p := 0 } } })
    ({ eng := .ce 7, pr := 5, pn := false, word := 0xA2280000 }), { eng := .ce 7, pr := 5, pn := false, word := 0xA2280000 }, 5, 0, 0, by
    decide⟩, ⟨(fun (i : Issue) => ((State.reset.live).prep (.ce 7)).dv fun d =>
    { d with vcs := { d.vcs with engines := d.vcs.engines.set {} (Eng.index i.eng) { d.unit i with p := 0 } } })
    ({ eng := .ce 7, pr := 5, pn := false, word := 0xA3800001 }), { eng := .ce 7, pr := 5, pn := false, word := 0xA3800001 }, 0, 0, by
    decide⟩, ⟨(fun (i : Issue) => ((State.reset.live).prep (.ce 7)).dv fun d =>
    { d with vcs := { d.vcs with engines := d.vcs.engines.set {} (Eng.index i.eng) { d.unit i with p := 0 } } })
    ({ eng := .ce 7, pr := 5, pn := false, word := 0xA6000003 }), { eng := .ce 7, pr := 5, pn := false, word := 0xA6000003 }, by decide⟩,
    ⟨(fun (i : Issue) => ((State.reset.live).prep (.ce 7)).dv fun d =>
    { d with vcs := { d.vcs with engines := d.vcs.engines.set {} (Eng.index i.eng) { d.unit i with p := 0 } } })
    ({ eng := .ce 7, pr := 5, pn := false, word := 0xA8000003 }), { eng := .ce 7, pr := 5, pn := false, word := 0xA8000003 }, 0, 0, by
    decide⟩, ⟨(fun (i : Issue) => ((State.reset.live).prep (.ce 7)).dv fun d =>
    { d with vcs := { d.vcs with engines := d.vcs.engines.set {} (Eng.index i.eng) { d.unit i with p := 0 } } })
    ({ eng := .ce 7, pr := 5, pn := false, word := 0xA8C00003 }), { eng := .ce 7, pr := 5, pn := false, word := 0xA8C00003 }, 0, 0, by
    decide⟩, ⟨(fun (i : Issue) => ((State.reset.live).prep (.ce 7)).dv fun d =>
    { d with vcs := { d.vcs with engines := d.vcs.engines.set {} (Eng.index i.eng) { d.unit i with p := 0 } } })
    ({ eng := .ce 7, pr := 5, pn := false, word := 0xAA000003 }), { eng := .ce 7, pr := 5, pn := false, word := 0xAA000003 }, 0, 0, by
    decide⟩, ⟨(fun (i : Issue) => ((State.reset.live).prep (.ce 7)).dv fun d =>
    { d with vcs := { d.vcs with engines := d.vcs.engines.set {} (Eng.index i.eng) { d.unit i with p := 0 } } })
    ({ eng := .ce 7, pr := 5, pn := false, word := 0xAAC00003 }), { eng := .ce 7, pr := 5, pn := false, word := 0xAAC00003 }, 0, 0, by
    decide⟩, ⟨(fun (i : Issue) => ((State.reset.live).prep (.ce 7)).dv fun d =>
    { d with vcs := { d.vcs with engines := d.vcs.engines.set {} (Eng.index i.eng) { d.unit i with p := 0 } } })
    ({ eng := .ce 7, pr := 5, pn := false, word := 0xAB400000 }), { eng := .ce 7, pr := 5, pn := false, word := 0xAB400000 }, by decide⟩,
    ⟨((fun (x : State) => x.prep (.ferryman)) State.reset.live).dv fun d =>
    { d with vcs := { d.vcs with ferry := { priv := false, lim := [(0, 0x1010000000 + 0xF)], base := [(0, 0x1010000000)], mvec := 0x1010001000 } } },
    { eng := .ferryman, pr := 0, pn := false, word := 0x0B800002 }, by decide⟩, ⟨((fun (x : State) => x.prep (.ferryman))
    State.reset.live).dv fun d =>
    { d with vcs := { d.vcs with ferry := { priv := false, lim := [(0, 0x1010000000 + 0xF)], base := [(0, 0x1010000000)], mvec := 0x1010001000 } } },
    { eng := .ferryman, pr := 0, pn := false, word := 0x0B800000 }, by decide⟩, ⟨((fun (x : State) => x.prep (.ferryman))
    State.reset.live).dv fun d =>
    { d with vcs := { d.vcs with ferry := { priv := false, lim := [(0, 0x1010000000 + 0xF)], base := [(0, 0x1010000000)], mvec := 0x1010001000 } } },
    { eng := .ferryman, pr := 0, pn := false, word := 0x0B800001 }, by decide⟩, ⟨((fun (x : State) => x.prep (.ce 7)) State.reset.live).w
    .CE_TRAP_VALID (7) 0, { eng := .ce 7, pr := 0, pn := false, word := 0x0B800000 }, 7, by decide⟩, ⟨((fun (x : State) => x.prep (.ce 7))
    State.reset.live).w .CE_TRAP_VALID (7) 0, { eng := .ce 7, pr := 0, pn := false, word := 0x08000004 }, 7, 0, 0, 4, by decide⟩, ⟨((fun (x
    : State) => x.prep (.ce 7)) State.reset.live).w .CE_TRAP_VALID (7) 0, { eng := .ce 7, pr := 7, pn := true, word := 0xFFFFFFFF }, 7, 0,
    0, 0, by decide⟩, ⟨((fun (x : State) => x.prep (.ferryman)) State.reset.live).dv fun d =>
    { d with vcs := { d.vcs with ferry := { mvec := 0x1010001000 } } }, { eng := .ferryman, pr := 0, pn := false, word := 0xFFFFFFFF }, 0,
    0, 0, by decide⟩⟩

end Sys2Proof.Machine
end

/-!
PROOFS. What a claim does (R22, R28, R471): the code a requester gets, what the claim cells read after it, and that the claims of one
clock cycle leave every holder.
-/
namespace Sys2Proof.Machine

/-! ### The claim cells under what an access does beside -/

@[simp] theorem Dev.cell_answer (d : Dev) (v : Nat) (r : Resource) (n : Nat) : (d.answer v).cell r n = d.cell r n := rfl

@[simp] theorem Dev.claimStatus_answer (d : Dev) (v : Nat) (q : Requester) (r : Resource) (n : Nat) :
    (d.answer v).claimStatus q r n = d.claimStatus q r n := rfl

/-- An address error leaves every claim cell: raising its event does not touch the claim registers. -/
@[simp] theorem Dev.cell_addressError (d : Dev) (r : Resource) (n : Nat) : d.addressError.cell r n = d.cell r n := by
  have hsys : d.addressError.sys = d.sys := (EvSame.raise d.busError 0).sys
  simp [Dev.cell, hsys]

/-! ### The status code of a claim (Table 1-11) -/

/-- On a free resource whose claim meets no condition of Table 1-11 the code is GRANTED. -/
theorem Dev.claimStatus_free {d : Dev} {q : Requester} {r : Resource} {n : Nat} (hfree : (d.cell r n).owner = none)
    (hrsv : (d.cell r n).rsv = none ∨ (d.cell r n).rsv = some q.rank) (hopen : d.claimsClosed q r = false)
    (hrival : d.rivalHeld r n = false) : d.claimStatus q r n = 0x1 := by
  rcases hrsv with hrsv | hrsv <;> simp [Dev.claimStatus, hfree, hrsv, hopen, hrival]

/-- On a held resource the code is the first of ALREADY_HELD, REFUSED_RESERVED, REFUSED_CLOSED, REFUSED_HIGHER and REFUSED_HELD that applies. -/
theorem Dev.claimStatus_of_owner {d : Dev} {q o : Requester} {r : Resource} {n : Nat} (hheld : (d.cell r n).owner = some o) :
    d.claimStatus q r n =
      if o = q then 0x2
      else if (d.cell r n).rsv.isSome ∧ (d.cell r n).rsv ≠ some q.rank then 0x5
      else if d.claimsClosed q r then 0xA
      else if o.rank < q.rank then 0x4 else 0x3 := by
  simp [Dev.claimStatus, hheld]

/-! ### The claim cells after a claim -/

/-- The requester's STATUS reads the code of its attempt. -/
@[simp] theorem Dev.status_claim (d : Dev) (q : Requester) (r : Resource) (n : Nat) :
    ((d.claim q r n).cell r n).status.at 0 q.id = d.claimStatus q r n := by
  simp [Dev.claim, Dev.cell_setCell]

/-- A granted claim makes the claimant the holder. -/
theorem Dev.owner_claim_granted {d : Dev} {q : Requester} {r : Resource} {n : Nat} (h : d.claimStatus q r n = 0x1) :
    ((d.claim q r n).cell r n).owner = some q := by
  simp [Dev.claim, Dev.cell_setCell, h]

/-- A claim leaves the holder of every held resource: of the one claimed (R22) and of the others. -/
theorem Dev.claim_keeps_owner {d : Dev} {o : Requester} {r : Resource} {k : Nat} (h : (d.cell r k).owner = some o) (q : Requester)
    (r' : Resource) (n : Nat) : ((d.claim q r' n).cell r k).owner = some o := by
  by_cases hsame : r = r' ∧ k = n
  · obtain ⟨rfl, rfl⟩ := hsame
    exact d.claim_held q o r k h
  · simpa only [Dev.claim, Dev.cell_setCell, if_neg hsame] using h

/-- The claims of one clock cycle, in whatever order they are served, leave the holder of every held resource. -/
theorem Dev.foldl_claim_keeps_owner {d : Dev} {o : Requester} {r : Resource} {k : Nat} (h : (d.cell r k).owner = some o)
    (l : List Requester) (r' : Resource) (n : Nat) : ((l.foldl (fun x q => x.claim q r' n) d).cell r k).owner = some o := by
  induction l generalizing d with
  | nil => exact h
  | cons q l ih => exact ih (Dev.claim_keeps_owner h q r' n)

@[simp] theorem Dev.claims_singleton (d : Dev) (q : Requester) (r : Resource) (n : Nat) : d.claims [q] r n = d.claim q r n := rfl

/-! ### The claim command -/

/-- An access to a claim register that Table 1-12 has, of a die that is not in reset, answers and has its effect. -/
theorem Dev.claimAccess_of_lt {d : Dev} {r : Resource} {n : Nat} (hn : n < r.count)
    (hlive : controlResource r = true → d.sys.cdReset = false) (f : Dev → Dev) : d.claimAccess r n f = f d.answer := by
  have hheld : (controlResource r && d.sys.cdReset) = false := by simpa using hlive
  simp [Dev.claimAccess, Nat.not_le.2 hn, hheld]

/-- An access to a claim register, refused or not, keeps what its effect keeps of the claim cells. -/
theorem Dev.claimAccess_keeps_owner {d : Dev} {o : Requester} {r : Resource} {k : Nat} (h : (d.cell r k).owner = some o)
    (r' : Resource) (n : Nat) {f : Dev → Dev} (hf : ∀ x : Dev, (x.cell r k).owner = some o → ((f x).cell r k).owner = some o) :
    ((d.claimAccess r' n f).cell r k).owner = some o := by
  unfold Dev.claimAccess
  split
  · simpa using h
  · split
    · simpa using h
    · exact hf _ (by simpa using h)

/-- CLAIM completes with what the machine is after the access. -/
theorem completes_claim {s : State} {reqs : List Requester} {res : Resource} {n : Nat} {P : State → Prop}
    (h : P { s with dev := s.dev.claimAccess res n fun x => x.claims (reqs.map fun q => claimant q res) res n }) :
    Completes s (.claim reqs res n) P := ⟨_, rfl, rfl, h⟩

/-- One requester's CLAIM on a register that takes it completes with the claim of its claimant (R471). -/
theorem completes_claim_one {s : State} {req : Requester} {res : Resource} {n : Nat} {P : State → Prop} (hn : n < res.count)
    (hlive : controlResource res = true → s.dev.sys.cdReset = false)
    (h : P { s with dev := s.dev.answer.claim (claimant req res) res n }) : Completes s (.claim [req] res n) P := by
  apply completes_claim
  simpa only [Dev.claimAccess_of_lt hn hlive, List.map_cons, List.map_nil, Dev.claims_singleton] using h

/-- Settles O60: the codes come from `Dev.claimStatus_free` and `Dev.claimStatus_of_owner`, and that no claim takes a held resource
away by induction over the claims of the cycle (`Dev.foldl_claim_keeps_owner`). -/
theorem heldClaimRule : Obligations.HeldClaimRule := by
  refine ⟨?granted, ?refused, ?kept⟩
  case granted =>
    intro s req res n hn hlive hfree hrsv hopen hrival
    have hcode : s.dev.claimStatus (claimant req res) res n = 0x1 := Dev.claimStatus_free hfree hrsv hopen hrival
    exact completes_claim_one hn hlive ⟨Dev.owner_claim_granted (by simpa using hcode), by simpa using hcode⟩
  case refused =>
    intro s req o res n hn hlive hheld
    exact completes_claim_one hn hlive
      ⟨Dev.claim_keeps_owner (by simpa using hheld) .., by
        simpa only [Dev.status_claim, Dev.claimStatus_answer] using Dev.claimStatus_of_owner hheld⟩
  case kept =>
    intro s reqs o res r n k hheld
    exact completes_claim (Dev.claimAccess_keeps_owner hheld res n fun _ hx => Dev.foldl_claim_keeps_owner hx ..)

end Sys2Proof.Machine

/-!
PROOFS. The Tide alarm (R52): a value at or below the count at its write bars the alarm while it stands.
-/
namespace Sys2Proof.Machine

/-- TIDE_ALARM is no event on a part whose alarm value does not lie ahead of the count at its write. -/
theorem exec_tideAlarm_of_not_ahead {s : State} (h : s.dev.alarmAhead = false) : exec .tideAlarm s = .next s := by
  change execTideAlarm s = .next s
  simp [execTideAlarm, h]

/-- A value that was written at a count that it does not exceed is not ahead. -/
theorem Dev.alarmAhead_of_le {d : Dev} {n : Nat} (hat : d.tt.almAt = some n) (hle : d.rd64 .TIDE_ALMLO .TIDE_ALMHI ≤ n) :
    d.alarmAhead = false := by
  simpa [Dev.alarmAhead, hat] using hle

/-- A write of either half of the alarm value leaves ALMEN clear. -/
theorem Dev.on_tideAlarmSet_almen (d : Dev) (high : Bool) (v : Nat) : (d.tideAlarmSet high v).on .TIDE_STAT_ALMEN = false :=
  Dev.on_flag_self (d.wr (if high then .TIDE_ALMHI else .TIDE_ALMLO) v) .TIDE_STAT_ALMEN false

/-- The count at the write is kept with the value. -/
theorem Dev.almAt_tideAlarmSet (d : Dev) (high : Bool) (v : Nat) : (d.tideAlarmSet high v).tt.almAt = some d.tide := rfl

/-- Settles O57: the write keeps its count, and a value at or below that count is never ahead of it, whatever the later state. -/
theorem alarmRule : Obligations.AlarmRule := by
  intro s high v
  refine ⟨_, rfl, rfl, Dev.on_tideAlarmSet_almen .., fun hle u hat hval => ?_⟩
  have hwritten : u.dev.tt.almAt = some s.dev.tide := hat.trans (Dev.almAt_tideAlarmSet s.dev.answer high v.toNat)
  exact exec_tideAlarm_of_not_ahead (Dev.alarmAhead_of_le hwritten (Nat.le_trans (Nat.le_of_eq hval) hle))

end Sys2Proof.Machine

/-!
PROOFS. The Tide edge (R32, R33, R51): what it writes of the count, the frame index, BND and event 6, and that nothing else of the edge
touches them.
-/
namespace Sys2Proof.Machine

/-! ### An event that rises shows at its routes (R453) -/

/-- A rise routed to the log leaves its request there. -/
theorem Dev.logPend_riseLog (d : Dev) {n : Nat} (data : Nat) (h : d.onAt .EVT_RT_LOG n = true) :
    (d.when (d.onAt .EVT_RT_LOG n) fun x => x.logAsk { src := n, lvl := x.lvl n, data := data }).fm.logPend.any
      (fun r => decide (r.src = n)) = true := by
  simp [Dev.when, h, Dev.logAsk]

/-- A rise routed to Ferryman is pending for it. -/
theorem Dev.pend_riseFm (d : Dev) {n : Nat} (h : d.onAt .EVT_RT_FM n = true) :
    (d.when (d.onAt .EVT_RT_FM n) fun x =>
      if x.onAt .EVT_RT_PEND n then x.flagAt .EVT_RT_OVR n true else x.flagAt .EVT_RT_PEND n true).onAt .EVT_RT_PEND n = true := by
  by_cases hp : d.onAt .EVT_RT_PEND n = true
  · exact (EvSame.riseFm d n).pend n hp
  · simp [Dev.when, h, hp]

/-- A source that is not reserved, and not of a control die held in reset, shows at its routes once it rises. -/
theorem Dev.raised_rise (d : Dev) {n : Nat} (data : Nat) (hopen : (reservedSource n || (controlSource n && d.sys.cdReset)) = false) :
    d.raised (d.rise n data).1 n := by
  have hfm := congrArg (decide <| · = 1) ((EvSame.riseLog d n data).regs .EVT_RT_FM n (by decide))
  unfold Dev.rise
  rw [if_neg (by simp [hopen])]
  dsimp only
  refine EvSame.raised (EvSame.countAll ..) (EvSame.raised (EvSame.foldlFst _ ?captures _ _ _)
    (EvSame.raised (EvSame.riseQueue ..) ⟨fun h => ?pend, fun h => ?log⟩))
  case captures => exact fun x u => .capture ..
  case pend => exact Dev.pend_riseFm _ (hfm.trans h)
  case log =>
    obtain ⟨l, hl⟩ := (EvSame.riseFm (d.when (d.onAt .EVT_RT_LOG n) fun x => x.logAsk { src := n, lvl := x.lvl n, data := data }) n).logs
    rw [hl, List.any_append, Dev.logPend_riseLog d data h, Bool.true_or]

theorem Dev.raised_raise (d : Dev) {n : Nat} (hopen : (reservedSource n || (controlSource n && d.sys.cdReset)) = false) :
    d.raised (d.raise n) n :=
  EvSame.raised (.rises ..) (d.raised_rise 0 hopen)

/-! ### What the rest of a Tide edge keeps -/

/-- The fields that tell the frame and the hyperperiod, and where an event goes. -/
def hyperperiodFields : List Fld := [.TIDE_CNTLO, .TIDE_CNTHI, .TIDE_HPIDX_IDX, .TIDE_STAT_BND, .EVT_RT_FM, .EVT_RT_LOG]

/-- `e` has the frame, BND and the event routes of `d`, and every event that is up in `d`. -/
structure HyperSame (d e : Dev) : Prop where
  regs : ∀ f ∈ hyperperiodFields, ∀ i, e.rdAt f i = d.rdAt f i
  pend : ∀ n, d.onAt .EVT_RT_PEND n = true → e.onAt .EVT_RT_PEND n = true
  logs : ∃ l, e.fm.logPend = d.fm.logPend ++ l

namespace HyperSame

theorem of_eq {d e : Dev} (hregs : e.regs = d.regs) (hfm : e.fm = d.fm) : HyperSame d e where
  regs f _ i := by simp only [Dev.rdAt, hregs]
  pend n h := by rwa [show e.onAt .EVT_RT_PEND n = d.onAt .EVT_RT_PEND n by unfold Dev.onAt Dev.rdAt; rw [hregs]]
  logs := ⟨[], by simp [hfm]⟩

theorem refl (d : Dev) : HyperSame d d := of_eq rfl rfl

theorem trans {a b c : Dev} (h : HyperSame a b) (g : HyperSame b c) : HyperSame a c where
  regs f hf i := (g.regs f hf i).trans (h.regs f hf i)
  pend n p := g.pend n (h.pend n p)
  logs := by
    obtain ⟨l, hl⟩ := h.logs
    obtain ⟨m, hm⟩ := g.logs
    exact ⟨l ++ m, by rw [hm, hl, List.append_assoc]⟩

/-- Raising events writes none of the fields. -/
theorem of_evSame {d e : Dev} (h : EvSame d e) : HyperSame d e where
  regs f hf i := h.regs f i ((by decide : ∀ g ∈ hyperperiodFields, g ∉ eventFields) f hf)
  pend := h.pend
  logs := h.logs

theorem tide {d e : Dev} (h : HyperSame d e) : e.tide = d.tide := by
  simp only [Dev.tide, Dev.rd64, Dev.rd, h.regs .TIDE_CNTLO (by decide), h.regs .TIDE_CNTHI (by decide)]

theorem index {d e : Dev} (h : HyperSame d e) : e.rd .TIDE_HPIDX_IDX = d.rd .TIDE_HPIDX_IDX := h.regs _ (by decide) 0

theorem boundaryFlag {d e : Dev} (h : HyperSame d e) : e.on .TIDE_STAT_BND = d.on .TIDE_STAT_BND :=
  congrArg (decide <| · = 1) (h.regs .TIDE_STAT_BND (by decide) 0)

theorem raised {d e t : Dev} {n : Nat} (h : HyperSame e t) (g : d.raised e n) : d.raised t n := by
  refine ⟨fun hfm => h.pend n (g.1 hfm), fun hlog => ?_⟩
  obtain ⟨l, hl⟩ := h.logs
  rw [hl, List.any_append, g.2 hlog, Bool.true_or]

/-! ### The updates that keep it -/

section
variable {d e : Dev}

theorem wrAt (h : HyperSame d e) {f : Fld} {i v : Nat} (hf : f ∉ .EVT_RT_PEND :: hyperperiodFields) : HyperSame d (e.wrAt f i v) :=
  h.trans {
    regs := fun g hg j => Dev.rdAt_wrAt_field _ _ _ _ fun heq => hf (heq ▸ List.mem_cons_of_mem _ hg)
    pend := fun n hn => by
      have hne : Fld.EVT_RT_PEND ≠ f := fun heq => hf (heq ▸ List.mem_cons_self)
      rwa [Dev.onAt, Dev.rdAt_wrAt_field _ _ _ _ hne]
    logs := ⟨[], by simp⟩ }

theorem wr (h : HyperSame d e) {f : Fld} {v : Nat} (hf : f ∉ .EVT_RT_PEND :: hyperperiodFields) : HyperSame d (e.wr f v) := h.wrAt hf

theorem flagAt (h : HyperSame d e) {f : Fld} {i : Nat} {b : Bool} (hf : f ∉ .EVT_RT_PEND :: hyperperiodFields) : HyperSame d (e.flagAt f i b) :=
  h.wrAt hf

theorem flag (h : HyperSame d e) {f : Fld} {b : Bool} (hf : f ∉ .EVT_RT_PEND :: hyperperiodFields) : HyperSame d (e.flag f b) := h.wrAt hf

theorem bumpAt (h : HyperSame d e) {f : Fld} {i m a : Nat} (hf : f ∉ .EVT_RT_PEND :: hyperperiodFields) : HyperSame d (e.bumpAt f i m a) :=
  h.wrAt hf

theorem raise (h : HyperSame d e) (n : Nat) : HyperSame d (e.raise n) := h.trans (of_evSame (.raise ..))

theorem onTt (h : HyperSame d e) (f : Tt → Tt) : HyperSame d (e.onTt f) := h.trans (of_eq rfl rfl)

theorem onTwin (h : HyperSame d e) (f : Twin → Twin) : HyperSame d (e.onTwin f) := h.trans (of_eq rfl rfl)

theorem onEth (h : HyperSame d e) (f : EthNet → EthNet) : HyperSame d (e.onEth f) := h.trans (of_eq rfl rfl)

theorem onCus (h : HyperSame d e) (f : Custody → Custody) : HyperSame d (e.onCus f) := h.trans (of_eq rfl rfl)

theorem onMet (h : HyperSame d e) (f : Met → Met) : HyperSame d (e.onMet f) := h.trans (of_eq rfl rfl)

theorem onAdc (h : HyperSame d e) (f : Adc → Adc) : HyperSame d (e.onAdc f) := h.trans (of_eq rfl rfl)

theorem onNode (h : HyperSame d e) (f : NodeNet → NodeNet) : HyperSame d (e.onNode f) := h.trans (of_eq rfl rfl)

theorem onEcc (h : HyperSame d e) (f : EccMem → EccMem) : HyperSame d (e.onEcc f) := h.trans (of_eq rfl rfl)

theorem foldl {α : Type} {f : Dev → α → Dev} (h : HyperSame d e) (hf : ∀ x a, HyperSame x (f x a)) (l : List α) :
    HyperSame d (l.foldl f e) := by
  induction l generalizing e with
  | nil => exact h
  | cons a t ih => exact ih (h.trans (hf e a))

theorem each (h : HyperSame d e) {n : Nat} {f : Dev → Nat → Dev} (hf : ∀ x k, HyperSame x (f x k)) : HyperSame d (e.each n f) := h.foldl hf _

theorem when (h : HyperSame d e) {c : Bool} {f : Dev → Dev} (hf : ∀ x, HyperSame x (f x)) : HyperSame d (e.when c f) := by
  cases c
  · exact h
  · exact h.trans (hf e)

theorem ctl (h : HyperSame d e) {f : Dev → Dev} (hf : ∀ x, HyperSame x (f x)) : HyperSame d (e.ctl f) := by
  unfold Dev.ctl
  split
  · exact h
  · exact h.trans (hf e)

end

/-! ### The ports' transmission (R234, R235) -/

theorem stampSync (d : Dev) (p : Nat) : HyperSame d (d.stampSync p) := by
  unfold Dev.stampSync
  dsimp only
  split
  · exact wrAt (refl d) (by decide)
  · exact wrAt (wrAt (wrAt (wrAt (wrAt (wrAt (refl d) (by decide)) (by decide)) (by decide)) (by decide)) (by decide)) (by decide)

theorem stamp (d : Dev) (p : Nat) (tx : Bool) (typ seq ns : Nat) : HyperSame d (d.stamp p tx typ seq ns) := by
  unfold Dev.stamp
  dsimp only
  split
  · exact refl d
  · split
    · exact flagAt (refl d) (by decide)
    · exact trans (onEth (refl d) _) (stampSync ..)

theorem sendFrame (d : Dev) (p q : Nat) (f : List Byte) (sent : Nat) : HyperSame d (d.sendFrame p q f sent) := by
  unfold Dev.sendFrame
  dsimp only
  split
  · exact trans (bumpAt (onEth (refl d) _) (by decide)) (stamp ..)
  · exact bumpAt (onEth (refl d) _) (by decide)

theorem sendFrames (p stop n t : Nat) (d : Dev) : HyperSame d (d.sendFrames p stop n t) := by
  induction n generalizing t d with
  | zero => exact refl d
  | succ n ih =>
    unfold Dev.sendFrames
    split
    · exact refl d
    · split
      · exact onEth (refl d) _
      · exact trans (onEth (sendFrame ..) _) (ih ..)

theorem transmit (d : Dev) (stop p : Nat) : HyperSame d (d.transmit stop p) := by
  unfold Dev.transmit
  dsimp only
  split
  · exact onEth (refl d) _
  · exact trans (onEth (onEth (refl d) _) _) (sendFrames ..)

/-! ### The capture of the IEEE 1588 time (R51) -/

theorem captureTo (d : Dev) (t : Nat × Nat) : HyperSame d (d.captureTo t) :=
  wr (wr (wr (refl d) (by decide)) (by decide)) (by decide)

theorem captureLate (d : Dev) : HyperSame d d.captureLate := by
  unfold Dev.captureLate
  split
  · exact onTt (captureTo ..) _
  · exact refl d

/-! ### The Tally, the temperatures and the thresholds at the edge (R148, R333, R350) -/

theorem adoptAt (d : Dev) : HyperSame d d.adoptAt := by
  unfold Dev.adoptAt
  split
  · split
    · exact onTwin (foldl (refl d) (fun x _ => onCus (refl x) _) _) _
    · exact refl d
  · exact refl d

theorem pulsesIn (d : Dev) : HyperSame d d.pulsesIn := by
  unfold Dev.pulsesIn
  split
  · exact onTwin (foldl (refl d) (fun x _ => onCus (refl x) _) _) _
  · exact refl d

theorem setTemp (d : Dev) (c t : Nat) : HyperSame d (d.setTemp c t) := flagAt (wrAt (refl d) (by decide)) (by decide)

theorem tempsIn (d : Dev) : HyperSame d d.tempsIn := by
  unfold Dev.tempsIn
  refine onTwin (foldl (refl d) ?_ _) _
  exact fun x t => setTemp x t.1 t.2

theorem clocksRun (d : Dev) (ticks : Nat) : HyperSame d (d.clocksRun ticks) :=
  each (refl d) fun x _ => when (refl x) fun y => onMet (refl y) _

theorem thrLoad (d : Dev) (n : Nat) : HyperSame d (d.thrLoad n) := by
  unfold Dev.thrLoad
  dsimp only
  split
  · split
    · exact refl d
    · split
      · exact wrAt (wrAt (wrAt (wrAt (refl d) (by decide)) (by decide)) (by decide)) (by decide)
      · exact wrAt (wrAt (refl d) (by decide)) (by decide)
  · exact flagAt (refl d) (by decide)

/-! ### Boarding, landings and frame messages (R220, R333, R338, R477) -/

theorem dryNote (d : Dev) (k : Nat) : HyperSame d (d.dryNote k) := by
  unfold Dev.dryNote
  split
  · exact refl d
  · exact of_eq rfl rfl

theorem dryBoarding (d : Dev) : HyperSame d d.dryBoarding := by
  unfold Dev.dryBoarding
  split
  · exact refl d
  · exact when (when (refl d) fun x => dryNote x 3) fun x => dryNote x 4

theorem dryClose (d : Dev) : HyperSame d d.dryClose := by
  unfold Dev.dryClose
  split
  · exact of_eq rfl rfl
  · exact refl d

theorem filterBoarded (d : Dev) (late : Nat → Bool) : HyperSame d (d.filterBoarded late) :=
  each (refl d) fun x _ => onMet (refl x) _

theorem board (d : Dev) (lateF lateA : Nat → Bool) : HyperSame d (d.board lateF lateA) := by
  unfold Dev.board
  refine trans (when (onAdc (trans (of_eq ?regs ?fm) (filterBoarded ..)) _) fun x => onTwin (refl x) _) (dryBoarding _)
  case regs => rfl
  case fm => rfl

theorem landEnter (d : Dev) (l st : Nat) : HyperSame d (d.landEnter l st) := by
  unfold Dev.landEnter
  dsimp only
  split
  · exact refl d
  · split
    · exact onNode (wr (wrAt (refl d) (by decide)) (by decide)) _
    · split
      · exact raise (flag (wr (wrAt (refl d) (by decide)) (by decide)) (by decide)) _
      · exact wrAt (refl d) (by decide)

theorem landingsRise (d : Dev) : HyperSame d d.landingsRise := by
  unfold Dev.landingsRise
  refine foldl (onNode (refl d) _) ?_ _
  exact fun x s => landEnter x s.2.1 s.2.2

theorem hawserSend {d e : Dev} (h : HyperSame d e) (typ : Nat) (body : List Byte) : HyperSame d (e.hawserSend typ body) := by
  unfold Dev.hawserSend
  exact onTwin h _

theorem frameMessages (d : Dev) (added : Nat → Nat) : HyperSame d (d.frameMessages added) := by
  unfold Dev.frameMessages
  split
  · exact refl d
  · extract_lets heart body mirror
    have hmirror : HyperSame d mirror := by
      unfold mirror
      split
      · exact onTwin (hawserSend (hawserSend (refl d) ..) ..) _
      · exact hawserSend (refl d) ..
    split
    · exact hawserSend hmirror ..
    · exact hmirror

theorem frameOpen (d : Dev) (lateF lateA : Nat → Bool) (added : Nat → Nat) : HyperSame d (d.frameOpen lateF lateA added) := by
  unfold Dev.frameOpen
  extract_lets out restarted aged opened
  have hclosed : HyperSame d aged.dryClose := trans (onTwin (onTt (refl d) _) _) (dryClose _)
  have hopened : HyperSame d opened :=
    trans (wr (trans (trans hclosed (board ..)) (landingsRise _)) (by decide)) (frameMessages ..)
  exact hopened.trans (of_eq rfl rfl)

/-! ### The analog row (R382) -/

theorem goodWords (d : Dev) (lo hi : Nat) : HyperSame d (d.goodWords lo hi) :=
  onEcc (wr (onEcc (refl d) _) (by decide)) _

theorem adcRow (d : Dev) (f : Nat) (word : Nat → Nat) : HyperSame d (d.adcRow f word).2 := by
  unfold Dev.adcRow
  split
  · exact wr (goodWords ..) (by decide)
  · exact refl d

end HyperSame

/-! ### The frame that the edge opens (R32, R33) -/

/-- The number of the frame that a Tide edge opens: the first edge after a restart opens the frame that the count shows. -/
def Dev.nextFrame (d : Dev) : Nat := if d.tt.opened then d.tide + 1 else d.tide

theorem Dev.nextFrame_le (d : Dev) : d.nextFrame ≤ d.tide + 1 := by
  unfold Dev.nextFrame
  split <;> omega

/-- `e` is `d` with frame `n` opened: the count and the frame index show it; BND and the event routes are those of `d`. -/
structure Dev.Opened (d e : Dev) (n : Nat) : Prop where
  tide : e.tide = n
  index : e.rd .TIDE_HPIDX_IDX = n % 4096
  boundaryFlag : e.on .TIDE_STAT_BND = d.on .TIDE_STAT_BND
  routes : ∀ f ∈ [Fld.EVT_RT_FM, .EVT_RT_LOG], ∀ i, e.rdAt f i = d.rdAt f i

/-- Writing the count and the frame index opens a frame. -/
theorem Dev.opened_of_counted {d c : Dev} {n : Nat} (hregs : ∀ f ∈ hyperperiodFields, ∀ i, c.rdAt f i = d.rdAt f i) (hn : n < 2 ^ 64)
    (f : Tt → Tt) : d.Opened (((c.wr64 .TIDE_CNTLO .TIDE_CNTHI n).wr .TIDE_HPIDX_IDX (n % 4096)).onTt f) n where
  tide := by
    have hcount := Dev.rd64_wr64 c (lo := .TIDE_CNTLO) (hi := .TIDE_CNTHI) (by decide) hn
    simpa [Dev.tide, Dev.rd64, Dev.rd, Dev.wr, Dev.rdAt_wrAt] using hcount
  index := Dev.rd_wr_self ..
  boundaryFlag := by simp [Dev.on, Dev.onAt, Dev.wr64, Dev.wr, Dev.rdAt_wrAt, hregs .TIDE_STAT_BND (by decide)]
  routes f hf i := by
    have hkept : f ∈ hyperperiodFields ∧ f ≠ .TIDE_CNTLO ∧ f ≠ .TIDE_CNTHI ∧ f ≠ .TIDE_HPIDX_IDX := by revert f; decide
    obtain ⟨hmem, hlo, hhi, hidx⟩ := hkept
    simp [Dev.wr64, Dev.wr, Dev.rdAt_wrAt, hlo, hhi, hidx, hregs f hmem i]

/-- A Tide edge opens the next frame, is a boundary where its number is a multiple of 4,096, and keeps both in all else that it does. -/
theorem Dev.tideEdge_opens (d : Dev) (lateF lateA : Nat → Bool) (held : Bool) (hn : d.nextFrame < 2 ^ 64) :
    ∃ x, d.Opened x d.nextFrame ∧
      HyperSame (x.when (decide (d.nextFrame % 4096 = 0)) fun y => y.boundary held) (d.tideEdge lateF lateA held) := by
  unfold Dev.tideEdge
  extract_lets period frame sent clocked counted bounded loaded
  have hsent : HyperSame d sent := .ctl (.refl d) fun x => .each (.refl x) fun y k => .transmit y _ k
  have hclocked : ∀ f ∈ hyperperiodFields, ∀ i, clocked.rdAt f i = d.rdAt f i := hsent.regs
  have hlate : ∀ f ∈ hyperperiodFields, ∀ i, clocked.captureLate.rdAt f i = d.rdAt f i := fun f hf i =>
    ((HyperSame.captureLate clocked).regs f hf i).trans (hclocked f hf i)
  refine ⟨counted, Dev.opened_of_counted hlate hn _, ?_⟩
  have hbounded : HyperSame (counted.when (decide (frame % 4096 = 0)) fun y => y.boundary held) bounded := .onTt (.refl _) _
  have hloaded : HyperSame bounded loaded := .onTwin (.each (.trans (.trans (.trans (.adoptAt _) (.pulsesIn _)) (.tempsIn _)) (.clocksRun _ _))
    fun x k => .thrLoad x k) _
  exact (hbounded.trans hloaded).trans (.ctl (.onCus (.refl loaded) _) fun x => .frameOpen x ..)

/-! ### A hyperperiod boundary (R33, R51) -/

/-- Beside BND and event 6 a boundary writes the capture registers only. -/
theorem HyperSame.boundary (d : Dev) (held : Bool) : HyperSame ((d.flag .TIDE_STAT_BND true).raise 6) (d.boundary held) := by
  unfold Dev.boundary
  dsimp only
  split
  · exact onTt (refl _) _
  · exact captureTo ..

theorem HyperSame.flag_boundary (d : Dev) (held : Bool) : HyperSame (d.flag .TIDE_STAT_BND true) (d.boundary held) :=
  ((HyperSame.refl _).raise 6).trans (.boundary d held)

@[simp] theorem Dev.tide_boundary (d : Dev) (held : Bool) : (d.boundary held).tide = d.tide := by
  rw [(HyperSame.flag_boundary d held).tide]
  simp [Dev.tide, Dev.rd64, Dev.rd, Dev.flag, Dev.flagAt, Dev.rdAt_wrAt]

@[simp] theorem Dev.index_boundary (d : Dev) (held : Bool) : (d.boundary held).rd .TIDE_HPIDX_IDX = d.rd .TIDE_HPIDX_IDX := by
  rw [(HyperSame.flag_boundary d held).index]
  exact Dev.rd_wr_other _ _ (by decide)

@[simp] theorem Dev.boundaryFlag_boundary (d : Dev) (held : Bool) : (d.boundary held).on .TIDE_STAT_BND = true := by
  rw [(HyperSame.flag_boundary d held).boundaryFlag, Dev.on_flag_self]

theorem Dev.raised_boundary (d : Dev) (held : Bool) : (d.flag .TIDE_STAT_BND true).raised (d.boundary held) 6 :=
  (HyperSame.boundary d held).raised (Dev.raised_raise _ rfl)

/-- At a boundary event 6 rises by the routes that it had before the edge. -/
theorem Dev.Opened.raised_boundary {d x : Dev} {n : Nat} (h : d.Opened x n) (held : Bool) : d.raised (x.boundary held) 6 := by
  have hroute : ∀ f ∈ [Fld.EVT_RT_FM, .EVT_RT_LOG], (x.flag .TIDE_STAT_BND true).onAt f 6 = d.onAt f 6 := fun f hf => by
    have hne : f ≠ .TIDE_STAT_BND := by revert f; decide
    rw [Dev.onAt, Dev.flag, Dev.flagAt, Dev.rdAt_wrAt_field _ _ _ _ hne, h.routes f hf, Dev.onAt]
  obtain ⟨hpend, hlog⟩ := x.raised_boundary held
  exact ⟨fun hfm => hpend ((hroute _ (by decide)).trans hfm), fun hl => hlog ((hroute _ (by decide)).trans hl)⟩

/-- What a part shows of the hyperperiod once frame `n` is open, the boundary is made where it is due, and the rest of the edge has kept both. -/
theorem Dev.Opened.hyperperiod {d x e : Dev} {n : Nat} {held : Bool} (h : d.Opened x n)
    (hrest : HyperSame (x.when (decide (n % 4096 = 0)) fun y => y.boundary held) e) :
    e.rd .TIDE_HPIDX_IDX = e.tide % 4096 ∧ (e.tide % 4096 = 0 → e.on .TIDE_STAT_BND = true ∧ d.raised e 6) ∧
      (e.tide % 4096 ≠ 0 → e.on .TIDE_STAT_BND = d.on .TIDE_STAT_BND) := by
  by_cases hboundary : n % 4096 = 0
  · have hkept : HyperSame (x.boundary held) e := by simpa [hboundary, Dev.when] using hrest
    have htide : e.tide = n := by rw [hkept.tide, Dev.tide_boundary, h.tide]
    refine ⟨?index, fun _ => ⟨?flag, hkept.raised (h.raised_boundary held)⟩, fun hne => absurd hboundary (htide ▸ hne)⟩
    case index => rw [hkept.index, Dev.index_boundary, h.index, htide]
    case flag => rw [hkept.boundaryFlag, Dev.boundaryFlag_boundary]
  · have hkept : HyperSame x e := by simpa [hboundary, Dev.when] using hrest
    have htide : e.tide = n := hkept.tide.trans h.tide
    refine ⟨?index, fun heq => absurd (htide ▸ heq) hboundary, fun _ => hkept.boundaryFlag.trans h.boundaryFlag⟩
    case index => rw [hkept.index, h.index, htide]

/-- TIDE_EDGE completes with the part after the edge and its analog row (R382), which keeps what tells the hyperperiod. -/
theorem completes_tideEdge {s : State} {lateF : BitVec 48} {lateA : BitVec 64} {held : Bool} {P : State → Prop}
    (h : ∀ m e, HyperSame (s.dev.tideEdge (fun n => bitOf lateF.toNat n) (fun n => bitOf lateA.toNat n) held) e →
      P { s with mem := m, dev := e }) : Completes s (.tideEdge lateF lateA held) P :=
  ⟨_, rfl, rfl, h _ _ (.adcRow ..)⟩

/-- Settles O59: the edge opens a frame and is a boundary at a multiple of 4,096 (`Dev.tideEdge_opens`), and what the part then shows of
the hyperperiod is kept by all that comes after (`Dev.Opened.hyperperiod`). -/
theorem hyperperiodRule : Obligations.HyperperiodRule := by
  intro s lateF lateA held hcount
  obtain ⟨x, hopened, hrest⟩ := s.dev.tideEdge_opens (fun n => bitOf lateF.toNat n) (fun n => bitOf lateA.toNat n) held
    (Nat.lt_of_le_of_lt s.dev.nextFrame_le hcount)
  exact completes_tideEdge fun _ _ hrow => hopened.hyperperiod (hrest.trans hrow)

end Sys2Proof.Machine

/-!
PROOFS. The predicate registers (R57): what a bit reads after a write, that p0 stands outside the file, and that the scoreboard passes
over it as a source and as a destination.
-/
namespace Sys2Proof.Machine

/-! ### Bits of a number -/

theorem bitOf_eq_testBit (v i : Nat) : bitOf v i = v.testBit i := Nat.testBit_eq_decide_div_mod_eq.symm

/-- A power of two added where its bit is clear carries into no other bit. -/
theorem testBit_two_pow_add_other {v i j : Nat} (hclear : v.testBit i = false) (hj : j ≠ i) : (2 ^ i + v).testBit j = v.testBit j := by
  rcases Nat.lt_or_gt_of_ne hj with hlow | hhigh
  · exact Nat.testBit_two_pow_add_gt hlow v
  · obtain ⟨k, rfl⟩ := Nat.exists_eq_add_of_lt hhigh
    have heven : v / 2 ^ i % 2 = 0 := by simpa [Nat.testBit_eq_decide_div_mod_eq] using hclear
    have hquot : (2 ^ i + v) / 2 ^ (i + 1) = v / 2 ^ (i + 1) := by
      rw [Nat.pow_succ, ← Nat.div_div_eq_div_mul, ← Nat.div_div_eq_div_mul, Nat.add_div_left _ (Nat.two_pow_pos i)]
      omega
    rw [show i + k + 1 = k + (i + 1) by omega, Nat.testBit_add, hquot, ← Nat.testBit_add]

/-- The bit written reads what was written, every other bit what it read before. -/
theorem bitOf_setBit (v i j : Nat) (b : Bool) : bitOf (setBit v i b) j = if j = i then b else bitOf v j := by
  unfold setBit
  simp only [bitOf_eq_testBit]
  split
  case isTrue hsame =>
    split
    case isTrue hj => rw [hj, hsame]
    case isFalse => rfl
  case isFalse hdiff =>
    cases b with
    | true =>
      have hclear : v.testBit i = false := by simpa using hdiff
      rw [if_pos rfl, Nat.add_comm]
      split
      case isTrue hj => rw [hj, Nat.testBit_two_pow_add_eq, hclear, Bool.not_false]
      case isFalse hj => exact testBit_two_pow_add_other hclear hj
    | false =>
      have hset : v.testBit i = true := by simpa using hdiff
      obtain ⟨w, rfl⟩ := Nat.exists_eq_add_of_le (Nat.ge_two_pow_of_testBit hset)
      have hclear : w.testBit i = false := by simpa [Nat.testBit_two_pow_add_eq] using hset
      rw [if_neg Bool.false_ne_true, Nat.add_sub_cancel_left]
      split
      case isTrue hj => rw [hj, hclear]
      case isFalse hj => exact (testBit_two_pow_add_other hclear hj).symm

/-! ### Predicate registers -/

@[simp] theorem Engine.pr_zero (x : Engine) : x.pr 0 = true := rfl

theorem Engine.pr_of_ne_zero (x : Engine) {n : Nat} (hn : n ≠ 0) : x.pr n = bitOf x.p n := by simp [Engine.pr, hn]

@[simp] theorem Engine.put_p_zero (x : Engine) (b : Bool) : x.put (.p 0 b) = x := rfl

theorem Engine.p_put_p (x : Engine) {n : Nat} (b : Bool) (hn : n ≠ 0) : (x.put (.p n b)).p = setBit x.p n b := by simp [Engine.put, hn]

/-- A predicate register other than p0 reads what was last written to it. -/
theorem Engine.pr_put_p (x : Engine) {n k : Nat} (b : Bool) (hn : n ≠ 0) (hk : k ≠ 0) :
    (x.put (.p n b)).pr k = if k = n then b else x.pr k := by
  rw [Engine.pr_of_ne_zero _ hk, Engine.pr_of_ne_zero _ hk, Engine.p_put_p x b hn, bitOf_setBit]

/-! ### p0 in the scoreboard -/

@[simp] theorem realRegs_cons_p0 (l : List Nat) : realRegs (regP 0 :: l) = realRegs l := rfl

theorem realRegs_append (l m : List Nat) : realRegs (l ++ m) = realRegs l ++ realRegs m := List.filter_append ..

/-- p0 counts no more behind the instruction's own predicate. -/
@[simp] theorem realRegs_cons_cons_p0 (r : Nat) (l : List Nat) : realRegs (r :: regP 0 :: l) = realRegs (r :: l) := calc
  realRegs ([r] ++ regP 0 :: l) = realRegs [r] ++ realRegs l := by rw [realRegs_append, realRegs_cons_p0]
  _ = realRegs ([r] ++ l) := (realRegs_append ..).symm

/-- No instruction waits for a write of p0. -/
theorem Engine.ready_writes_p0 (x : Engine) (o : Op) (pr lo : Nat) :
    x.ready { o with writes := regP 0 :: o.writes } pr lo = x.ready o pr lo := by
  simp only [Engine.ready, realRegs_cons_p0]

/-- No instruction waits to read p0. -/
theorem Engine.ready_reads_p0 (x : Engine) (o : Op) (pr lo : Nat) :
    x.ready { o with reads := regP 0 :: o.reads } pr lo = x.ready o pr lo := by
  simp only [Engine.ready, realRegs_cons_cons_p0]

/-- Settles O58: a write sets its own bit alone (`bitOf_setBit`), p0 is no bit of the file, and the scoreboard's registers leave it out. -/
theorem predicateZeroRule : Obligations.PredicateZeroRule := fun x =>
  ⟨x.pr_zero, x.put_p_zero, fun _ _ b hn _ hk _ => x.pr_put_p b (Nat.ne_of_gt hn) (Nat.ne_of_gt hk), x.ready_writes_p0, x.ready_reads_p0⟩

end Sys2Proof.Machine
